-- ==== Sys2Proof/Word.lean ====
section
/-!
DEFINITION. The words of the DH1812 and their plainest arithmetic (R3 to R7): the 18-bit native word, the byte, the
72-bit memory row and the sample range.
-/

namespace Sys2Proof

/-- The device's native word: samples, registers and mailbox words are all 18 bits wide (00_scope, Numbers; R4). -/
abbrev Word := BitVec 18

/-- A byte of a byte-oriented protocol (R3). -/
abbrev Byte := BitVec 8

/-- A 72-bit memory row: four words, or nine bytes (R115). -/
abbrev Row := BitVec 72

/-- The tick counter: a 54-bit unsigned count of audio ticks (R67). -/
abbrev Tick := BitVec 54

/-- Largest positive sample (R6). -/
def maxSample : Int := 131071

/-- Largest negative sample (R6). -/
def minSample : Int := -131072

/-- A number as an 18-bit word, modulo 2^18 (R3). -/
def w18 (n : Nat) : Word := BitVec.ofNat 18 n

/-- A signed number as an 18-bit word in two's complement (R4). -/
def w18i (i : Int) : Word := BitVec.ofInt 18 i

/-- A Boolean as a bit. -/
def bit (b : Bool) : Nat := if b then 1 else 0

/-- Bits [hi:lo] of a number. -/
def bitsOf (n hi lo : Nat) : Nat := (n / 2 ^ lo) % 2 ^ (hi + 1 - lo)

/-- Bit k of a number. -/
def bitOf (n k : Nat) : Bool := n / 2 ^ k % 2 == 1

/-- Bits [hi:lo] of a word. -/
def Word.bits (w : Word) (hi lo : Nat) : Nat := bitsOf w.toNat hi lo

/-- Bit k of a word. -/
def Word.bit (w : Word) (k : Nat) : Bool := bitOf w.toNat k

/-- A word as a signed number (R4). -/
def Word.signed (w : Word) : Int := w.toInt

/-- A field of n bits read as a signed number. -/
def signedField (v n : Nat) : Int := if v % 2 ^ n < 2 ^ (n - 1) then (v % 2 ^ n : Int) else (v % 2 ^ n : Int) - 2 ^ n

/-- Words of a multi-word quantity, least significant first (R5). -/
def wordsOf (n count : Nat) : List Word := (List.range count).map (fun k => w18 (n / 2 ^ (18 * k)))

/-- The quantity that words hold, least significant first (R5). -/
def ofWords : List Word → Nat
  | [] => 0
  | w :: ws => w.toNat + 2 ^ 18 * ofWords ws

/-- The integer nearest a/b for b above 0, with ties away from zero (R214). -/
def roundDiv (a : Int) (b : Nat) : Int :=
  if a ≥ 0 then ((2 * a.toNat + b) / (2 * b) : Nat) else -(((2 * (-a).toNat + b) / (2 * b) : Nat) : Int)

/-- Saturation to the sample range (R214). -/
def saturate (v : Int) : Int := max minSample (min maxSample v)

/-- A limit to a closed range. -/
def clampInt (lo hi v : Int) : Int := max lo (min hi v)

/-- Replace the element at a position of a list; a position past the end changes nothing. -/
def listSet {α : Type} : List α → Nat → α → List α
  | [], _, _ => []
  | _ :: xs, 0, a => a :: xs
  | x :: xs, n + 1, a => x :: listSet xs n a

/-- Apply a function at one position of a list. -/
def listModify {α : Type} : List α → Nat → (α → α) → List α
  | [], _, _ => []
  | x :: xs, 0, f => f x :: xs
  | x :: xs, n + 1, f => x :: listModify xs n f

/-- Insert into a list kept in the order of a test, after the elements that do not come later. -/
def insertBy {α : Type} (before : α → α → Bool) (a : α) : List α → List α
  | [] => [a]
  | x :: xs => if before a x then a :: x :: xs else x :: insertBy before a xs

/-- Sort by repeated insertion; equal elements keep their order. -/
def sortBy {α : Type} (before : α → α → Bool) (l : List α) : List α :=
  l.foldl (fun acc a => insertBy before a acc) []

/-- Look a key up in a list of pairs. -/
def lookupD {α : Type} (l : List (Nat × α)) (k : Nat) (d : α) : α :=
  match l with
  | [] => d
  | (k', v) :: rest => if k' = k then v else lookupD rest k d

/-- Set a key in a list of pairs, keeping the keys rising. -/
def insertKey {α : Type} (l : List (Nat × α)) (k : Nat) (v : α) : List (Nat × α) :=
  match l with
  | [] => [(k, v)]
  | (k', v') :: rest =>
    if k' = k then (k, v) :: rest
    else if k < k' then (k, v) :: (k', v') :: rest
    else (k', v') :: insertKey rest k v

/-- Remove a key from a list of pairs. -/
def eraseKey {α : Type} (l : List (Nat × α)) (k : Nat) : List (Nat × α) := l.filter (fun p => p.1 != k)

end Sys2Proof
end

