-- ==== Sys2Proof/Config.lean ====
section
/-!
DEFINITION. What the implementation fixes and what the manual leaves open. The opaque constants are free values: nothing
can evaluate them, so a claim holds whatever they are.
-/

namespace Sys2Proof.Config

/-- A value that the manual leaves open, w bits wide, drawn by a count that the state advances (log 3). -/
opaque freeBits : (w : Nat) → Nat → BitVec w

/-- The 54-bit unique die number of ID_SERIAL0 to 2 (R89), one per die. -/
opaque dieNumber : BitVec 54

/-- The 256-bit ROOT secret written at manufacture (R420). -/
opaque otpRoot : BitVec 256

/-- VENDOR_HASH, written at manufacture (R420). -/
opaque vendorHash : BitVec 256

/-- The factory baselines of the 24 ageing monitors at four levels, 16 bits each, written to OTP at manufacture (R22, R416). -/
opaque ageBaselines : BitVec 1536

/-- The tick phase of the slow clock at the release of reset, fixed but not given (R58). -/
opaque slowPhase : Fin 3

/-- DSP pair of a C0 job in an assignment of the firmware's (R235): destinations by number, voices by matrix source above 192. -/
opaque dspPair : Nat → Nat → BitVec 2

/-- Cost of the known-answer tests while they run, MAC/tk: up to 20 000 (R231). -/
opaque katCost : Nat

/-- The set-point of the first of two VOUT_COMMAND steps, by the two ends in mV (R366). -/
opaque midVoltage : Nat → Nat → Nat

/-- Host_Delay of USB 2.0 section 5.11.3, in 0.01 ns (R184). -/
opaque hostDelay : Nat

/-- Hub_LS_Setup of USB 2.0 section 5.11.3, in 0.01 ns (R184). -/
opaque hubLsSetup : Nat

/-- Firmware release described by the manual, DH-FW 4.2 (R1). -/
def fwMajor : Nat := 4

/-- Minor release of DH-FW 4.2 (R1). -/
def fwMinor : Nat := 2

/-- Part number (R89 ID_PART). -/
def part : Nat := 1812

/-- Ticks in a millisecond (R8). -/
def tkPerMs : Nat := 48

/-- Ticks in a second (R8). -/
def tkPerS : Nat := 48000

/-- Ticks in a block (R8). -/
def tkPerBlock : Nat := 16

/-- Slow-clock periods in a second (R62). -/
def slowPerS : Nat := 32000

/-- USB vendor ID of the device (R145). -/
def vendorId : Nat := 0x2F5A

/-- First byte of a firmware slot that holds the wrapped blob, and the largest bundle (R422). -/
def fwLimit : Nat := 2031616

/-- Bytes of a firmware slot (R275). -/
def fwSlotSize : Nat := 2097152

/-- Bytes of a CTI slot (R127). -/
def ctiSlotSize : Nat := 262144

/-- Bytes of an overlay copy (R137). -/
def overlaySize : Nat := 131072

/-- Granularity of flash regions (R274). -/
def flashBlock : Nat := 65536

/-- Largest flash, 128 MiB (R49). -/
def flashMax : Nat := 134217728

end Sys2Proof.Config
end

