-- ==== Sys2Proof/Syntax/Operand.lean ====
section
/-!
DEFINITION. The operands of commands: what the outside supplies with one. The commands themselves are Sys2Proof.Instr
of Sys2Proof/Syntax.lean.
-/

namespace Sys2Proof

/-- The three access paths to the register window (R73). -/
inductive Path where
  | sup | mspi | usb
  deriving DecidableEq, Repr

/-- The two inbound mailboxes (R90). -/
inductive Box where
  | u | s
  deriving DecidableEq, Repr

/-- The upstream faces (Galliard, R296). -/
inductive Face where
  | a | b
  deriving DecidableEq, Repr

/-- A flex port: 0 is F1 and 3 is F4 (R12). -/
abbrev FlexPort := Fin 4

/-- An HS port: 0 is H5 and 5 is H10 (R12). -/
abbrev HsPort := Fin 6

/-- A downstream port: k stands for port k + 1, ports 1 to 10 (R12). -/
abbrev DownPort := Fin 10

/-- Levels of the strap balls at the release of reset (R43). -/
structure Straps where
  testEn : Bool
  boot1 : Bool
  boot0 : Bool
  deriving DecidableEq, Repr

/-- An event that comes after slow-clock periods without a tick: those asleep since the last row that told of them (R62, R64). -/
structure After (α : Type) where
  periods : Nat
  event : α
  deriving DecidableEq, Repr

/-- A write to a cluster's status word (R391): the bits written, and the faults latched at the same clock edge (R88), each with whether
its line stays asserted. -/
structure AckWrite where
  data : Word
  same : List (BitVec 12 × Bool)
  deriving DecidableEq, Repr

/-- One side of a downstream port: USB 2 or USB 3 (R155). -/
structure PortSide where
  port : DownPort
  usb3 : Bool
  deriving DecidableEq, Repr

/-- An input report (R185): its interface, its report ID, 0 without one, and the Button-page usages that are 1 in it. -/
structure HidReport where
  iface : Nat
  id : Byte
  usages : List (BitVec 16)
  deriving DecidableEq, Repr

/-- A cell class (R196). -/
inductive CellClass where
  | iso | ctrl | bulk
  deriving DecidableEq, Repr

/-- The two memories that the patrol scrubber walks (R24). -/
inductive ScrubMem where
  | stash | cell
  deriving DecidableEq, Repr

/-- An upset of a stored bit pattern: what radiation or a defect does to a protected element (R22, R83). -/
inductive Upset where
  /-- One copy of FLT_SAFECTL takes a wrong value. -/
  | safectl (copy : Fin 3) (value : BitVec 4)
  /-- One copy of a severity entry takes a wrong value: FAULTN_EN and SEVERITY. -/
  | severity (source : BitVec 12) (copy : Fin 3) (value : BitVec 4)
  /-- One copy of WAKE_POL takes a wrong value. -/
  | wakePol (copy : Fin 3) (value : BitVec 4)
  /-- One copy of TAMP_POL takes a wrong value. -/
  | tampPol (copy : Fin 3) (value : BitVec 2)
  /-- One copy of a path's guard lock state takes a wrong value. -/
  | guard (path : Path) (copy : Fin 3) (unlocked : Bool)
  /-- One copy of a triple-stored OTP field takes other bits: 0 EPOCH, 1 ANTIROLL, 2 CSIG_REQ, 3 EXHAUSTED, 4 ageing offsets, 5 PL0
  retirement. -/
  | otpFuse (field : Fin 6) (copy : Fin 3) (bits : BitVec 63)
  /-- Bits of a SEC-DED group of OTP go wrong: the group, numbered as State numbers them, and how many. -/
  | otpGroup (group : Fin 49) (bits : Nat)
  /-- Symbols of a Stash row go wrong. -/
  | stashRow (row : Nat) (symbols : Nat)
  /-- Symbols of a cell-memory word go wrong, word w of cell i at 8i + w. -/
  | cellWord (index : Nat) (symbols : Nat)
  /-- A cell's reference count fails its parity (R203). -/
  | refCount (index : Nat)
  /-- A free cell leaves the free list though nothing holds it (R204). -/
  | leakCell (index : Nat)
  /-- A free cell stands on the free list twice (R204). -/
  | freeTwice (index : Nat)
  /-- The CRC-32 of a record held in Stash no longer verifies: zone record (R255), LE1 cache (R189), bank 7 (R282). -/
  | zoneRecord
  | leCache
  | bank7Record
  /-- Bits of an inbound mailbox word flip: mailbox, sub-queue, packet, word, mask over 20 bits (R95). -/
  | mbxWord (box : Box) (sub : Fin 4) (packet word : Nat) (mask : BitVec 20)
  /-- Bits of the first waiting word of an outbound queue flip: event queue or reply queue, mask (R90). -/
  | outWord (event : Bool) (mask : BitVec 20)
  deriving DecidableEq, Repr

/-- What the outside gives the device at a block boundary: pin levels, sensors, measured power and physical events. -/
structure BlockInputs where
  /-- Levels of WAKE0 to WAKE3 (R245). -/
  wake : BitVec 4
  /-- Levels of GPIO0 to GPIO7 (R245). -/
  gpio : BitVec 8
  /-- Die temperature sensors 0 to 3 in 0.125 degC (R89 PWR_TEMP0 to 3). -/
  temps : List Int
  /-- Device power outside the DSP cluster over the last 3 blocks, mW (R380). -/
  pFix : Nat
  /-- Device power of the last block, mW (R380). -/
  pLast : Nat
  /-- The block's firmware tasks complete, so the firmware kicks the watchdog (R395). -/
  tasksDone : Bool
  /-- Active destinations that did not enqueue their cells for the due block (R209). -/
  missed : List Nat
  /-- DSP pairs whose outputs disagree (R235). -/
  mismatch : BitVec 4
  /-- Upsets that occurred since the last boundary (R83). -/
  upsets : List Upset
  /-- Hn_OC_N of H5 to H10 that are low, H5 in bit 0 (R89 PS_HS, R158). -/
  hsOc : BitVec 6
  /-- Sources whose error lines are deasserted since the last boundary (R391). -/
  released : List (BitVec 12)
  deriving DecidableEq, Repr

/-- A packet entering the switch core (R195, R196). -/
structure IngressPacket where
  src : Fin 18
  dest : BitVec 18
  cls : CellClass
  /-- Ticks from now to the end of the service interval, for ISO: at most 1024 (R196, R206). -/
  interval : Fin 1025
  addr : BitVec 7
  ep : BitVec 4
  dirIn : Bool
  /-- Stream context, when one acts on the cells (R196). -/
  ctx : Option (Fin 64)
  /-- For the DSP cluster: the data block whose source samples the packet carries (R208). -/
  block : Nat
  /-- Sample frames the packet carries, counted as MISSING when late (R208). -/
  frames : Nat
  /-- A USB ingress took the packet on its SuperSpeed side (R198). -/
  ss : Bool
  payload : List Byte
  deriving DecidableEq, Repr

/-- A control request as it stands in a USB setup packet. -/
structure Setup where
  bmRequestType : Byte
  bRequest : Byte
  wValue : BitVec 16
  wIndex : BitVec 16
  wLength : BitVec 16
  deriving DecidableEq, Repr

/-- What a setup packet's default control pipe belongs to (R145). -/
inductive UsbTarget where
  | hub2 | hub3 | function
  deriving DecidableEq, Repr

/-- USB speeds, coded as SPEED of R193. -/
inductive Speed where
  | ls | fs | hs | ss
  deriving DecidableEq, Repr

/-- Synchronisation type of an isochronous endpoint. -/
inductive SyncType where
  | none | asynchronous | adaptive | synchronous
  deriving DecidableEq, Repr

/-- One alternate setting of an audio streaming interface, as its descriptors give it (R181). -/
structure AltSetting where
  number : Nat
  /-- Endpoint number of the isochronous data endpoint. -/
  ep : BitVec 4
  pcmTypeI : Bool
  channels : Nat
  bits : Nat
  subslot : Nat
  dirOut : Bool
  sync : SyncType
  interval : Nat
  maxPacket : Nat
  deriving DecidableEq, Repr

/-- One audio streaming interface of a UAC2 function (R181). -/
structure StreamIf where
  iface : Nat
  /-- GET RANGE of the terminal's clock source reports 48 000 Hz. -/
  rate48k : Bool
  /-- The clock source is programmable, so LE1 writes SET CUR. -/
  programmable : Bool
  /-- wIndex of the clock source: entity and control interface (R181). -/
  clock : BitVec 16
  alts : List AltSetting
  deriving DecidableEq, Repr

/-- One HID interface: report descriptor length, largest input report, wMaxPacketSize and polling interval (R184, R185). -/
structure HidIf where
  iface : Nat
  descLen : Nat
  reportLen : Nat
  packet : Nat
  interval : Nat
  deriving DecidableEq, Repr

/-- What enumeration reads from a device on an owned port (R176 to R186). -/
structure UsbDevice where
  speed : Speed
  vendor : BitVec 16
  product : BitVec 16
  bcdUsb : BitVec 16
  /-- bConfigurationValue of the first configuration (R178). -/
  config : Byte
  /-- The BOS platform capability bytes, from bLength on, when the BOS holds one (R180). -/
  platformCap : List Byte
  /-- UAC2 functions, each as its streaming interfaces. -/
  audio : List (List StreamIf)
  hid : List HidIf
  /-- Number of downstream ports, when a hub interface is present (R186). -/
  hubPorts : Option Nat
  /-- A multiple-TT alternate setting is offered (R186). -/
  multiTt : Bool
  /-- Configuration descriptor offers remote wake-up (R190). -/
  remoteWake : Bool
  /-- Other interface classes only exist when none of the above does. -/
  serial : List Byte
  deriving DecidableEq, Repr

/-- Where an enumerated device sits: 0 the owned port itself, 1 to 15 the port of its external hub (R193). -/
abbrev HubPort := Fin 16

/-- How a control transfer ends (R177). -/
inductive XferEnd where
  | stall | timeout
  deriving DecidableEq, Repr

/-- A voltage reading set of one 10 microsecond period (R343), in mA and mV. -/
structure AdcSet where
  /-- Current A of F1 to F4, signed mA. -/
  iA : List Int
  /-- Current B of F1 to F4, signed mA. -/
  iB : List Int
  /-- Fn_VBUS_SNS, mV. -/
  vbus : List Nat
  vsrc5 : Nat
  vsrch : Nat
  /-- VIN_SNS code, 12 bits (R55). -/
  vin : Nat
  deriving DecidableEq, Repr

/-- Result of one VOUT_COMMAND of a level change: attempts that failed, and the settled voltage in mV (R367). -/
structure VoutResult where
  failures : Nat
  settled : Nat
  deriving DecidableEq, Repr

/-- A Request data object of a sink (R326). -/
structure PdRequest where
  objPos : Nat
  /-- Maximum current in 10 mA. -/
  maxCur : Nat
  opCur : Nat
  mismatch : Bool
  /-- The message carries revision 2.0 (R314). -/
  rev2 : Bool
  deriving DecidableEq, Repr

/-- A PD message other than those with rows of their own (R341). -/
inductive PdMsg where
  | getSourceCap | getSinkCap | prSwap | drSwap | frSwap | alert | status | getRevision | bistCarrier | bistTest
  | softReset | goodCrc | sourceCaps | accept | reject | wait | psRdy
  | vdm (svid : BitVec 16) (header : BitVec 32) (objects : List (BitVec 32))
  | notSupported | other
  deriving DecidableEq, Repr

/-- A partner's answer to a step of a sequence the device runs (R334, R336). -/
inductive Answer where
  | ack | nak | wait | none
  deriving DecidableEq, Repr

/-- What a partner answered in alive-loop mode discovery and entry (R336, R337). -/
structure AltAnswers where
  identity : Answer
  svids : Answer
  hasSvid : Bool
  modes : Answer
  modeVdo : BitVec 32
  enter : Answer
  deriving DecidableEq, Repr

/-- Causes of a warm chip reset that come from outside the model's own requests (R437). -/
inductive WarmCause where
  | fault | watchdog | command
  deriving DecidableEq, Repr

/-- Checks of one Pavane step: sources whose check failed, and the measurements that the step takes (R410, R414 to R417). -/
structure StepReport where
  /-- The governor admits the step's DSP or fabric work (R410). -/
  admitted : Bool
  /-- Source IDs of failed checks and whether each was of an injected fault. -/
  failed : List (BitVec 12 × Bool)
  /-- Flex ports skipped, as not run. -/
  skipped : BitVec 4
  /-- Ports on which the loop of step 8, and the FAIL-mark probe of step 9, fails. -/
  partner8 : BitVec 4
  partner9 : BitVec 4
  /-- Margin of each level PL0 to PL3 at each offset tried, first at the offset in force (R416, R417). -/
  margins : List (List Nat)
  /-- Lowest ring-oscillator ratio of each level, 0.01 percent. -/
  ratios : List Nat
  /-- Messages that failed re-verification (step 7). -/
  badMessages : List Nat
  deriving DecidableEq, Repr

/-- The flash-backed operations that complete at a time the flash sets (R140, R293, R294, R430, R436). -/
inductive FlashGroup where
  | cfg | msg | sec
  deriving DecidableEq, Repr

/-- TT class requests (R160). -/
inductive TtRequest where
  | clearBuffer | reset | stop | getState
  deriving DecidableEq, Repr

/-- Hub port features that GetPortStatus and the feature requests name (R155). -/
inductive PortFeature where
  | power | reset | suspend | enable | l1 | u1Timeout | u2Timeout | linkState | remoteWakeMask
  | cConnection | cEnable | cOverCurrent | cReset | cSuspend
  | test | bhReset | cL1 | cLinkState | cBhReset
  deriving DecidableEq, Repr

/-- Changes a hub interrupt or a pass-through port can show (R163, R202). -/
inductive WakeEvent where
  | deviceResume | connect | disconnect | overCurrent
  deriving DecidableEq, Repr

/-- Link states an upstream or downstream SuperSpeed link can be in (R142, R205). -/
inductive LinkState where
  | u0 | u1 | u2 | u3 | recovery | disabled | inactive | rxDetect
  deriving DecidableEq, Repr

end Sys2Proof
end

