-- ==== Sys2Proof/Syntax.lean ====
section
/-!
DEFINITION. The commands the block takes from outside: one constructor of `Instr` per row of spec/opcode_table.json, in the
table's order, with the operands that the outside supplies. A firmware-command row (SYS_INFO, CFG_READ and so on) has no
operand of its own: it takes the packet that R92 selects from the inbound mailboxes. The rule named is the row's own.
-/

namespace Sys2Proof

/-- The commands of the DH1812 block. -/
inductive Instr where
  /-- R454: VDD_33 and VDD_CORE fall to these levels (mV) for this long (ns); then both rise and reset is released. -/
  | powerOnReset (vdd33 vddCore dipNs : Nat) (straps : Straps)
  /-- R437: RESET_N held low for this long (ns), with the slow-clock periods until its release, and the straps then. -/
  | resetN (width : After Nat) (straps : Straps)
  /-- R59 -/
  | rootPllLock
  /-- R428: whether reads of the firmware slots A and B complete without error. -/
  | bootRomStart (readA readB : Bool)
  /-- R441: whether reads of the CTI slots A and B complete without error. -/
  | firmwareStart (readA readB : Bool)
  /-- R130 -/
  | ctiActivation
  /-- R132: whether reads of the CTI slots A and B complete without error. -/
  | ctiReload (readA readB : Bool)
  /-- R443 -/
  | warmChipReset
  /-- R438 -/
  | watchdogKickMissed
  /-- R438 -/
  | watchdogReset
  /-- R40 -/
  | firstWatchdogKick
  /-- R447 -/
  | loaderData
  /-- R447 -/
  | loaderRun
  /-- R276 -/
  | directoryRebuilt
  /-- R65 -/
  | blockBoundary (inp : BlockInputs)
  /-- R223 -/
  | ambientUpdate
  /-- R254 -/
  | heartbeatLoss
  /-- R66 -/
  | microframeStart
  /-- R270: one audio tick passes, and each TDM port sends its frame. -/
  | tdmFrameOut
  /-- R271: a frame with 16 slots and its 12-bit trailer arrives on TDM0 or TDM1. -/
  | tdmFrameIn (port : Fin 2) (slots : List Word) (trailer : BitVec 12)
  /-- R71: the check of the clock monitor table that fails, in its order. -/
  | clockMonitorFault (check : Fin 5)
  /-- R72 -/
  | referenceRestored
  /-- R63 -/
  | rcRetrim
  /-- R24 -/
  | patrolScrub
  /-- R388 -/
  | scrubPassLate (mem : ScrubMem)
  /-- R204 -/
  | freeListAudit
  /-- R198, R199: the packets whose cells the ingress sources have ready at once. -/
  | cellIngress (pkts : List IngressPacket)
  /-- R199: the egresses that are ready to read. -/
  | cellEgress (ready : BitVec 18)
  /-- R201: the destination whose queues are flushed. -/
  | queueFlush (dest : Fin 18)
  /-- R205: link 0 the upstream face, 1 to 4 the flex ports, and the state it enters. -/
  | linkDown (link : Fin 5) (dst : LinkState)
  /-- R205 -/
  | linkHoldReturn (link : Fin 5)
  /-- R205 -/
  | linkHoldExpired (link : Fin 5)
  /-- R75: the MOSI bits of a frame that has not exactly 32 cycles. -/
  | mspiFrameError (mosi : List Bool)
  /-- R81 -/
  | registerWrite (path : Path) (addr : BitVec 13) (data : Word)
  /-- R86 -/
  | aonPostedWrite
  /-- R69: a read of any register on a path; a LO word latches its companions. -/
  | shadowLatchRead (path : Path) (addr : BitVec 13)
  /-- R84 -/
  | unlock (path : Path) (data : Word)
  /-- R84 -/
  | guardUnlockExpiry (path : Path)
  /-- R85: a write to a register that holds an RWG field. -/
  | guardedWrite (path : Path) (addr : BitVec 13) (data : Word)
  /-- R391: the cluster's status word, and what is written to it. -/
  | faultAcknowledge (path : Path) (cluster : Fin 6) (write : AckWrite)
  /-- R93 -/
  | mbxInData (path : Path) (data : Word)
  /-- R91 -/
  | mbxInLast (path : Path) (data : Word)
  /-- R94 -/
  | mbxInFlush (path : Path) (data : Word)
  /-- R101 -/
  | mbxOutData (path : Path)
  /-- R79: the setup packet, and whether the host repeats the data stage. -/
  | registerVendorRead (setup : Setup) (again : Bool)
  /-- R78: the setup packet, the data stage, and whether the status stage completes. -/
  | registerVendorWrite (setup : Setup) (data : BitVec 24) (completes : Bool)
  /-- R98 -/
  | bulkOutPacket (bytes : List Byte)
  /-- R99: the reply endpoint, or the event endpoint. -/
  | bulkInToken (event : Bool)
  /-- R91: an end-marked word is accepted into a sub-queue. -/
  | packetComplete (box : Box) (sub : Fin 4) (data : Word)
  /-- R110: the firmware raises an event while the queue has no room for it. -/
  | eventsLost (word0 : Word) (params : List Word)
  /-- R112 -/
  | sessionCounterExhausted (box : Box)
  /-- R448 -/
  | sysInfo
  /-- R449 -/
  | sysStatus
  /-- R311 -/
  | sysHeartbeat
  /-- R450 -/
  | sysReset
  /-- R451 -/
  | sysTimeSet
  /-- R312 -/
  | sysUpstreamSelect
  /-- R139 -/
  | cfgRead
  /-- R134 -/
  | cfgWrite
  /-- R138 -/
  | cfgCommit
  /-- R138 -/
  | cfgCommitDone
  /-- R138 -/
  | cfgCommitTimeout
  /-- R136 -/
  | cfgDiscard
  /-- R139: whether reads of the CTI slots A and B complete without error. -/
  | cfgLoad (readA readB : Bool)
  /-- R140 -/
  | cfgFlashWriteBegin
  /-- R140 -/
  | cfgFlashWriteData
  /-- R140 -/
  | cfgFlashWriteEnd
  /-- R430 -/
  | cfgFirmwareWriteBegin
  /-- R430 -/
  | cfgFirmwareWriteData
  /-- R430 -/
  | cfgFirmwareWriteEnd
  /-- R430 -/
  | cfgFirmwareWriteAbort
  /-- R191 -/
  | portStatus
  /-- R192 -/
  | portSetOwner
  /-- R172: a change to owned reaches its next step. -/
  | ownershipToOwned (port : DownPort)
  /-- R173: a change to pass-through reaches its next step. -/
  | ownershipToPassThrough (port : DownPort)
  /-- R192 -/
  | ownerChangeTimeout
  /-- R193 -/
  | portDevices
  /-- R194 -/
  | portResetDevice
  /-- R159 -/
  | portPowerAllow
  /-- R159 -/
  | portPowerForceOff
  /-- R159 -/
  | portPowerCycle
  /-- R159 -/
  | portPowerCycleEnd (port : DownPort)
  /-- R207 -/
  | portLinkMode
  /-- R239 -/
  | routeSet
  /-- R240 -/
  | routeGet
  /-- R241 -/
  | routeClear
  /-- R256 -/
  | zoneTrigger
  /-- R256 -/
  | zoneRelease
  /-- R256 -/
  | zoneStatus
  /-- R253 -/
  | zoneMute
  /-- R221 -/
  | procSetEqDesign
  /-- R242 -/
  | procSetEqBypass
  /-- R221 -/
  | procSetEqRaw
  /-- R242 -/
  | procSetDelay
  /-- R242 -/
  | procDelayFormat
  /-- R242 -/
  | procSetDynamics
  /-- R242 -/
  | procMeter
  /-- R290 -/
  | msgList
  /-- R291 -/
  | msgPlay
  /-- R292 -/
  | msgStop
  /-- R293 -/
  | msgPin
  /-- R293 -/
  | msgPinTimeout
  /-- R294 -/
  | msgLoadBegin
  /-- R294 -/
  | msgLoadData
  /-- R295 -/
  | msgLoadEnd
  /-- R295 -/
  | msgLoadDelete
  /-- R294 -/
  | msgLoadAbort
  /-- R279: the library, and whether its flash read completes. -/
  | libraryVerification (index : Fin 16) (readOk : Bool)
  /-- R281: the library and the message, and whether its flash read completes. -/
  | messageVerification (number : BitVec 13) (readOk : Bool)
  /-- R288 -/
  | voiceStart (voice : Fin 16)
  /-- R288 -/
  | voiceStartTimeout (voice : Fin 16)
  /-- R288: the next frame of a voice arrives; the read completed, or a cache row was uncorrectable. -/
  | marlFrameFetch (voice : Fin 16) (readOk : Bool)
  /-- R288 -/
  | voiceEnded (voice : Fin 16)
  /-- R384 -/
  | pwrStatus
  /-- R385 -/
  | pwrEnterRun
  /-- R371 -/
  | pwrEnterDoze
  /-- R372 -/
  | pwrEnterSleep
  /-- R372 -/
  | sleepWaitTimeout
  /-- R372 -/
  | sleepEntry
  /-- R375 -/
  | pwrEnterHibernate
  /-- R386 -/
  | pwrSetRetain
  /-- R373: the wake source at this bit position occurs. -/
  | wakeSource (source : After (Fin 8))
  /-- R374: the slow-clock periods until the root PLL has locked, and the banks whose retention fails. -/
  | wakeFromSleep (periods : Nat) (lostBanks : BitVec 8)
  /-- R375: the slow-clock periods in HIBERNATE since the last row that tells of them. -/
  | wakeFromHibernate (periods : Nat)
  /-- R373: a fault recorded by an AON collector in SLEEP or HIBERNATE. -/
  | faultWake (source : After (BitVec 12))
  /-- R377 -/
  | reenterAfterPavane
  /-- R378 -/
  | stashBankPowerUp (bank : Fin 8)
  /-- R365: the outcomes of the VOUT_COMMAND steps, in order. -/
  | levelChange (results : List VoutResult)
  /-- R50 -/
  | pmbAlert
  /-- R454 -/
  | supplyOutOfRange
  /-- R393: the faults latched in one fabric cycle, each with whether its line stays asserted. -/
  | faultLatch (faults : List (BitVec 12 × Bool))
  /-- R391 -/
  | autoAckExpiry (source : BitVec 12)
  /-- R397 -/
  | quietPeriodExpiry
  /-- R400 -/
  | collectorSelfFault
  /-- R406 -/
  | safeStatus
  /-- R406 -/
  | safeEnter
  /-- R406 -/
  | safeRelease
  /-- R406 -/
  | safeSetQuiet
  /-- R406 -/
  | logHistory
  /-- R406 -/
  | logRead
  /-- R408 -/
  | pavaneAttempt
  /-- R410: what the next enabled step found. -/
  | pavaneStep (report : StepReport)
  /-- R413: the condition that ends the run, by its reason code. -/
  | pavaneAbort (reason : Fin 6)
  /-- R409 -/
  | testDone
  /-- R409 -/
  | testOverdue
  /-- R419 -/
  | testRun
  /-- R419 -/
  | testAbort
  /-- R419 -/
  | testResult
  /-- R419 -/
  | testAgeing
  /-- R429 -/
  | antirollBurn
  /-- R425 -/
  | secOpen
  /-- R436 -/
  | secClose
  /-- R436 -/
  | secProvisionHak
  /-- R436 -/
  | secProvisionTamperActions
  /-- R436 -/
  | secProvisionAuthLimit
  /-- R436 -/
  | secProvisionIntHash
  /-- R436 -/
  | secProvisionCsigReq
  /-- R436: the tamper pins that are asserted (R435). -/
  | secTamperClear (pins : BitVec 2)
  /-- R431 -/
  | secDebugChallenge
  /-- R431: the public key and the signature shifted in through the TAP, 64 bytes each. -/
  | dbgResp (pubkey sig : List Byte)
  /-- R431 -/
  | debugChallengeTimeout
  /-- R432: the tamper source that asserts, by its cause. -/
  | tamper (cause : After (Fin 4))
  /-- R424: parity error, or content authentication failure. -/
  | vaultFault (authentication : Bool)
  /-- R342 -/
  | pdStatus
  /-- R342 -/
  | pdSetLimit
  /-- R334 -/
  | pdVconnSwap
  /-- R336 -/
  | pdAltModeEnter
  /-- R339 -/
  | pdAltModeExit
  /-- R324 -/
  | pdHardReset
  /-- R319: Rd on CC1 or CC2 for tCCDebounce, Ra on the other line, and whether the partner speaks PD. -/
  | ccAttach (port : FlexPort) (cc2 ra pd : Bool)
  /-- R316 -/
  | drpToggle (port : FlexPort)
  /-- R323: a source attaches; orientation, and whether it speaks PD. -/
  | sinkAttach (port : FlexPort) (cc2 pd : Bool)
  /-- R313: Ra on both lines, or Rd on both. -/
  | accessoryRefused (port : FlexPort)
  /-- R320 -/
  | ccDetach (port : FlexPort)
  /-- R321 -/
  | sinkDetach (port : FlexPort)
  /-- R319: the repetition is answered by GoodCRC, or not. -/
  | sourceCapabilitiesRepeat (port : FlexPort) (goodCrc : Bool)
  /-- R326: a Request, at revision 2.0 when it is the partner's first message and says so. -/
  | pdRequest (port : FlexPort) (req : PdRequest)
  /-- R329 -/
  | pdContract (port : FlexPort)
  /-- R329 -/
  | voltageTransition (port : FlexPort)
  /-- R332 -/
  | removalDuringTransition (port : FlexPort)
  /-- R328 -/
  | budgetRenegotiation (port : FlexPort)
  /-- R328 -/
  | senderResponseTimeout (port : FlexPort)
  /-- R324 -/
  | hardResetReceived (port : FlexPort)
  /-- R324 -/
  | errorRecovery (port : FlexPort)
  /-- R334: a partner's VCONN_Swap, or the answer to the device's own. -/
  | vconnSwap (port : FlexPort) (own : Bool) (answer : Answer) (psRdy : Bool)
  /-- R333 -/
  | vconnOverCurrent (port : FlexPort)
  /-- R341 -/
  | getStatus (port : FlexPort)
  /-- R341: a message, and whether it carries revision 2.0 (R314). -/
  | pdMessage (port : FlexPort) (rev2 : Bool) (msg : PdMsg)
  /-- R337: the SVID and command of a structured VDM received on upstream B. -/
  | discoverIdentity (svid : BitVec 16) (command : BitVec 5)
  /-- R338: the partner's answers, and the GoodCRC of its Enter Mode ACK. -/
  | altModeLoopStart (port : FlexPort) (answers : AltAnswers)
  /-- R338: by the pin, or by an Attention. -/
  | faultReturnAsserted (port : FlexPort) (attention : Bool)
  /-- R338 -/
  | faultReturnReleased (port : FlexPort) (attention : Bool)
  /-- R343 -/
  | adcSampleSet (adc : AdcSet)
  /-- R349: the current at the crossing, mA. -/
  | shortTrip (port : FlexPort) (current : Nat)
  /-- R355 -/
  | backoffExpiry (port : FlexPort)
  /-- R357: whether the probe finds Rd. -/
  | latchProbe (port : FlexPort) (rd : Bool)
  /-- R356 -/
  | consecClear (port : FlexPort)
  /-- R361: the VIN_SNS code. -/
  | pfailWarnAssert (vin : BitVec 12)
  /-- R361: VIN_SNS, as the sample sets read it, has held for 100 ms. -/
  | pfailWarnRelease
  /-- R143: the level at USA_VBUS_DET in mV, and the speeds of the link. -/
  | upstreamConnect (detMv : Nat) (superSpeed highSpeed : Bool)
  /-- R144: USA_VBUS_DET has been low for 1 ms. -/
  | upstreamVbusLoss
  /-- R142 -/
  | functionHubMove (dst : LinkState)
  /-- R165 -/
  | upstreamBusReset
  /-- R155: through the USB 3 hub or the USB 2 hub. -/
  | getPortStatus (usb3 : Bool) (port : Fin 12)
  /-- R156 -/
  | clearPortPower (usb3 : Bool) (port : Fin 12)
  /-- R156 -/
  | setPortPower (usb3 : Bool) (port : Fin 12)
  /-- R155: set or clear of a feature, with its value. -/
  | hubFeatureRequest (usb3 : Bool) (port : Fin 12) (set : Bool) (feature : PortFeature) (value : Byte)
  /-- R160 -/
  | ttRequest (port : DownPort) (request : TtRequest)
  /-- R152: interface and alternate setting; interface 4 stands for the USB 2 hub's own interface. -/
  | setInterface (iface alt : Fin 5)
  /-- R152 -/
  | playbackPacket (bytes : List Byte)
  /-- R153 -/
  | captureInToken
  /-- R154: fabric cycles over the last 128 host microframes, or a missed boundary. -/
  | feedbackRefresh (cycles : Nat) (missed : Bool)
  /-- R162 -/
  | lpmTransaction
  /-- R162 -/
  | upstreamSuspend
  /-- R164: the host resumes; whether its signalling meets the device's own remote wake. -/
  | hostResume (collides : Bool)
  /-- R163 -/
  | remoteWake (side : PortSide) (event : WakeEvent)
  /-- R158 -/
  | hsOverCurrent (port : HsPort)
  /-- R158 -/
  | ownedPortRepower (port : HsPort)
  /-- R176 -/
  | enumeration (port : DownPort) (hubPort : HubPort) (dev : UsbDevice)
  /-- R177: the IDs, when the device descriptor had been read. -/
  | controlTransferFailure (port : DownPort) (hubPort : HubPort) (speed : Speed) (how : XferEnd) (ids : Option (BitVec 16 × BitVec 16))
  /-- R187 -/
  | deviceDetach (port : DownPort) (hubPort : HubPort)
  /-- R185 -/
  | hidReport (port : DownPort) (addr : BitVec 7) (report : HidReport)
  /-- R186: hub ports with a connection change, and their connections. -/
  | hubStatusPoll (port : DownPort) (changed connected : BitVec 16)
  /-- R183: a packet of an owned IN stream: address, endpoint, the microframe tick and its subslots by frame. -/
  | ownedStreamPacket (port : DownPort) (addr : BitVec 7) (iface : Nat) (frames : List (List (BitVec 24)))
  /-- R189: whether the cached device answers with its cached descriptor. -/
  | ownedTreeResume (port : DownPort) (hubPort : HubPort) (same : Bool)
  /-- R299 -/
  | hostAbsent (face : Face) (absent : Bool)
  /-- R300: VBUS or CC criterion, or the link criterion. -/
  | faceLoss
  /-- R302: whether the conditions of R302 have held for 100 ms. -/
  | faceAvailable (face : Face) (ok : Bool)
  /-- R306: the speeds of the link that comes up on the new face. -/
  | switchOver (superSpeed highSpeed : Bool)
  /-- R310 -/
  | autoReturn
  /-- R202 -/
  | passThroughConnectChange (port : DownPort) (connected : Bool) (speed : Speed)
  /-- R145 -/
  | standardDeviceRequest (target : UsbTarget) (setup : Setup)
  /-- R140: the group's operation ends; whether the flash completed it without error. -/
  | flashOperationComplete (group : FlashGroup) (ok : Bool)
  /-- R108 -/
  | badCmdPacket
  deriving DecidableEq, Repr

end Sys2Proof
end

