-- ==== Sys2Proof/Decode.lean ====
section
/-!
DEFINITION. The command that a word spells. No row of spec/opcode_table.json gives bits, so no word spells a command (log 2):
commands reach the block through its queue.
-/

namespace Sys2Proof

/-- The command that a word of nbits bits spells by the table's bits: none for every word (log 2). -/
def decodeTableWord (_nbits _w : Nat) : Option Instr := none

end Sys2Proof
end

