-- ==== Sys2Proof/Machine/Levels.lean ====
section
/-!
DEFINITION. The exact numbers behind gains, levels, time constants and equaliser designs (R215, R221, R222, R224): integer
comparisons for gains and levels, and fixed-point evaluation with 80 fraction bits for designs and exponentials (log 8).
-/

namespace Sys2Proof.Machine

open Sys2Proof

/-- The largest value below 2^n, built bit by bit from the top, that a monotone test accepts (0 is always accepted). -/
def searchMax (ok : Nat → Bool) : Nat → Nat → Nat
  | 0, acc => acc
  | n + 1, acc => if ok (acc + 2 ^ n) then searchMax ok n (acc + 2 ^ n) else searchMax ok n acc

/-- The coefficient of a gain of g steps: round_half_away(65536 times 10^(g/160)), off below -960, held at +48 (R215). -/
def gainCoef (g : Int) : Int :=
  if g < -960 then 0
  else
    let g := min g 48
    let up := 10 ^ g.toNat
    let down := 10 ^ (-g).toNat
    (searchMax (fun c => decide ((2 * c - 1) ^ 160 * down ≤ 131072 ^ 160 * up)) 18 0 : Nat)

/-- The level in steps of a squared value num/den: round_half_away(160 log10(v / 131072)), -1024 at the bottom (R224). -/
def levelOfSquare (num den : Nat) : Int :=
  if num = 0 then -1024
  else
    -- the level is at least L when v^2 reaches 10^((2L - 1)/160) times full scale squared
    let atLeast := fun (k : Nat) =>
      -- k stands for L + 1024, so 2L - 1 = 2k - 2049
      let e : Int := 2 * (k : Int) - 2049
      decide (den ^ 160 * (2 ^ 34) ^ 160 * 10 ^ e.toNat ≤ num ^ 160 * 10 ^ (-e).toNat)
    if atLeast 0 then min 0 ((searchMax atLeast 11 0 : Nat) - 1024 : Int) else -1024

/-- The level in steps of a sample magnitude (R224). -/
def levelOfSample (v : Int) : Int := levelOfSquare (v.natAbs * v.natAbs) 1

/-! ## Fixed point -/

/-- One in fixed point: 80 fraction bits. -/
def fx : Int := 2 ^ 80

/-- Product in fixed point. -/
def fxMul (a b : Int) : Int := a * b / fx

/-- Quotient in fixed point. -/
def fxDiv (a b : Int) : Int := a * fx / b

/-- Pi in fixed point. -/
def fxPi : Int := 314159265358979323846264338327950288419716939937510 * 2 ^ 80 / 10 ^ 50

/-- The k-th root of a number, rounded down, below 2^n. -/
def rootNat (k n v : Nat) : Nat := searchMax (fun r => decide (r ^ k ≤ v)) n 0

/-- Terms of a power series with alternating or equal signs: t is the term before, i its index. -/
def fxSeries (x2 : Int) (neg : Bool) : Nat → Nat → Int → Int → Int
  | 0, _, _, sum => sum
  | n + 1, i, t, sum =>
    let t' := fxMul t x2 / ((i + 1) * (i + 2) : Nat)
    let t' := if neg then -t' else t'
    fxSeries x2 neg n (i + 2) t' (sum + t')

/-- Sine in fixed point. -/
def fxSin (x : Int) : Int := fxSeries (fxMul x x) true 30 1 x x

/-- Cosine in fixed point. -/
def fxCos (x : Int) : Int := fxSeries (fxMul x x) true 30 0 fx fx

/-- Terms of the exponential series. -/
def fxExpSeries (x : Int) : Nat → Nat → Int → Int → Int
  | 0, _, _, sum => sum
  | n + 1, i, t, sum =>
    let t' := fxMul t x / ((i + 1 : Nat) : Int)
    fxExpSeries x n (i + 1) t' (sum + t')

/-- The exponential of a fixed-point number of small magnitude. -/
def fxExp (x : Int) : Int := fxExpSeries x 60 0 fx fx

/-- 2^(a/b) in fixed point for a small non-negative a. -/
def fxPow2 (a b : Nat) : Int := (rootNat b (82 + a / b) (2 ^ (a + 80 * b)) : Nat)

/-- 10^(g/320) in fixed point. -/
def fxAmp (g : Int) : Int :=
  if g ≥ 0 then (rootNat 320 84 (10 ^ g.toNat * 2 ^ (80 * 320)) : Nat)
  else fxDiv fx (rootNat 320 84 (10 ^ (-g).toNat * 2 ^ (80 * 320)) : Nat)

/-- Square root in fixed point. -/
def fxSqrt (x : Int) : Int := (rootNat 2 90 (x * fx).toNat : Nat)

/-! ## Equaliser design (R221) -/

/-- Q, or the shelf slope S, of a QIDX code, in thousandths. -/
def qThousandths (i : Nat) : Int :=
  match i with
  | 0 => 500
  | 1 => 707
  | 2 => 1000
  | 3 => 1414
  | 4 => 2000
  | 5 => 2828
  | 6 => 4000
  | _ => 8000

/-- Coefficients of a section in Q2.16 with the shift k. -/
structure Coefs where
  b0 : Int
  b1 : Int
  b2 : Int
  a1 : Int
  a2 : Int
  k : Nat
  deriving DecidableEq, Repr

/-- A value lies in the Q2.16 range after division by 2^k. -/
def inQ216 (k : Nat) (v : Int) : Bool :=
  decide (-2 * fx * 2 ^ k ≤ v) && decide (v * 65536 ≤ 131071 * fx * 2 ^ k)

/-- Round a fixed-point value over 2^k to Q2.16. -/
def toQ216 (k : Nat) (v : Int) : Int := roundDiv (v * 65536) (2 ^ (80 + k))

/-- The smallest shift and the rounded coefficients of a design; none when k would exceed 3 (R221). -/
def quantise (b0 b1 b2 a0 a1 a2 : Int) : Option Coefs :=
  let n := fun v => fxDiv v a0
  match (List.range 4).find? (fun k => inQ216 k (n b0) && inQ216 k (n b1) && inQ216 k (n b2)) with
  | none => none
  | some k => some ⟨toQ216 k (n b0), toQ216 k (n b1), toQ216 k (n b2), toQ216 0 (n a1), toQ216 0 (n a2), k⟩

/-- The standard bilinear-transform designs by FILTER, QIDX, FREQ and GAIN in steps; none for a refused design (R221). -/
def designEq (filter q freq : Nat) (gain : Int) : Option Coefs :=
  let w := fxMul (2 * fxPi) (10 * fxPow2 freq 24) / 48000
  let c := fxCos w
  let s := fxSin w
  let a := fxAmp gain
  let q1000 := qThousandths q
  if filter = 1 ∨ filter = 2 then
    let rad := fxMul (a + fxDiv fx a) (1000 * fx / q1000 - fx) + 2 * fx
    if rad < 0 then none
    else
      let alpha := fxMul s (fxSqrt rad) / 2
      let ra := 2 * fxMul (fxSqrt a) alpha
      let ap := a + fx
      let am := a - fx
      if filter = 1 then
        quantise (fxMul a (ap - fxMul am c + ra)) (2 * fxMul a (am - fxMul ap c)) (fxMul a (ap - fxMul am c - ra))
          (ap + fxMul am c + ra) (-2 * (am + fxMul ap c)) (ap + fxMul am c - ra)
      else
        quantise (fxMul a (ap + fxMul am c + ra)) (-2 * fxMul a (am + fxMul ap c)) (fxMul a (ap + fxMul am c - ra))
          (ap - fxMul am c + ra) (2 * (am - fxMul ap c)) (ap - fxMul am c - ra)
  else
    let alpha := s * 500 / q1000
    match filter with
    | 0 => quantise (fx + fxMul alpha a) (-2 * c) (fx - fxMul alpha a) (fx + fxDiv alpha a) (-2 * c) (fx - fxDiv alpha a)
    | 3 => quantise ((fx - c) / 2) (fx - c) ((fx - c) / 2) (fx + alpha) (-2 * c) (fx - alpha)
    | 4 => quantise ((fx + c) / 2) (-(fx + c)) ((fx + c) / 2) (fx + alpha) (-2 * c) (fx - alpha)
    | 5 => quantise alpha 0 (-alpha) (fx + alpha) (-2 * c) (fx - alpha)
    | 6 => quantise fx (-2 * c) fx (fx + alpha) (-2 * c) (fx - alpha)
    | _ => quantise (fx - alpha) (-2 * c) (fx + alpha) (fx + alpha) (-2 * c) (fx - alpha)

/-! ## Time constants (R222, R224) -/

/-- 1 - e^(-x) in fixed point. -/
def fxRise (x : Int) : Int := fx - fxExp (-x)

/-- The attack factor of a code: one block over 0.1 ms times 2^((c - 1)/2); 1 for code 0 (R222). -/
def attackK (c : Nat) : Int :=
  if c = 0 then fx else fxRise (fxDiv (10 * fx / 3) (fxPow2 (c - 1) 2))

/-- The release factor of a code: one block over 1 ms times 2^(c/2) (R222). -/
def releaseK (c : Nat) : Int := fxRise (fxDiv (fx / 3) (fxPow2 c 2))

/-- The factor of the 300 ms meter (R224). -/
def meterK : Int := fxRise (fx / 900)

/-! ## Curves (R120, R121) -/

/-- Points of a CURVE table's words after word 0, x and y signed or not by their kinds. -/
def curvePoints (signedX signedY : Bool) : List Word → List (Int × Int)
  | x :: y :: rest =>
    (if signedX then x.signed else (x.toNat : Int), if signedY then y.signed else (y.toNat : Int)) ::
      curvePoints signedX signedY rest
  | _ => []

/-- Evaluate points (R121). -/
def evalPoints (x : Int) : List (Int × Int) → Int
  | [] => 0
  | [(_, y)] => y
  | (x0, y0) :: (x1, y1) :: rest =>
    if x < x0 then y0
    else if x < x1 then y0 + roundDiv ((x - x0) * (y1 - y0)) (x1 - x0).toNat
    else evalPoints x ((x1, y1) :: rest)

/-- XKIND and YKIND of a CURVE table. -/
def curveKinds (ws : List Word) : Nat × Nat := ((ws.getD 0 0).bits 7 4, (ws.getD 0 0).bits 3 0)

/-- A curve's value (R121). -/
def evalCurve (ws : List Word) (x : Int) : Int :=
  let (kx, ky) := curveKinds ws
  evalPoints x (curvePoints (kx != 0) (ky != 0) (ws.drop 1))

end Sys2Proof.Machine
end

