-- ==== Sys2Proof/Machine/State.lean ====
section
/-!
DEFINITION. The state of the DH1812 as plain data, and the state right after power-on reset. Every group is a structure whose
field defaults are the reset values; the rule that gives a piece of state stands in its docstring, and INVENTORY.md lists
them all. Reset values that the spec does not give are named in log entry 4.
-/

namespace Sys2Proof.Machine

open Sys2Proof

/-- The model's own stops. -/
inductive Fault where
  /-- Raised by a meaning whose operand no occurrence on this hardware can carry (a TDM frame that has not 16 slots).
  Safe: the model stops where the hardware has no such event. -/
  | illFormed (what : String)
  deriving DecidableEq, Repr

/-- Why a command has no meaning. -/
inductive Refusal where
  /-- Raised by exec for a command not modelled yet. Safe: nothing can be proved of what it does. -/
  | notModelled (mnemonic : String)
  deriving DecidableEq, Repr

/-! ## Shared pieces -/

/-- A triplicated field: three stored copies (R83). -/
structure Trip (n : Nat) where
  a : BitVec n := 0
  b : BitVec n := 0
  c : BitVec n := 0
  deriving DecidableEq, Repr

/-- Byte memory: strictly rising addresses, no entry equal to what an unlisted address reads as. -/
abbrev Memory := List Host.Cell

/-- Where the device stands between reset and operation (R44, R59, R441, R447). -/
inductive Phase where
  /-- Reset released; only AON runs until the root PLL locks (R59). -/
  | oscillator
  /-- The boot ROM runs (R428). -/
  | bootRom
  /-- The boot ROM serves the recovery loader (R447). -/
  | loader
  /-- The boot ROM has halted (R45, R274, R428). -/
  | halted
  /-- Factory test mode (R44). -/
  | factory
  /-- A verified bundle is about to start as firmware (R441 step 6). -/
  | verified
  /-- The firmware runs and no CTI activation has been reached since the start (R441 steps 7, 8). -/
  | starting
  /-- The firmware runs, with a CTI active or unconfigured (R130, R131). -/
  | running
  deriving DecidableEq, Repr

/-- Power states (R369). -/
inductive PowerState where
  | run | doze | sleep | hibernate
  deriving DecidableEq, Repr

/-- A 20-bit mailbox word: 18 data bits, end mark, parity bit (R90). -/
structure MbxWord where
  data : Word
  endMark : Bool
  parity : Bool
  deriving DecidableEq, Repr

/-- A complete inbound packet and its arrival tick (R91). -/
structure Packet where
  words : List MbxWord
  arrival : Tick
  /-- An upstream bus reset or a switch-over came after its arrival, so its reply is discarded (R100). -/
  cut : Bool := false
  deriving DecidableEq, Repr

/-- An inbound sub-queue: complete packets, the packet being written, and whether a discard is in progress (R93). -/
structure SubQueue where
  packets : List Packet := []
  part : List MbxWord := []
  discard : Bool := false
  deriving DecidableEq, Repr

/-- A reply or event in an outbound queue; for a reply, the path and arrival of its packet (R100). -/
structure OutPacket where
  words : List MbxWord
  path : Option Box := none
  arrival : Tick := 0
  deriving DecidableEq, Repr

/-- A packet as a command: its words, mailbox, arrival and parameters (R103). -/
structure Command where
  word0 : Word
  seq : Word
  box : Box
  arrival : Tick
  /-- Words 2 on, the authentication trailer apart. -/
  params : List Word
  /-- All words of the packet. -/
  words : List Word
  poisoned : Bool
  /-- Its reply is discarded (R100). -/
  cut : Bool
  deriving DecidableEq, Repr

/-- A completion record (R109). -/
structure Completion where
  word0 : Word
  seq : Word
  status : Word
  long : Bool
  inProgress : Bool
  deriving DecidableEq, Repr

/-- A long command in progress: its group, echo words and path (R106). -/
structure LongCmd where
  group : Nat
  word0 : Word
  seq : Word
  box : Box
  deriving DecidableEq, Repr

/-- PD roles of a flex port, coded as PD.STATUS (R342). -/
inductive PdRole where
  | unattached | source | sinkB | sinkRefused | accessory
  deriving DecidableEq, Repr

/-- What a CC pair presents (R316). -/
inductive CcState where
  | open | rp | rd
  deriving DecidableEq, Repr

/-- How a gate ball is driven (R47, R329). -/
inductive Gate where
  | off | linear | full | blocking
  deriving DecidableEq, Repr

/-- USB handshakes and their SuperSpeed counterparts. -/
inductive Handshake where
  | ack | nak | stall | nyet | nrdy
  deriving DecidableEq, Repr

/-- Messages that the PD engine sends. -/
inductive PdOut where
  | sourceCapabilities (objects : List (BitVec 32))
  | sinkCapabilities (object : BitVec 32)
  | request (object : BitVec 32)
  | accept | reject | wait | psRdy | notSupported | softReset | hardReset
  | alert (object : BitVec 32)
  | status (externalPower : Bool) (temp : Nat)
  | revision
  | vconnSwap
  | vdm (header : BitVec 32) (objects : List (BitVec 32))
  | vdmBusy
  | bist
  | goodCrc
  deriving DecidableEq, Repr

/-- What the device puts out during one command: the model's own record of outputs, cleared by each command (log 5). -/
inductive Out where
  /-- A register read's value on the supervisor path. -/
  | value (w : Word)
  /-- The 32 bits of MSPI_MISO of a frame (R74). -/
  | miso (frame : BitVec 32)
  /-- MSPI_MISO is not driven: the slave is not clocked or not powered (R76). -/
  | misoUndriven
  | usbData (bytes : List Byte)
  | handshake (h : Handshake)
  | sof (port : Nat) (frame micro : Nat)
  | timestamp (port : Nat) (frame micro : Nat)
  | tdmFrame (port : Nat) (slots : List Word) (trailer : BitVec 12)
  | pd (port : Nat) (msg : PdOut)
  /-- A VOUT_COMMAND on PMBus: the regulator's address, the set-point, and that the transaction carries its Packet Error Code (R50). -/
  | vout (addr mv : Nat) (pec : Bool)
  | xspiReset
  /-- A control request to an owned device, with the bytes of its data stage. -/
  | control (port addr : Nat) (setup : Setup) (data : List Byte)
  | portReset (port : Nat) (warm : Bool)
  | cell (egress : Nat) (bytes : List Byte) (last bad : Bool)
  | portResume (port : Nat)
  /-- An owned port is suspended, its SuperSpeed link in U3 (R190). -/
  | portSuspend (port : Nat) (u3 : Bool)
  /-- Remote wake toward the host (R163): K on a USB 2.0 upstream; on a SuperSpeed one the U3 exit LFPS handshake, then Function Wake. -/
  | wakeK
  | wakeU3Exit
  | functionWake
  /-- A capture packet's bytes on endpoint 0x82 (R150, R153). -/
  | capturePacket (bytes : List Byte)
  /-- The feedback value on endpoint 0x81 (R154). -/
  | feedback (bytes : List Byte)
  deriving DecidableEq, Repr

/-! ## Clocks, start-up and straps -/

/-- Clocks and time (03). -/
structure Clock where
  /-- R67: 54 bits, COLD, 0. -/
  tick : Tick := 0
  /-- Tick of the latest block boundary taken (R65); the model's own. -/
  lastBlock : Option Tick := none
  /-- R68, TIME_STAT: COLD, 0. -/
  estimated : Bool := false
  /-- R59: the root PLL is locked. -/
  rootLocked : Bool := false
  /-- R59, R72: the SuperSpeed PLL is locked. -/
  ssLocked : Bool := false
  /-- R72: the reference is present and in tolerance. -/
  refOk : Bool := true
  /-- R62: the slow clock comes from the RC oscillator. -/
  slowRc : Bool := true
  /-- R58: position of the tick within the 3-tick pattern of slow edges. -/
  slowAcc : Nat := Config.slowPhase.val
  /-- R63: number of RC trims since reset. -/
  rcTrims : Nat := 0
  /-- R59: the crystal oscillator runs. -/
  xtalOn : Bool := true
  /-- R68: one period has passed of the pair by which AON advances the tick counter. -/
  slowOdd : Bool := false
  /-- R72: the reference has returned, so the root PLL relocks in the next warm chip reset. -/
  relock : Bool := false
  /-- R58: periods of MCLK_OUT per tick that the firmware has set: 0 held low, 200 or 300. -/
  mclk : Nat := 0
  deriving DecidableEq, Repr

/-- The running bundle: 0 slot A, 1 slot B, 2 MSPI loader; its ROLLBACK and release (R448). -/
structure FwInfo where
  source : Nat
  rollback : Nat
  major : Nat
  minor : Nat
  deriving DecidableEq, Repr

/-- A held event: its word 0, parameters and tick (R444). -/
structure HeldEvent where
  word0 : Word
  params : List Word
  tick : Tick
  deriving DecidableEq, Repr

/-- Start-up, reset and watchdog (02, 21). -/
structure Boot where
  phase : Phase := .oscillator
  /-- R43: sampled straps, COLD. -/
  straps : Straps := ⟨false, false, false⟩
  /-- R448: bundle that runs. -/
  fw : Option FwInfo := none
  /-- R437: warm chip resets requested and not yet begun. -/
  warmReq : List WarmCause := []
  /-- R439: a warm chip reset has begun and has not reached an activation. -/
  warmBusy : Bool := false
  /-- R450: tick at which SYS.RESET was accepted. -/
  resetAt : Option Tick := none
  /-- R443, R444: reference tick of the start in progress. -/
  startRef : Tick := 0
  /-- R448: RST_CAUSE at the last start. -/
  causeAtStart : BitVec 7 := 1
  /-- R132: bank 0 content verified at this warm start, so the CTI is kept. -/
  ctiKept : Bool := false
  /-- R444: events held until SYS.STARTED. -/
  held : List HeldEvent := []
  /-- R444: SYS.STARTED has been posted since the start. -/
  started : Bool := false
  /-- R438: the watchdog is armed. -/
  wdArmed : Bool := false
  /-- R395: tick of the last kick. -/
  lastKick : Tick := 0
  /-- R438: the 10 ms fault has been raised since the last kick. -/
  kickMissed : Bool := false
  /-- R40: the first kick after an activation has happened. -/
  aliveOk : Bool := false
  /-- R395: FAULT_ALIVE runs since a 48-tk boundary at which every condition held. -/
  aliveRun : Bool := false
  /-- R41: RESET_OUT_N asserted, and the slow-clock periods since the end of the reset, up to the 32 of its 1 ms. -/
  resetOut : Bool := true
  outEdges : Nat := 0
  /-- R40: a verified CTI has been activated since the last chip-level reset. -/
  ctiUp : Bool := false
  /-- R390: the fault whose reaction was the warm chip reset, for LOG.FAULT after it. -/
  resetFault : Option HeldEvent := none
  /-- R443: the start in progress follows HIBERNATE (R375). -/
  fromHibernate : Bool := false
  /-- R276: the directory has been rebuilt at this start. -/
  rebuilt : Bool := false
  /-- Seconds spent in the low-power state just left (R386 PWR.WAKE). -/
  asleepS : Nat := 0
  deriving DecidableEq, Repr

/-! ## AON domain and register window -/

/-- One entry of the fault history (R89, R401). -/
structure HistEntry where
  ts : BitVec 34
  source : BitVec 12
  cls : BitVec 4
  severity : BitVec 3
  esc : Bool
  deriving DecidableEq, Repr

/-- Registers and records of the AON domain (R86, R89, R398). -/
structure Aon where
  /-- WAKE_EN, 8 bits, COLD, 0o377. -/
  wakeEn : BitVec 8 := 0xFF
  /-- WAKE_POL, 4 bits RWG/RWT, COLD, 0. -/
  wakePol : Trip 4 := {}
  /-- WAKE_CAUSE, 8 bits W1C, COLD, 0. -/
  wakeCause : BitVec 8 := 0
  /-- TAMP_POL, 2 bits RWG/RWT, COLD, 0. -/
  tampPol : Trip 2 := {}
  /-- TAMP_STAT, 4 bits, POR, 0. -/
  tampStat : BitVec 4 := 0
  /-- RST_CAUSE, 7 bits W1C, POR, bit 0 set. -/
  rstCause : BitVec 7 := 1
  /-- RTC_SUB, 15 bits, POR, 0. -/
  rtcSub : Nat := 0
  /-- RTC_SEC, 36 bits, POR, 0. -/
  rtcSec : BitVec 36 := 0
  /-- RTC_ALM, 36 bits, COLD, 0. -/
  rtcAlm : BitVec 36 := 0
  /-- FLT_SAFE ACTIVE, POR, 0. -/
  safeActive : Bool := false
  /-- FLT_SAFE LATCHED, POR, 0. -/
  safeLatched : Bool := false
  /-- FLT_SAFE QUIET, POR, 0. -/
  safeQuiet : Bool := false
  /-- FLT_RECOV, 8 bits, POR, 0. -/
  recov : Nat := 0
  /-- Fault history, newest first, at most 16 entries, POR, empty (R401). -/
  hist : List HistEntry := []
  deriving DecidableEq, Repr

/-- A posted AON write: the register's offset address, alias, data and slow edges passed (R86). -/
structure Posted where
  addr : Nat
  op : Nat
  data : Word
  edges : Nat
  deriving DecidableEq, Repr

/-- Guard state of one path (R84). -/
structure Guard where
  /-- UNLOCKED, RO/RWT, 0. -/
  unlocked : Trip 1 := {}
  /-- Tick of the unlock. -/
  since : Tick := 0
  keyErr : Bool := false
  badPair : Bool := false
  lockedWr : Bool := false
  deriving DecidableEq, Repr

/-- Shadows of one path: address of a companion word and the latched value (R69). -/
abbrev Shadow := List (Nat × Word)

/-- Per-path registers of the MBX block (R89). -/
structure MbxRegs where
  prio : BitVec 2 := 0
  outSel : Bool := false
  tagEnd : Bool := false
  tagPoison : Bool := false
  inOverrun : Bool := false
  outUnderrun : Bool := false
  deriving DecidableEq, Repr

/-- The register window's own state (04). -/
structure Window where
  guardSup : Guard := {}
  guardMspi : Guard := {}
  guardUsb : Guard := {}
  /-- GUARD_VOTE, 16 bits, WARM, 0. -/
  guardVote : Nat := 0
  shadowSup : Shadow := []
  shadowMspi : Shadow := []
  shadowUsb : Shadow := []
  mbxSup : MbxRegs := {}
  mbxMspi : MbxRegs := {}
  mbxUsb : MbxRegs := {}
  /-- FLT_CSEL, 3 bits, WARM, 0. -/
  csel : BitVec 3 := 0
  /-- FLT_SEV_SEL, 12 bits, WARM, 0. -/
  sevSel : BitVec 12 := 0
  /-- FLT_HIST_SEL, 4 bits, WARM, 0. -/
  histSel : BitVec 4 := 0
  /-- FLT_SAFECTL, 4 bits RWG/RWT, WARM, 0o17. -/
  safectl : Trip 4 := ⟨0xF, 0xF, 0xF⟩
  /-- Posted AON writes, oldest first, at most 8 (R86). -/
  posted : List Posted := []
  /-- AON_WPEND (R86). -/
  wpend : Bool := false
  /-- Read copies of the AON domain (R86). -/
  copy : Aon := {}
  /-- MISO flags of the next frame (R74). -/
  ferr : Bool := false
  gdisc : Bool := false
  wdrop : Bool := false
  /-- The three bytes of the vendor read in progress, repeated without a side effect (R79). -/
  usbRead : Option (BitVec 24) := none
  /-- ID_FW: WARM, 0 until the firmware starts. -/
  idFw : Word := 0
  deriving DecidableEq, Repr

/-! ## Mailboxes -/

/-- Mailboxes and the command interface (05). -/
structure Mailbox where
  /-- MBX-U inbound sub-queues 0 to 3. -/
  inU : List SubQueue := [{}, {}, {}, {}]
  /-- MBX-S inbound sub-queues 0 to 3. -/
  inS : List SubQueue := [{}, {}, {}, {}]
  /-- Bytes of a partial container (R96). -/
  usbBytes : List Byte := []
  /-- Sub-queue of the packet being received over USB (R97). -/
  usbOpen : Option (Fin 4) := none
  /-- Reply queue. -/
  reply : List OutPacket := []
  /-- Event queue. -/
  event : List OutPacket := []
  /-- Bytes of a container split by a packet end on the reply and event endpoints (R99). -/
  replyXfer : List Byte := []
  eventXfer : List Byte := []
  /-- The bytes left, possibly none, end the transfer: a short or zero-length packet is due (R99). -/
  replyTail : Bool := false
  eventTail : Bool := false
  /-- R110: next event sequence number. -/
  eventSeq : Word := 0
  /-- R110: dropped events not yet reported. -/
  lost : Nat := 0
  /-- R109: completion records, newest first, at most 64 each. -/
  doneU : List Completion := []
  doneS : List Completion := []
  /-- R92: the mailbox served last. -/
  lastServed : Option Box := none
  /-- R106: long commands in progress. -/
  long : List LongCmd := []
  /-- R106: the immediate command that was accepted and replies after its effect at the next block boundary. -/
  waits : Option Command := none
  deriving DecidableEq, Repr

/-! ## Faults -/

/-- An unacknowledged fault: applied severity and tick of its last occurrence (R391, R392). -/
structure Unacked where
  source : BitVec 12
  severity : Nat
  last : Tick
  deriving DecidableEq, Repr

/-- Fault collection and safe state (18). -/
structure Faults where
  /-- FLT_SUP to FLT_AON, WARM, 0. -/
  status : List (BitVec 18) := [0, 0, 0, 0, 0, 0]
  /-- FLT_OFF words by cluster, WARM, 0. -/
  off : List (BitVec 18) := [0, 0, 0, 0, 0, 0]
  /-- Sources whose error line is asserted. -/
  lines : List (BitVec 12) := []
  /-- Severity entries that differ from the defaults: FAULTN_EN and SEVERITY, triplicated (R389). -/
  sev : List (Nat × Trip 4) := []
  unacked : List Unacked := []
  /-- Occurrence counts in bank 7, WARM (R402). -/
  counts : List (Nat × Nat) := []
  /-- Safe state held by SAFE.ENTER with HOLD (R397), AON. -/
  hold : Bool := false
  /-- Source of the latest entry into safe state (R406). -/
  entrySource : BitVec 12 := 0
  /-- Reason of the entry whose SAFE.ENTERED is due at the next boundary (R396 step 5). -/
  enteredDue : Option Nat := none
  /-- Tick of the most recent counting fault or entry (R397). -/
  quietFrom : Tick := 0
  /-- QUIET_TIME in force for the period that runs, ms (R406). -/
  quietMs : Nat := 2000
  /-- A counting fault came in this block, so a SAFE.RELEASE of it returns STATE (R404). -/
  releaseBroken : Bool := false
  /-- Ticks of the last 15 exits, newest first (R398). -/
  exits : List Tick := []
  /-- QUIET_TIME, RECOVERY_LIMIT and RECOVERY_WINDOW set by SAFE.SET_QUIET (R406). -/
  quietSet : Option (Nat × Nat × Nat) := none
  /-- Supervisor NMI raised and block resets performed since reset (R390); the model's own counters of reactions. -/
  nmis : Nat := 0
  blockResets : List (BitVec 12) := []
  deriving DecidableEq, Repr

/-! ## Configuration -/

/-- One table of the active image, as the live view (R133). -/
structure Table where
  tid : Nat
  kind : Nat
  words : List Word
  deriving DecidableEq, Repr

/-- A changed table word (R133). -/
structure Change where
  tid : Nat
  offset : Nat
  value : Word
  deriving DecidableEq, Repr

/-- An image that passed its checks and waits for its activation (R130). -/
structure Image where
  /-- 0 slot A, 1 slot B. -/
  slot : Nat
  gen : Nat
  crc : Nat
  header : List Word
  tables : List Table
  /-- The image bytes, for the protected region. -/
  bytes : List Byte
  deriving DecidableEq, Repr

/-- An overlay flash write in progress: SEQ, the copy, and the changes taken (R138). -/
structure CommitOp where
  copy : Nat
  seq : Nat
  taken : List Change
  start : Tick
  deriving DecidableEq, Repr

/-- The slot under a CFG.FLASH_WRITE BEGIN and the rows written since (R140). -/
structure SlotWrite where
  slot : Nat
  rows : List (Nat × Nat)
  /-- END has passed. -/
  closed : Bool
  deriving DecidableEq, Repr

/-- The firmware slot under a CFG.FIRMWARE_WRITE BEGIN and the byte ranges written since (R430). -/
structure FwWrite where
  slot : Nat
  ranges : List (Nat × Nat)
  deriving DecidableEq, Repr

/-- A flash-backed CFG operation in progress (R140, R430). -/
inductive CfgOp where
  | ctiBegin (slot : Nat)
  | ctiData (row : Nat) (words : List Word)
  | ctiEnd
  | fwBegin (slot : Nat)
  | fwData (offset : Nat) (bytes : List Byte)
  | fwEnd
  | fwAbort
  deriving DecidableEq, Repr

/-- Configuration (06). -/
structure Cfg where
  /-- The firmware runs unconfigured (R131). -/
  unconfigured : Bool := false
  /-- The active slot, and whether a CTI is active. -/
  active : Option Nat := none
  gen : Nat := 0
  crc : Nat := 0
  /-- Header words 0 to 15 of the active image. -/
  header : List Word := []
  /-- Tables as signed, without overlay. -/
  signed : List Table := []
  /-- Tables in force: signed, overlay and the pending changes that took effect; table 0 as of the activation (R134). -/
  live : List Table := []
  /-- Committed overlay, each word at most once (R138). -/
  overlay : List Change := []
  /-- SEQ of the copy in force, and which copy it is. -/
  overlaySeq : Nat := 0
  overlayCopy : Option Nat := none
  /-- Pending set, oldest first (R133). -/
  pending : List Change := []
  commit : Option CommitOp := none
  /-- Image to activate at the next block boundary, and whether it is a CFG.LOAD. -/
  next : Option Image := none
  nextIsLoad : Bool := false
  slotWrite : Option SlotWrite := none
  fwWrite : Option FwWrite := none
  op : Option CfgOp := none
  /-- A reload is in progress: zones hold and events queue (R132). -/
  reloading : Bool := false
  deriving DecidableEq, Repr

/-- Memories with contents (01, 13). -/
structure Mem where
  /-- Stash, 8 banks of 65 536 rows, nine bytes a row (R22). -/
  stash : Memory := []
  /-- Wrong symbols of Stash rows (R22). -/
  stashErr : List (Nat × Nat) := []
  /-- External flash (R274). -/
  flash : Memory := []
  /-- Stash banks that are powered (R378), PWR_DOMAIN BANK. -/
  bankOn : BitVec 8 := 0xFF
  /-- Patrol walkers: next Stash row and next cell word (R24). -/
  stashWalk : Nat := 0
  cellWalk : Nat := 0
  /-- Ticks at which the passes began (R388). -/
  stashPass : Tick := 0
  cellPass : Tick := 0
  /-- The loader holds the protected and overlay regions open (R129). -/
  regionsOpen : Bool := false
  /-- The CRC-32 over the verification results and the cache in bank 7 verifies (R282). -/
  bank7Ok : Bool := true
  deriving DecidableEq, Repr

/-! ## Hub, function and upstream face -/

/-- One side of a port as a hub shows it: the port state machine of USB 2.0 or USB 3.2 (R155). -/
structure Side where
  connection : Bool := false
  speed : Option Speed := Option.none
  enable : Bool := false
  suspend : Bool := false
  l1 : Bool := false
  /-- PORT_U1_TIMEOUT and PORT_U2_TIMEOUT (R162), the remote wake mask (R163) and the link state asked for. -/
  u1Timeout : Nat := 0
  u2Timeout : Nat := 0
  wakeMask : Nat := 0
  linkReq : Nat := 0
  /-- PORT_TEST selector, 0 for none. -/
  test : Nat := 0
  cConnection : Bool := false
  cEnable : Bool := false
  cSuspend : Bool := false
  cOverCurrent : Bool := false
  cReset : Bool := false
  cL1 : Bool := false
  cLinkState : Bool := false
  cBhReset : Bool := false
  deriving DecidableEq, Repr

/-- USB state of one of the three devices the upstream host sees (R145, R165). -/
structure UsbDev where
  address : Nat := 0
  configured : Bool := false
  remoteWake : Bool := false
  deriving DecidableEq, Repr

/-- The endpoint buffers that are no rings (R151). -/
structure EndpointRam where
  /-- Control endpoint 0: the bytes of the data stage, at most 1 KiB. -/
  control : List Byte := []
  /-- Endpoint 0x81: the feedback value, at most 1 KiB. -/
  feedback : List Byte := []
  /-- Endpoints 0x03, 0x83 and 0x84: the packet last held, at most 4 KiB. -/
  bulkOut : List Byte := []
  reply : List Byte := []
  event : List Byte := []
  deriving DecidableEq, Repr

/-- Upstream face, hubs and embedded function (07, 14), LINK cluster. -/
structure Hub where
  /-- Face that carries the upstream (R303). -/
  face : Option Face := none
  /-- Upstream terminations are presented (R143). -/
  connected : Bool := false
  /-- USA_VBUS_DET as last read (R54). -/
  vbus : Bool := false
  ssLink : LinkState := .disabled
  highSpeed : Bool := false
  /-- The function is on the USB 3 hub (R142). -/
  functionUsb3 : Bool := false
  hub2 : UsbDev := {}
  hub3 : UsbDev := {}
  function : UsbDev := {}
  /-- Port 11 as its hub shows it (R155). -/
  port11 : Side := {}
  suspended : Bool := false
  /-- Alternate settings of interfaces 1 and 2, and of the USB 2 hub (R146, R149). -/
  altPlay : Nat := 0
  altCap : Nat := 0
  altHub : Nat := 0
  /-- Playback ring of sample frames, oldest first (R152). -/
  playRing : List (List Word) := []
  playRunning : Bool := false
  /-- Capture ring of sample frames, oldest first (R153). -/
  capRing : List (List Word) := []
  /-- The other endpoint buffers (R151). -/
  ram : EndpointRam := {}
  /-- The USB 2.0 upstream link is in L1 (R162). -/
  l1 : Bool := false
  /-- Feedback value in force (R154). -/
  feedback : Nat := 0x00060000
  /-- Host microframes since the link came up (R154). -/
  hostMicro : Nat := 0
  /-- A remote wake has been requested (R163), and its port event. -/
  wakePending : Bool := false
  /-- Remote wake was requested, so PORT.REMOTE_WAKE follows the resume (R164). -/
  wakeReport : Bool := false
  /-- Faces read as host-absent (R299). -/
  absentA : Bool := false
  absentB : Bool := false
  /-- Faces available under R302, and the ticks at which they became so (R303). -/
  availA : Bool := false
  availB : Bool := false
  sinceA : Tick := 0
  sinceB : Tick := 0
  /-- A switch-over in progress or requested: old face, new face and reason (R306, R312). -/
  swTo : Option (Option Face × Option Face × Nat) := none
  /-- A SYS.UPSTREAM_SELECT in progress (R312). -/
  swCmd : Bool := false
  /-- Tick from which a commanded switch-over may begin. -/
  swFrom : Tick := 0
  /-- Automatic return armed (R310), and the tick since which A has been available. -/
  autoArmed : Bool := true
  availSince : Option Tick := none
  /-- Face recorded in AON for a warm chip reset (R304), COLD. -/
  recorded : Option Face := none
  /-- A first connection after activation waits for a face (R303), after a warm chip reset for the recorded one first (R304). -/
  waitFace : Bool := false
  fromRecord : Bool := false
  deriving DecidableEq, Repr

/-! ## Downstream ports and owned trees -/

/-- A change of ownership in progress (R172, R173). -/
inductive OwnChange where
  | none | requested (owned : Bool) | toOwned | toPass
  deriving DecidableEq, Repr

/-- One of downstream ports 1 to 10 (07, 08). -/
structure DownPortState where
  /-- Owner recorded in the PORT cluster: the device (R167). -/
  owned : Bool := false
  change : OwnChange := .none
  changeRef : Tick := 0
  /-- Enumeration of the port's tree has ended (R172 step 6). -/
  enumDone : Bool := true
  /-- OWN bit of the image that was ignored (R169). -/
  ownIgnored : Bool := false
  /-- A USB device is connected, and its speed. -/
  attached : Bool := false
  speed : Option Speed := Option.none
  /-- Speed of the other half of a USB 3 hub (R186). -/
  second : Option Speed := Option.none
  /-- The reset of step 3 of a change to owned has been driven (R172). -/
  ownReset : Bool := false
  /-- The host's PORT_POWER request, and the two sides of the port (R155, R156). -/
  hostPower : Bool := false
  usb2 : Side := {}
  usb3 : Side := {}
  /-- The port is powered: Hn_PWREN on HS ports (R157). -/
  powered : Bool := false
  /-- FORCE_OFF of PORT.POWER (R159), PORT cluster. -/
  forceOff : Bool := false
  cycleEnd : Option Tick := Option.none
  /-- Tick at which Hn_PWREN rose (R158). -/
  powerTick : Tick := 0
  /-- Hn_OC_N is low (R158): the port's PORT_OVER_CURRENT. -/
  ocLow : Bool := false
  /-- Ticks of recent over-currents, newest first (R158). -/
  ocTimes : List Tick := []
  /-- Left off after the third over-current (R158). -/
  ocLatch : Bool := false
  repower : Bool := false
  /-- Stop of the port's TT (R160): buffered periodic and non-periodic split transactions. -/
  ttPeriodic : Nat := 0
  ttNonPeriodic : Nat := 0
  ttStopped : Bool := false
  /-- Payload reserved on the owned link (R184). -/
  reserved : Nat := 0
  /-- Tick of the first failed enumeration attempt by hub port (R177). -/
  failures : List (Nat × Tick) := []
  deriving DecidableEq, Repr

/-- A device served or refused on an owned port (R176, R193). -/
structure OwnedDev where
  port : Nat
  hubPort : Nat
  addr : Nat
  speed : Speed
  vendor : Nat
  product : Nat
  /-- 0 served, otherwise the refusal reason (R193). -/
  reason : Nat
  hub : Bool
  hubPorts : Nat
  multiTt : Bool
  tagAware : Bool
  remoteWake : Bool
  endpoints : Nat
  hids : List HidIf
  /-- Buttons that are 1 in the last report of each interface and report ID (R185): interface, report ID, usage. -/
  buttons : List (Nat × Nat × Nat)
  /-- Transfers wait for a resume (R189, R190), with the descriptors of the Stash cache (R189). -/
  asleep : Bool
  cached : Bool
  /-- A hub's ports with a connection, as its status endpoint last showed them, port i in bit i (R186). -/
  conn : BitVec 16
  /-- Payload it reserves on its link (R184). -/
  payload : Nat
  deriving DecidableEq, Repr

/-- A matched owned stream (R181 to R183, R262). -/
structure Stream where
  port : Nat
  hubPort : Nat
  addr : Nat
  iface : Nat
  ep : Nat
  alt : Nat
  entry : Nat
  dirOut : Bool
  ch : Nat
  first : Nat
  res : Nat
  interval : Nat
  maxPacket : Nat
  fullSpeed : Bool
  ctx : Option Nat
  tagEntry : Bool
  speed : Speed
  /-- Runs from this block boundary on (R172 step 6). -/
  running : Bool
  /-- IN: a first packet has arrived. -/
  begun : Bool
  /-- OUT: frames waiting, as subslots with their tags, and the frame tick of the first (R262). -/
  fifo : List (List (BitVec 24))
  fifoTick : Nat
  /-- IN: sample frames that wait for their block, each with the tick whose block takes it (log 21). -/
  got : List (Nat × List Word)
  deriving DecidableEq, Repr

/-- A stream context of the check-value unit (R268). -/
structure Ctx where
  port : Nat := 0
  addr : Nat := 0
  ep : Nat := 0
  dirOut : Bool := false
  ch : Nat := 0
  first : Nat := 0
  loc : Nat := 0
  /-- Frames of the partial group with their ticks and 24-bit subslots (R263). -/
  group : List (Nat × List (BitVec 24)) := []
  /-- Boundaries left until checking begins; none before the first packet (R265). -/
  checkIn : Option Nat := none
  good : Nat := 0
  counter : Nat := 0
  crc : Nat := 0
  fail : Nat := 0
  /-- An error or a FAIL mark since the last observation of Pavane step 9 began (R415). -/
  seenBad : Bool := false
  /-- Errors of the running block (R264). -/
  blkCounter : Bool := false
  blkCrc : Bool := false
  blkFail : Bool := false
  lastPost : Option Tick := none
  /-- The egress complement of R266 acts on this stream. -/
  mark : Bool := false
  deriving DecidableEq, Repr

/-- A TDM trailer unit and the frames received since the boundary (R271). -/
structure TdmUnit where
  /-- The output block in force found no cells, so its slots are zero (R198). -/
  outLost : Bool := false
  /-- Boundaries left until checking begins; none when no checking is due. -/
  checkIn : Option Nat := none
  /-- Counter of the last frame whose CRC was correct or complemented, and frames since. -/
  lastCtr : Option Nat := none
  since : Nat := 0
  counts : Ctx := {}
  /-- Slots by the tick of their frame. -/
  got : List (Nat × List Word) := []
  deriving DecidableEq, Repr

/-- Owned ports and their trees (08, 12). -/
structure Owned where
  devs : List OwnedDev := []
  streams : List Stream := []
  ctxs : List (Option Ctx) := List.replicate 64 none
  tdm : List TdmUnit := [{}, {}]
  /-- Console keys asserted: binding number and device address (R185). -/
  keys : List (Nat × Nat) := []
  /-- Devices removed from service by a warm chip reset whose record no longer verifies (R189). -/
  cacheOk : Bool := true
  /-- Streams that stop at the next block boundary, and the tag errors of the block in released contexts: counter, CRC and FAIL mark
  (R187, R264). -/
  ending : List Stream := []
  endErr : Bool × Bool × Bool := (false, false, false)
  /-- Tick of the last return from SLEEP (R190). -/
  wokeAt : Option Tick := none
  /-- PORT.SET_OWNER in progress: port, and that it names the owner the port already has (R192). -/
  ownerCmd : Option Nat := none
  ownerSame : Bool := false
  /-- PORT.RESET_DEVICE in progress: port, and hub port or the whole tree (R194). -/
  resetCmd : Option (Nat × Option Nat) := none
  deriving DecidableEq, Repr

/-! ## Switch core -/

/-- A cell in use (R196, R200). -/
structure Cell where
  dest : BitVec 18
  src : Nat
  cls : CellClass
  len : Nat
  last : Bool
  deadline : BitVec 12
  addr : BitVec 7
  ep : BitVec 4
  dirIn : Bool
  ctx : Option Nat
  payload : List Byte
  /-- Reference count (R200). -/
  refs : Nat
  /-- 0 ISO reserve, 1 CTRL reserve, 2 shared (R197). -/
  pool : Nat
  bad : Bool
  /-- Reference count failed its parity; held until the audit (R203). -/
  refBad : Bool
  /-- Found unaccounted by the last audit (R204). -/
  suspect : Bool
  /-- Byte offset of the cell's payload in its packet, and sample frames of the packet (R260). -/
  off : Nat
  frames : Nat
  /-- PORT, location word and channel under which its stream is counted (R210). -/
  stream : Nat × Nat × Nat
  deriving DecidableEq, Repr

/-- The link mode and the hold of one SuperSpeed link (R205, R207). -/
structure LinkCtl where
  /-- State of a flex port's link; the upstream link's stands in Hub. -/
  state : LinkState := .disabled
  hold : Bool := false
  holdMs : Nat := 0
  /-- A hold in progress: the tick it began and its HOLD_TIME in ms. -/
  down : Option (Tick × Nat) := none
  deriving DecidableEq, Repr

/-- Counters of one stream (R210). -/
structure StreamCount where
  port : Nat
  loc : Nat
  chan : Nat
  missing : Nat
  dropped : Nat
  excess : Nat
  lastPost : Option Tick
  deriving DecidableEq, Repr

/-- The switch core (09). -/
structure Switch where
  /-- Cells in use, by index. -/
  cells : List (Nat × Cell) := []
  /-- 54 queues of cell indexes, egress e and class c at 3e + c (R198). -/
  queues : List (List Nat) := List.replicate 54 []
  /-- Egress granted last in each class, for the round robin (R199). -/
  rr : List Nat := [17, 17, 17]
  /-- Free cells that left the free list (R204), and free cells on it twice. -/
  leaked : List (Nat × Bool) := []
  twice : List Nat := []
  /-- Packets of internal sources that wait for room, oldest first (R198). -/
  waiting : List IngressPacket := []
  /-- Source granted last in each class by the write port (R199). -/
  wr : List Nat := [17, 17, 17]
  /-- Free cells found bad: rewritten at their next allocation (R203). -/
  badFree : List Nat := []
  /-- Wrong symbols by cell-memory word, word w of cell i at 8i + w (R22, R203). -/
  errs : List (Nat × Nat) := []
  links : List LinkCtl := [{}, {}, {}, {}, {}]
  counts : List StreamCount := []
  /-- Tick of the last audit (R204). -/
  lastAudit : Tick := 0
  deriving DecidableEq, Repr

/-! ## Audio -/

/-- A base-layer crosspoint that is not off (R218): gain in steps and polarity. -/
structure Crosspoint where
  src : Nat
  gain : Int
  invert : Bool
  deriving DecidableEq, Repr

/-- An equaliser section (R220). -/
structure Section where
  bypass : Bool := true
  b0 : Int := 65536
  b1 : Int := 0
  b2 : Int := 0
  a1 : Int := 0
  a2 : Int := 0
  k : Nat := 0
  x1 : Int := 0
  x2 : Int := 0
  y1 : Int := 0
  y2 : Int := 0
  deriving DecidableEq, Repr

/-- Dynamics settings and gain of a destination (R222). -/
structure Dyn where
  curve : Nat := 0
  attack : Nat := 0
  release : Nat := 0
  rms : Bool := false
  on : Bool := false
  /-- Gain in 1/256 step. -/
  g : Int := 0
  /-- Coefficient in force at the end of the last block. -/
  coef : Int := 65536
  deriving DecidableEq, Repr

/-- Ambient compensation of a destination (R223). -/
structure Ambient where
  curve : Nat
  source : Nat
  window : Nat
  gate : Nat
  /-- Seconds of history, newest first: gated blocks, all blocks, sum of squares of the gated blocks. -/
  secs : List (Nat × Nat × Nat)
  gated : Nat
  sumSq : Nat
  /-- Tick at which the running second began. -/
  since : Tick
  /-- Gain in force and target, steps; blocks since the last move. -/
  gain : Int
  target : Int
  wait : Nat
  deriving DecidableEq, Repr

/-- A delay line (R225 to R230). -/
structure Delay where
  /-- 0 raw, 1 Loam-5, 2 Loam-6. -/
  format : Nat
  /-- Capacity requested and granted, tk. -/
  request : Nat
  granted : Nat
  delay : Nat
  /-- DELAY of the block before, for the crossfade (R226). -/
  oldDelay : Nat
  /-- Extents, in line order. -/
  extents : List Nat
  /-- Samples written since allocation. -/
  written : Nat
  /-- Samples of the row being filled, oldest first. -/
  filling : List Int
  deriving DecidableEq, Repr

/-- One destination's chain (R217). -/
structure Dest where
  num : Nat
  base : List Crosspoint := []
  /-- Effective coefficients at the end of the last block (R216). -/
  lastMix : List (Nat × Int) := []
  /-- DGAIN coefficient at the end of the last block. -/
  lastGain : Int := 65536
  sections : List Section := List.replicate 12 {}
  dyn : Option Dyn := none
  ambient : Option Ambient := none
  delay : Option Delay := none
  /-- Format for the next allocation, and the capacity last requested (R242). -/
  format : Nat := 0
  request : Nat := 0
  /-- Served in the last block. -/
  active : Bool := false
  /-- Variant in force 0 to 4, and when PROC.DEGRADED was posted (R234). -/
  variant : Nat := 0
  posted : Option Tick := none
  postedVariant : Nat := 0
  deriving DecidableEq, Repr

/-- A meter (R224): PEAK since the last report, mean square with 16 fraction bits, and STALE. -/
structure Meter where
  peak : Int := -1024
  /-- Mean square with 64 fraction bits. -/
  meanSq : Nat := 0
  stale : Bool := false
  deriving DecidableEq, Repr

/-- Audio matrix and processing (10). -/
structure Audio where
  dests : List Dest := []
  srcMeters : List (Nat × Meter) := []
  destMeters : List (Nat × Meter) := []
  /-- Extents of the delay pool in use (R225). -/
  used : List Nat := []
  /-- Output of the block processed at the last boundary, and of the one before (R208). -/
  next : List (Nat × List Int) := []
  out : List (Nat × List Int) := []
  /-- C3 work is admitted in this block (R381). -/
  c3 : Bool := false
  /-- Number of the firmware's assignment of C0 jobs to DSP pairs (R235), the model's own: it selects the free assignment. -/
  assignment : Nat := 0
  /-- Safe state was active with TDM_ZERO_EN set when the TDM frame of this tick began (R270). -/
  tdmSafe : Bool := false
  deriving DecidableEq, Repr

/-! ## Zones -/

/-- An event occurrence (R244): its tick, source, index and edge, and the zone it is for when it is for one. -/
structure Occ where
  tick : Tick
  src : Nat
  index : Nat
  edge : Nat
  zone : Option Nat := none
  deriving DecidableEq, Repr

/-- A zone and its machine (R243 to R253). -/
structure Zone where
  num : Nat
  /-- Machine copied from STATE table 192 + inst. -/
  inst : Nat
  prot : Bool
  state : Nat := 0
  queue : List Occ := []
  lost : Nat := 0
  lostPost : Option Tick := none
  /-- Action words to apply at the next boundary (R250). -/
  acts : List Word := []
  duck : Nat := 0
  /-- Zone-layer source, 0 for none. -/
  source : Nat := 0
  voice : Option Nat := none
  machineMute : Bool := false
  hostMute : Bool := false
  denied : Option Tick := none
  deriving DecidableEq, Repr

/-- A trigger input's debounce (R245). -/
structure TrigIn where
  level : Bool := false
  sample : Bool := false
  count : Nat := 0
  deriving DecidableEq, Repr

/-- Zones, triggers and heartbeat (11). -/
structure Zones where
  zones : List Zone := []
  /-- Occurrences since the last boundary. -/
  occs : List Occ := []
  /-- WAKE0 to 3 and GPIO0 to 7. -/
  inputs : List TrigIn := List.replicate 12 {}
  /-- The next sample is the first after an activation (R247). -/
  firstSample : Bool := false
  /-- The next sample delivers each input, and safe state, whose level differs from the recorded one (R255). -/
  resample : Bool := false
  /-- Heartbeat lost, and the tick of the last one (R254). -/
  hbLost : Bool := true
  hbTick : Tick := 0
  /-- A heartbeat arrived while lost; the return is due (R254). -/
  hbReturn : Bool := false
  /-- GPIO output levels and drive (R246). -/
  gpioOut : List (Option Bool) := List.replicate 8 none
  /-- Word b of the TYPE 9 entry of each GPIO output in force (R246). -/
  gpioCfg : List (Option Word) := List.replicate 8 none
  /-- The zone record in bank 0 verifies (R255), and whether safe state was active in it. -/
  recordOk : Bool := false
  recordSafe : Bool := false
  deriving DecidableEq, Repr

/-! ## Messages -/

/-- A message of an accepted library (R278, R280). -/
structure Msg where
  lib : Nat
  number : Nat
  emergency : Bool
  e : Nat
  /-- PIN of the record, and the pin in force with its origin (R293). -/
  pin : Nat
  samples : Nat
  frames : Nat
  /-- Absolute flash address of the payload, and its length. -/
  addr : Nat
  bytes : Nat
  record : List Byte
  pubkey : List Byte
  /-- Flash region of the bundle: offset and size. -/
  region : Nat × Nat
  verified : Bool := false
  failed : Bool := false
  pinned : Nat := 0
  deriving DecidableEq, Repr

/-- A frame of the message cache (R289): message and flash address of its payload, frame index, length and Stash rows. -/
structure CacheFrame where
  number : Nat
  base : Nat
  frame : Nat
  len : Nat
  rows : List Nat
  deriving DecidableEq, Repr

/-- A voice (R288). -/
structure Voice where
  msg : Msg
  /-- Next frame to fetch and its payload offset. -/
  frame : Nat := 0
  offset : Nat := 0
  /-- Decoded samples not yet sent. -/
  buffer : List Int := []
  sent : Nat := 0
  holding : Bool := true
  start : Tick := 0
  /-- The voice has started at a block boundary. -/
  started : Bool := false
  /-- The frame before failed (R284). -/
  failedLast : Bool := false
  /-- No more frames follow; reason of the end when the buffer is empty. -/
  ending : Option Nat := none
  /-- Zones that hold the voice; empty for a voice started by MSG.PLAY. -/
  zones : List Nat := []
  deriving DecidableEq, Repr

/-- A library load in progress (R294). -/
structure LibLoad where
  lib : Nat
  size : Nat
  offset : Nat
  ranges : List (Nat × Nat)
  deriving DecidableEq, Repr

/-- A flash-backed MSG operation in progress. -/
inductive MsgOp where
  | begin (lib size offset : Nat)
  | data (offset : Nat) (bytes : List Byte)
  | finish
  | delete (lib : Nat)
  | abort
  | pin (number secs : Nat) (start : Tick)
  deriving DecidableEq, Repr

/-- Message store (13). -/
structure Messages where
  msgs : List Msg := []
  /-- Messages whose verification was moved to the front (R281). -/
  front : List Nat := []
  cache : List CacheFrame := []
  voices : List (Option Voice) := List.replicate 16 none
  load : Option LibLoad := none
  op : Option MsgOp := none
  /-- Libraries checked under R279 since the start of the firmware. -/
  checked : List Nat := []
  deriving DecidableEq, Repr

/-! ## Flex ports -/

/-- A PD contract: voltage in V, maximum current in 10 mA (R326). -/
structure Contract where
  volt : Nat
  cur : Nat
  mismatch : Bool
  deriving DecidableEq, Repr

/-- A voltage transition or a pending PS_RDY (R329): the new contract, its reason, and whether the ramp has begun. -/
structure Trans where
  dst : Contract
  reason : Nat
  begun : Bool
  /-- A change of current only. -/
  same : Bool
  /-- Sample sets since the ramp reached its end and the pairs began to hand over (R329). -/
  hand : Option Nat := none
  deriving DecidableEq, Repr

/-- A VBUS ramp (R350): start and target in mV, sets elapsed, dissipation and fall-back energy in units of 0.1 pJ. -/
structure Ramp where
  start : Nat
  target : Nat
  sets : Nat
  energy : Nat
  fbEnergy : Nat
  deriving DecidableEq, Repr

/-- One flex port: Type-C, PD and eFuse (15, 16), PORT cluster. -/
structure Flex where
  role : PdRole := .unattached
  cc : CcState := .open
  cc2 : Bool := false
  /-- The partner is a PD partner, at revision 3.x. -/
  pd : Bool := false
  rev3 : Bool := true
  /-- A message of the partner has been received (R314). -/
  spoken : Bool := false
  /-- Rp level advertised: 0 default, 1 1.5 A, 2 3.0 A (R322). -/
  rp : Nat := 0
  vconn : Bool := false
  /-- VCONN stays off until detach (R333). -/
  vconnTrip : Bool := false
  /-- The device has been VCONN Sink after being asked to give it up (R334). -/
  vconnWasSink : Bool := false
  contract : Option Contract := none
  /-- PDOs offered last: volts and 10 mA (R325). -/
  offered : List (Nat × Nat) := []
  capsCount : Nat := 0
  /-- Tick of the last upward renegotiation (R328). -/
  capsTick : Tick := 0
  /-- New capabilities were sent and no valid Request has answered (R328). -/
  awaiting : Bool := false
  trans : Option Trans := none
  /-- Reason of the next contract: 0 first, 2 budget, 3 Soft_Reset, 4 Hard_Reset (R342). -/
  reason : Nat := 0
  hardResets : Nat := 0
  /-- Try.SRC since this tick: a Source was met, and the port presents Rp first (R316). -/
  trySince : Option Tick := none
  /-- A Hard_Reset sequence of R324 began at this tick, and its step 2 has been taken. -/
  hardFrom : Option Tick := none
  hardOff : Bool := false
  /-- VCONN returns with VBUS after the Hard_Reset. -/
  hardVconn : Bool := false
  /-- ErrorRecovery since this tick (R324). -/
  errorFrom : Option Tick := none
  /-- A partner removed during a transition: POWER at the detection and the ramp's energy in mJ, until VBUS is below 0.8 V (R332). -/
  removed : Option (Nat × Nat) := none
  /-- Code of the long PD command in progress on this port, and its answer after a Hard_Reset (R342). -/
  cmd : Option Nat := none
  /-- Allocation P, mW (R325). -/
  alloc : Nat := 2500
  /-- PMAX set by PD.SET_LIMIT, 100 mW (R342). -/
  pmax : Option Nat := none
  /-- Alternate mode entered, SBU switched to the loop, fault return asserted (R338). -/
  altMode : Bool := false
  loop : Bool := false
  faultRet : Bool := false
  /-- Discovery is due, by command or after the first contract (R336). -/
  discover : Bool := false
  /-- The device's own VCONN_Swap request: its target (R335), and Wait answers. -/
  swap : Option Bool := none
  swapWaits : Nat := 0
  /-- An Alert is due after the sequence in progress (R340). -/
  alertDue : Bool := false
  /-- Gates, discharge and its sets (R354). -/
  gate5 : Gate := .off
  gateH : Gate := .off
  disch : Bool := false
  dischSets : Nat := 0
  ramp : Option Ramp := none
  /-- Last sample set: currents in mA, VBUS in mV. -/
  iA : Int := 0
  iB : Int := 0
  vbus : Nat := 0
  /-- Thermal models in 1/256 K with 24 more fraction bits: poles 1 and 2 of the 5 V pair and the VHI pair (R346, log 20). -/
  d1 : Nat := 0
  d2 : Nat := 0
  h1 : Nat := 0
  h2 : Nat := 0
  fallback : Bool := false
  /-- Consecutive sets in which the readings differ, over OC, and over the fall-back power (R348, R352). -/
  diffSets : Nat := 0
  ocSets : Nat := 0
  fbSets : Nat := 0
  /-- Consecutive trips and short trips; the last trip was a short (R356). -/
  trips : Nat := 0
  shorts : Nat := 0
  shortLast : Bool := false
  /-- Latched off (R357), and probes that found Rd absent. -/
  latched : Bool := false
  absent : Nat := 0
  /-- Backoff in progress: its end (R355). -/
  backoff : Option Tick := none
  /-- Tick since which VBUS is at the contract voltage without a trip (R356). -/
  steadyFrom : Option Tick := none
  /-- Delivered energy in mJ, 36 bits, COLD, and the residue in units of 10 pJ (R360). -/
  energy : BitVec 36 := 0
  residue : Nat := 0
  deriving DecidableEq, Repr

/-- Rails and the power-fail warning (16). -/
structure Rails where
  vsrc5 : Nat := 0
  vsrch : Nat := 0
  vin : Nat := 0
  /-- PFAIL_WARN_N asserted (R361). -/
  pfail : Bool := false
  /-- The warning changed in SLEEP, and to what (R362). -/
  pfailSleep : Option Bool := none
  /-- VHI rail outside its window (R325). -/
  vhiBad : Bool := false
  deriving DecidableEq, Repr

/-- A port's part of the PORTSTAT snapshot (R89). -/
structure PortSnap where
  stat : Word := 0
  vbus : Word := 0
  current : Word := 0
  tmod : Word := 0
  energy : BitVec 36 := 0
  contract : Word := 0
  deriving DecidableEq, Repr

/-- The PORTSTAT snapshot (R89), WARM except energy, 0. -/
structure Snapshot where
  seq : Word := 0
  hs : Word := 0
  vin : Word := 0
  vsrc5 : Word := 0
  vsrch : Word := 0
  ports : List PortSnap := [{}, {}, {}, {}]
  deriving DecidableEq, Repr

/-! ## Power, Pavane and security -/

/-- A power-state entry or a wait for one (R372, R375). -/
inductive Entry where
  | none
  /-- SLEEP accepted, waiting until this tick for the upstream suspend. -/
  | waitSleep (till : Tick)
  /-- SLEEP entry began at this tick. -/
  | sleeping (since : Tick)
  /-- HIBERNATE accepted while a level change runs; its entry begins at the boundary after (R376). -/
  | toHibernate
  deriving DecidableEq, Repr

/-- Power states, levels and governor (17). -/
structure Power where
  state : PowerState := .run
  entry : Entry := .none
  /-- RUN or DOZE accepted; in force from the next block boundary (R385). -/
  request : Option PowerState := Option.none
  /-- The PWR.ENTER command whose completion follows the wake. -/
  entryCmd : Option LongCmd := Option.none
  /-- REENTER: the state to re-enter after Pavane (R377). -/
  reenter : Option PowerState := Option.none
  /-- State left at the last wake. -/
  left : PowerState := .run
  /-- A wake is recognised and waits for its completion: by a fault (R373). -/
  waking : Bool := false
  faultWake : Bool := false
  /-- Wake sources seen since the entry (R377). -/
  wokeBy : BitVec 8 := 0
  /-- Slow-clock periods spent in the low-power state so far (R62, R386). -/
  asleep : Nat := 0
  /-- Performance level in force (R363), PL_MOVING, and the level being moved to. -/
  pl : Nat := 0
  moving : Bool := false
  target : Nat := 0
  /-- Boundaries at which a slower level qualified (R382). -/
  downCount : Nat := 0
  /-- VDD_CORE set-point in mV, PWR_VCORE: WARM, 800. -/
  vcore : Nat := 800
  /-- Ageing offsets in force for PL0 to PL3, PWR_AGEOFS: WARM, 0. -/
  ageOfs : List Nat := [0, 0, 0, 0]
  pl0Retired : Bool := false
  /-- PWR_RETAIN bits 7 to 1, WARM, 0. -/
  retain : BitVec 8 := 0
  /-- Powered domains AON, SUP, DSP, LINK, FAB, PORT (PWR_DOMAIN). -/
  domains : BitVec 6 := 0x3F
  /-- Die temperatures, 0.125 degC (PWR_TEMP0 to 3), WARM, 0. -/
  temps : List Int := [0, 0, 0, 0]
  /-- Governed budget b in mW, PWR_BUDGET: WARM, 0. -/
  budget : Nat := 0
  govState : Nat := 0
  govPosted : Option Tick := Option.none
  govShown : Nat := 0
  pLast : Nat := 0
  /-- Device power outside the DSP cluster as last measured, mW (R380). -/
  pFix : Nat := 0
  /-- Exponential average of the device power, mW with 16 fraction bits (R380). -/
  pSlow : Nat := 0
  /-- Forecast Tp, 0.125 degC. -/
  tp : Int := 0
  /-- Admitted load, common C2 variant and C2 destinations in V4 (R384). -/
  load : Nat := 0
  c2Variant : Nat := 0
  v4 : Nat := 0
  deriving DecidableEq, Repr

/-- Result of the last Pavane run (R419), WARM. -/
structure PavResult where
  passed : Nat := 0
  failed : Nat := 0
  notRun : Nat := 0
  reason : Nat := 7
  duration : Nat := 0
  rtc : BitVec 36 := 0
  partner : Nat := 0
  sources : List (BitVec 12 × Bool) := []
  deriving DecidableEq, Repr

/-- A Pavane run in progress (R410): its results so far, and the levels that step 10 has measured, slowest first. -/
structure PavRun where
  start : Tick
  mask : Nat
  byCommand : Bool
  fromDoze : Bool
  cur : PavResult
  levels : Nat := 0
  deriving DecidableEq, Repr

/-- Pavane and ageing (19). -/
structure Pavane where
  run : Option PavRun := none
  result : PavResult := {}
  /-- TEST.ABORT was accepted, and an assertion occurrence came, since the run started (R413). -/
  abortReq : Bool := false
  trigger : Bool := false
  /-- Margins measured last, by level (R419). -/
  margin : List Nat := [0, 0, 0, 0]
  /-- A run has ended and TEST.DONE is due. -/
  doneDue : Bool := false
  /-- The last run was aborted: its steps, to resume with the results kept (R408). -/
  resume : Option Nat := none
  /-- Tick of the last complete run, or of the start (R409), and hours reported. -/
  lastComplete : Tick := 0
  overdueH : Nat := 0
  /-- End of the window of the last attempt, and the next attempt in it, in RTC seconds (R407, R408). -/
  windowEnd : Option Nat := none
  nextTry : Nat := 0
  /-- Provisional offsets not burned yet (R417). -/
  provisional : List Nat := [0, 0, 0, 0]
  /-- Margins of the last 30 complete runs by level, newest first (R418), WARM. -/
  margins : List (List Nat) := [[], [], [], []]
  gain : List Int := [15, 15, 15, 15]
  ratios : List Nat := [0, 0, 0, 0]
  notMeasured : List Bool := [true, true, true, true]
  deriving DecidableEq, Repr

/-- OTP (R22, R420): kept by every reset. The fuses burned one at a time in the field are stored three times. -/
structure Otp where
  root : BitVec 256 := Config.otpRoot
  vendorHash : BitVec 256 := Config.vendorHash
  /-- INT_HASH slots 0 to 3; none is blank. -/
  intHash : List (Option (BitVec 256)) := [none, none, none, none]
  die : BitVec 54 := Config.dieNumber
  /-- Factory baselines of the ageing monitors, by monitor and level (R416). -/
  baselines : BitVec 1536 := Config.ageBaselines
  /-- EPOCH fuses 0 to 7; fuse 0 is burned at manufacture. -/
  epochFuses : Trip 8 := ⟨1, 1, 1⟩
  /-- ANTIROLL, a thermometer code of 63 fuses. -/
  antirollFuses : Trip 63 := {}
  csigFuse : Trip 1 := {}
  exhaustedFuse : Trip 1 := {}
  /-- Ageing offsets, six fuses of thermometer code for each of PL0 to PL3, and the PL0 retirement fuse (R417). -/
  ageFuses : Trip 24 := {}
  pl0Fuse : Trip 1 := {}
  /-- Wrong bits of the 72-bit groups of the fields written whole, where there are any (R22): groups 0 to 3 ROOT, 4 to 7 VENDOR_HASH,
  8 + 4 k on INT_HASH k, 24 the die number, 25 on the baselines. -/
  wrong : List (Nat × Nat) := []
  deriving DecidableEq, Repr

/-- A host session of one path (R424, R426). -/
structure Session where
  key : List Byte
  enc : List Byte
  counter : Nat
  provisioning : Bool
  deriving DecidableEq, Repr

/-- The debug challenge (R431). -/
structure Challenge where
  nonce : List Byte
  scope : Nat
  start : Tick
  deriving DecidableEq, Repr

/-- A SEC.PROVISION in progress (R436). -/
inductive SecOp where
  | hak (key : List Byte)
  | actions (l : List Nat)
  | authLimit (n : Nat)
  | intHash (slot : Nat) (hash : BitVec 256)
  | csig
  deriving DecidableEq, Repr

/-- Kaolin vault, debug and tamper (20). -/
structure Security where
  otp : Otp := {}
  hak : Option (List Byte) := none
  actions : List Nat := [2, 1, 1, 1]
  authLimit : Nat := 8
  sessU : Option Session := none
  sessS : Option Session := none
  challenge : Option Challenge := none
  /-- Debug scope unlocked until the next reset: 0 none, 1 integrator, 2 vendor (R431). -/
  debug : Nat := 0
  /-- Ticks of authentication failures of the last 60 s (R432), and whether the count stands at the limit. -/
  authFails : List Tick := []
  authHigh : Bool := false
  /-- TAMP_STAT sources 2 and 3 whose assertion is due (R431, R432). -/
  tamperDue : BitVec 4 := 0
  op : Option SecOp := none
  /-- Tick since which a CTI has been active without warm reset or safe state (R429). -/
  stableFrom : Tick := 0
  deriving DecidableEq, Repr

/-! ## The whole state -/

/-- The state of the DH1812 block. -/
structure State where
  /-- Commands that wait, first in, first out. -/
  pending : List Instr := []
  /-- Outputs of the command executed last (log 5). -/
  out : List Out := []
  /-- Count of free values drawn (log 3). -/
  free : Nat := 0
  clk : Clock := {}
  boot : Boot := {}
  aon : Aon := {}
  win : Window := {}
  mbx : Mailbox := {}
  flt : Faults := {}
  cfg : Cfg := {}
  mem : Mem := {}
  hub : Hub := {}
  /-- Downstream ports 1 to 10. -/
  ports : List DownPortState := List.replicate 10 {}
  own : Owned := {}
  sw : Switch := {}
  aud : Audio := {}
  zon : Zones := {}
  msg : Messages := {}
  /-- Flex ports F1 to F4. -/
  flex : List Flex := List.replicate 4 {}
  rails : Rails := {}
  snap : Snapshot := {}
  pwr : Power := {}
  pav : Pavane := {}
  sec : Security := {}
  deriving DecidableEq, Repr

/-- The machine right after power-on reset (R437, R440, R441): every field at the value of its Reset column, flash erased and OTP
as manufactured. -/
def State.reset : State := {}

end Sys2Proof.Machine
end

