-- ==== Sys2Proof/Machine/Ops.lean ====
section
/-!
DEFINITION. The shared operations: byte memories (R22, R274), table parameters (R125), events and completion records (R106,
R109, R110), and the taking of a fault with its reactions and the entry into safe state (R387 to R402).
-/

namespace Sys2Proof.Machine

open Sys2Proof

/-! ## Byte memories -/

/-- What a Stash byte that nothing has written reads as (log 6). -/
def stashErased : Byte := 0

/-- What an erased flash byte reads as (log 6). -/
def flashErased : Byte := 0xFF

/-- The byte at an address. -/
def Memory.read (d : Byte) (m : Memory) (a : Nat) : Byte :=
  match m with
  | [] => d
  | (a', b) :: rest => if a' = a then b else Memory.read d rest a

/-- Write a byte, keeping the addresses rising and no entry equal to the default. -/
def Memory.write (d : Byte) (m : Memory) (a : Nat) (b : Byte) : Memory :=
  match m with
  | [] => if b = d then [] else [(a, b)]
  | (a', b') :: rest =>
    if a' = a then (if b = d then rest else (a, b) :: rest)
    else if a < a' then (if b = d then (a', b') :: rest else (a, b) :: (a', b') :: rest)
    else (a', b') :: Memory.write d rest a b

/-- Every listed address is above a bound, and they rise. -/
def Memory.above (lo : Nat) : Memory → Bool
  | [] => true
  | (a, _) :: rest => decide (lo ≤ a) && Memory.above (a + 1) rest

/-- The canonical form: rising addresses, no entry equal to the default. -/
def Memory.wf (d : Byte) (m : Memory) : Bool := Memory.above 0 m && m.all (fun c => c.2 != d)

/-- Write bytes from an address on. -/
def Memory.writeBytes (d : Byte) (m : Memory) (a : Nat) : List Byte → Memory
  | [] => m
  | b :: bs => Memory.writeBytes d (Memory.write d m a b) (a + 1) bs

/-- Read n bytes from an address on. -/
def Memory.readBytes (d : Byte) (m : Memory) (a n : Nat) : List Byte :=
  (List.range n).map (fun k => Memory.read d m (a + k))

/-- Return the bytes of a range to the default. -/
def Memory.erase (m : Memory) (a n : Nat) : Memory := m.filter (fun c => c.1 < a || a + n ≤ c.1)

/-- Bytes of flash from an address on. -/
def flashBytes (a n : Nat) (s : State) : List Byte := Memory.readBytes flashErased s.mem.flash a n

/-- Program flash bytes: programming writes the given bytes. -/
def flashWrite (a : Nat) (bs : List Byte) (s : State) : State :=
  { s with mem := { s.mem with flash := Memory.writeBytes flashErased s.mem.flash a bs } }

/-- Erase a flash range. -/
def flashErase (a n : Nat) (s : State) : State := { s with mem := { s.mem with flash := Memory.erase s.mem.flash a n } }

/-- First byte address of a Stash bank's row (R22, R115): nine bytes a row. -/
def stashAddr (bank row : Nat) : Nat := 9 * (65536 * bank + row)

/-- Bytes of Stash from an address on. -/
def stashBytes (a n : Nat) (s : State) : List Byte := Memory.readBytes stashErased s.mem.stash a n

/-- Write Stash bytes. -/
def stashWrite (a : Nat) (bs : List Byte) (s : State) : State :=
  { s with mem := { s.mem with stash := Memory.writeBytes stashErased s.mem.stash a bs } }

/-- Clear Stash rows. -/
def stashClear (a n : Nat) (s : State) : State := { s with mem := { s.mem with stash := Memory.erase s.mem.stash a n } }

/-- A 72-bit row as nine bytes, least significant first (R115). -/
def rowBytes (r : Row) : List Byte := (List.range 9).map (fun k => BitVec.ofNat 8 (r.toNat / 256 ^ k))

/-- Bytes as a number, least significant first. -/
def ofBytesLE : List Byte → Nat
  | [] => 0
  | b :: bs => b.toNat + 256 * ofBytesLE bs

/-- Bytes as a number, most significant first. -/
def ofBytesBE (bs : List Byte) : Nat := bs.foldl (fun acc b => acc * 256 + b.toNat) 0

/-- A number as n bytes, least significant first. -/
def toBytesLE (n v : Nat) : List Byte := (List.range n).map (fun k => BitVec.ofNat 8 (v / 256 ^ k))

/-- A number as n bytes, most significant first. -/
def toBytesBE (n v : Nat) : List Byte := (toBytesLE n v).reverse

/-- The four words of a row held as nine bytes (R115). -/
def rowWords (bs : List Byte) : List Word := wordsOf (ofBytesLE bs) 4

/-- The bytes of words taken four to a row (R115). -/
def wordsToRows : List Word → List Byte
  | w0 :: w1 :: w2 :: w3 :: rest => toBytesLE 9 (ofWords [w0, w1, w2, w3]) ++ wordsToRows rest
  | [] => []
  | part => toBytesLE 9 (ofWords part)

/-- Words carrying byte pairs: byte 2k times 256 plus byte 2k + 1 (R111). -/
def pairWords : List Byte → List Word
  | a :: b :: rest => w18 (a.toNat * 256 + b.toNat) :: pairWords rest
  | [a] => [w18 (a.toNat * 256)]
  | [] => []

/-- The bytes that words carry in pairs (R111). -/
def pairBytes (ws : List Word) : List Byte :=
  ws.flatMap (fun w => [BitVec.ofNat 8 (w.toNat / 256), BitVec.ofNat 8 w.toNat])

/-! ## Free values and time -/

/-- A free value of w bits, and the state with the count advanced (log 3). -/
def drawBits (w : Nat) (s : State) : BitVec w × State := (Config.freeBits w s.free, { s with free := s.free + 1 })

/-- Ticks since an earlier tick. -/
def since (t : Tick) (s : State) : Nat := (s.clk.tick - t).toNat

/-- The tick counter stands at a block boundary (R65). -/
def atBlock (s : State) : Bool := s.clk.tick.toNat % 16 == 0

/-- The firmware runs: events are posted, commands are taken. -/
def fwRuns (s : State) : Bool := s.boot.phase == .running || s.boot.phase == .starting

/-- Record an output of the command in execution (log 5). -/
def emit (o : Out) (s : State) : State := { s with out := s.out ++ [o] }

/-- The state with its output record emptied, as each command finds it (log 5). -/
def fresh (s : State) : State := { s with out := [] }

/-! ## Tables (R125) -/

/-- Words of a table in a list of tables. -/
def tableIn (ts : List Table) (tid : Nat) : Option (List Word) := (ts.find? (fun t => t.tid == tid)).map (·.words)

/-- Parameter p of a PARAM table: word p when COUNT reaches it, else its default (R125). -/
def paramOf (ws : List Word) (p d : Nat) : Nat :=
  match ws with
  | [] => d
  | c :: _ => if p ≤ c.toNat then (ws.getD p (w18 d)).toNat else d

/-- Parameter p of a live table. -/
def param (tid p d : Nat) (s : State) : Nat :=
  match tableIn s.cfg.live tid with
  | some ws => paramOf ws p d
  | none => d

/-- A signed parameter of a live table. -/
def paramInt (tid p : Nat) (d : Int) (s : State) : Int := signedField (param tid p (w18i d).toNat s) 18

/-- Parameter p of table 0, as in force since the last activation (R126, R134). -/
def boardParam (p d : Nat) (s : State) : Nat := param 0 p d s

/-- QUIET_TIME in ms (R405, R406). -/
def quietTime (s : State) : Nat := match s.flt.quietSet with | some (q, _, _) => q | none => param 384 1 2000 s

/-- RECOVERY_LIMIT in exits (R405, R406). -/
def recoveryLimit (s : State) : Nat := match s.flt.quietSet with | some (_, l, _) => l | none => param 384 2 5 s

/-- RECOVERY_WINDOW in minutes (R405, R406). -/
def recoveryWindow (s : State) : Nat := match s.flt.quietSet with | some (_, _, w) => w | none => param 384 3 60 s

/-- AUTO_ACK in s, 0 never (R405). -/
def autoAck (s : State) : Nat := param 384 4 60 s

/-! ## Mailbox words, events and completion records -/

/-- The number of ones in the low k bits of n. -/
def popBits : Nat → Nat → Nat
  | 0, _ => 0
  | k + 1, n => n % 2 + popBits k (n / 2)

/-- Odd parity over data and end mark (R90). -/
def oddParity (d : Word) (e : Bool) : Bool := (popBits 18 d.toNat + bit e) % 2 == 0

/-- A word as its writer puts it into a queue, parity included (R90). -/
def mbxWord (d : Word) (e : Bool) : MbxWord := ⟨d, e, oddParity d e⟩

/-- The word fails its parity check (R90). -/
def MbxWord.poisoned (w : MbxWord) : Bool := w.parity != oddParity w.data w.endMark

/-- Words as a packet, the last with the end mark (R90). -/
def packetWords : List Word → List MbxWord
  | [] => []
  | [w] => [mbxWord w true]
  | w :: ws => mbxWord w false :: packetWords ws

/-- Words that an outbound queue holds. -/
def queueWords (q : List OutPacket) : Nat := (q.map (fun p => p.words.length)).sum

/-- The three words of a tick (R110). -/
def tickWords (t : Tick) : List Word := wordsOf t.toNat 3

/-- The SuperSpeed link states in which the function is on the USB 3 hub (R142). -/
def onUsb3 (l : LinkState) : Bool :=
  match l with
  | .u0 => true
  | .u1 => true
  | .u2 => true
  | .u3 => true
  | .recovery => true
  | .disabled => false
  | .inactive => false
  | .rxDetect => false

/-- Remote wake toward the host (R163): K on USB 2.0; on SuperSpeed the U3 exit and Function Wake. -/
def signalWake (s : State) : State :=
  if onUsb3 s.hub.ssLink then emit .functionWake (emit .wakeU3Exit s) else emit .wakeK s

/-- Request remote wake while the face is suspended (R163): the signal upstream, and the report after the resume (R164). -/
def requestWake (s : State) : State :=
  if s.hub.suspended && !s.hub.wakePending then
    signalWake { s with hub := { s.hub with wakePending := true, wakeReport := true } }
  else s

/-- An event enters the queue with the next sequence number (R110). -/
def queueEvent (w0 : Word) (params : List Word) (t : Tick) (s : State) : State :=
  { s with mbx := { s.mbx with
      event := s.mbx.event ++ [{ words := packetWords (w0 :: s.mbx.eventSeq :: tickWords t ++ params) }]
      eventSeq := s.mbx.eventSeq + 1 } }

/-- The event queue has room for an event: it would leave at least 6 free words (R110). -/
def eventFits (params : List Word) (s : State) : Bool := queueWords s.mbx.event + 5 + params.length + 6 ≤ 1024

/-- A function that only port 11 suspends resumes on it (R162, R163): the port shows the end of the suspension, and PORT.REMOTE_WAKE
follows the resume (R164). -/
def resumeFunction (s : State) : State :=
  let x := s.hub.port11
  let y := if s.hub.functionUsb3 then { x with suspend := false, linkReq := 0, cLinkState := true }
    else { x with suspend := false, cSuspend := true }
  let s := { s with hub := { s.hub with port11 := y } }
  let ps := [w18 s.aon.wakeCause.toNat]
  if eventFits ps s then queueEvent 0o030201 ps s.clk.tick s
  else { s with mbx := { s.mbx with lost := min 262143 (s.mbx.lost + 1), eventSeq := s.mbx.eventSeq + 1 } }

/-- Put an event with the next sequence number into the event queue (R110); it requests remote wake while the function is
suspended with remote wake enabled (R163). -/
def enqueueEvent (w0 : Word) (params : List Word) (t : Tick) (s : State) : State :=
  let s := queueEvent w0 params t s
  if !s.hub.function.remoteWake then s
  else if s.hub.suspended then requestWake s
  else if s.hub.connected && s.hub.port11.suspend then resumeFunction s
  else s

/-- Post an event (R110): dropped and counted without room; SYS.EVENTS_LOST first when events were dropped.
DEDUCED (log 46): room is tested before SYS.EVENTS_LOST is placed, which takes the reserved words, so fewer than 6 may stay free behind it. -/
def postAt (w0 : Word) (params : List Word) (t : Tick) (s : State) : State :=
  if eventFits params s then
    let s := if s.mbx.lost = 0 then s
      else
        let s := enqueueEvent 0o010301 [w18 (min s.mbx.lost 262143)] s.clk.tick s
        { s with mbx := { s.mbx with lost := 0 } }
    enqueueEvent w0 params t s
  else { s with mbx := { s.mbx with lost := min 262143 (s.mbx.lost + 1), eventSeq := s.mbx.eventSeq + 1 } }

/-- Raise an event: held until SYS.STARTED during a start (R444), else posted. -/
def post (w0 : Word) (params : List Word) (s : State) : State :=
  if s.boot.started then postAt w0 params s.clk.tick s
  else { s with boot := { s.boot with held := s.boot.held ++ [⟨w0, params, s.clk.tick⟩] } }

/-- PATH code of a mailbox (R107). -/
def boxCode : Box → Nat
  | .u => 0
  | .s => 1

/-- Completion records of a mailbox, newest first (R109). -/
def records (b : Box) (s : State) : List Completion := match b with | .u => s.mbx.doneU | .s => s.mbx.doneS

/-- Replace a mailbox's completion records. -/
def setRecords (b : Box) (l : List Completion) (s : State) : State :=
  match b with
  | .u => { s with mbx := { s.mbx with doneU := l } }
  | .s => { s with mbx := { s.mbx with doneS := l } }

/-- File a completion record; the newest 64 are kept (R109). -/
def fileRecord (b : Box) (c : Completion) (s : State) : State := setRecords b ((c :: records b s).take 64) s

/-- Put the final status into the newest in-progress record of a command (R109). -/
def finishRecord (w0 seq status : Word) : List Completion → List Completion
  | [] => []
  | c :: cs =>
    if c.inProgress && c.word0 == w0 && c.seq == seq then { c with status := status, inProgress := false } :: cs
    else c :: finishRecord w0 seq status cs

/-- A long command ends: its record takes the final status and SYS.CMD_DONE is posted (R106, R109). -/
def cmdDone (l : LongCmd) (status : Nat) (s : State) : State :=
  let s := setRecords l.box (finishRecord l.word0 l.seq (w18 status) (records l.box s)) s
  let s := { s with mbx := { s.mbx with long := s.mbx.long.filter (fun x => x.group != l.group) } }
  post 0o010104 [l.word0, l.seq, w18 status, w18 (boxCode l.box * 65536)] s

/-- The long command of a group in progress (R106). -/
def longOf (group : Nat) (s : State) : Option LongCmd := s.mbx.long.find? (fun l => l.group == group)

/-- End the long command of a group when one is in progress. -/
def groupDone (group status : Nat) (s : State) : State :=
  match longOf group s with
  | some l => cmdDone l status s
  | none => s

/-! ## Status codes (R108) -/

/-- OK. -/
def stOk : Nat := 0
/-- BUSY. -/
def stBusy : Nat := 1
/-- BAD_CMD. -/
def stBadCmd : Nat := 2
/-- BAD_PARAM. -/
def stBadParam : Nat := 3
/-- AUTH_REQUIRED. -/
def stAuthRequired : Nat := 4
/-- AUTH_FAIL. -/
def stAuthFail : Nat := 5
/-- STATE. -/
def stState : Nat := 6
/-- RESOURCE. -/
def stResource : Nat := 7
/-- POISON. -/
def stPoison : Nat := 8
/-- TIMEOUT. -/
def stTimeout : Nat := 9

/-! ## Triplicated fields (R83) -/

/-- Bitwise majority of three copies. -/
def Trip.vote {n : Nat} (t : Trip n) : BitVec n := (t.a &&& t.b) ||| (t.a &&& t.c) ||| (t.b &&& t.c)

/-- The copies agree. -/
def Trip.agrees {n : Nat} (t : Trip n) : Bool := t.a == t.b && t.b == t.c

/-- Three equal copies. -/
def Trip.of {n : Nat} (v : BitVec n) : Trip n := ⟨v, v, v⟩

/-- One copy replaced. -/
def Trip.upset {n : Nat} (t : Trip n) (k : Fin 3) (v : BitVec n) : Trip n :=
  match k with
  | 0 => { t with a := v }
  | 1 => { t with b := v }
  | 2 => { t with c := v }

/-! ## OTP (R22, R420) -/

/-- Burn fuses in all three copies; a burned fuse reads 1 for ever (R420). -/
def Trip.burn {n : Nat} (t : Trip n) (m : BitVec n) : Trip n := ⟨t.a ||| m, t.b ||| m, t.c ||| m⟩

/-- EPOCH: the index of the highest burned fuse (R420). -/
def Otp.epoch (o : Otp) : Nat := (List.range 8).foldl (fun m k => if bitOf o.epochFuses.vote.toNat k then k else m) 0

/-- ANTIROLL: the number of burned fuses of its thermometer code (R420). -/
def Otp.antiroll (o : Otp) : Nat := popBits 63 o.antirollFuses.vote.toNat

/-- CSIG_REQ. -/
def Otp.csigReq (o : Otp) : Bool := o.csigFuse.vote == 1

/-- EXHAUSTED. -/
def Otp.exhausted (o : Otp) : Bool := o.exhaustedFuse.vote == 1

/-- Burned ageing offsets of PL0 to PL3 (R417). -/
def Otp.ageOfs (o : Otp) : List Nat := (List.range 4).map (fun l => popBits 6 (o.ageFuses.vote.toNat / 64 ^ l))

/-- PL0 is retired (R417). -/
def Otp.pl0Retired (o : Otp) : Bool := o.pl0Fuse.vote == 1

/-- Burn the fuse of the next epoch. -/
def Otp.burnEpoch (o : Otp) : Otp := { o with epochFuses := o.epochFuses.burn (1#8 <<< (o.epoch + 1)) }

/-- Burn ANTIROLL up to a count. -/
def Otp.burnAntiroll (n : Nat) (o : Otp) : Otp := { o with antirollFuses := o.antirollFuses.burn (BitVec.ofNat 63 (2 ^ n - 1)) }

/-- Burn CSIG_REQ. -/
def Otp.burnCsig (o : Otp) : Otp := { o with csigFuse := o.csigFuse.burn 1 }

/-- Burn EXHAUSTED. -/
def Otp.burnExhausted (o : Otp) : Otp := { o with exhaustedFuse := o.exhaustedFuse.burn 1 }

/-- Burn ageing offsets up to those given, one fuse a step and level. -/
def Otp.burnAge (l : List Nat) (o : Otp) : Otp :=
  { o with ageFuses := o.ageFuses.burn (BitVec.ofNat 24 (((List.range 4).map (fun k => (2 ^ l.getD k 0 - 1) * 64 ^ k)).sum)) }

/-- Burn the retirement of PL0. -/
def Otp.burnPl0 (o : Otp) : Otp := { o with pl0Fuse := o.pl0Fuse.burn 1 }

/-- The copies of every triple-stored field agree. -/
def Otp.agrees (o : Otp) : Bool :=
  o.epochFuses.agrees && o.antirollFuses.agrees && o.csigFuse.agrees && o.exhaustedFuse.agrees && o.ageFuses.agrees && o.pl0Fuse.agrees

/-- Wrong bits for a defect to leave in a 72-bit group: one is corrected at each read; with two or more the group's 64 data bits are no
longer known, so they are a free value (R22, log 3). -/
def Otp.spoil (g n : Nat) (v : BitVec 64) (o : Otp) : Otp :=
  let put := fun {w : Nat} (x : BitVec w) (k : Nat) =>
    if n < 2 then x else BitVec.ofNat w (x.toNat % 2 ^ (64 * k) + v.toNat * 2 ^ (64 * k) + x.toNat / 2 ^ (64 * k + 64) * 2 ^ (64 * k + 64))
  let o := { o with wrong := insertKey o.wrong g n }
  if g < 4 then { o with root := put o.root g }
  else if g < 8 then { o with vendorHash := put o.vendorHash (g - 4) }
  else if g < 24 then { o with intHash := listModify o.intHash ((g - 8) / 4) (fun h => h.map (fun x => put x (g % 4))) }
  else if g = 24 then { o with die := put o.die 0 }
  else { o with baselines := put o.baselines (g - 25) }

/-! ## Fault sources (R387, R388) -/

/-- Number of the last block of a cluster (R15). -/
def lastBlock (cluster : Nat) : Nat :=
  match cluster with
  | 0 => 10
  | 1 => 8
  | 2 => 6
  | 3 => 13
  | 4 => 13
  | _ => 8

/-- Class, default severity and default FAULT_N of a source by cluster, block and cause, cause 15 apart (R388). -/
def causeDef (cluster block cause : Nat) : Option (Nat × Nat × Bool) :=
  match cluster, block, cause with
  | 0, 0, 0 => some (2, 5, true)
  | 0, 1, 0 => some (1, 5, true)
  | 0, 2, 0 => some (1, 4, true)
  | 0, 2, 1 => some (0, 0, false)
  | 0, 3, 0 => some (1, 1, false)
  | 0, 3, 1 => some (12, 1, false)
  | 0, 4, 0 => some (1, 0, false)
  | 0, 5, 0 => some (1, 0, false)
  | 0, 6, 0 => some (1, 0, false)
  | 0, 7, 0 => some (8, 4, true)
  | 0, 8, 0 => some (1, 4, false)
  | 0, 9, 0 => some (11, 1, false)
  | 0, 9, 1 => some (11, 1, false)
  | 0, 9, 2 => some (11, 1, false)
  | 0, 9, 3 => some (11, 1, false)
  | 0, 9, 4 => some (12, 1, false)
  | 0, 10, 0 => some (11, 1, false)
  | 0, 10, 1 => some (0, 0, false)
  | 0, 10, 2 => some (1, 1, false)
  | 1, b, k =>
    if b < 8 then (if k = 0 then some (1, 3, false) else none)
    else if b = 8 then (if k < 4 then some (3, 5, true) else none)
    else none
  | 2, 0, 0 => some (1, 3, false)
  | 2, 1, 0 => some (1, 3, false)
  | 2, 1, 1 => some (10, 1, false)
  | 2, 2, 0 => some (1, 3, false)
  | 2, 3, 0 => some (1, 3, false)
  | 2, 6, 0 => some (1, 3, false)
  | 2, 4, 0 => some (1, 1, false)
  | 2, 5, 0 => some (1, 1, false)
  | 3, 0, 0 => some (8, 1, false)
  | 3, 1, 0 => some (1, 1, false)
  | 3, 1, 1 => some (0, 0, false)
  | 3, 1, 2 => some (1, 1, false)
  | 3, 2, 0 => some (1, 1, false)
  | 3, 3, k => if k < 9 then some (4, 1, false) else none
  | 3, 4, 0 => some (1, 1, false)
  | 3, 4, 1 => some (11, 1, false)
  | 3, 13, 0 => some (8, 1, false)
  | 3, b, k =>
    if 5 ≤ b ∧ b ≤ 12 then
      (match k with
      | 0 => some (1, 1, false)
      | 1 => some (0, 0, false)
      | 2 => some (1, 1, false)
      | 3 => if b = 12 then some (1, 1, false) else none
      | _ => none)
    else none
  | 4, 2, 0 => some (9, 1, false)
  | 4, 2, 1 => some (10, 1, false)
  | 4, 3, 0 => some (6, 1, false)
  | 4, 10, k => if k < 6 then some (9, 1, false) else none
  | 4, 13, 0 => some (1, 1, false)
  | 4, 13, 1 => some (8, 1, false)
  | 4, b, k =>
    if 4 ≤ b ∧ b ≤ 7 then
      (if 1 ≤ k ∧ k ≤ 7 then some (9, 1, false) else if k = 8 then some (6, 1, false) else none)
    else none
  | 5, 0, 0 => some (6, 4, true)
  | 5, 3, k => if k < 4 then some (12, 1, false) else none
  | 5, 4, 0 => some (5, 5, true)
  | 5, 4, 1 => some (5, 5, true)
  | 5, 4, 2 => some (5, 1, false)
  | 5, 4, 3 => some (5, 5, true)
  | 5, 4, 4 => some (5, 1, false)
  | 5, 5, 0 => some (7, 1, false)
  | 5, 5, 1 => some (7, 1, false)
  | 5, 6, 0 => some (6, 1, false)
  | 5, 6, 1 => some (6, 5, true)
  | 5, 7, 0 => some (6, 1, false)
  | 5, 7, 1 => some (6, 1, false)
  | 5, 8, 0 => some (13, 5, true)
  | 5, 8, 1 => some (11, 5, true)
  | _, _, _ => none

/-- Class, default severity and default FAULT_N of a source ID (R16, R388). -/
def sourceDef (src : Nat) : Option (Nat × Nat × Bool) :=
  let cluster := src / 512
  let block := src / 16 % 32
  let cause := src % 16
  if cluster < 6 ∧ block ≤ lastBlock cluster then
    (if cause = 15 then some (14, 1, false) else causeDef cluster block cause)
  else none

/-- The two fixed sources (R388). -/
def fixedSource (src : Nat) : Bool := src == 0o5200 || src == 0o5201

/-- Every defined source in ascending order (R388). -/
def allSources : List Nat := (List.range 3072).filter (fun k => (sourceDef k).isSome)

/-- The severity entry of a source as stored: [3] FAULTN_EN, [2:0] severity; 0 for an undefined source (R389). -/
def sevEntry (src : Nat) (s : State) : Trip 4 :=
  match sourceDef src with
  | none => {}
  | some (_, sev, fn) => lookupD s.flt.sev src (Trip.of (BitVec.ofNat 4 (bit fn * 8 + sev)))

/-- Class of a source, 15 for an undefined one. -/
def sourceClass (src : Nat) : Nat := match sourceDef src with | some (c, _, _) => c | none => 15

/-- A fault of the source is unacknowledged (R391). -/
def isUnacked (src : BitVec 12) (s : State) : Bool := s.flt.unacked.any (fun u => u.source == src)

/-- The source's block is marked OFF (R399). -/
def blockOff (src : BitVec 12) (s : State) : Bool :=
  bitOf (s.flt.off.getD (src.toNat / 512) 0).toNat (src.toNat / 16 % 32)

/-- Add to a source's occurrence count, which holds at 262 143 (R402). -/
def countFault (src : BitVec 12) (s : State) : State :=
  { s with flt := { s.flt with
      counts := insertKey s.flt.counts src.toNat (min 262143 (lookupD s.flt.counts src.toNat 0 + 1)) } }

/-- Latch the block's status bit (R391). -/
def latchStatus (src : BitVec 12) (s : State) : State :=
  let c := src.toNat / 512
  { s with flt := { s.flt with
      status := listModify s.flt.status c (fun w => w ||| (1#18 <<< (src.toNat / 16 % 32))) } }

/-- A line of the block is asserted. -/
def lineOfBlock (c b : Nat) (s : State) : Bool := s.flt.lines.any (fun l => l.toNat / 512 == c && l.toNat / 16 % 32 == b)

/-- A fault of the block is unacknowledged. -/
def unackedOfBlock (c b : Nat) (s : State) : Bool :=
  s.flt.unacked.any (fun u => u.source.toNat / 512 == c && u.source.toNat / 16 % 32 == b)

/-- Clear the status bits of blocks whose faults are all acknowledged and whose lines are deasserted (R391). -/
def settleStatus (s : State) : State :=
  { s with flt := { s.flt with
      status := (List.range 6).map (fun c =>
        BitVec.ofNat 18 (((List.range 18).map (fun b =>
          if bitOf (s.flt.status.getD c 0).toNat b && (unackedOfBlock c b s || lineOfBlock c b s) then 2 ^ b else 0)).sum)) } }

/-- Write one history entry; 16 are held, the oldest goes (R401). -/
def addHistory (src : BitVec 12) (cls sev : Nat) (esc : Bool) (s : State) : State :=
  { s with aon := { s.aon with
      hist := ({ ts := BitVec.ofNat 34 (s.clk.tick.toNat / 16), source := src, cls := BitVec.ofNat 4 cls,
                 severity := BitVec.ofNat 3 sev, esc := esc } :: s.aon.hist).take 16 } }

/-- Start or restart the quiet period, at the QUIET_TIME in force now (R397, R406). -/
def restartQuiet (s : State) : State :=
  { s with flt := { s.flt with quietFrom := s.clk.tick, quietMs := quietTime s } }

/-- Exits within the last RECOVERY_WINDOW (R398). -/
def recentExits (s : State) : Nat :=
  (s.flt.exits.filter (fun t => (s.clk.tick - t).toNat ≤ recoveryWindow s * 60 * Config.tkPerS)).length

/-- Queue an occurrence for the zone machines (R244, R248). -/
def zoneOcc (src index edge : Nat) (zone : Option Nat) (s : State) : State :=
  { s with zon := { s.zon with occs := s.zon.occs ++ [⟨s.clk.tick, src, index, edge, zone⟩] } }

/-- Outputs with SAFE_OVR take SAFE_LEVEL on entry into safe state (R246). -/
def driveSafeOutputs (s : State) : State :=
  { s with zon := { s.zon with
      gpioOut := (s.zon.gpioOut.zip s.zon.gpioCfg).map (fun g =>
        match g.2 with
        | some b => if b.bit 13 && g.1.isSome then some (b.bit 12) else g.1
        | none => g.1) } }

/-- Enter safe state as a source, with a reason of SAFE.ENTERED (R396, R398); only while it is not active. -/
def enterSafe (src : BitVec 12) (reason : Nat) (s : State) : State :=
  if s.aon.safeActive then s
  else
    let latch := s.aon.safeLatched || recoveryLimit s ≤ recentExits s
    let s := { s with aon := { s.aon with safeActive := true, safeLatched := latch } }
    let s := { s with flt := { s.flt with entrySource := src, enteredDue := some reason } }
    zoneOcc 6 0 0 none (driveSafeOutputs (restartQuiet s))

/-- NMI_EN of FLT_SAFECTL. -/
def nmiEn (s : State) : Bool := bitOf s.win.safectl.vote.toNat 3
/-- SBU_STOP_EN of FLT_SAFECTL. -/
def sbuStopEn (s : State) : Bool := bitOf s.win.safectl.vote.toNat 2
/-- TDM_ZERO_EN of FLT_SAFECTL. -/
def tdmZeroEn (s : State) : Bool := bitOf s.win.safectl.vote.toNat 1
/-- TAG_FAIL_EN of FLT_SAFECTL. -/
def tagFailEn (s : State) : Bool := bitOf s.win.safectl.vote.toNat 0

/-- RST_CAUSE bit of a cause (R89). -/
def warmBit : WarmCause → Nat
  | .fault => 3
  | .watchdog => 2
  | .command => 4

/-- Request a warm chip reset; while one has not reached activation, only the cause's bit is added (R439). -/
def requestWarm (c : WarmCause) (s : State) : State :=
  if s.boot.warmBusy then { s with aon := { s.aon with rstCause := s.aon.rstCause ||| (1#7 <<< warmBit c) } }
  else { s with boot := { s.boot with warmReq := s.boot.warmReq ++ [c] } }

/-- The reactions to an applied severity (R390). LOG.FAULT of the fault that causes a warm chip reset is posted after the reset. -/
def react (src : BitVec 12) (cls sev : Nat) (esc : Bool) (s : State) : State :=
  let words := [w18 src.toNat, w18 (cls * 16384 + sev * 2048 + bit esc * 1024)]
  let first := decide (sev = 4) && s.boot.resetFault.isNone && !s.boot.warmBusy
  let s := if first then s else post 0o140102 words s
  let s := if 2 ≤ sev ∧ (sev ≠ 5 ∨ nmiEn s) then { s with flt := { s.flt with nmis := s.flt.nmis + 1 } } else s
  let s := if sev = 3 ∨ sev = 4 then { s with flt := { s.flt with blockResets := s.flt.blockResets ++ [src] } } else s
  if sev = 4 then
    let e : HeldEvent := ⟨0o140102, words, s.clk.tick⟩
    requestWarm (if src = 0o0160 then .watchdog else .fault)
      { s with boot := { s.boot with resetFault := if first then some e else s.boot.resetFault } }
  else s

/-- A fault counts for the quiet period: it restarts while safe state is active (R397), and a SAFE.RELEASE of this block fails (R404). -/
def countingFault (s : State) : State :=
  let s := { s with flt := { s.flt with releaseBroken := true } }
  if s.aon.safeActive then restartQuiet s else s

/-- A repeat of an unacknowledged fault (R392). -/
def repeatFault (src : BitVec 12) (s : State) : State :=
  let five := s.flt.unacked.any (fun u => u.source == src && u.severity == 5)
  let s := countFault src s
  let s := { s with flt := { s.flt with
    unacked := s.flt.unacked.map (fun u => if u.source == src then { u with last := s.clk.tick } else u) } }
  if five then countingFault s else s

/-- Other sources of the cluster with an unacknowledged fault of the class (R393). -/
def sameClassUnacked (src : BitVec 12) (s : State) : Nat :=
  (s.flt.unacked.filter (fun u => u.source != src && u.source.toNat / 512 == src.toNat / 512
    && sourceClass u.source.toNat == sourceClass src.toNat)).length

/-- The severity applied to a configured one (R390, R393). -/
def appliedSeverity (src : BitVec 12) (conf n : Nat) : Nat :=
  let sev := min 5 (conf + n)
  if sev = 3 ∧ (src.toNat / 512 = 0 ∨ src.toNat / 16 = 0o5200 / 16) then 4 else sev

/-- Take a fault at a configured severity: the collector's handling of one newly latched fault (R393), with the entry into
safe state for a reason of SAFE.ENTERED. This is the one operation by which every source faults. -/
def takeFault (src : BitVec 12) (conf reason : Nat) (s : State) : State :=
  let s := latchStatus src s
  if isUnacked src s then repeatFault src s
  else
    let n := sameClassUnacked src s
    let sev := appliedSeverity src conf n
    let esc := decide (0 < n)
    let s := countFault src s
    let cls := sourceClass src.toNat
    if sev = 0 then zoneOcc 5 cls 0 none (settleStatus s)
    else
      let s := { s with flt := { s.flt with unacked := s.flt.unacked ++ [⟨src, sev, s.clk.tick⟩] } }
      let s := addHistory src cls sev esc s
      let s := zoneOcc 5 cls 0 none (countingFault (react src cls sev esc s))
      if sev = 5 then enterSafe src reason s else s

/-- A fault of a source, unless its block is marked OFF or the source is undefined (R393, R399). -/
def raiseFault (src : BitVec 12) (s : State) : State :=
  if blockOff src s || (sourceDef src.toNat).isNone then s
  else takeFault src ((sevEntry src.toNat s).vote.toNat % 8) (if src = 0o5201 then 2 else 0) s

/-- The firmware reads OTP whole, at its start and for SYS.INFO: the faults of block 10 of cluster SUP (R22, R388). -/
def readOtp (s : State) : State :=
  let o := s.sec.otp
  let s := if o.agrees then s else raiseFault 0o0240 s
  let s := if o.wrong.any (fun x => x.2 == 1) then raiseFault 0o0241 s else s
  if o.wrong.any (fun x => decide (2 ≤ x.2)) then raiseFault 0o0242 s else s

/-- A triplicated disagreement of FLT_SAFECTL or a severity entry: source 0o0_220 at severity 5 (R83, R396). An earlier fault of the
source that stands unacknowledged at a lower severity does not make it a repeat: it enters safe state directly. -/
def raiseDisagreement (s : State) : State :=
  let keep := fun (u : Unacked) => u.source != 0o0220 || u.severity == 5
  takeFault 0o0220 5 3 { s with flt := { s.flt with unacked := s.flt.unacked.filter keep } }

/-- Note whether a source's line stays asserted. -/
def setLine (src : BitVec 12) (on : Bool) (s : State) : State :=
  let others := s.flt.lines.filter (fun l => l != src)
  { s with flt := { s.flt with lines := if on then others ++ [src] else others } }

/-- The faults latched in one fabric cycle, in ascending order of source ID (R393). -/
def latchFaults (fs : List (BitVec 12 × Bool)) (s : State) : State :=
  (sortBy (fun a b => decide (a.1.toNat < b.1.toNat)) fs).foldl (fun s f =>
    if (sourceDef f.1.toNat).isSome && !blockOff f.1 s then raiseFault f.1 (setLine f.1 f.2 s) else s) s

/-- Count a correction of a triplicated field; GUARD_VOTE holds at 65 535 (R83, R89). -/
def countVote (s : State) : State := { s with win := { s.win with guardVote := min 65535 (s.win.guardVote + 1) } }

/-- Unacknowledged faults of a class across the device (R244). -/
def unackedOfClass (c : Nat) (s : State) : Nat :=
  (s.flt.unacked.filter (fun u => sourceClass u.source.toNat == c)).length

/-- Deliver the EDGE 1 occurrence of each class whose count of unacknowledged faults fell to zero (R244). -/
def classReturns (before : State) (s : State) : State :=
  (List.range 15).foldl (fun s c =>
    if unackedOfClass c before ≠ 0 ∧ unackedOfClass c s = 0 then zoneOcc 5 c 1 none s else s) s

/-- Acknowledge the unacknowledged faults that a test selects (R391), with the occurrences of R244. -/
def acknowledge (p : Unacked → Bool) (s : State) : State :=
  classReturns s
    (settleStatus { s with flt := { s.flt with unacked := s.flt.unacked.filter (fun u => !p u) } })

/-- A write of bank 0's protected or overlay region, n bytes from a: taken while the loader holds the regions open, else discarded with
a configuration-integrity fault (R129). Rows written decode without error again. -/
def regionWrite (a n : Nat) (bs : List Byte) (s : State) : State :=
  if s.mem.regionsOpen then
    let s := stashWrite a bs (stashClear a n s)
    { s with mem := { s.mem with stashErr := s.mem.stashErr.filter (fun x => decide (9 * x.1 < a) || decide (a + n ≤ 9 * x.1)) } }
  else raiseFault 0o3101 s

/-- The loader opens the regions, writes and closes them (R129). -/
def loaderWrite (a n : Nat) (bs : List Byte) (s : State) : State :=
  let s := regionWrite a n bs { s with mem := { s.mem with regionsOpen := true } }
  { s with mem := { s.mem with regionsOpen := false } }

/-- The answer of a meaning: every meaning of this block answers a next state or the stop of an ill-formed operand. -/
abbrev Result := Host.Outcome State Fault Refusal

/-- A command's effect as a next state, with the output record of the command before emptied (log 5). -/
def effect (f : State → State) (s : State) : Result := .next (f (fresh s))

end Sys2Proof.Machine
end

