-- ==== Sys2Proof/Machine/Dsp.lean ====
section
/-!
DEFINITION. The arithmetic of the destination chain (10): gains and ramps (R214 to R216), equaliser sections (R220), dynamics
(R222), the Loam storage formats (R227, R228) and meters (R224).
-/

namespace Sys2Proof.Machine

open Sys2Proof

/-! ## Samples and ramps -/

/-- A finished sum of products with 16 fraction bits as a sample (R214). -/
def sampleOf (acc : Int) : Int := saturate (roundDiv acc 65536)

/-- The coefficient for sample n of a block in which it changes (R216). -/
def rampAt (old new : Int) (n : Nat) : Int := old + roundDiv ((new - old) * (n + 1 : Nat)) 16

/-- A block of 16 samples, one for each n. -/
def block (f : Nat → Int) : List Int := (List.range 16).map f

/-- Sample n of a block. -/
def at16 (l : List Int) (n : Nat) : Int := l.getD n 0

/-- Multiply a block by a ramped coefficient. -/
def scaleBlock (old new : Int) (l : List Int) : List Int := block (fun n => sampleOf (at16 l n * rampAt old new n))

/-- Peak magnitude of a block. -/
def peakOf (l : List Int) : Nat := l.foldl (fun m v => max m v.natAbs) 0

/-- Sum of squares of a block. -/
def sumSquares (l : List Int) : Nat := (l.map (fun v => v.natAbs * v.natAbs)).sum

/-! ## Equaliser (R220) -/

/-- Limit of Y in an equaliser section. -/
def yLimit (v : Int) : Int := clampInt (-(2 ^ 33)) (2 ^ 33 - 1) v

/-- One sample through a section: the output and the section after it. -/
def sectionStep (q : Section) (x0 : Int) : Int × Section :=
  let acc := (q.b0 * x0 + q.b1 * q.x1 + q.b2 * q.x2) * 2 ^ q.k
  let acc := acc - q.a1 * (q.y1 / 65536) - (q.a1 * (q.y1 % 65536)) / 65536
  let acc := acc - q.a2 * (q.y2 / 65536) - (q.a2 * (q.y2 % 65536)) / 65536
  let y0 := yLimit acc
  (sampleOf y0, { q with x2 := q.x1, x1 := x0, y2 := q.y1, y1 := y0 })

/-- Samples through a section. -/
def sectionRun (q : Section) : List Int → List Int × Section
  | [] => ([], q)
  | x :: xs =>
    let (y, q) := sectionStep q x
    let (ys, q) := sectionRun q xs
    (y :: ys, q)

/-- A section with its states set to zero. -/
def Section.clear (q : Section) : Section := { q with x1 := 0, x2 := 0, y1 := 0, y2 := 0 }

/-- Samples through the sections that a test selects, by their position. -/
def sectionsRun (on : Nat → Bool) : Nat → List Section → List Int → List Int × List Section
  | _, [], xs => (xs, [])
  | i, q :: qs, xs =>
    let (ys, q) := if on i && !q.bypass then sectionRun q xs else (xs, q)
    let (zs, qs) := sectionsRun on (i + 1) qs ys
    (zs, q :: qs)

/-! ## Dynamics (R222) -/

/-- Level of a block in steps, by peak or by RMS (R222, R224). -/
def blockLevel (rms : Bool) (l : List Int) : Int :=
  if rms then levelOfSquare (sumSquares l) 16 else levelOfSquare (peakOf l * peakOf l) 1

/-- The gain after one update, in 1/256 step (R222). -/
def dynUpdate (d : Dyn) (target : Int) : Int :=
  let t := 256 * target
  let k := if t < d.g then attackK d.attack else releaseK d.release
  d.g + roundDiv ((t - d.g) * k) (2 ^ 80)

/-- The coefficient of a dynamics gain. -/
def dynCoef (g : Int) : Int := gainCoef (max (-960) (min 48 (roundDiv g 256)))

/-! ## Loam (R227, R228) -/

/-- Mantissa bits and largest shift of a Loam format: 1 Loam-5, 2 Loam-6. -/
def loamShape (format : Nat) : Nat × Nat := if format = 1 then (13, 5) else (11, 7)

/-- A mantissa lies in the range of n bits. -/
def fitsMantissa (n : Nat) (m : Int) : Bool := decide (-(2 ^ (n - 1)) ≤ m) && decide (m < 2 ^ (n - 1))

/-- The shift that the encoder chooses. -/
def loamShift (format : Nat) (xs : List Int) : Nat :=
  let (n, top) := loamShape format
  ((List.range (top + 1)).find? (fun s => xs.all (fun x => fitsMantissa n (roundDiv x (2 ^ s))))).getD top

/-- A two's complement field of n bits as a natural number. -/
def asField (n : Nat) (v : Int) : Nat := (v % 2 ^ n).toNat

/-- A delay row of a format: 0 raw, 1 Loam-5, 2 Loam-6 (R227). -/
def packRow (format seq : Nat) (xs : List Int) : Nat :=
  if format = 0 then (xs.zipIdx.map (fun x => asField 18 x.1 * 2 ^ (18 * x.2))).sum
  else
    let (n, _) := loamShape format
    let s := loamShift format xs
    let body := (xs.zipIdx.map (fun x =>
      asField n (clampInt (-(2 ^ (n - 1))) (2 ^ (n - 1) - 1) (roundDiv x.1 (2 ^ s))) * 2 ^ (n * x.2))).sum
    if format = 1 then seq * 2 ^ 68 + s * 2 ^ 65 + body else seq * 2 ^ 69 + s * 2 ^ 66 + body

/-- The row of a cleared extent (R226, R227). -/
def clearedRow (format : Nat) : Nat := if format = 0 then 0 else if format = 1 then 15 * 2 ^ 68 else 7 * 2 ^ 69

/-- SEQ of a stored row; 0 in raw. -/
def rowSeq (format row : Nat) : Nat := if format = 0 then 0 else if format = 1 then row / 2 ^ 68 else row / 2 ^ 69

/-- SEQ of a cleared row. -/
def clearedSeq (format : Nat) : Nat := if format = 1 then 15 else 7

/-- Passes are counted modulo 15 in Loam-5 and 7 in Loam-6 (R230). -/
def passSeq (format pass : Nat) : Nat := if format = 0 then 0 else if format = 1 then pass % 15 else pass % 7

/-- Sample k of a stored row (R227, R228). -/
def rowSample (format row k : Nat) : Int :=
  if format = 0 then signedField (row / 2 ^ (18 * k)) 18
  else if format = 1 then signedField (row / 2 ^ (13 * k)) 13 * 2 ^ (row / 2 ^ 65 % 8)
  else signedField (row / 2 ^ (11 * k)) 11 * 2 ^ (row / 2 ^ 66 % 8)

/-! ## Meters (R224) -/

/-- A meter after a block: the peak level since its report, and the mean square with 64 fraction bits. -/
def meterStep (m : Meter) (l : List Int) : Meter :=
  let lvl := levelOfSquare (peakOf l * peakOf l) 1
  let now : Int := (sumSquares l * 2 ^ 60 : Nat)
  { m with peak := max m.peak lvl
           meanSq := ((m.meanSq : Int) + roundDiv ((now - m.meanSq) * meterK) (2 ^ 80)).toNat }

/-- The RMS level of a meter in steps. -/
def meterRms (m : Meter) : Int := levelOfSquare m.meanSq (2 ^ 64)

end Sys2Proof.Machine
end

