-- ==== Sys2Proof/Machine/Crypto.lean ====
section
/-!
DEFINITION. The cryptographic functions and check codes that the manual names by their standards: CRC-32 (R118), SHA-256,
HMAC and HKDF (R111, R421), AES-256 in counter and Galois modes (R422, R436), and ECDSA and ECDH on P-256 (R118, R426).
The bodies follow the published standards (log 7).
-/

namespace Sys2Proof.Machine

open Sys2Proof

/-! ## Check codes -/

/-- One bit of a cyclic check, most significant bit first: w bits wide, generator poly. -/
def crcBit (w poly : Nat) (c : Nat) (b : Bool) : Nat :=
  let top := xor (bitOf c (w - 1)) b
  let sh := c * 2 % 2 ^ w
  if top then sh ^^^ poly else sh

/-- A cyclic check over bits in order. -/
def crcBits (w poly init : Nat) (bs : List Bool) : Nat := bs.foldl (crcBit w poly) init

/-- Bits of an n-bit number, most significant first. -/
def msbBits (n v : Nat) : List Bool := (List.range n).map (fun k => bitOf v (n - 1 - k))

/-- Bits of an n-bit number, least significant first. -/
def lsbBits (n v : Nat) : List Bool := (List.range n).map (fun k => bitOf v k)

/-- The number whose bits, most significant first, are given. -/
def ofBits (bs : List Bool) : Nat := bs.foldl (fun a b => a * 2 + bit b) 0

/-- CRC-32 of R118: polynomial 0x04C11DB7, reflected, initial value and final XOR of ones. -/
def crc32 (bs : List Byte) : Nat :=
  let c := crcBits 32 0x04C11DB7 0xFFFFFFFF (bs.flatMap (fun b => lsbBits 8 b.toNat))
  ofBits (lsbBits 32 c) ^^^ 0xFFFFFFFF

/-! ## SHA-256 -/

abbrev W32 := BitVec 32

/-- The 32-bit words that a 256-bit number strings together, the most significant first. -/
def octet (n : Nat) : List W32 := (List.range 8).map (fun k => BitVec.ofNat 32 (n >>> (32 * (7 - k))))

/-- Round constants, eight to a number. -/
def shaK : List W32 :=
  octet 0x428a2f9871374491b5c0fbcfe9b5dba53956c25b59f111f1923f82a4ab1c5ed5 ++
  octet 0xd807aa9812835b01243185be550c7dc372be5d7480deb1fe9bdc06a7c19bf174 ++
  octet 0xe49b69c1efbe47860fc19dc6240ca1cc2de92c6f4a7484aa5cb0a9dc76f988da ++
  octet 0x983e5152a831c66db00327c8bf597fc7c6e00bf3d5a7914706ca635114292967 ++
  octet 0x27b70a852e1b21384d2c6dfc53380d13650a7354766a0abb81c2c92e92722c85 ++
  octet 0xa2bfe8a1a81a664bc24b8b70c76c51a3d192e819d6990624f40e3585106aa070 ++
  octet 0x19a4c1161e376c082748774c34b0bcb5391c0cb34ed8aa4a5b9cca4f682e6ff3 ++
  octet 0x748f82ee78a5636f84c878148cc7020890befffaa4506cebbef9a3f7c67178f2

/-- Initial hash value. -/
def shaInit : List W32 := octet 0x6a09e667bb67ae853c6ef372a54ff53a510e527f9b05688c1f83d9ab5be0cd19

/-- Exclusive or of a word's rotations to the right. -/
def spins (ks : List Nat) (x : W32) : W32 := (ks.map x.rotateRight).foldl (· ^^^ ·) 0

/-- Extend a message schedule, kept newest first, by n words. -/
def shaExtend : Nat → List W32 → List W32
  | 0, w => w
  | n + 1, w =>
    let back := fun k => w.getD (k - 1) 0
    let mix := fun (ks : List Nat) (n k : Nat) => spins ks (back k) ^^^ (back k >>> n)
    shaExtend n ((back 16 + back 7 + mix [7, 18] 3 15 + mix [17, 19] 10 2) :: w)

/-- One round on the eight working words. -/
def shaRound (v : List W32) (kw : W32 × W32) : List W32 :=
  match v with
  | [a, b, c, d, e, f, g, h] =>
    let chosen := g ^^^ (e &&& (f ^^^ g))
    let most := (a &&& b) ||| (c &&& (a ||| b))
    let step := kw.1 + kw.2 + h + chosen + spins [6, 11, 25] e
    [step + most + spins [2, 13, 22] a, a, b, c, d + step, e, f, g]
  | _ => v

/-- Words of bytes, most significant first. -/
def beWords32 : List Byte → List W32
  | a :: b :: c :: d :: rest =>
    BitVec.ofNat 32 (a.toNat * 2 ^ 24 + b.toNat * 2 ^ 16 + c.toNat * 256 + d.toNat) :: beWords32 rest
  | _ => []

/-- Compress one 64-byte block into the hash value. -/
def shaBlock (h : List W32) (blk : List Byte) : List W32 :=
  let w := (shaExtend 48 (beWords32 blk).reverse).reverse
  List.zipWith (· + ·) h ((shaK.zip w).foldl shaRound h)

/-- Fold over blocks of n elements, with a bound on their number. -/
def foldChunks {α β : Type} (n : Nat) (f : β → List α → β) : Nat → β → List α → β
  | 0, b, _ => b
  | k + 1, b, l => if l.isEmpty then b else foldChunks n f k (f b (l.take n)) (l.drop n)

/-- A number as n bytes, most significant first. -/
def beBytes (n v : Nat) : List Byte := (List.range n).map (fun k => BitVec.ofNat 8 (v / 256 ^ (n - 1 - k)))

/-- Bytes as a number, most significant first. -/
def beNat (bs : List Byte) : Nat := bs.foldl (fun a b => a * 256 + b.toNat) 0

/-- SHA-256. -/
def sha256 (m : List Byte) : List Byte :=
  let pad := (119 - m.length % 64) % 64
  let full := m ++ [0x80] ++ List.replicate pad 0 ++ beBytes 8 (8 * m.length)
  (foldChunks 64 shaBlock (full.length / 64) shaInit full).flatMap (fun w => beBytes 4 w.toNat)

/-- HMAC-SHA-256. -/
def hmac (key msg : List Byte) : List Byte :=
  let k0 := if 64 < key.length then sha256 key else key
  let k := k0 ++ List.replicate (64 - k0.length) 0
  sha256 (k.map (· ^^^ 0x5C) ++ sha256 (k.map (· ^^^ 0x36) ++ msg))

/-- HKDF-SHA-256 with a length of 32 bytes (RFC 5869). -/
def hkdf32 (salt ikm info : List Byte) : List Byte :=
  hmac (hmac (if salt = [] then List.replicate 32 0 else salt) ikm) (info ++ [1])

/-- Bytes of an ASCII string. -/
def ascii (s : String) : List Byte := s.toList.map (fun c => BitVec.ofNat 8 c.toNat)

/-! ## AES-256 -/

/-- Multiplication by x in the AES field. -/
def aesX (b : Byte) : Byte := (b <<< 1) ^^^ (if b.msb then 0x1B else 0)

/-- Multiplication in the AES field over k bits of the second factor. -/
def aesMul : Nat → Byte → Byte → Byte
  | 0, _, _ => 0
  | k + 1, a, b => (if b.toNat % 2 = 1 then a else 0) ^^^ aesMul k (aesX a) (b >>> 1)

/-- Power in the AES field by repeated squaring over k bits of the exponent. -/
def aesPow : Nat → Byte → Nat → Byte
  | 0, _, _ => 1
  | k + 1, a, e => aesMul 8 (if e % 2 = 1 then a else 1) (aesPow k (aesMul 8 a a) (e / 2))

/-- The AES substitution: field inverse, then the affine map. -/
def aesSub (b : Byte) : Byte :=
  let i := aesPow 8 b 254
  i ^^^ i.rotateLeft 1 ^^^ i.rotateLeft 2 ^^^ i.rotateLeft 3 ^^^ i.rotateLeft 4 ^^^ 0x63

/-- The key schedule: words of 4 bytes, newest first, extended by n words; i is the index of the next word. -/
def aesExpand : Nat → Nat → Byte → List (List Byte) → List (List Byte)
  | 0, _, _, w => w
  | n + 1, i, rc, w =>
    let t := w.getD 0 []
    let old := w.getD 7 []
    if i % 8 = 0 then
      let r := ((t.drop 1) ++ (t.take 1)).map aesSub
      let r := List.zipWith (· ^^^ ·) r [rc, 0, 0, 0]
      aesExpand n (i + 1) (aesX rc) (List.zipWith (· ^^^ ·) old r :: w)
    else if i % 8 = 4 then aesExpand n (i + 1) rc (List.zipWith (· ^^^ ·) old (t.map aesSub) :: w)
    else aesExpand n (i + 1) rc (List.zipWith (· ^^^ ·) old t :: w)

/-- Round keys of a 32-byte key: 15 keys of 16 bytes. -/
def aesKeys (key : List Byte) : List (List Byte) :=
  let w0 := (List.range 8).map (fun k => (key.drop (4 * k)).take 4)
  let w := (aesExpand 52 8 1 w0.reverse).reverse
  (List.range 15).map (fun k => ((w.drop (4 * k)).take 4).flatten)

/-- Row shift of a 16-byte state held by columns. -/
def aesShift (s : List Byte) : List Byte := (List.range 16).map (fun k => s.getD ((k + 4 * (k % 4)) % 16) 0)

/-- Column mix. -/
def aesMix (s : List Byte) : List Byte :=
  (List.range 16).map (fun k =>
    let g := fun j => s.getD (k / 4 * 4 + (k + j) % 4) 0
    aesX (g 0) ^^^ (aesX (g 1) ^^^ g 1) ^^^ g 2 ^^^ g 3)

/-- Encrypt one block with AES-256. -/
def aesEncrypt (key block : List Byte) : List Byte :=
  let ks := aesKeys key
  let s := List.zipWith (· ^^^ ·) block (ks.getD 0 [])
  let s := (List.range 13).foldl (fun s r =>
    List.zipWith (· ^^^ ·) (aesMix (aesShift (s.map aesSub))) (ks.getD (r + 1) [])) s
  List.zipWith (· ^^^ ·) (aesShift (s.map aesSub)) (ks.getD 14 [])

/-- Counter mode: the block counter is the 128-bit block as a number, most significant first. -/
def aesCtr (key : List Byte) : Nat → Nat → List Byte → List Byte
  | 0, _, _ => []
  | n + 1, ctr, data =>
    if data.isEmpty then []
    else List.zipWith (· ^^^ ·) (data.take 16) (aesEncrypt key (beBytes 16 ctr)) ++
      aesCtr key n ((ctr + 1) % 2 ^ 128) (data.drop 16)

/-- Multiplication in the GCM field, over k bits of the first factor from its most significant on. -/
def gcmMulBits : Nat → Nat → Nat → Nat → Nat
  | 0, _, _, z => z
  | k + 1, x, v, z =>
    let z := if bitOf x k then z ^^^ v else z
    let v := if v % 2 = 1 then v / 2 ^^^ 0xE1000000000000000000000000000000 else v / 2
    gcmMulBits k x v z

/-- The GCM authentication hash of 16-byte blocks. -/
def ghash (h : Nat) (bs : List Byte) : Nat :=
  foldChunks 16 (fun y b => gcmMulBits 128 (y ^^^ beNat (b ++ List.replicate (16 - b.length) 0)) h 0) (bs.length / 16 + 1) 0 bs

/-- Zero padding to whole blocks of 16. -/
def pad16 (bs : List Byte) : List Byte := bs ++ List.replicate ((16 - bs.length % 16) % 16) 0

/-- The GCM tag of authenticated data and ciphertext under a 12-byte nonce. -/
def gcmTag (key nonce aad ct : List Byte) : List Byte :=
  let h := beNat (aesEncrypt key (List.replicate 16 0))
  let s := ghash h (pad16 aad ++ pad16 ct ++ beBytes 8 (8 * aad.length) ++ beBytes 8 (8 * ct.length))
  List.zipWith (· ^^^ ·) (aesEncrypt key (nonce ++ [0, 0, 0, 1])) (beBytes 16 s)

/-- GCM encryption and decryption of the text, tag apart. -/
def gcmCrypt (key nonce text : List Byte) : List Byte :=
  aesCtr key (text.length / 16 + 1) (beNat (nonce ++ [0, 0, 0, 2])) text

/-! ## P-256 -/

/-- Field prime. -/
def pP : Nat := 0xFFFFFFFF00000001000000000000000000000000FFFFFFFFFFFFFFFFFFFFFFFF
/-- Group order. -/
def pN : Nat := 0xFFFFFFFF00000000FFFFFFFFFFFFFFFFBCE6FAADA7179E84F3B9CAC2FC632551
/-- Curve coefficient b; the coefficient a is -3. -/
def pB : Nat := 0x5AC635D8AA3A93E7B3EBBD55769886BC651D06B0CC53B0F63BCE3C3E27D2604B
/-- Base point. -/
def pG : Nat × Nat :=
  (0x6B17D1F2E12C4247F8BCE6E563A440F277037D812DEB33A0F4A13945D898C296,
   0x4FE342E2FE1A7F9B8EE7EB4A7C0F9E162BCE33576B315ECECBB6406837BF51F5)

/-- Power modulo m over k bits of the exponent. -/
def powMod (m : Nat) : Nat → Nat → Nat → Nat
  | 0, _, _ => 1 % m
  | k + 1, a, e => (if e % 2 = 1 then a else 1) * powMod m k (a * a % m) (e / 2) % m

/-- Inverse modulo a prime m. -/
def invMod (m a : Nat) : Nat := powMod m 256 a (m - 2)

/-- Difference modulo the field prime. -/
def subP (a b : Nat) : Nat := (a + pP - b % pP) % pP

/-- Addition of points; none is the point at infinity. -/
def ecAdd (u v : Option (Nat × Nat)) : Option (Nat × Nat) :=
  match u, v with
  | none, q => q
  | p, none => p
  | some (x1, y1), some (x2, y2) =>
    if x1 = x2 ∧ (y1 + y2) % pP = 0 then none
    else
      let l := if x1 = x2 ∧ y1 = y2 then subP (3 * x1 * x1) 3 * invMod pP (2 * y1 % pP) % pP
        else subP y2 y1 * invMod pP (subP x2 x1) % pP
      let x3 := subP (subP (l * l) x1) x2
      some (x3, subP (l * subP x1 x3) y1)

/-- Scalar multiple over k bits. -/
def ecMul : Nat → Nat → Option (Nat × Nat) → Option (Nat × Nat)
  | 0, _, _ => none
  | k + 1, e, p => ecAdd (if e % 2 = 1 then p else none) (ecMul k (e / 2) (ecAdd p p))

/-- A 64-byte public key as a point on the curve. -/
def pointOf (k : List Byte) : Option (Nat × Nat) :=
  let x := beNat (k.take 32)
  let y := beNat ((k.drop 32).take 32)
  if k.length = 64 ∧ x < pP ∧ y < pP ∧ y * y % pP = subP (x * x % pP * x + pB) (3 * x) then some (x, y) else none

/-- A point as 64 bytes, Qx then Qy. -/
def pointBytes (p : Option (Nat × Nat)) : List Byte :=
  match p with
  | some (x, y) => beBytes 32 x ++ beBytes 32 y
  | none => List.replicate 64 0

/-- ECDSA P-256 verification of a 32-byte hash under a 64-byte key; r and s are 32 bytes each. -/
def ecdsaVerify (key hash r s : List Byte) : Bool :=
  let r := beNat r
  let s := beNat s
  match pointOf key with
  | none => false
  | some q =>
    if r = 0 ∨ pN ≤ r ∨ s = 0 ∨ pN ≤ s then false
    else
      let w := invMod pN s
      match ecAdd (ecMul 256 (beNat hash * w % pN) (some pG)) (ecMul 256 (r * w % pN) (some q)) with
      | none => false
      | some (x, _) => decide (x % pN = r)

/-- The identity private key of derived bytes: 1 + (d mod (n - 1)) (R421). -/
def privateOf (bs : List Byte) : Nat := 1 + beNat bs % (pN - 1)

/-- The public key of a private key. -/
def publicOf (d : Nat) : List Byte := pointBytes (ecMul 256 d (some pG))

/-- The x-coordinate of ECDH, 32 bytes. -/
def ecdhX (d : Nat) (key : List Byte) : List Byte := (pointBytes (ecMul 256 d (pointOf key))).take 32

end Sys2Proof.Machine
end

