-- ==== Sys2Proof/Machine/Cells.lean ====
section
/-!
DEFINITION. Cell memory as shared operations: stream counters (R210), cells and their word layout (R196), pools (R197), queues and
admission (R198), references and flushes (R200 to R203), and the passage of a packet through the core (R25).
-/

namespace Sys2Proof.Machine

open Sys2Proof

/-! ## Stream counters (R210) -/

/-- Add to the counters of a stream; each saturates at 262 143. -/
def countStream (port loc chan missing dropped excess : Nat) (s : State) : State :=
  let isIt := fun (c : StreamCount) => c.port == port && c.loc == loc && c.chan == chan
  let add := fun (a b : Nat) => min 262143 (a + b)
  if missing + dropped + excess = 0 then s
  else if s.sw.counts.any isIt then
    { s with sw := { s.sw with counts := s.sw.counts.map (fun c =>
        if isIt c then { c with missing := add c.missing missing, dropped := add c.dropped dropped, excess := add c.excess excess }
        else c) } }
  else
    { s with sw := { s.sw with counts := s.sw.counts ++
        [⟨port, loc, chan, min 262143 missing, min 262143 dropped, min 262143 excess, none⟩] } }

/-- PORT.STREAM_COUNT for every stream whose counters left zero, at most once per second for a stream (R210). -/
def postCounts (s : State) : State :=
  let due := fun (s : State) (c : StreamCount) => decide (0 < c.missing + c.dropped + c.excess)
    && (match c.lastPost with | some t => decide (Config.tkPerS ≤ since t s) | none => true)
  s.sw.counts.foldl (fun (acc : State) c =>
    if due acc c then
      let acc := post 0o030706 [w18 c.port, w18 c.loc, w18 c.chan, w18 c.missing, w18 c.dropped, w18 c.excess] acc
      { acc with sw := { acc.sw with counts := acc.sw.counts.map (fun x =>
          if x.port == c.port && x.loc == c.loc && x.chan == c.chan then
            { x with missing := 0, dropped := 0, excess := 0, lastPost := some acc.clk.tick } else x) } }
    else acc) s

/-! ## The layout of a cell (R196) -/

/-- Code of a class. -/
def classCode : CellClass → Nat
  | .iso => 0
  | .ctrl => 1
  | .bulk => 2

/-- The header of a cell (R196). -/
def cellHeader (c : Cell) : BitVec 64 :=
  BitVec.ofNat 64 (c.dest.toNat * 2 ^ 46 + c.src % 32 * 2 ^ 41 + classCode c.cls * 2 ^ 39 + c.len % 128 * 2 ^ 32
    + bit c.last * 2 ^ 31 + c.deadline.toNat * 2 ^ 19 + c.addr.toNat * 2 ^ 12 + c.ep.toNat * 2 ^ 8 + bit c.dirIn * 2 ^ 7
    + c.ctx.getD 0 % 64 * 2 + bit c.ctx.isSome)

/-- Word k of a cell: payload bytes 8k to 8k + 7, and byte k of the header above them (R196). -/
def cellWord (c : Cell) (k : Nat) : BitVec 72 :=
  BitVec.ofNat 72 (ofBytesLE ((c.payload.drop (8 * k)).take 8) + ((cellHeader c).toNat / 256 ^ k % 256) * 256 ^ 8)

/-- The eight words of a cell. -/
def cellWords (c : Cell) : List (BitVec 72) := (List.range 8).map (cellWord c)

/-! ## Pools (R197) -/

/-- Cells in use of a pool (R197). -/
def poolUsed (pool : Nat) (s : State) : Nat := (s.sw.cells.filter (fun c => c.2.pool == pool)).length

/-- Cells that left the free list without a holder count against the shared pool. -/
def sharedFree (s : State) : Nat := 5632 - poolUsed 2 s - s.sw.leaked.length

/-- The pools from which n cells of a class are taken (R197): the class's reserve first, then the shared pool. -/
def takePools (cls : CellClass) (src n : Nat) (s : State) : Option (List Nat) :=
  match cls with
  | .iso =>
    let r := min n (2048 - poolUsed 0 s)
    if n - r ≤ sharedFree s then some (List.replicate r 0 ++ List.replicate (n - r) 2) else none
  | .ctrl =>
    let r := min n (512 - poolUsed 1 s)
    if n - r ≤ sharedFree s then some (List.replicate r 1 ++ List.replicate (n - r) 2) else none
  | .bulk =>
    let held := (s.sw.cells.filter (fun c => c.2.cls == .bulk && c.2.src == src)).length
    if n ≤ sharedFree s ∧ held + n ≤ 1024 then some (List.replicate n 2) else none

/-! ## Queues and cells -/

/-- Depth limit of a queue of a class (R198). -/
def depthOf : CellClass → Nat
  | .iso => 256
  | .ctrl => 64
  | .bulk => 512

/-- The queue of an egress and class. -/
def queueOf (e cls : Nat) (s : State) : List Nat := s.sw.queues.getD (3 * e + cls) []

/-- Replace a queue. -/
def setQueue (e cls : Nat) (q : List Nat) (s : State) : State :=
  { s with sw := { s.sw with queues := listSet s.sw.queues (3 * e + cls) q } }

/-- A cell by its index. -/
def cellAt (i : Nat) (s : State) : Option Cell := (s.sw.cells.find? (fun c => c.1 == i)).map (·.2)

/-- A cell returns to the free list; one that was found bad is known to be so there (R203). -/
def freeCell (i : Nat) (c : Cell) (s : State) : State :=
  { s with sw := { s.sw with cells := eraseKey s.sw.cells i, badFree := if c.bad then s.sw.badFree ++ [i] else s.sw.badFree } }

/-- Release one reference of a cell: it returns to the free list when its count reaches zero; a count that failed its parity is
held until the audit, and raises its fault (R200, R203). -/
def releaseCell (i : Nat) (s : State) : State :=
  match cellAt i s with
  | none => s
  | some c =>
    if c.refBad then raiseFault 0o3022 s
    else if c.refs ≤ 1 then freeCell i c s
    else { s with sw := { s.sw with cells := insertKey s.sw.cells i { c with refs := c.refs - 1 } } }

/-- Release cells of one egress. -/
def releaseCells (l : List Nat) (s : State) : State := l.foldl (fun s i => releaseCell i s) s

/-- Cells of the packet at the head of a queue. -/
def headPacket (s : State) : List Nat → List Nat
  | [] => []
  | i :: rest => match cellAt i s with
    | some c => if c.last then [i] else i :: headPacket s rest
    | none => i :: headPacket s rest

/-- The packet at the head of a queue is being sent: its first cells have left. -/
def sending (q : List Nat) (s : State) : Bool :=
  match q.head?.bind (fun i => cellAt i s) with
  | some c => c.off != 0
  | none => false

/-- Count the ISO packets that end in a list of cells as DROPPED, each under its stream (R210). -/
def countDropped (l : List Nat) (s : State) : State :=
  l.foldl (fun s i => match cellAt i s with
    | some c => if c.last && c.cls == .iso then countStream c.stream.1 c.stream.2.1 c.stream.2.2 0 1 0 s else s
    | none => s) s

/-- Flush every queue of an egress, all classes together (R201, R202): the ISO cells removed are counted, and when a disconnect is the
cause the USB packet being sent is ended with a bit-stuff error; nothing stays in the TT of the port. -/
def flushEgress (cut : Bool) (e : Nat) (s : State) : Nat × State :=
  let all := queueOf e 0 s ++ queueOf e 1 s ++ queueOf e 2 s
  let broken := cut && decide (e ≤ 11) && (List.range 3).any (fun c => sending (queueOf e c s) s)
  let iso := (queueOf e 0 s).length
  let s := releaseCells all (setQueue e 2 [] (setQueue e 1 [] (setQueue e 0 [] s)))
  let s := { s with ports := if e = 0 then s.ports
                              else listModify s.ports (e - 1) (fun p => { p with ttPeriodic := 0, ttNonPeriodic := 0 }) }
  (iso, if broken then emit (.cell e [] true true) s else s)

/-- Flush an egress. -/
def flush (cut : Bool) (e : Nat) (s : State) : State := (flushEgress cut e s).2

/-! ## Allocation and admission (R197, R198) -/

/-- Indexes of free cells from an index on, the lowest first, given the cells in use in rising order. -/
def freeFrom (leaked : List (Nat × Bool)) : Nat → Nat → Nat → List Nat → List Nat
  | 0, _, _, _ => []
  | _ + 1, _, 0, _ => []
  | k + 1, i, n + 1, used =>
    let rest := match used with | u :: us => if u = i then us else used | [] => []
    if used.head? = some i ∨ leaked.any (fun l => l.1 == i) = true then freeFrom leaked k (i + 1) (n + 1) rest
    else i :: freeFrom leaked k (i + 1) n rest

/-- Indexes of n free cells, the lowest first. -/
def freeCells (n : Nat) (s : State) : List Nat := freeFrom s.sw.leaked 8192 0 n (s.sw.cells.map (·.1))

/-- Egresses of a destination bitmap. -/
def egresses (dest : BitVec 18) : List Nat := (List.range 18).filter (fun e => bitOf dest.toNat e)

/-- Cells of N payload bytes (R195). -/
def cellCount (n : Nat) : Nat := max 1 ((n + 63) / 64)

/-- Drop the oldest whole packet of an ISO queue until n cells fit; a packet being sent stays, and those dropped are counted (R198). -/
def makeRoom (e n : Nat) : Nat → State → State
  | 0, s => s
  | k + 1, s =>
    let q := queueOf e 0 s
    let now := if sending q s then headPacket s q else []
    let waiting := q.drop now.length
    if q.length + n ≤ 256 ∨ waiting = [] then s
    else
      let p := headPacket s waiting
      makeRoom e n k (releaseCells p (setQueue e 0 (now ++ waiting.drop p.length) (countDropped p s)))

/-- Words of cells are written: what was wrong in them is gone (R203). -/
def rewriteCells (idx : List Nat) (s : State) : State :=
  { s with sw := { s.sw with
      errs := s.sw.errs.filter (fun x => !(idx.contains (x.1 / 8)))
      badFree := s.sw.badFree.filter (fun i => !(idx.contains i)) } }

/-- A packet of n cells can be admitted (R198): for CTRL and BULK every queue named has room too. -/
def coreRoom (cls : CellClass) (src : Nat) (dest : BitVec 18) (n : Nat) (s : State) : Bool :=
  (takePools cls src n s).isSome && (match cls with
    | .iso => true
    | c => (egresses dest).all (fun e => decide ((queueOf e (classCode c) s).length + n ≤ depthOf c)))

/-- A packet of n cells that is admitted crosses the core to destinations that read its cells as they come (R25). -/
def crossCore (cls : CellClass) (dest : BitVec 18) (n : Nat) (s : State) : State :=
  let s := match cls with
    | .iso => (egresses dest).foldl (fun s e => makeRoom e n 256 s) s
    | _ => s
  rewriteCells (freeCells n s) s

/-- DEST of the DSP cluster (R196). -/
def dspDest : BitVec 18 := 0x1000

/-- A packet of one block of audio crosses the core; without a cell it is dropped whole and counted under its stream (R198). -/
def crossIso (src : Nat) (dest : BitVec 18) (n : Nat) (stream : Nat × Nat × Nat) (s : State) : Bool × State :=
  if coreRoom .iso src dest n s then (true, crossCore .iso dest n s)
  else (false, countStream stream.1 stream.2.1 stream.2.2 0 1 0 s)

end Sys2Proof.Machine
end

