-- ==== Sys2Proof/Machine/Flags.lean ====
section
/-!
DEFINITION. The status flags and pins that the state computes: FAULT_N, FAULT_ALIVE and RESET_OUT_N (R40, R41, R394, R395),
FLT_TOP and the performance view of the PWR block (R89).
-/

namespace Sys2Proof.Machine

open Sys2Proof

/-- A fault of a source with FAULTN_EN set is unacknowledged (R394). -/
def faultnUnacked (s : State) : Bool :=
  s.flt.unacked.any (fun u => bitOf (sevEntry u.source.toNat s).vote.toNat 3)

/-- FAULT_N is asserted (R40, R394). -/
def faultN (s : State) : Bool :=
  !s.boot.ctiUp || s.cfg.unconfigured || s.aon.safeActive || faultnUnacked s || s.pwr.state == .hibernate

/-- A SLEEP entry has begun (R372). -/
def entering (s : State) : Bool := match s.pwr.entry with | .sleeping _ => true | _ => false

/-- The conditions under which FAULT_ALIVE runs (R395). -/
def aliveCondition (s : State) : Bool :=
  s.boot.aliveOk && decide (since s.boot.lastKick s < 10 * Config.tkPerMs) && !s.aon.safeActive
    && (s.pwr.state == .run || s.pwr.state == .doze) && !entering s

/-- Level of FAULT_ALIVE (R395): high for the first 24 tk of each 48-tk period while it runs. -/
def faultAlive (s : State) : Bool := s.boot.aliveRun && aliveCondition s && decide (s.clk.tick.toNat % 48 < 24)

/-- Periods of MCLK_OUT per tick that the CTI selects (R58, R126): 200 for 9.6 MHz, 300 for 14.4 MHz, or held low. -/
def mclkOf (s : State) : Nat := match boardParam 6 0 s with | 1 => 200 | 2 => 300 | _ => 0

/-- FAULT_ALIVE starts at a 48-tk boundary at which every condition holds, and stops when one ends (R395). -/
def updateAlive (s : State) : State :=
  { s with boot := { s.boot with
      aliveRun := aliveCondition s && (s.boot.aliveRun || s.clk.tick.toNat % 48 == 0) } }

/-- What is left of the PORTSTAT snapshot where its WARM fields are reset: the COLD energy counters (R11, R89). -/
def keepEnergy (n : Snapshot) : Snapshot := { ports := n.ports.map (fun p => { energy := p.energy }) }

/-- FLT_TOP: bit c is 1 while the status word of cluster c is not zero (R89). -/
def fltTop (s : State) : Nat := ((List.range 6).map (fun c => if s.flt.status.getD c 0 = 0 then 0 else 2 ^ c)).sum

/-- Code of a power state as PWR.STATUS and PWR_STATE show it. -/
def powerCode : PowerState → Nat
  | .run => 0
  | .doze => 1
  | .sleep => 2
  | .hibernate => 3

/-- PWR_STATE (R89). -/
def pwrStateWord (s : State) : Word :=
  w18 (bit s.pwr.moving * 32 + bit s.pwr.pl0Retired * 16 + s.pwr.pl % 4 * 4 + powerCode s.pwr.state % 2)

/-- PWR_AGEOFS (R89): PL0 in the low bits. -/
def ageOfsWord (s : State) : Word :=
  w18 (((List.range 4).map (fun k => s.pwr.ageOfs.getD k 0 % 8 * 8 ^ k)).sum)

/-- PWR_DOMAIN (R89). -/
def domainWord (s : State) : Word := w18 (s.mem.bankOn.toNat * 1024 + s.pwr.domains.toNat)

/-- FLT_SAFE of a copy of the AON domain (R89). -/
def fltSafe (a : Aon) : Word := w18 (bit a.safeQuiet * 4 + bit a.safeLatched * 2 + bit a.safeActive)

/-- FLT_HIST_0 to 2 of an entry (R89). -/
def histWords (h : HistEntry) : List Word :=
  [w18 h.ts.toNat, w18 (h.ts.toNat / 2 ^ 18 % 64 * 4096 + h.source.toNat),
   w18 (h.cls.toNat * 16384 + h.severity.toNat * 2048 + bit h.esc * 1024 + h.ts.toNat / 2 ^ 24)]

/-- FLT_HIST_0 to 2 at an index, newest first; zeros at or beyond COUNT (R89). -/
def histAt (l : List HistEntry) (k : Nat) : List Word :=
  match l[k]? with
  | some h => histWords h
  | none => [0, 0, 0]

/-- ID_STRAP (R89). -/
def strapWord (s : State) : Word :=
  w18 (bit s.boot.straps.testEn * 4 + bit s.boot.straps.boot1 * 2 + bit s.boot.straps.boot0)

/-- ID_OTPSTAT (R89). DESIGN CHOICE (log 43): class OTP loads the register after every reset; a fuse burned in operation shows at once. -/
def otpStatWord (s : State) : Word := w18 (s.sec.otp.antiroll % 64 * 8 + s.sec.otp.epoch % 8)

end Sys2Proof.Machine
end

