-- ==== Sys2Proof/Machine/Operands.lean ====
section
/-!
DEFINITION. Reading the operands of commands: register addresses and aliases (R81, R82), the state that each access path has
of its own (R73), and the fields of a command packet (R103).
-/

namespace Sys2Proof.Machine

open Sys2Proof

/-! ## Register addresses -/

/-- Offsets that a block decodes: its size (R81, the table of register blocks). -/
def blockSize (b : Nat) : Nat :=
  match b with
  | 0 => 8
  | 2 => 32
  | 5 => 4
  | 6 => 4
  | 7 => 64
  | _ => 16

/-- The register an address names: bits [9:7] the block, the decoded offset bits, [10] and higher offset bits ignored (R81). -/
def regOf (a : BitVec 13) : Nat := a.toNat / 128 % 8 * 128 + a.toNat % 128 % blockSize (a.toNat / 128 % 8)

/-- The operation alias: 0 plain, 1 set, 2 clear, 3 toggle (R81). -/
def aliasOf (a : BitVec 13) : Nat := a.toNat / 2048

/-- The register holds an RWG field (R84). -/
def isGuarded (r : Nat) : Bool := r == 0o412 || r == 0o415 || r == 0o1001 || r == 0o1003

/-- The register is held in the AON domain (R86). -/
def isAon (r : Nat) : Bool :=
  (decide (0o1000 ≤ r) && decide (r ≤ 0o1013)) || r == 0o411 || r == 0o413 || (decide (0o417 ≤ r) && decide (r ≤ 0o422))

/-- What written data does to a field under an alias (R81). -/
def applyAlias (alias_ : Nat) (field data : Nat) : Nat :=
  match alias_ with
  | 0 => data
  | 1 => field ||| data
  | 2 => field &&& (262143 ^^^ data)
  | _ => field ^^^ data

/-! ## State per access path (R73) -/

/-- Guard state of a path. -/
def guardOf (p : Path) (s : State) : Guard :=
  match p with | .sup => s.win.guardSup | .mspi => s.win.guardMspi | .usb => s.win.guardUsb

/-- Replace the guard state of a path. -/
def setGuard (p : Path) (g : Guard) (s : State) : State :=
  match p with
  | .sup => { s with win := { s.win with guardSup := g } }
  | .mspi => { s with win := { s.win with guardMspi := g } }
  | .usb => { s with win := { s.win with guardUsb := g } }

/-- MBX registers of a path. -/
def mbxOf (p : Path) (s : State) : MbxRegs :=
  match p with | .sup => s.win.mbxSup | .mspi => s.win.mbxMspi | .usb => s.win.mbxUsb

/-- Replace the MBX registers of a path. -/
def setMbx (p : Path) (m : MbxRegs) (s : State) : State :=
  match p with
  | .sup => { s with win := { s.win with mbxSup := m } }
  | .mspi => { s with win := { s.win with mbxMspi := m } }
  | .usb => { s with win := { s.win with mbxUsb := m } }

/-- Shadows of a path (R69). -/
def shadowOf (p : Path) (s : State) : Shadow :=
  match p with | .sup => s.win.shadowSup | .mspi => s.win.shadowMspi | .usb => s.win.shadowUsb

/-- Replace the shadows of a path. -/
def setShadow (p : Path) (l : Shadow) (s : State) : State :=
  match p with
  | .sup => { s with win := { s.win with shadowSup := l } }
  | .mspi => { s with win := { s.win with shadowMspi := l } }
  | .usb => { s with win := { s.win with shadowUsb := l } }

/-- The mailbox whose counts a path shows: MBX-S for the supervisor and MSPI, MBX-U for USB (R89). -/
def pathBox : Path → Box
  | .usb => .u
  | _ => .s

/-- Inbound sub-queues of a mailbox. -/
def subQueues (b : Box) (s : State) : List SubQueue := match b with | .u => s.mbx.inU | .s => s.mbx.inS

/-- One inbound sub-queue. -/
def subQueue (b : Box) (k : Nat) (s : State) : SubQueue := (subQueues b s).getD k {}

/-- Replace one inbound sub-queue. -/
def setSubQueue (b : Box) (k : Nat) (q : SubQueue) (s : State) : State :=
  match b with
  | .u => { s with mbx := { s.mbx with inU := listSet s.mbx.inU k q } }
  | .s => { s with mbx := { s.mbx with inS := listSet s.mbx.inS k q } }

/-- Words that a sub-queue holds. -/
def SubQueue.used (q : SubQueue) : Nat := (q.packets.map (fun p => p.words.length)).sum + q.part.length

/-- The firmware runs in RUN or DOZE. -/
def awake (s : State) : Bool := s.pwr.state == .run || s.pwr.state == .doze

/-! ## Command packets (R103) -/

/-- A command word without its flags: group and code. -/
def cmdCode (w : Word) : Nat := w.toNat / 64

/-- AUTH flag of a command word. -/
def authFlag (w : Word) : Bool := w.bit 5

/-- NOREPLY flag of a command word. -/
def noReplyFlag (w : Word) : Bool := w.bit 4

/-- Group of a command word. -/
def groupOf (w : Word) : Nat := w.toNat / 4096

/-- Words of the authentication trailer (R111). -/
def trailerLen : Nat := 9

/-- A packet of 2 words or more as a command. -/
def commandOf (b : Box) (p : Packet) : Command :=
  let ws := p.words.map (·.data)
  let w0 := ws.getD 0 0
  let body := ws.drop 2
  { word0 := w0
    seq := ws.getD 1 0
    box := b
    arrival := p.arrival
    params := if authFlag w0 then body.take (body.length - trailerLen) else body
    words := ws
    poisoned := p.words.any MbxWord.poisoned
    cut := p.cut }

/-- Parameter n, numbered from 1, as a number; 0 for an absent one. -/
def Command.p (c : Command) (n : Nat) : Nat := (c.params.getD (n - 1) 0).toNat

end Sys2Proof.Machine
end

