-- ==== Sys2Proof/Machine/Registers.lean ====
section
/-!
DEFINITION. The register window (04): reads and writes of every register, triplicated fields (R83), the guard (R84, R85),
posted AON writes (R86, R87), and the meanings of the register rows.
-/

namespace Sys2Proof.Machine

open Sys2Proof

/-! ## Triplicated fields -/

/-- Vote the guard lock state of a path: a disagreement locks it (R83). -/
def voteGuard (p : Path) (s : State) : State :=
  let g := guardOf p s
  if g.unlocked.agrees then s
  else raiseFault 0o0220 (countVote (setGuard p { g with unlocked := {} } s))

/-- Vote FLT_SAFECTL: a disagreement enters safe state (R83, R396). -/
def voteSafectl (s : State) : State :=
  if s.win.safectl.agrees then s
  else raiseDisagreement (countVote { s with win := { s.win with safectl := Trip.of s.win.safectl.vote } })

/-- Vote the severity entry of a source: a disagreement enters safe state (R83, R396). -/
def voteSev (src : Nat) (s : State) : State :=
  let t := sevEntry src s
  if t.agrees then s
  else raiseDisagreement (countVote { s with flt := { s.flt with sev := insertKey s.flt.sev src (Trip.of t.vote) } })

/-- Vote WAKE_POL (R83). -/
def voteWakePol (s : State) : State :=
  if s.aon.wakePol.agrees then s
  else raiseFault 0o0220 (countVote { s with aon := { s.aon with wakePol := Trip.of s.aon.wakePol.vote } })

/-- Vote TAMP_POL (R83). -/
def voteTampPol (s : State) : State :=
  if s.aon.tampPol.agrees then s
  else raiseFault 0o0220 (countVote { s with aon := { s.aon with tampPol := Trip.of s.aon.tampPol.vote } })

/-- The background sweep of every triplicated field (R83). -/
def sweepTrips (s : State) : State :=
  let s := voteGuard .usb (voteGuard .mspi (voteGuard .sup s))
  let s := (s.flt.sev.map (·.1)).foldl (fun s src => voteSev src s) (voteSafectl s)
  voteTampPol (voteWakePol s)

/-! ## The AON domain -/

/-- A W1C field at one clock edge (R88): the bits that a write clears, and the bits that an event sets at that edge, which win. -/
def w1c {n : Nat} (field clears events : BitVec n) : BitVec n := (field &&& ~~~clears) ||| events

/-- Apply one posted write to the live AON value (R86): RW and W1C fields, the RWG fields of guarded
writes, and RTC_SUB, RTC_SEC0 and 1 and RTC_ALM0 and 1 as the firmware posts them, their register numbers 0o1000 higher
(R407, R451). -/
def applyPosted (w : Posted) (s : State) : State :=
  let a := s.aon
  let d := w.data.toNat
  match w.addr with
  | 0o1000 => { s with aon := { a with wakeEn := BitVec.ofNat 8 (applyAlias w.op a.wakeEn.toNat d) } }
  | 0o1001 => let s := voteWakePol s
              { s with aon := { s.aon with wakePol := Trip.of (BitVec.ofNat 4 d) } }
  | 0o1002 => if w.op = 0 then { s with aon := { a with wakeCause := w1c a.wakeCause (BitVec.ofNat 8 d) 0 } } else s
  | 0o1003 => let s := voteTampPol s
              { s with aon := { s.aon with tampPol := Trip.of (BitVec.ofNat 2 d) } }
  | 0o1005 => if w.op = 0 then { s with aon := { a with rstCause := w1c a.rstCause (BitVec.ofNat 7 d) 0 } } else s
  | 0o2006 => { s with aon := { a with rtcSub := d } }
  | 0o2007 => { s with aon := { a with rtcSec := BitVec.ofNat 36 (a.rtcSec.toNat / 2 ^ 18 * 2 ^ 18 + d) } }
  | 0o2010 => { s with aon := { a with rtcSec := BitVec.ofNat 36 (d * 2 ^ 18 + a.rtcSec.toNat % 2 ^ 18) } }
  | 0o2011 => { s with aon := { a with rtcAlm := BitVec.ofNat 36 (a.rtcAlm.toNat / 2 ^ 18 * 2 ^ 18 + d) } }
  | 0o2012 => { s with aon := { a with rtcAlm := BitVec.ofNat 36 (d * 2 ^ 18 + a.rtcAlm.toNat % 2 ^ 18) } }
  | _ => s

/-- Apply the oldest posted write (R86). -/
def applyOldest (s : State) : State :=
  match s.win.posted with
  | [] => s
  | w :: rest => applyPosted w { s with win := { s.win with posted := rest } }

/-- A slow-clock edge for the posted writes and the read copies (R86): each write takes effect by its second edge, then the
copies refresh, and AON_WPEND clears once they show the last write. -/
def aonEdge (s : State) : State :=
  let due := s.win.posted.filter (fun w => decide (1 ≤ w.edges))
  let kept := s.win.posted.filter (fun w => decide (w.edges < 1))
  let s := { s with win := { s.win with posted := kept.map (fun w => { w with edges := w.edges + 1 }) } }
  let s := due.foldl (fun s w => applyPosted w s) s
  { s with win := { s.win with copy := s.aon, wpend := decide (s.win.posted ≠ []) } }

/-- Slow-clock periods by which RESET_OUT_N outlasts the end of a reset: 1 ms (R41). -/
def outPeriods : Nat := Config.slowPerS / 1000

/-- Slow-clock periods pass in AON, the edges of the posted writes and copies apart: the RTC (R62, R64), and the millisecond of
RESET_OUT_N (R41). -/
def aonTime (n : Nat) (s : State) : State :=
  let sub := s.aon.rtcSub + n
  let out := min outPeriods (s.boot.outEdges + n)
  { s with
    aon := { s.aon with rtcSub := sub % Config.slowPerS, rtcSec := s.aon.rtcSec + BitVec.ofNat 36 (sub / Config.slowPerS) }
    boot := { s.boot with outEdges := out, resetOut := s.boot.resetOut && decide (out < outPeriods) } }

/-- One slow-clock period: the RTC, then posted writes and read copies (R62, R86). -/
def slowEdge (s : State) : State := aonEdge (aonTime 1 s)

/-- Slow-clock periods that pass without a tick. Every posted write is applied by the second edge, so the edges after two refresh the
copies alone (R86). -/
def slowTime (n : Nat) (s : State) : State :=
  match n with
  | 0 => s
  | 1 => slowEdge s
  | k + 2 => slowEdge (slowEdge (aonTime k s))

/-- Every posted write is applied and the copies show it: two slow-clock edges without time of their own (R86, log 41). -/
def drainPosted (s : State) : State := aonEdge (aonEdge s)

/-- Slow-clock periods that pass while the root PLL is stopped for SLEEP or HIBERNATE: AON advances the tick counter by 3 for every 2 of
them, before anything that happens at their end (R68). -/
def asleepTime (n : Nat) (s : State) : State :=
  let k := bit s.clk.slowOdd + n
  slowTime n { s with
    clk := { s.clk with tick := s.clk.tick + BitVec.ofNat 54 (k / 2 * 3), slowOdd := k % 2 == 1 }
    pwr := { s.pwr with asleep := s.pwr.asleep + n } }

/-- The device is in SLEEP or HIBERNATE, where no tick of the root passes. -/
def asleep (s : State) : Bool := s.pwr.state == .sleep || s.pwr.state == .hibernate

/-- Slow-clock periods that a row tells of pass, when the device is asleep (R62, R68). -/
def sleepTime (periods : Nat) (s : State) : State := if asleep s then asleepTime periods s else s

/-- The tick counter returns to the root: 1 tick for an odd period, and the phase of the slow clock against the tick is open from here on
(R58, R68). -/
def tickReturns (s : State) : State :=
  let (v, s) := drawBits 2 s
  { s with clk := { s.clk with
      tick := s.clk.tick + BitVec.ofNat 54 (bit s.clk.slowOdd), slowOdd := false, estimated := true, slowAcc := v.toNat % 3 } }

/-- Post an AON write on a path (R86, R87): a full buffer drops it over MSPI and stalls the supervisor until an entry frees. -/
def postAon (p : Path) (r op : Nat) (data : Word) (s : State) : State :=
  if s.win.posted.length < 8 then
    { s with win := { s.win with posted := s.win.posted ++ [⟨r, op, data, 0⟩], wpend := true } }
  else
    match p with
    | .mspi => { s with win := { s.win with wdrop := true } }
    | .sup =>
      let s := applyOldest s
      { s with win := { s.win with posted := s.win.posted ++ [⟨r, op, data, 0⟩], wpend := true } }
    | .usb => s

/-! ## Reads -/

/-- Words 1 on of a multi-word value are latched by a read of its word 0 (R69): the companions of a LO register, in order. -/
def companions (r : Nat) (s : State) : List (Nat × Word) :=
  let die := wordsOf s.sec.otp.die.toNat 3
  let h := histAt s.win.copy.hist s.win.histSel.toNat
  match r with
  | 0o3 => [(0o4, die.getD 1 0), (0o5, die.getD 2 0)]
  | 0o420 => [(0o421, h.getD 1 0), (0o422, h.getD 2 0)]
  | 0o1007 => [(0o1010, w18 (s.win.copy.rtcSec.toNat / 2 ^ 18))]
  | 0o1011 => [(0o1012, w18 (s.win.copy.rtcAlm.toNat / 2 ^ 18))]
  | 0o1200 => [(0o1201, w18 (s.clk.tick.toNat / 2 ^ 18)), (0o1202, w18 (s.clk.tick.toNat / 2 ^ 36))]
  | 0o1614 => [(0o1615, w18 ((s.snap.ports.getD 0 {}).energy.toNat / 2 ^ 18))]
  | 0o1624 => [(0o1625, w18 ((s.snap.ports.getD 1 {}).energy.toNat / 2 ^ 18))]
  | 0o1634 => [(0o1635, w18 ((s.snap.ports.getD 2 {}).energy.toNat / 2 ^ 18))]
  | 0o1644 => [(0o1645, w18 ((s.snap.ports.getD 3 {}).energy.toNat / 2 ^ 18))]
  | _ => []

/-- The register is a companion word that a path reads from its shadow (R69). -/
def isCompanion (r : Nat) : Bool :=
  [0o4, 0o5, 0o421, 0o422, 0o1010, 0o1012, 0o1201, 0o1202, 0o1615, 0o1625, 0o1635, 0o1645].contains r

/-- The outbound queue that a path has selected (R89). -/
def outQueue (p : Path) (s : State) : List OutPacket := if (mbxOf p s).outSel then s.mbx.event else s.mbx.reply

/-- Value of a PORTSTAT register of flex port n (R89). -/
def portStatReg (n off : Nat) (s : State) : Word :=
  let p := s.snap.ports.getD n {}
  match off with
  | 0 => p.stat
  | 1 => p.vbus
  | 2 => p.current
  | 3 => p.tmod
  | 4 => w18 p.energy.toNat
  | 6 => p.contract
  | _ => 0

/-- GUARD_STAT of a path (R89); an unlock stands for less than 10 ms (R84). -/
def guardOpen (p : Path) (s : State) : Bool :=
  let g := guardOf p s
  g.unlocked.vote == 1 && decide (since g.since s < 10 * Config.tkPerMs)

/-- GUARD_STAT (R89). -/
def guardStat (p : Path) (s : State) : Word :=
  let g := guardOf p s
  w18 (bit g.keyErr * 8 + bit g.badPair * 4 + bit g.lockedWr * 2 + bit (guardOpen p s))

/-- The value a register shows on a path, side effects apart (R89). Reserved offsets read zero (R82). -/
def peek (p : Path) (r : Nat) (s : State) : Word :=
  let m := mbxOf p s
  let q := subQueue (pathBox p) m.prio.toNat s
  match r with
  | 0o0 => w18 Config.part
  | 0o1 => 0o020000
  | 0o2 => s.win.idFw
  | 0o3 => w18 s.sec.otp.die.toNat
  | 0o6 => otpStatWord s
  | 0o7 => strapWord s
  | 0o200 => w18 m.prio.toNat
  | 0o203 => w18 (512 - q.used)
  | 0o204 => w18 q.packets.length
  | 0o206 => w18 (bit m.outSel)
  | 0o210 => w18 (bit m.tagEnd * 2 + bit m.tagPoison)
  | 0o211 => w18 (queueWords (outQueue p s))
  | 0o212 => w18 (outQueue p s).length
  | 0o213 => w18 (bit m.inOverrun * 2 + bit m.outUnderrun)
  | 0o400 => w18 (fltTop s)
  | 0o401 => s.flt.status.getD 0 0
  | 0o402 => s.flt.status.getD 1 0
  | 0o403 => s.flt.status.getD 2 0
  | 0o404 => s.flt.status.getD 3 0
  | 0o405 => s.flt.status.getD 4 0
  | 0o406 => s.flt.status.getD 5 0
  | 0o407 => w18 s.win.csel.toNat
  | 0o410 => s.flt.off.getD s.win.csel.toNat 0
  | 0o411 => fltSafe s.win.copy
  | 0o412 => w18 s.win.safectl.vote.toNat
  | 0o413 => w18 s.win.copy.recov
  | 0o414 => w18 s.win.sevSel.toNat
  | 0o415 => w18 (sevEntry s.win.sevSel.toNat s).vote.toNat
  | 0o416 => w18 s.win.histSel.toNat
  | 0o417 => w18 s.win.copy.hist.length
  | 0o420 => (histAt s.win.copy.hist s.win.histSel.toNat).getD 0 0
  | 0o600 => pwrStateWord s
  | 0o601 => w18 (s.pwr.vcore % 1024)
  | 0o602 => ageOfsWord s
  | 0o603 => w18 (s.pwr.budget % 8192)
  | 0o604 => domainWord s
  | 0o605 => w18 (s.pwr.retain.toNat / 2 * 2 + 1)
  | 0o606 => w18i (s.pwr.temps.getD 0 0)
  | 0o607 => w18i (s.pwr.temps.getD 1 0)
  | 0o610 => w18i (s.pwr.temps.getD 2 0)
  | 0o611 => w18i (s.pwr.temps.getD 3 0)
  | 0o1000 => w18 s.win.copy.wakeEn.toNat
  | 0o1001 => w18 s.win.copy.wakePol.vote.toNat
  | 0o1002 => w18 s.win.copy.wakeCause.toNat
  | 0o1003 => w18 s.win.copy.tampPol.vote.toNat
  | 0o1004 => w18 s.win.copy.tampStat.toNat
  | 0o1005 => w18 s.win.copy.rstCause.toNat
  | 0o1006 => w18 s.win.copy.rtcSub
  | 0o1007 => w18 s.win.copy.rtcSec.toNat
  | 0o1011 => w18 s.win.copy.rtcAlm.toNat
  | 0o1013 => w18 (bit s.win.wpend)
  | 0o1200 => w18 s.clk.tick.toNat
  | 0o1203 => w18 (bit s.clk.estimated)
  | 0o1401 => guardStat p s
  | 0o1402 => w18 s.win.guardVote
  | 0o1600 => s.snap.seq
  | 0o1601 => s.snap.hs
  | 0o1602 => s.snap.vin
  | 0o1603 => s.snap.vsrc5
  | 0o1604 => s.snap.vsrch
  | _ =>
    if isCompanion r then lookupD (shadowOf p s) r 0
    else if 0o1610 ≤ r ∧ r < 0o1650 then portStatReg ((r - 0o1610) / 8) (r % 8) s
    else 0

/-- Remove the next word of the selected outbound queue on MSPI, with OUT_UNDERRUN and MBX_OUT_TAG (R89, R101). -/
def popOut (s : State) : Word × State :=
  let m := s.win.mbxMspi
  match outQueue .mspi s with
  | [] => (0o777777, setMbx .mspi { m with outUnderrun := true } s)
  | pk :: rest =>
    match pk.words with
    | [] => (0o777777, setMbx .mspi { m with outUnderrun := true } s)
    | w :: ws =>
      let q := if ws = [] then rest else { pk with words := ws } :: rest
      let s := if m.outSel then { s with mbx := { s.mbx with event := q } } else { s with mbx := { s.mbx with reply := q } }
      let s := setMbx .mspi { m with tagEnd := w.endMark, tagPoison := w.poisoned } s
      (w.data, if w.poisoned then raiseFault 0o0140 s else s)

/-- Vote the triplicated field that a register shows, before it is read or written (R83). -/
def voteReg (p : Path) (r : Nat) (s : State) : State :=
  match r with
  | 0o412 => voteSafectl s
  | 0o415 => voteSev s.win.sevSel.toNat s
  | 0o1001 => voteWakePol s
  | 0o1003 => voteTampPol s
  | 0o1401 => voteGuard p s
  | _ => s

/-- Read a register on a path: the value and the state after the read's side effects (R69, R75, R82). -/
def readReg (p : Path) (r : Nat) (s : State) : Word × State :=
  let s := voteReg p r s
  if r = 0o207 then (match p with | .mspi => popOut s | _ => (0, s))
  else
    let cs := companions r s
    (peek p r s, if cs = [] then s else setShadow p (cs.foldl (fun l c => insertKey l c.1 c.2) (shadowOf p s)) s)

/-! ## Writes -/

/-- Lock a path (R84). -/
def lockPath (p : Path) (s : State) : State := setGuard p { guardOf p s with unlocked := {} } s

/-- A write to UNLOCK (R84). -/
def writeUnlock (p : Path) (d : Word) (s : State) : State :=
  let s := voteGuard p s
  let g := guardOf p s
  if d = 0o525252 then setGuard p { g with unlocked := Trip.of 1, since := s.clk.tick } s
  else setGuard p { g with unlocked := {}, keyErr := true } s

/-- GDISC for the next MSPI frame (R85). -/
def discardMark (p : Path) (s : State) : State :=
  match p with | .mspi => { s with win := { s.win with gdisc := true } } | _ => s

/-- BAD_PAIR, the configuration-integrity fault 0o0_221, and GDISC (R85). -/
def badPair (p : Path) (s : State) : State :=
  discardMark p (raiseFault 0o0221 (setGuard p { guardOf p s with badPair := true } s))

/-- Apply a guarded write that passed the guard (R89).
DESIGN CHOICE (log 46): a write to FLT_SEV for an undefined or a fixed source is not applied and sets no GDISC; one of severity 6 or 7 to
such a source counts as a wrong complement first. -/
def applyGuarded (p : Path) (r v : Nat) (d : Word) (s : State) : State :=
  match r with
  | 0o412 =>
    let s := voteSafectl s
    { s with win := { s.win with safectl := Trip.of (BitVec.ofNat 4 v) } }
  | 0o415 =>
    let src := s.win.sevSel.toNat
    if v % 8 ≥ 6 then badPair p s
    else if (sourceDef src).isNone || fixedSource src then s
    else
      let s := voteSev src s
      { s with flt := { s.flt with sev := insertKey s.flt.sev src (Trip.of (BitVec.ofNat 4 v)) } }
  | _ => postAon p r 0 (w18 (d.toNat % 512)) s

/-- A write to a register that holds an RWG field: the outcomes of R85. The path is locked in every case. -/
def guardedWriteReg (p : Path) (r op : Nat) (d : Word) (s : State) : State :=
  let s := voteGuard p s
  let isOpen := guardOpen p s
  let s := lockPath p s
  if !isOpen then discardMark p (setGuard p { guardOf p s with lockedWr := true } s)
  else if op = 0 ∧ d.bits 17 9 = 511 - d.bits 8 0 then applyGuarded p r (d.bits 8 0) d s
  else badPair p s

/-- Host software acknowledges the blocks of a cluster by writing its status word (R89, R391). -/
def ackCluster (c : Nat) (d : Word) (s : State) : State :=
  acknowledge (fun u => u.source.toNat / 512 == c && d.bit (u.source.toNat / 16 % 32))
    s

/-- Write a register in place, outside the mailboxes, the guard and the AON domain (R82, R89). -/
def pokePlain (p : Path) (r op : Nat) (d : Word) (s : State) : State :=
  let m := mbxOf p s
  let n := d.toNat
  match r with
  | 0o200 => setMbx p { m with prio := BitVec.ofNat 2 (applyAlias op m.prio.toNat n) } s
  | 0o206 => setMbx p { m with outSel := applyAlias op (bit m.outSel) n % 2 == 1 } s
  | 0o213 =>
    if op = 0 then setMbx p { m with inOverrun := m.inOverrun && !d.bit 1, outUnderrun := m.outUnderrun && !d.bit 0 } s
    else s
  | 0o401 => if op = 0 then ackCluster 0 d s else s
  | 0o402 => if op = 0 then ackCluster 1 d s else s
  | 0o403 => if op = 0 then ackCluster 2 d s else s
  | 0o404 => if op = 0 then ackCluster 3 d s else s
  | 0o405 => if op = 0 then ackCluster 4 d s else s
  | 0o406 => if op = 0 then ackCluster 5 d s else s
  | 0o407 => { s with win := { s.win with csel := BitVec.ofNat 3 (applyAlias op s.win.csel.toNat n) } }
  | 0o414 => { s with win := { s.win with sevSel := BitVec.ofNat 12 (applyAlias op s.win.sevSel.toNat n) } }
  | 0o416 => { s with win := { s.win with histSel := BitVec.ofNat 4 (applyAlias op s.win.histSel.toNat n) } }
  | 0o605 => { s with pwr := { s.pwr with retain := BitVec.ofNat 8 (applyAlias op s.pwr.retain.toNat n) &&& 0xFE } }
  | 0o1400 => if op = 0 then writeUnlock p d s else s
  | 0o1401 =>
    if op = 0 then
      let s := voteGuard p s
      let g := guardOf p s
      setGuard p { g with keyErr := g.keyErr && !d.bit 3, badPair := g.badPair && !d.bit 2, lockedWr := g.lockedWr && !d.bit 1 } s
    else s
  | _ => s

/-- The register holds only RO or RC fields that the firmware maintains: ID_FW, the PWR block but PWR_RETAIN, and RTC_ALM0 and 1. -/
def isMaintained (r : Nat) : Bool :=
  r == 0o2 || (decide (0o600 ≤ r) && decide (r ≤ 0o611) && r != 0o605) || r == 0o1011 || r == 0o1012

/-- A plain write by the supervisor to fields that the firmware maintains (R89); RTC_ALM0 and 1 are posted under R86. -/
def pokeMaintained (r : Nat) (d : Word) (s : State) : State :=
  let n := d.toNat
  let temp := fun (k : Nat) => { s with pwr := { s.pwr with temps := listSet s.pwr.temps k d.signed } }
  match r with
  | 0o2 => { s with win := { s.win with idFw := w18 (n / 64 * 64) } }
  | 0o600 => { s with pwr := { s.pwr with
      moving := d.bit 5, pl0Retired := d.bit 4, pl := d.bits 3 2
      state := if d.bits 1 0 = 0 then .run else if d.bits 1 0 = 1 then .doze else s.pwr.state } }
  | 0o601 => { s with pwr := { s.pwr with vcore := n % 1024 } }
  | 0o602 => { s with pwr := { s.pwr with ageOfs := (List.range 4).map (fun k => bitsOf n (3 * k + 2) (3 * k)) } }
  | 0o603 => { s with pwr := { s.pwr with budget := n % 8192 } }
  | 0o604 => { s with mem := { s.mem with bankOn := BitVec.ofNat 8 (n / 1024) }, pwr := { s.pwr with domains := BitVec.ofNat 6 n } }
  | 0o606 => temp 0
  | 0o607 => temp 1
  | 0o610 => temp 2
  | 0o611 => temp 3
  | 0o1011 => postAon .sup 0o2011 0 d s
  | 0o1012 => postAon .sup 0o2012 0 d s
  | _ => s

end Sys2Proof.Machine
end

