-- ==== Sys2Proof/Machine/Mailbox.lean ====
section
/-!
DEFINITION. The mailboxes (R90 to R102) and the access paths of the register window (R74 to R80, R85, R87): inbound words, USB
containers, the outbound endpoints, MSPI frames and vendor requests, with the meanings of their rows.
-/

namespace Sys2Proof.Machine

open Sys2Proof

/-! ## Inbound queues -/

/-- A packet is exactly a SYS.HEARTBEAT with NOREPLY whose words pass their parity check (R311). -/
def isFreeHeartbeat (ws : List MbxWord) : Bool :=
  match ws with
  | [a, b] => a.data == 0o010320 && !a.poisoned && !b.poisoned
  | _ => false

/-- A heartbeat restarts the timer from its arrival tick (R254, R311). -/
def restartHeartbeat (arrival : Tick) (s : State) : State :=
  { s with zon := { s.zon with hbTick := arrival, hbReturn := s.zon.hbReturn || s.zon.hbLost } }

/-- An end-marked word completes a packet: it takes its arrival tick (R91), and a NOREPLY heartbeat restarts the timer at
once (R311). -/
def completePacket (b : Box) (k : Nat) (q : SubQueue) (w : MbxWord) (s : State) : State :=
  let ws := q.part ++ [w]
  let s := setSubQueue b k { q with packets := q.packets ++ [{ words := ws, arrival := s.clk.tick }], part := [] } s
  if isFreeHeartbeat ws then restartHeartbeat s.clk.tick s else s

/-- A packet is dropped (R93): its words go, the rest of it is discarded, and SYS.PACKET_DROPPED names the reason. -/
def dropPacket (b : Box) (k : Nat) (q : SubQueue) (w : MbxWord) (reason : Nat) (s : State) : State :=
  post 0o010201 [w18 (boxCode b * 65536 + k * 16384 + reason)]
    (setSubQueue b k { q with part := [], discard := !w.endMark } s)

/-- A word arrives at a sub-queue (R93).
DESIGN CHOICE (log 46): a word that finds the sub-queue full and is also its packet's 257th makes an overrun drop. -/
def acceptWord (b : Box) (k : Nat) (w : MbxWord) (s : State) : State :=
  let q := subQueue b k s
  if q.discard then setSubQueue b k { q with discard := !w.endMark } s
  else if 512 ≤ q.used then
    let s := match b with
      | .s => setMbx .mspi { s.win.mbxMspi with inOverrun := true } s
      | .u => s
    dropPacket b k q w 2 s
  else if 256 ≤ q.part.length then dropPacket b k q w 1 s
  else if w.endMark then completePacket b k q w s
  else setSubQueue b k { q with part := q.part ++ [w] } s

/-- Flush the sub-queues that a mask names, on MBX-S (R94). -/
def flushS (mask : Nat) (s : State) : State :=
  (List.range 4).foldl (fun s k => if bitOf mask k then setSubQueue .s k {} s else s) s

/-- A word written through MBX_IN_DATA or MBX_IN_LAST over MSPI (R89). -/
def mspiWord (d : Word) (last : Bool) (s : State) : State :=
  acceptWord .s s.win.mbxMspi.prio.toNat (mbxWord d last) s

/-! ## Writes through a path -/

/-- A register write on a path, whatever its register (R81, R82, R85, R86, R89). -/
def writeReg (p : Path) (r op : Nat) (d : Word) (s : State) : State :=
  if isGuarded r then guardedWriteReg p r op d s
  else if p == .sup && isMaintained r then (if op = 0 then pokeMaintained r d s else s)
  else if isAon r then postAon p r op d s
  else
    match p, r with
    | .mspi, 0o201 => if op = 0 then mspiWord d false s else s
    | .mspi, 0o202 => if op = 0 then mspiWord d true s else s
    | .mspi, 0o205 => if op = 0 then flushS (d.bits 3 0) s else s
    | _, _ => pokePlain p r op d s

/-- How MSPI answers (R76): not clocked, not serving in SLEEP, or serving. -/
inductive MspiMode where
  | undriven | notReady | serving
  deriving DecidableEq, Repr

/-- The MSPI slave's mode (R76). -/
def mspiMode (s : State) : MspiMode :=
  if !s.clk.rootLocked && s.boot.phase == .oscillator then .undriven
  else if s.pwr.state == .hibernate then .undriven
  else if s.pwr.state == .sleep then .notReady
  else .serving

/-- The recovery loader serves the ID and MBX blocks only (R447). -/
def inReach (r : Nat) (s : State) : Bool := s.boot.phase != .loader || decide (r < 0o400)

/-- MSPI_MISO of a frame: 1 and 0, FERR, GDISC, WDROP, NRDY, eight zeros and the data (R74). -/
def misoFrame (nrdy : Bool) (data : Word) (s : State) : BitVec 32 :=
  BitVec.ofNat 32 (2 ^ 31 + bit s.win.ferr * 2 ^ 29 + bit s.win.gdisc * 2 ^ 28 + bit s.win.wdrop * 2 ^ 27
    + bit nrdy * 2 ^ 26 + data.toNat)

/-- A frame shows and clears the flags that the frame before it left (R74). -/
def sendFrame (nrdy : Bool) (data : Word) (ferr gdisc wdrop : Bool) (s : State) : State :=
  emit (.miso (misoFrame nrdy data { s with win := { s.win with ferr := ferr, gdisc := gdisc, wdrop := wdrop } })) s

/-- An MSPI read frame (R74, R75, R76). -/
def mspiRead (r : Nat) (s : State) : State :=
  let (f, g, w) := (s.win.ferr, s.win.gdisc, s.win.wdrop)
  let s0 := { s with win := { s.win with ferr := false, gdisc := false, wdrop := false } }
  match mspiMode s with
  | .undriven => emit .misoUndriven s
  | .notReady => sendFrame true 0o777777 f g w s0
  | .serving =>
    if inReach r s then
      let (v, s1) := readReg .mspi r s0
      sendFrame false v f g w s1
    else sendFrame false 0 f g w s0

/-- An MSPI write frame (R74, R75, R76). -/
def mspiWrite (r op : Nat) (d : Word) (s : State) : State :=
  let (f, g, w) := (s.win.ferr, s.win.gdisc, s.win.wdrop)
  let s0 := { s with win := { s.win with ferr := false, gdisc := false, wdrop := false } }
  match mspiMode s with
  | .undriven => emit .misoUndriven s
  | .notReady => sendFrame true 0 f g w s0
  | .serving =>
    let s1 := sendFrame false 0 f g w s0
    if inReach r s then writeReg .mspi r op d s1 else s1

/-- The upstream host can reach the embedded function's control pipe (R77). -/
def usbReach (s : State) : Bool := s.hub.connected && !s.hub.suspended && !s.hub.l1 && awake s && fwRuns s

/-- Both streaming interfaces are in alternate 0, so that L1, U1 and U2 are accepted upstream (R162). -/
def streamsIdle (s : State) : Bool := s.hub.altPlay == 0 && s.hub.altCap == 0

/-- The embedded function is suspended: with the face, or by its port (R162). -/
def functionSuspended (s : State) : Bool := s.hub.suspended || s.hub.port11.suspend

/-- A transfer of the embedded function crosses the core between the upstream face and port 11 (R25): without room it is answered with
NAK, or NRDY on SuperSpeed (R198). -/
def overCore (cls : CellClass) (toHost : Bool) (n : Nat) (f : State → State) (s : State) : State :=
  let src := if toHost then 11 else 0
  let dest : BitVec 18 := if toHost then 1 else 0x800
  if coreRoom cls src dest n s then f (crossCore cls dest n s)
  else emit (.handshake (if s.hub.functionUsb3 then .nrdy else .nak)) s

/-- The bytes of a data stage in the buffer of endpoint 0 (R151). -/
def fillControl (bs : List Byte) (s : State) : State := { s with hub := { s.hub with ram := { s.hub.ram with control := bs } } }

/-- The embedded function is configured, so its endpoints run (R96). -/
def usbUp (s : State) : Bool := usbReach s && s.hub.function.configured && !s.hub.port11.suspend

/-- A read on a path, its value put out (R69, R75, R79). -/
def pathRead (p : Path) (r : Nat) (s : State) : State :=
  match p with
  | .sup => if fwRuns s && awake s then (let (v, s) := readReg .sup r s; emit (.value v) s) else s
  | .mspi => mspiRead r s
  | .usb =>
    if usbReach s then
      let (v, s) := readReg .usb r s
      emit (.usbData (toBytesLE 3 v.toNat))
        (fillControl (toBytesLE 3 v.toNat) { s with win := { s.win with usbRead := some (BitVec.ofNat 24 v.toNat) } })
    else s

/-- A write on a path (R75, R78, R87): over USB a full AON buffer NAKs the status stage. -/
def pathWrite (p : Path) (r op : Nat) (d : Word) (s : State) : State :=
  match p with
  | .sup => if fwRuns s && awake s then writeReg .sup r op d s else s
  | .mspi => mspiWrite r op d s
  | .usb =>
    if usbReach s then
      (if isAon r ∧ 8 ≤ s.win.posted.length then emit (.handshake .nak) s
       else emit (.handshake .ack) (writeReg .usb r op d s))
    else s

/-! ## Meanings of the register rows -/

/-- REGISTER_WRITE (R81). -/
def execRegisterWrite (p : Path) (a : BitVec 13) (d : Word) (s : State) : Result :=
  effect (pathWrite p (regOf a) (aliasOf a) d) s

/-- SHADOW_LATCH_READ (R69): a read of a register; a LO word latches its companions. -/
def execShadowLatchRead (p : Path) (a : BitVec 13) (s : State) : Result := effect (pathRead p (regOf a)) s

/-- UNLOCK (R84). -/
def execUnlock (p : Path) (d : Word) (s : State) : Result := effect (pathWrite p 0o1400 0 d) s

/-- GUARDED_WRITE (R85). -/
def execGuardedWrite (p : Path) (a : BitVec 13) (d : Word) (s : State) : Result :=
  if isGuarded (regOf a) then effect (pathWrite p (regOf a) (aliasOf a) d) s
  else .fault (.illFormed "GUARDED_WRITE of a register without an RWG field")

/-- FAULT_ACKNOWLEDGE (R391): the faults latched at the same clock edge come after the write, so their status bits stay set (R88). -/
def execFaultAcknowledge (p : Path) (c : Fin 6) (w : AckWrite) (s : State) : Result :=
  effect (fun s => latchFaults w.same (pathWrite p (0o401 + c.val) 0 w.data s)) s

/-- GUARD_UNLOCK_EXPIRY (R84): an unlock lasts 10 ms. -/
def execGuardUnlockExpiry (p : Path) (s : State) : Result :=
  effect (fun s => if 10 * Config.tkPerMs ≤ since (guardOf p s).since s then lockPath p s else s) s

/-- AON_POSTED_WRITE (R86): the oldest posted write takes effect. -/
def execAonPostedWrite (s : State) : Result := effect applyOldest s

/-- MBX_IN_DATA (R93). -/
def execMbxInData (p : Path) (d : Word) (s : State) : Result := effect (pathWrite p 0o201 0 d) s

/-- MBX_IN_LAST (R91). -/
def execMbxInLast (p : Path) (d : Word) (s : State) : Result := effect (pathWrite p 0o202 0 d) s

/-- MBX_IN_FLUSH (R94). -/
def execMbxInFlush (p : Path) (d : Word) (s : State) : Result := effect (pathWrite p 0o205 0 d) s

/-- MBX_OUT_DATA (R101). -/
def execMbxOutData (p : Path) (s : State) : Result := effect (pathRead p 0o207) s

/-- PACKET_COMPLETE (R91): an end-marked word arrives at a sub-queue. -/
def execPacketComplete (b : Box) (k : Fin 4) (d : Word) (s : State) : Result :=
  effect (fun s =>
    match b with
    | .s => acceptWord .s k.val (mbxWord d true) s
    | .u =>
      if 512 ≤ (subQueue .u k.val s).used then emit (.handshake .nak) s
      else
        let s := acceptWord .u k.val (mbxWord d true) s
        if s.mbx.usbOpen = some k then { s with mbx := { s.mbx with usbOpen := none } } else s) s

/-- The address of a frame's first 14 bits: [30:26] and [25:18] of MSPI_MOSI (R74). -/
def mosiAddr (m : List Bool) : BitVec 13 :=
  BitVec.ofNat 13 (((m.drop 1).take 13).foldl (fun acc b => acc * 2 + bit b) 0)

/-- The effect of an MSPI frame of other than 32 cycles (R75): a read whose bit [18] was sampled stands, a write is not
applied, and FERR is set for the next frame. -/
def frameError (m : List Bool) (s : State) : State :=
  match mspiMode s with
  | .undriven => emit .misoUndriven s
  | _ =>
    let s := if m.getD 0 false ∧ 14 ≤ m.length then mspiRead (regOf (mosiAddr m)) s
      else { s with win := { s.win with ferr := false, gdisc := false, wdrop := false } }
    { s with win := { s.win with ferr := true } }

/-- MSPI_FRAME_ERROR (R75). -/
def execMspiFrameError (m : List Bool) (s : State) : Result :=
  if m.length = 32 then .fault (.illFormed "MSPI_FRAME_ERROR of 32 cycles") else effect (frameError m) s

/-! ## Vendor requests (R77 to R79) -/

/-- The request has one of the two forms that reach the window (R77). -/
def vendorForm (read : Bool) (u : Setup) : Bool :=
  u.bmRequestType == (if read then 0xC0 else 0x40) && u.bRequest == (if read then 0x41 else 0x42)
    && decide (u.wValue.toNat < 8192) && u.wIndex == 0 && u.wLength == 3

/-- Address of a vendor request. -/
def vendorAddr (u : Setup) : BitVec 13 := BitVec.ofNat 13 u.wValue.toNat

/-- A register read by vendor request; a repeated data stage returns the same bytes (R79). -/
def vendorRead (u : Setup) (again : Bool) (s : State) : State :=
  if !usbReach s then s
  else if !vendorForm true u then emit (.handshake .stall) s
  else
    overCore .ctrl true 1 (fun s => match again, s.win.usbRead with
      | true, some v => emit (.usbData (toBytesLE 3 v.toNat)) s
      | _, _ => pathRead .usb (regOf (vendorAddr u)) s) s

/-- A register write by vendor request (R78): bits [23:18] set give STALL; without the final handshake nothing is applied. -/
def vendorWrite (u : Setup) (d : BitVec 24) (completes : Bool) (s : State) : State :=
  if !usbReach s then s
  else if !vendorForm false u then emit (.handshake .stall) s
  else
    overCore .ctrl false 1 (fun s =>
      let s := fillControl (toBytesLE 3 d.toNat) s
      if 2 ^ 18 ≤ d.toNat then emit (.handshake .stall) s
      else if !completes then s
      else pathWrite .usb (regOf (vendorAddr u)) (aliasOf (vendorAddr u)) (w18 d.toNat) s) s

/-- REGISTER_VENDOR_READ (R79). -/
def execRegisterVendorRead (u : Setup) (again : Bool) (s : State) : Result := effect (vendorRead u again) s

/-- REGISTER_VENDOR_WRITE (R78). -/
def execRegisterVendorWrite (u : Setup) (d : BitVec 24) (completes : Bool) (s : State) : Result :=
  effect (vendorWrite u d completes) s

/-! ## USB mailbox transport (R96 to R100) -/

/-- Whole containers of a byte stream, and the bytes left over (R96). -/
def containers : List Byte → List Nat × List Byte
  | a :: b :: c :: rest =>
    let (cs, left) := containers rest
    ((a.toNat + 256 * b.toNat + 65536 * c.toNat) :: cs, left)
  | left => ([], left)

/-- Sub-queue of each container: PRIO of the word that opens its packet (R97). -/
def addressed : Option (Fin 4) → List Nat → List (Fin 4)
  | _, [] => []
  | cur, c :: cs =>
    let k := cur.getD (Fin.ofNat 4 (c / 2 ^ 20))
    k :: addressed (if bitOf c 23 then none else some k) cs

/-- Every addressed sub-queue has room for all of the containers bound for it (R98). -/
def roomFor (ks : List (Fin 4)) (s : State) : Bool :=
  (List.range 4).all (fun k =>
    let n := (ks.filter (fun x => x.val == k)).length
    n == 0 || decide ((subQueue .u k s).used + n ≤ 512))

/-- Take one container into MBX-U (R97). -/
def takeContainer (c : Nat) (s : State) : State :=
  let k := s.mbx.usbOpen.getD (Fin.ofNat 4 (c / 2 ^ 20))
  let e := bitOf c 23
  let s := { s with mbx := { s.mbx with usbOpen := if e then none else some k } }
  acceptWord .u k.val (mbxWord (w18 c) e) s

/-- A bulk OUT data packet (R96 to R98). -/
def bulkOut (bytes : List Byte) (s : State) : State :=
  if !usbUp s then s
  else
    let (cs, left) := containers (s.mbx.usbBytes ++ bytes)
    if roomFor (addressed s.mbx.usbOpen cs) s then
      overCore .bulk false (cellCount bytes.length) (fun s =>
        let s := cs.foldl (fun s c => takeContainer c s) s
        emit (.handshake .ack) { s with mbx := { s.mbx with usbBytes := left }, hub := { s.hub with ram := { s.hub.ram with bulkOut := bytes } } }) s
    else emit (.handshake .nak) s

/-- wMaxPacketSize of the function's bulk endpoints (R99). -/
def bulkMax (s : State) : Nat := if s.hub.functionUsb3 then 1024 else if s.hub.highSpeed then 512 else 64

/-- BULK_OUT_PACKET (R98). -/
def execBulkOutPacket (bytes : List Byte) (s : State) : Result :=
  if bytes.length ≤ 1024 then effect (bulkOut bytes) s
  else .fault (.illFormed "BULK_OUT_PACKET above wMaxPacketSize")

/-- The container of an outbound word (R96). -/
def containerOf (w : MbxWord) : List Byte :=
  toBytesLE 3 (w.data.toNat + bit w.poisoned * 2 ^ 22 + bit w.endMark * 2 ^ 23)

/-- Words taken from a packet until the bytes reach a size: the bytes, the words left and whether one was poisoned. -/
def fillChunk (max : Nat) : List Byte → List MbxWord → List Byte × List MbxWord × Nat
  | bs, [] => (bs, [], 0)
  | bs, w :: ws =>
    if max ≤ bs.length then (bs, w :: ws, 0)
    else
      let (b, r, n) := fillChunk max (bs ++ containerOf w) ws
      (b, r, n + bit w.poisoned)

/-- The answer of a bulk IN endpoint to one IN token (R99): the bytes or a NAK, the queue, the bytes held back, and whether
they end the transfer. -/
def bulkInStep (max : Nat) (q : List OutPacket) (held : List Byte) (tail : Bool) :
    Option (List Byte) × List OutPacket × List Byte × Bool × Nat :=
  if tail then (some held, q, [], false, 0)
  else
    match q with
    | [] => (none, [], held, false, 0)
    | pk :: rest =>
      let (bs, ws, n) := fillChunk max held pk.words
      let sent := bs.take max
      let left := bs.drop max
      match ws with
      | [] => (some sent, rest, left, decide (sent.length = max), n)
      | _ => (some sent, { pk with words := ws } :: rest, left, false, n)

/-- Raise the outbound queues' parity fault n times (R90, R388). -/
def poisonFaults : Nat → State → State
  | 0, s => s
  | n + 1, s => poisonFaults n (raiseFault 0o0140 s)

/-- A bulk IN token on the reply or the event endpoint (R99): NAK on an empty queue, else the bytes, which cross the core. -/
def bulkIn (event : Bool) (s : State) : State :=
  if !usbUp s then s
  else if event then
    match bulkInStep (bulkMax s) s.mbx.event s.mbx.eventXfer s.mbx.eventTail with
    | (none, _) => emit (.handshake .nak) s
    | (some bs, q, held, tail, n) =>
      overCore .bulk true (cellCount bs.length) (fun s => poisonFaults n (emit (.usbData bs) { s with
        mbx := { s.mbx with event := q, eventXfer := held, eventTail := tail }
        hub := { s.hub with ram := { s.hub.ram with event := bs } } })) s
  else
    match bulkInStep (bulkMax s) s.mbx.reply s.mbx.replyXfer s.mbx.replyTail with
    | (none, _) => emit (.handshake .nak) s
    | (some bs, q, held, tail, n) =>
      overCore .bulk true (cellCount bs.length) (fun s => poisonFaults n (emit (.usbData bs) { s with
        mbx := { s.mbx with reply := q, replyXfer := held, replyTail := tail }
        hub := { s.hub with ram := { s.hub.ram with reply := bs } } })) s

/-- BULK_IN_TOKEN (R99). -/
def execBulkInToken (event : Bool) (s : State) : Result := effect (bulkIn event) s

/-- What an upstream bus reset and a switch-over do to MBX-U and to replies of USB packets (R100). -/
def cutUsbMailbox (s : State) : State :=
  let m := { s.mbx with
    usbBytes := [], usbOpen := none, replyXfer := [], replyTail := false, eventXfer := [], eventTail := false
    inU := s.mbx.inU.map (fun q =>
      { q with packets := q.packets.map (fun p => { p with cut := true }), part := [], discard := false })
    reply := s.mbx.reply.filter (fun r => r.path != some .u)
    waits := s.mbx.waits.map (fun c => if c.box = .u then { c with cut := true } else c) }
  { s with mbx := m, win := { s.win with usbRead := none } }

/-- EVENTS_LOST (R110): an event is raised that the event queue has no room for. -/
def execEventsLost (w0 : Word) (params : List Word) (s : State) : Result :=
  effect (fun s => if s.boot.started && !eventFits params s then post w0 params s else s) s

end Sys2Proof.Machine
end

