-- ==== Sys2Proof/Machine/Command.lean ====
section
/-!
DEFINITION. The command interpreter (R92, R105 to R113): which packet the firmware takes, the checks of R108 in their order,
the authentication trailer, replies and completion records, and the packets that are refused before any command runs.
-/

namespace Sys2Proof.Machine

open Sys2Proof

/-! ## Which packet is taken -/

/-- A packet can start: the reply queue has room for its largest reply (R105). -/
def canStart (p : Packet) (s : State) : Bool :=
  let need := if noReplyFlag ((p.words.map (·.data)).getD 0 0) then 4 else 256
  decide (queueWords s.mbx.reply + need ≤ 1024)

/-- The head of a sub-queue when it can start. -/
def startableHead (b : Box) (k : Nat) (s : State) : Option Packet :=
  match (subQueue b k s).packets with
  | [] => none
  | p :: _ => if canStart p s then some p else none

/-- The mailbox to try first: the one not served last, MBX-U after a reset (R92). -/
def firstBox (s : State) : Box := match s.mbx.lastServed with | some .u => .s | _ => .u

/-- The other mailbox. -/
def otherBox : Box → Box
  | .u => .s
  | .s => .u

/-- The packet to take at one level (R92). -/
def nextAt (k : Nat) (s : State) : Option (Box × Nat × Packet) :=
  let b := firstBox s
  match startableHead b k s with
  | some p => some (b, k, p)
  | none => (startableHead (otherBox b) k s).map (fun p => (otherBox b, k, p))

/-- The firmware interprets commands: it has reached its start event, the device is in RUN or DOZE, and no
command waits for its effect (R105; log 13). -/
def takesCommands (s : State) : Bool :=
  s.boot.phase == .running && s.boot.started && awake s && s.mbx.waits.isNone

/-- The packet that the firmware takes next (R92, R105). -/
def nextPacket (s : State) : Option (Box × Nat × Packet) :=
  if takesCommands s then
    match nextAt 3 s with
    | some r => some r
    | none => match nextAt 2 s with
      | some r => some r
      | none => match nextAt 1 s with
        | some r => some r
        | none => nextAt 0 s
  else none

/-- Raise the parity fault of an inbound mailbox once for each poisoned word (R95, R388). -/
def inboundParity (b : Box) (p : Packet) (s : State) : State :=
  (p.words.filter MbxWord.poisoned).foldl (fun s _ => raiseFault (match b with | .u => 0o0100 | .s => 0o0120) s) s

/-- Command codes of SYS.HEARTBEAT and the status queries, which leave a re-entry armed (R377). -/
def keepsReenter (code : Nat) : Bool := [0o0102, 0o0103, 0o0301, 0o0503, 0o1001, 0o1101, 0o1501].contains code

/-- Take a packet whole from the head of its sub-queue (R94); it cancels an armed re-entry (R377). -/
def takePacket (b : Box) (k : Nat) (p : Packet) (s : State) : State :=
  let q := subQueue b k s
  let s := setSubQueue b k { q with packets := q.packets.drop 1 } s
  let s := if keepsReenter (cmdCode ((p.words.map (·.data)).getD 0 0)) then s else { s with pwr := { s.pwr with reenter := none } }
  inboundParity b p { s with mbx := { s.mbx with lastServed := some b } }

/-! ## Known commands and their lengths (R114) -/

/-- The length of a DATA operation: OP, offset LO, offset HI, n, then ceil(n / 2) words (R294, R430). -/
def dataLen (ps : List Word) : Bool :=
  let n := (ps.getD 3 0).toNat
  if 4 ≤ ps.length ∧ 1 ≤ n ∧ n ≤ 480 then decide (ps.length = 4 + (n + 1) / 2) else decide (4 ≤ ps.length ∧ ps.length ≤ 244)

/-- Whether the parameters have a length that the command allows; none for an unknown group or code (R108, R114). A selector or
count parameter fixes the length where its value is one that the command defines; otherwise the range stands and BAD_PARAM
follows (log 14). -/
def lengthOk (code : Nat) (ps : List Word) : Option Bool :=
  let n := ps.length
  let p1 := (ps.getD 0 0).toNat
  let p2 := (ps.getD 1 0).toNat
  let p3 := (ps.getD 2 0).toNat
  match code with
  | 0o0101 => some (decide (n = 1))
  | 0o0102 => some (decide (n = 2))
  | 0o0103 => some (decide (n = 0))
  | 0o0104 => some (decide (n = 1))
  | 0o0105 => some (decide (n = 2))
  | 0o0106 => some (decide (n = 1))
  | 0o0201 => some (decide (n = 4))
  | 0o0202 => some (decide (4 ≤ n ∧ n ≤ 243 ∧ (p3 < 1 ∨ 240 < p3 ∨ n = 3 + p3)))
  | 0o0203 => some (decide (n = 0))
  | 0o0204 => some (decide (n = 0))
  | 0o0205 => some (decide (n = 1))
  | 0o0206 => some (match p1 with
    | 0 => decide (n = 1 ∨ n = 2)
    | 1 => decide (6 ≤ n ∧ n ≤ 242)
    | 2 => decide (n = 1)
    | _ => decide (1 ≤ n ∧ n ≤ 242))
  | 0o0207 => some (match p1 with
    | 0 => decide (n = 2)
    | 1 => dataLen ps
    | 2 => decide (n = 1)
    | 3 => decide (n = 1)
    | _ => decide (1 ≤ n ∧ n ≤ 244))
  | 0o0301 => some (decide (n = 1))
  | 0o0302 => some (decide (n = 3))
  | 0o0303 => some (decide (n = 1))
  | 0o0304 => some (decide (n = 2))
  | 0o0305 => some (decide (n = 3))
  | 0o0306 => some (decide (n = 3))
  | 0o0401 => some (decide (n = 4))
  | 0o0402 => some (decide (n = 2))
  | 0o0403 => some (decide (n = 2))
  | 0o0501 => some (decide (n = 2))
  | 0o0502 => some (decide (n = 1))
  | 0o0503 => some (decide (n = 1))
  | 0o0504 => some (decide (n = 2))
  | 0o0601 => some (match p2 / 16 % 4 with
    | 0 => decide (n = 4)
    | 1 => decide (n = 2)
    | 2 => decide (n = 8)
    | _ => decide (2 ≤ n ∧ n ≤ 8))
  | 0o0602 => some (decide (n = 4))
  | 0o0603 => some (decide (n = 3))
  | 0o0604 => some (decide (n = 2))
  | 0o0605 => some (decide (n = 3))
  | 0o0701 => some (decide (n = 2))
  | 0o0702 => some (decide (n = 2))
  | 0o0703 => some (decide (n = 1))
  | 0o0704 => some (decide (n = 2))
  | 0o0705 => some (match p1 with
    | 0 => decide (n = 4)
    | 1 => dataLen ps
    | 2 => decide (n = 1)
    | 3 => decide (n = 2)
    | 4 => decide (n = 1)
    | _ => decide (1 ≤ n ∧ n ≤ 244))
  | 0o1001 => some (decide (n = 0))
  | 0o1002 => some (decide (n = 3))
  | 0o1003 => some (decide (n = 1))
  | 0o1101 => some (decide (n = 0))
  | 0o1102 => some (decide (n = 1))
  | 0o1103 => some (decide (n = 0))
  | 0o1104 => some (decide (n = 4))
  | 0o1201 => some (decide (n = 1))
  | 0o1202 => some (decide (n = 0))
  | 0o1203 => some (decide (n = 0))
  | 0o1204 => some (decide (n = 1))
  | 0o1301 => some (decide (n = if p1 % 2 = 0 then 49 else 105))
  | 0o1302 => some (decide (n = 0))
  | 0o1303 => some (match p1 with
    | 0 => decide (n = 17)
    | 1 => decide (n = 5)
    | 2 => decide (n = 2)
    | 3 => decide (n = 18)
    | 4 => decide (n = 1)
    | _ => decide (1 ≤ n ∧ n ≤ 18))
  | 0o1304 => some (decide (n = 1))
  | 0o1305 => some (decide (n = 1))
  | 0o1401 => some (decide (n = 0))
  | 0o1402 => some (decide (n = 2))
  | 0o1501 => some (decide (n = 1))
  | 0o1502 => some (decide (n = 3))
  | 0o1503 => some (decide (n = 2))
  | 0o1504 => some (decide (n = 2))
  | 0o1505 => some (decide (n = 1))
  | _ => none

/-- The packet passes the BAD_CMD check: known command, reserved flags zero, an allowed length (R103, R108). -/
def commandOk (c : Command) : Bool :=
  c.word0.toNat % 16 == 0 && (!authFlag c.word0 || decide (11 ≤ c.words.length))
    && (lengthOk (cmdCode c.word0) c.params == some true)

/-! ## Authentication (R111, R112) -/

/-- The session of a path. -/
def sessionOf (b : Box) (s : State) : Option Session := match b with | .u => s.sec.sessU | .s => s.sec.sessS

/-- Replace the session of a path. -/
def setSession (b : Box) (v : Option Session) (s : State) : State :=
  match b with
  | .u => { s with sec := { s.sec with sessU := v } }
  | .s => { s with sec := { s.sec with sessS := v } }

/-- Path byte of R111. -/
def pathByte (b : Box) : Byte := BitVec.ofNat 8 (boxCode b + 1)

/-- Words as 3 bytes each, most significant first, under a path byte (R111). -/
def authMessage (b : Box) (ws : List Word) : List Byte := pathByte b :: ws.flatMap (fun w => beBytes 3 w.toNat)

/-- The trailer of an AUTH packet verifies under the path's session (R111).
DESIGN CHOICE (log 46): the last counter of a new session is 0, so its first trailer carries 1 or more. -/
def trailerOk (c : Command) (s : State) : Bool :=
  let n := c.words.length
  let ctr := (c.words.getD (n - 9) 0)
  let mac := c.words.drop (n - 8)
  match sessionOf c.box s with
  | none => false
  | some ss =>
    decide (ss.counter < ctr.toNat) && mac.all (fun w => decide (w.toNat < 65536))
      && decide (pairBytes mac = (hmac ss.key (authMessage c.box (c.words.take (n - 8)))).take 16)

/-- The session accepts the packet's counter (R111). -/
def acceptCounter (c : Command) (s : State) : State :=
  match sessionOf c.box s with
  | none => s
  | some ss => setSession c.box (some { ss with counter := (c.words.getD (c.words.length - 9) 0).toNat }) s

/-- An authentication failure counts toward the AUTH_FAIL tamper source, which asserts when the failures of the last 60 s
reach AUTH_LIMIT and had fallen below it before (R112, R432). -/
def authFailure (s : State) : State :=
  let recent := s.sec.authFails.filter (fun t => decide (since t s < 60 * Config.tkPerS))
  let high := s.sec.authHigh && decide (s.sec.authLimit ≤ recent.length)
  let fails := s.clk.tick :: recent
  let reach := decide (s.sec.authLimit ≤ fails.length)
  { s with sec := { s.sec with
      authFails := fails
      authHigh := high || reach
      tamperDue := if reach && !high then s.sec.tamperDue ||| 8 else s.sec.tamperDue } }

/-! ## Replies -/

/-- Post a reply, unless NOREPLY with OK or R100 discards it (R103, R107). -/
def postReply (c : Command) (status : Nat) (results : List Word) (s : State) : State :=
  if (noReplyFlag c.word0 ∧ status = stOk) ∨ c.cut then s
  else
    let info := w18 (boxCode c.box * 65536 + results.length)
    { s with mbx := { s.mbx with
        reply := s.mbx.reply ++ [{ words := packetWords (c.word0 :: c.seq :: w18 status :: info :: results)
                                   path := some c.box, arrival := c.arrival }] } }

/-- File the completion record and reply (R107, R109). -/
def answer (c : Command) (status : Nat) (results : List Word) (long inProgress : Bool) (s : State) : State :=
  postReply c status results (fileRecord c.box ⟨c.word0, c.seq, w18 status, long, inProgress⟩ s)

/-! ## Running a command -/

/-- Status of the authentication checks, and the state after them (R108): AUTH_REQUIRED, AUTH_FAIL, the scope check. -/
def authCheck (needs sec : Bool) (c : Command) (s : State) : Nat × State :=
  if authFlag c.word0 then
    if trailerOk c s then
      let prov := match sessionOf c.box s with | some ss => ss.provisioning | none => false
      (if prov && needs && !sec then stState else stOk, acceptCounter c s)
    else (stAuthFail, authFailure s)
  else (if needs then stAuthRequired else stOk, s)

/-- The status of a command whose own checks gave st: BUSY stands between STATE and RESOURCE for a long command (R108). -/
def withBusy (long : Bool) (c : Command) (st : Nat) (s : State) : Nat :=
  if long ∧ (longOf (groupOf c.word0) s).isSome ∧ (st = stOk ∨ st = stResource ∨ st = stTimeout) then stBusy else st

/-- The long command as it is filed (R106). -/
def longCmd (c : Command) : LongCmd := ⟨groupOf c.word0, c.word0, c.seq, c.box⟩

/-- The command that the firmware takes next when it is this one: its code and its variant. -/
def takesThis (code : Nat) (variant : Command → Bool) (s : State) : Option (Box × Nat × Packet × Command) :=
  match nextPacket s with
  | none => none
  | some (b, k, p) =>
    let c := commandOf b p
    if 2 ≤ p.words.length ∧ c.poisoned = false ∧ commandOk c ∧ cmdCode c.word0 = code ∧ variant c then some (b, k, p, c)
    else none

/-- An immediate command (R106): taken, checked in the order of R108, executed and answered. `check` gives the status of the
command's own checks, `run` its results and effect. Where the firmware does not take this command next, nothing happens. -/
def immediateCommand (code : Nat) (variant : Command → Bool) (needs : Command → State → Bool) (check : Command → State → Nat)
    (run : Command → State → List Word × State) (s : State) : State :=
  match takesThis code variant s with
  | none => s
  | some (b, k, p, c) =>
    let s := takePacket b k p s
    let (st, s) := authCheck (needs c s) (groupOf c.word0 == 0o13) c s
    if st = stOk then
      let st := check c s
      if st = stOk then
        let (rs, s) := run c s
        answer c stOk rs false false s
      else answer c st [] false false s
    else answer c st [] false false s

/-- A long command (R106): it replies when accepted, and `run` starts its work. -/
def longCommand (code : Nat) (variant : Command → Bool) (needs : Command → State → Bool) (check : Command → State → Nat)
    (run : Command → State → State) (s : State) : State :=
  match takesThis code variant s with
  | none => s
  | some (b, k, p, c) =>
    let s := takePacket b k p s
    let (st, s) := authCheck (needs c s) (groupOf c.word0 == 0o13) c s
    if st = stOk then
      let st := withBusy true c (check c s) s
      if st = stOk then
        let s := answer c stOk [] true true s
        run c { s with mbx := { s.mbx with long := s.mbx.long ++ [longCmd c] } }
      else answer c st [] true false s
    else answer c st [] true false s

/-- An immediate command whose effect comes at the next block boundary, before its reply (R106): accepted here, and carried out
by the boundary that follows (Block.lean). -/
def boundaryCommand (code : Nat) (variant : Command → Bool) (needs : Command → State → Bool)
    (check : Command → State → Nat) (s : State) : State :=
  match takesThis code variant s with
  | none => s
  | some (b, k, p, c) =>
    let s := takePacket b k p s
    let (st, s) := authCheck (needs c s) (groupOf c.word0 == 0o13) c s
    if st = stOk then
      let st := check c s
      if st = stOk then
        { s with mbx := { s.mbx with waits := some c } }
      else answer c st [] false false s
    else answer c st [] false false s

/-- Every packet of the code. -/
def anyVariant (_ : Command) : Bool := true
/-- No authentication needed. -/
def noAuth (_ : Command) (_ : State) : Bool := false
/-- Authentication needed (R113). -/
def needsAuth (_ : Command) (_ : State) : Bool := true
/-- Parameter 1 selects the variant. -/
def opIs (n : Nat) (c : Command) : Bool := c.p 1 == n

/-! ## Packets that no command answers -/

/-! ### The recovery loader's packets (R447) -/

/-- The packet that the boot ROM takes next while it serves the loader: from MBX-S, at the highest sub-queue that holds one. -/
def loaderNext (s : State) : Option (Nat × Packet) :=
  if s.boot.phase = .loader then
    ([3, 2, 1, 0].find? (fun k => (startableHead .s k s).isSome)).bind (fun k => (startableHead .s k s).map (fun p => (k, p)))
  else none

/-- Take a packet from a sub-queue of MBX-S. -/
def takeLoader (k : Nat) (s : State) : State :=
  let q := subQueue .s k s
  setSubQueue .s k { q with packets := q.packets.drop 1 } s

/-- The packet is a loader packet with an allowed length and no reserved flag. -/
def loaderOk (c : Command) : Bool :=
  c.word0.toNat % 16 == 0 && !authFlag c.word0 &&
    (match cmdCode c.word0 with
    | 0o7701 => dataLen (0 :: c.params)
    | 0o7702 => c.params.length == 2
    | _ => false)

/-- The loader's command of a code that the boot ROM takes next. -/
def loaderTakes (code : Nat) (s : State) : Option (Nat × Command) :=
  match loaderNext s with
  | none => none
  | some (k, p) =>
    let c := commandOf .s p
    if 2 ≤ p.words.length ∧ c.poisoned = false ∧ loaderOk c ∧ cmdCode c.word0 = code then some (k, c) else none

/-- A packet that the boot ROM does not serve. -/
def badLoaderPacket (s : State) : State :=
  match loaderNext s with
  | none => s
  | some (k, p) =>
    let c := commandOf .s p
    if p.words.length < 2 then takeLoader k s
    else if c.poisoned then postReply c stPoison [] (takeLoader k s)
    else if !loaderOk c then postReply c stBadCmd [] (takeLoader k s)
    else s

/-- BAD_CMD_PACKET: the packet that the firmware takes next is too short, poisoned, or fails the BAD_CMD check (R95, R108); in the
recovery loader, the packet that the boot ROM takes next (R447). -/
def badPacket (s : State) : State :=
  match nextPacket s with
  | none => badLoaderPacket s
  | some (b, k, p) =>
    let c := commandOf b p
    if p.words.length < 2 then post 0o010201 [w18 (boxCode b * 65536 + k * 16384 + 3)] (takePacket b k p s)
    else if c.poisoned then answer c stPoison [] false false (takePacket b k p s)
    else if !commandOk c then answer c stBadCmd [] false false (takePacket b k p s)
    else s

/-- BAD_CMD_PACKET (R108). -/
def execBadCmdPacket (s : State) : Result := effect badPacket s

end Sys2Proof.Machine
end

