-- ==== Sys2Proof/Machine/Flash.lean ====
section
/-!
DEFINITION. What the flash holds outside the CTI slots: the directory (R274 to R276), Jenel bundles (R277), the acceptance of
firmware bundles (R427, R428) and of message libraries (R278, R279), and the wrapped blob (R422, R423).
-/

namespace Sys2Proof.Machine

open Sys2Proof

/-- The 32 bytes of a 256-bit OTP field, most significant first. -/
def otpBytes (v : BitVec 256) : List Byte := beBytes 32 v.toNat

/-- Bytes [i, i + n) of a list. -/
def slice (bs : List Byte) (i n : Nat) : List Byte := (bs.drop i).take n

/-- A little-endian integer field. -/
def leField (bs : List Byte) (i n : Nat) : Nat := ofBytesLE (slice bs i n)

/-! ## The flash directory (R274, R275) -/

/-- A directory entry. -/
structure DirEntry where
  typ : Nat
  index : Nat
  offset : Nat
  size : Nat
  deriving DecidableEq, Repr

/-- Parse entry i of a directory copy. -/
def dirEntry (bs : List Byte) (i : Nat) : DirEntry :=
  let b := slice bs (16 + 16 * i) 16
  ⟨leField b 0 1, leField b 1 1, leField b 4 4, leField b 8 4⟩

/-- SEQ and entries of a directory copy when it is correct: MAGIC, CRC, COUNT 1 to 254 (R274). -/
def dirCopy (a : Nat) (s : State) : Option (Nat × List DirEntry) :=
  let bs := flashBytes a 4096 s
  let n := leField bs 8 2
  if slice bs 0 4 = [0x4A, 0x44, 0x49, 0x52] ∧ leField bs 4092 4 = crc32 (bs.take 4092) ∧ 1 ≤ n ∧ n ≤ 254 then
    some (leField bs 4 4, (List.range n).map (dirEntry bs))
  else none

/-- The directory in use: its copy, SEQ and entries (R274). -/
def directory (s : State) : Option (Nat × Nat × List DirEntry) :=
  match dirCopy 0 s, dirCopy 4096 s with
  | some (q0, e0), some (q1, e1) => if q0 < q1 then some (1, q1, e1) else some (0, q0, e0)
  | some (q0, e0), none => some (0, q0, e0)
  | none, some (q1, e1) => some (1, q1, e1)
  | none, none => none

/-- Entries of the directory in use. -/
def dirEntries (s : State) : List DirEntry := match directory s with | some (_, _, es) => es | none => []

/-- The region of a type and index. -/
def regionOf (typ index : Nat) (s : State) : Option DirEntry :=
  (dirEntries s).find? (fun e => e.typ == typ && e.index == index)

/-- The bytes of a directory copy. -/
def dirBytes (seq : Nat) (es : List DirEntry) : List Byte :=
  let head := [0x4A, 0x44, 0x49, 0x52] ++ toBytesLE 4 seq ++ toBytesLE 2 es.length ++ List.replicate 6 0
  let body := es.flatMap (fun e =>
    toBytesLE 1 e.typ ++ toBytesLE 1 e.index ++ [0, 0] ++ toBytesLE 4 e.offset ++ toBytesLE 4 e.size ++ [0, 0, 0, 0])
  let all := head ++ body ++ List.replicate (4076 - 16 * es.length) 0
  all ++ toBytesLE 4 (crc32 all)

/-- Rewrite the directory: the other copy, with SEQ one higher (R274). -/
def writeDirectory (es : List DirEntry) (s : State) : State :=
  let (copy, seq) := match directory s with
    | some (c, q, _) => (1 - c, q + 1)
    | none => (0, 1)
  flashWrite (4096 * copy) (dirBytes seq es) (flashErase (4096 * copy) 4096 s)

/-- Two flash ranges overlap. -/
def overlaps (a n b m : Nat) : Bool := decide (a < b + m) && decide (b < a + n)

/-- Round up to the granularity of regions (R275). -/
def roundRegion (n : Nat) : Nat := (n + Config.flashBlock - 1) / Config.flashBlock * Config.flashBlock

/-! ## Jenel bundles (R277) -/

/-- The bytes begin a Jenel bundle of a TYPE. -/
def jenel (typ : Nat) (h : List Byte) : Bool :=
  slice h 0 4 == [0x4A, 0x4E, 0x4C, 0x01] && leField h 4 1 == typ && leField h 5 1 == 1

/-- LENGTH of a bundle. -/
def bundleLen (h : List Byte) : Nat := leField h 8 4

/-- The key of a signature block has the hash of an OTP slot (R118). -/
def keyInSlot (key : List Byte) (slot : Nat) (s : State) : Bool :=
  match s.sec.otp.intHash.getD slot none with
  | some h => sha256 key == otpBytes h
  | none => false

/-- The hash that the vendor signed: bytes 0 to LENGTH - 137, the countersignature slot read as zeros (R428). -/
def vendorDigest (b : List Byte) : List Byte :=
  let n := bundleLen b
  let body := b.take (n - 136)
  if bitOf (leField b 25 1) 0 then sha256 (body.take (n - 272) ++ List.replicate 136 0) else sha256 body

/-- The boot ROM accepts a firmware bundle under an anti-rollback level (R428). -/
def acceptFirmware (b : List Byte) (antiroll : Nat) (s : State) : Bool :=
  let n := bundleLen b
  let sig := slice b (n - 136) 136
  let slotBytes := slice b (n - 272) 136
  jenel 1 b && decide (200 ≤ n) && decide (n ≤ Config.fwLimit)
    && leField sig 1 1 == 1 && sha256 (slice sig 8 64) == otpBytes s.sec.otp.vendorHash
    && ecdsaVerify (slice sig 8 64) (vendorDigest b) (slice sig 72 32) (slice sig 104 32)
    && decide (antiroll ≤ leField b 24 1)
    && (!s.sec.otp.csigReq ||
      (bitOf (leField b 25 1) 0 && decide (336 ≤ n) && leField slotBytes 1 1 == 2
        && keyInSlot (slice slotBytes 8 64) (leField slotBytes 0 1) s
        && ecdsaVerify (slice slotBytes 8 64) (sha256 (sig ++ vendorDigest b)) (slice slotBytes 72 32) (slice slotBytes 104 32)))

/-- ROLLBACK and release of a bundle (R427). -/
def fwInfoOf (source : Nat) (b : List Byte) : FwInfo := ⟨source, leField b 24 1, leField b 20 1, leField b 21 1⟩

/-- The bundle in a firmware slot when the boot ROM accepts it. -/
def slotFirmware (slot : Nat) (readOk : Bool) (s : State) : Option FwInfo :=
  match regionOf 1 slot s with
  | none => none
  | some e =>
    let n := bundleLen (flashBytes e.offset 64 s)
    if n ≤ Config.fwLimit then
      let b := flashBytes e.offset n s
      if readOk && acceptFirmware b s.sec.otp.antiroll s then some (fwInfoOf slot b) else none
    else none

/-- A bundle is preferred to another: higher ROLLBACK, then higher release (R428). -/
def fwBetter (a b : FwInfo) : Bool :=
  decide (b.rollback < a.rollback) ||
    (a.rollback == b.rollback && decide (b.major * 256 + b.minor < a.major * 256 + a.minor))

/-- The bundle that the boot ROM runs (R428). -/
def selectFirmware (readA readB : Bool) (s : State) : Option FwInfo :=
  match slotFirmware 0 readA s, slotFirmware 1 readB s with
  | some a, some b => some (if fwBetter b a then b else a)
  | some a, none => some a
  | none, b => b

/-! ## Message libraries (R278, R279) -/

/-- A message record of a library in a flash region. -/
def msgRecord (off size : Nat) (lib : Nat) (b : List Byte) (key : List Byte) (i : Nat) : Msg :=
  let r := slice b (64 + 120 * i) 120
  { lib := lib, number := leField r 0 2, emergency := bitOf (leField r 2 1) 0, e := leField r 3 1, pin := leField r 4 1
    samples := leField r 8 4, frames := leField r 12 4, addr := off + leField r 16 4, bytes := leField r 20 4
    record := r, pubkey := key, region := (off, size) }

/-- The numbers rise without repeats. -/
def ascending : List Nat → Bool
  | a :: b :: rest => decide (a < b) && ascending (b :: rest)
  | _ => true

/-- A record is consistent: FRAMES, OFFSET, BYTES and PIN (check 6 of R279); a frame takes 11 bytes or more (R283, R284). -/
def recordOk (off n count : Nat) (m : Msg) : Bool :=
  decide (1 ≤ m.samples) && m.frames == (m.samples + 255) / 256 && decide (11 * m.frames ≤ m.bytes) && decide (off + 64 + 120 * count ≤ m.addr)
    && decide (m.addr + m.bytes + 136 ≤ off + n) && decide (m.pin ≤ 8) && decide (m.number ≤ 8191)

/-- The checks of a library in a region, in order: the reason of the first that fails, or its messages (R279). -/
def checkLibrary (e : DirEntry) (readOk : Bool) (others : List Nat) (s : State) : Nat ⊕ List Msg :=
  if !readOk then .inl 1
  else
    let h := flashBytes e.offset 64 s
    let n := bundleLen h
    if !(jenel 2 h && decide (200 ≤ n) && decide (n ≤ e.size) && leField h 12 1 == e.index) then .inl 2
    else
      let b := flashBytes e.offset n s
      let sig := slice b (n - 136) 136
      let key := slice sig 8 64
      if !keyInSlot key (leField sig 0 1) s then .inl 3
      else if !(ecdsaVerify key (sha256 (b.take (n - 136))) (slice sig 72 32) (slice sig 104 32)) then .inl 4
      else
        let count := leField h 16 4
        let ms := (List.range (min count ((n - 200) / 120))).map (msgRecord e.offset e.size e.index b key)
        let ns := ms.map (·.number)
        if !(ascending ns) || ns.any (fun k => others.contains k) then .inl 5
        else if ms.length < count || !(ms.all (recordOk e.offset n count)) then .inl 6
        else .inr ms

/-! ## Rebuilding the directory (R276) -/

/-- The region that the flash shows at an address, of the objects that R276 recognises. -/
def recognise (a : Nat) (s : State) : Option DirEntry :=
  let h := flashBytes a 64 s
  let w0 := ofBytesLE (slice h 0 9) % 2 ^ 18
  if jenel 1 h && decide (bundleLen h ≤ Config.fwLimit) then some ⟨1, 0, a, Config.fwSlotSize⟩
  else if jenel 2 h then some ⟨4, leField h 12 1, a, roundRegion (bundleLen h)⟩
  else if w0 = 0o143124 then some ⟨2, 0, a, Config.ctiSlotSize⟩
  else if w0 = 0o157166 then some ⟨3, 0, a, Config.overlaySize⟩
  else none

/-- Record a recognised region (R276): the first two of types 1 to 3 take index 0 and 1; a second library of an INDEX replaces
the first only when it alone passes R279. -/
def recordRegion (e : DirEntry) (es : List DirEntry) (s : State) : List DirEntry :=
  if es.any (fun x => overlaps x.offset x.size e.offset e.size) || Config.flashMax < e.offset + e.size then es
  else if e.typ = 4 then
    match es.find? (fun x => x.typ == 4 && x.index == e.index) with
    | none => if e.index < 16 then es ++ [e] else es
    | some old =>
      let passes := fun (x : DirEntry) => match checkLibrary x true [] s with | .inr _ => true | .inl _ => false
      if !passes old && passes e then es.filter (fun x => x != old) ++ [e] else es
  else
    let n := (es.filter (fun x => x.typ == e.typ)).length
    if n < 2 then es ++ [{ e with index := n }] else es

/-- Scan n blocks from block k on (R276). -/
def scanBlocks (s : State) : Nat → Nat → List DirEntry → List DirEntry
  | 0, _, es => es
  | n + 1, k, es =>
    let a := Config.flashBlock * k
    let inside := es.any (fun x => decide (x.offset ≤ a) && decide (a < x.offset + x.size))
    let es' := if inside then es else match recognise a s with | some e => recordRegion e es s | none => es
    scanBlocks s n (k + 1) es'

/-- Rebuild the directory: both copies with SEQ 1, copy 0 first, and SYS.DIRECTORY_REBUILT (R276). -/
def rebuildDirectory (s : State) : State :=
  let es := scanBlocks s 2047 1 []
  let bs := dirBytes 1 es
  let s := flashWrite 0 bs (flashErase 0 4096 s)
  let s := flashWrite 4096 bs (flashErase 4096 4096 s)
  post 0o011101 [w18 es.length] s

/-! ## Derived keys and the wrapped blob (R421 to R423) -/

/-- The overlay key (R421). -/
def overlayKey (s : State) : List Byte := hkdf32 [] (otpBytes s.sec.otp.root) (ascii "DAR-OV")

/-- The wrap key of an epoch (R421). -/
def wrapKey (epoch : Nat) (s : State) : List Byte :=
  hkdf32 [] (otpBytes s.sec.otp.root) (ascii "DAR-WRAP" ++ [BitVec.ofNat 8 epoch])

/-- The identity private key (R421). -/
def identityKey (s : State) : Nat := privateOf (hkdf32 [] (otpBytes s.sec.otp.root) (ascii "DAR-ID"))

/-- First byte of the wrapped blob of a firmware slot (R422). -/
def blobAddr (slot : Nat) (s : State) : Option Nat := (regionOf 1 slot s).map (fun e => e.offset + Config.fwLimit)

/-- SEQ and plaintext of a slot's blob when it is valid: MAGIC, EPOCH and tag (R423). -/
def unwrapBlob (slot : Nat) (s : State) : Option (Nat × List Byte) :=
  match blobAddr slot s with
  | none => none
  | some a =>
    let b := flashBytes a 80 s
    let key := wrapKey s.sec.otp.epoch s
    let nonce := slice b 12 12
    let ct := slice b 24 40
    if slice b 0 4 = [0x4A, 0x53, 0x45, 0x43] ∧ leField b 4 1 = s.sec.otp.epoch
        ∧ slice b 64 16 = gcmTag key nonce (b.take 24) ct then
      some (leField b 8 4, gcmCrypt key nonce ct)
    else none

/-- The valid copy with the higher SEQ (R423). -/
def validBlob (s : State) : Option (Nat × List Byte) :=
  match unwrapBlob 0 s, unwrapBlob 1 s with
  | some (q0, p0), some (q1, p1) => if q0 < q1 then some (q1, p1) else some (q0, p0)
  | some x, none => some x
  | none, y => y

/-- Place the unwrapped items in the vault, or leave the device unprovisioned with the default actions (R423); a HAK of zero bytes is
none (log 29). -/
def loadVault (s : State) : State :=
  match validBlob s with
  | some (_, p) =>
    { s with sec := { s.sec with
        hak := if (p.take 32).all (· == 0) then none else some (p.take 32)
        actions := (slice p 32 4).map (·.toNat)
        authLimit := (p.getD 36 0).toNat } }
  | none => { s with sec := { s.sec with hak := none, actions := [2, 1, 1, 1], authLimit := 8 } }

/-- The plaintext of the blob for the vault's items (R422). -/
def blobPlain (s : State) : List Byte :=
  (s.sec.hak.getD (List.replicate 32 0)) ++ s.sec.actions.map (BitVec.ofNat 8) ++ [BitVec.ofNat 8 s.sec.authLimit, 0, 0, 0]

/-- The bytes of a blob under a nonce. -/
def blobBytes (seq : Nat) (nonce : List Byte) (s : State) : List Byte :=
  let head := [0x4A, 0x53, 0x45, 0x43, BitVec.ofNat 8 s.sec.otp.epoch, 0, 0, 0] ++ toBytesLE 4 seq ++ nonce
  let key := wrapKey s.sec.otp.epoch s
  let ct := gcmCrypt key nonce (blobPlain s)
  head ++ ct ++ gcmTag key nonce head ct

/-- SEQ that a slot's blob carries, 0 where it holds none. -/
def blobSeq (slot : Nat) (s : State) : Nat :=
  match blobAddr slot s with
  | some a => let b := flashBytes a 12 s
              if slice b 0 4 = [0x4A, 0x53, 0x45, 0x43] then leField b 8 4 else 0
  | none => 0

/-- Rewrite one copy of the blob, with a new nonce (R422). -/
def writeBlob (slot seq : Nat) (s : State) : State :=
  let (n, s) := drawBits 96 s
  match blobAddr slot s with
  | some a => flashWrite a (blobBytes seq (beBytes 12 n.toNat) s) (flashErase a 80 s)
  | none => s

/-- Rewrite the blob to both copies under the current epoch, lower SEQ first (R436). -/
def rewriteBlobs (s : State) : State :=
  let first := if blobSeq 1 s < blobSeq 0 s then 1 else 0
  let top := max (blobSeq 0 s) (blobSeq 1 s)
  writeBlob (1 - first) (top + 2) (writeBlob first (top + 1) s)

end Sys2Proof.Machine
end

