-- ==== Sys2Proof/Machine/Tables.lean ====
section
/-!
DEFINITION. Configuration table images (06): the parts of an image, the checks of R128 in their order, and check 11 for every
defined table under its kind and its chapter (R120 to R126, R133, R222, R225, R233, R237, R243 to R246, R296, R315, R327,
R345, R351, R364, R381, R405, R407).
-/

namespace Sys2Proof.Machine

open Sys2Proof

/-! ## MAP tables (R124) -/

/-- A MAP entry with the TYPE of its section. -/
structure MapEntry where
  typ : Nat
  a : Word
  b : Word
  deriving DecidableEq, Repr

/-- n entries of one section, and the words after them; none when the words run out. -/
def takeEntries (typ : Nat) : Nat → List Word → Option (List MapEntry × List Word)
  | 0, ws => some ([], ws)
  | n + 1, a :: b :: ws =>
    match takeEntries typ n ws with
    | some (es, rest) => some (⟨typ, a, b⟩ :: es, rest)
    | none => none
  | _, _ => none

/-- The sections of a MAP table, with a bound on their number; none when a section is cut short. -/
def mapSections : Nat → List Word → Option (List MapEntry)
  | _, [] => some []
  | 0, _ => none
  | k + 1, t :: n :: ws =>
    match takeEntries (t.bits 17 12) n.toNat ws with
    | none => none
    | some (es, rest) =>
      match mapSections k rest with
      | some more => some (es ++ more)
      | none => none
  | _, _ => none

/-- Entries of a MAP table; empty for a malformed one. -/
def mapEntries (ws : List Word) : List MapEntry := (mapSections ws.length ws).getD []

/-- Entries of one TYPE in a table of a list. -/
def entriesOf (ts : List Table) (tid typ : Nat) : List MapEntry :=
  match tableIn ts tid with
  | some ws => (mapEntries ws).filter (fun e => e.typ == typ)
  | none => []

/-- No element occurs twice. -/
def noRepeats {α : Type} [DecidableEq α] : List α → Bool
  | [] => true
  | x :: xs => !(xs.contains x) && noRepeats xs

/-! ## Kinds -/

/-- The KIND that a defined TID must have (R119); none for an undefined one. -/
def kindOf (tid : Nat) : Option Nat :=
  if tid = 0 ∨ tid = 64 ∨ tid = 65 ∨ (320 ≤ tid ∧ tid ≤ 325) ∨ tid = 384 ∨ tid = 448 ∨ tid = 512 then some 5
  else if 128 ≤ tid ∧ tid ≤ 159 then some 1
  else if tid = 160 ∨ tid = 256 then some 4
  else if 192 ≤ tid ∧ tid ≤ 255 then some 2
  else if tid = 576 then some 3
  else none

/-- A CURVE table is valid (R120). -/
def validCurve (ws : List Word) : Bool :=
  let w0 := ws.getD 0 0
  let n := w0.bits 17 11
  let (kx, ky) := curveKinds ws
  let pts := curvePoints (kx != 0) (ky != 0) (ws.drop 1)
  decide (2 ≤ n) && decide (n ≤ 64) && decide (kx ≤ 4) && decide (ky ≤ 4) && decide (ws.length = 1 + 2 * n)
    && ((pts.zip (pts.drop 1)).all (fun p => decide (p.1.1 < p.2.1)))

/-! ### STATE tables (R122) -/

/-- States of a STATE table. -/
def stS (ws : List Word) : Nat := (ws.getD 0 0).bits 17 12
/-- Events of a STATE table. -/
def stE (ws : List Word) : Nat := (ws.getD 0 0).bits 11 6
/-- Initial state. -/
def stInit (ws : List Word) : Nat := (ws.getD 1 0).bits 17 12
/-- Action words. -/
def stA (ws : List Word) : Nat := (ws.getD 1 0).bits 11 0
/-- Binding words. -/
def stBindings (ws : List Word) : List Word := (ws.drop 2).take (stE ws)
/-- State descriptor of a state. -/
def stDesc (ws : List Word) (st : Nat) : Word := ws.getD (2 + stE ws + st) 0
/-- LEVEL of a state. -/
def stLevel (ws : List Word) (st : Nat) : Nat := (stDesc ws st).bits 17 14
/-- Transition cell. -/
def stCell (ws : List Word) (st ev : Nat) : Word := ws.getD (2 + stE ws + stS ws + st * stE ws + ev) 0
/-- The action area. -/
def stActions (ws : List Word) : List Word := ws.drop (2 + stE ws + stS ws + stS ws * stE ws)

/-- Words of an action list up to and including the first with END; none when the area ends before. -/
def listFrom : List Word → Option (List Word)
  | [] => none
  | w :: ws => if w.bit 17 then some [w] else (listFrom ws).map (w :: ·)

/-- The action list at an index; 4 095 means no actions (R122). -/
def actionList (ws : List Word) (i : Nat) : Option (List Word) :=
  if i = 4095 then some [] else if i < stA ws then listFrom ((stActions ws).drop i) else none

/-- A binding word is valid (R122, R244). -/
def validBinding (w : Word) : Bool :=
  let i := w.bits 12 0
  let e := w.bit 13
  match w.bits 17 14 with
  | 0 => decide (i ≤ 3)
  | 1 => decide (i ≤ 7)
  | 2 => decide (i ≤ 63)
  | 3 => i == 0
  | 4 => decide (i ≤ 255)
  | 5 => decide (i ≤ 14)
  | 6 => i == 0
  | 7 => i == 0 && !e
  | 8 => i == 0 && !e
  | _ => false

/-- An action word is valid (R122). -/
def validAction (w : Word) : Bool :=
  let g := w.bits 12 0
  match w.bits 16 13 with
  | 0 => true
  | 1 => true
  | 2 => g == 0
  | 3 => (decide (1 ≤ g) && decide (g ≤ 192)) || g == 8191
  | 4 => decide (g ≤ 960)
  | 5 => decide (g ≤ 1)
  | _ => false

/-- A STATE table is valid (R122). -/
def validState (ws : List Word) : Bool :=
  let sN := stS ws
  let eN := stE ws
  decide (1 ≤ sN) && decide (sN ≤ 32) && decide (1 ≤ eN) && decide (eN ≤ 48) && decide (stInit ws < sN)
    && decide (stA ws ≤ 4094) && decide (ws.length = 2 + eN + sN + sN * eN + stA ws)
    && (stBindings ws).all validBinding && noRepeats (stBindings ws)
    && (List.range sN).all (fun st => (actionList ws ((stDesc ws st).bits 11 0)).isSome)
    && (List.range (sN * eN)).all (fun k =>
        let c := ws.getD (2 + eN + sN + k) 0
        (decide (c.bits 17 12 < sN) || c.bits 17 12 == 63) && (actionList ws (c.bits 11 0)).isSome)
    && (stActions ws).all validAction

/-! ### FORMAT (R123, R212) -/

/-- Number of entries of table 576. -/
def fmtCount (ws : List Word) : Nat := (ws.getD 0 0).bits 5 0

/-- Entry k of table 576, four words. -/
def fmtEntry (ws : List Word) (k : Nat) : List Word := (ws.drop (1 + 4 * k)).take 4

/-- TYPE, DIR, CH and FIRST of an entry. -/
def fmtHead (e : List Word) : Nat × Nat × Nat × Nat :=
  let w := e.getD 0 0
  (w.bits 17 15, w.bits 14 14, w.bits 13 9, w.bits 8 0)

/-- A FORMAT entry is valid (R123, R212). -/
def validFmt (e : List Word) : Bool :=
  let (t, d, ch, first) := fmtHead e
  let w1 := e.getD 1 0
  let res := w1.bits 17 13
  let lastCh := first + ch - 1
  decide (1 ≤ ch) && decide (ch ≤ 16) &&
    (match t with
    | 0 => (res == 16 || res == 20 || res == 24) && decide (129 ≤ first) && decide (lastCh ≤ if d = 0 then 176 else 192)
    | 1 => ch == popBits 16 (w1.bits 15 0) && decide (97 ≤ first) && decide (lastCh ≤ 128)
    | _ => false)

/-- Table 576 is valid. -/
def validFormat (ws : List Word) : Bool :=
  let n := fmtCount ws
  decide (1 ≤ n) && decide (ws.length = 1 + 4 * n) && (List.range n).all (fun k => validFmt (fmtEntry ws k))

/-! ### PARAM (R125) -/

/-- The stated ranges of the parameters of a table, in order from p 1; signed ones as signed numbers. -/
def paramRanges (tid : Nat) : List (Int × Int) :=
  if tid = 0 then [(0, 1023), (0, 15), (40, 262143), (0, 4095), (8, 119), (0, 2), (0, 15), (0, 16)]
  else if tid = 64 then
    [(780, 820), (730, 770), (680, 720), (600, 640), (1, 1000), (1, 1000), (1, 1000), (1, 1000), (0, 6), (0, 15)]
  else if tid = 65 then [(0, 262143), (0, 100), (85, 115), (90, 125), (0, 1000), (1, 600), (1, 64)]
  else if tid = 320 then [(0, 2), (0, 2), (0, 2), (0, 2), (50, 100), (30, 70), (0, 15)]
  else if tid = 321 then
    [(0, 3), (0, 3), (0, 3), (0, 3), (25, 450), (25, 450), (25, 450), (25, 450), (0, 15), (0, 15), (1, 65535), (0, 15)]
  else if 322 ≤ tid ∧ tid ≤ 325 then
    [(1, 262143), (1, 262143), (1, 262143), (1, 262143), (-40, 125), (80, 175), (-30, 155), (20, 4000)] ++
    [(6, 16), (1000, 8000), (4, 8), (1, 100), (5, 100), (5, 500), (1, 600)]
  else if tid = 384 then [(10, 60000), (1, 15), (1, 1440), (0, 3600)]
  else if tid = 448 then [(100, 10000), (0, 1), (1, 3600)]
  else if tid = 512 then [(0, 1), (0, 86399), (10, 720), (1, 60), (0, 2047), (10, 300), (0, 15)]
  else []

/-- The parameter is held signed (R345). -/
def signedParam (tid p : Nat) : Bool := decide (322 ≤ tid) && decide (tid ≤ 325) && (p == 5 || p == 7)

/-- A PARAM table's words agree with COUNT and the stated ranges (R125). -/
def validParam (tid : Nat) (ws : List Word) : Bool :=
  let n := (ws.getD 0 0).toNat
  decide (ws.length = 1 + n) &&
    ((paramRanges tid).zipIdx 1).all (fun r =>
      if r.2 ≤ n then
        let w := ws.getD r.2 0
        let v : Int := if signedParam tid r.2 then w.signed else w.toNat
        decide (r.1.1 ≤ v) && decide (v ≤ r.1.2)
      else true)

/-- A severity entry of table 384 is valid (R405). -/
def validSevEntry (w : Word) : Bool :=
  let src := w.bits 15 4
  (sourceDef src).isSome && !fixedSource src && decide (w.bits 2 0 ≤ 5)

/-- The severity entries of table 384: parameters from p 5 on (R405). -/
def sevEntries (ws : List Word) : List Word := ws.drop 5

/-- The lowest accepted RAMP_SLEW in mV/ms for a VHI rail (R351). -/
def minSlew (vhi : Nat) : Nat := max 20 ((1000 * (vhi - 5) + 244) / 245)

/-! ## Destination costs (R231 to R233) -/

/-- Number of an entry's destination. -/
def entryDest (e : MapEntry) : Nat := e.a.bits 7 0

/-- A curve is present with level x and level y (R222, R223, R239). -/
def levelCurve (ts : List Table) (i : Nat) : Bool :=
  match tableIn ts (128 + i) with
  | some ws => curveKinds ws == (2, 2)
  | none => false

/-- A PARAM value of a table in a list. -/
def paramIn (ts : List Table) (tid p d : Nat) : Nat :=
  match tableIn ts tid with
  | some ws => paramOf ws p d
  | none => d

/-- Zones that are PROTECTED in table 256 (R124). -/
def protectedZones (ts : List Table) : List Nat :=
  ((entriesOf ts 256 1).filter (fun e => e.b.bit 0)).map (fun e => e.a.bits 5 0)

/-- Destinations of protected zones (R232). -/
def c0Dests (ts : List Table) : List Nat :=
  ((entriesOf ts 256 2).filter (fun e => (protectedZones ts).contains (e.a.bits 13 8))).map entryDest

/-- Cost of a C0 destination as the tables set it (R231, R233). -/
def c0Cost (ts : List Table) (d : Nat) : Nat :=
  let mine := fun typ => (entriesOf ts 160 typ).filter (fun e => entryDest e == d)
  let delay := match mine 5 with
    | [] => 0
    | e :: _ => if e.b.toNat = 0 then 0 else if e.a.bits 17 16 = 0 then 1 else 4
  193 + 7 * (mine 4).length + (if mine 6 = [] then 0 else 6) + delay

/-- The C0 reserve of a set of tables (R233). -/
def c0ReserveOf (ts : List Table) : Nat := ((c0Dests ts).map (c0Cost ts)).sum + 14 * 16

/-! ## The delay pool (R225) -/

/-- Samples per row of a storage format (R225). -/
def perRow (format : Nat) : Nat := 4 + min format 2

/-- Extents of a capacity in tk (R225). -/
def extentsFor (format c : Nat) : Nat :=
  if c = 0 then 0
  else
    let rows := (c + 16 + perRow format - 1) / perRow format
    (rows + 63) / 64

/-- Extents that the TYPE 5 entries need together (R225). -/
def delayNeed (ts : List Table) : Nat :=
  ((entriesOf ts 160 5).map (fun e => extentsFor (e.a.bits 17 16) e.b.toNat)).sum

/-! ## MAP tables 160 and 256 -/

/-- A gain in range: off, or -960 to +48 steps (R215). -/
def gainOk (g : Int) : Bool := g == -1024 || (decide (-960 ≤ g) && decide (g ≤ 48))

/-- The coefficients of a TYPE 4 entry; none when its design is refused (R221). -/
def designOf (a b : Word) : Option Coefs :=
  let filter := a.bits 14 12
  let gain := signedField (b.bits 17 9) 9
  if b.bits 8 0 ≤ 263 ∧ -192 ≤ gain ∧ gain ≤ 192 ∧ (filter ≤ 2 ∨ gain = 0) then
    designEq filter (a.bits 17 15) (b.bits 8 0) gain
  else none

/-- A matrix number of a destination or source, 1 to 192. -/
def numberOk (n : Nat) : Bool := decide (1 ≤ n) && decide (n ≤ 192)

/-- An entry of table 160 is valid (R124, R237). -/
def validRoute (ts : List Table) (e : MapEntry) : Bool :=
  let a := e.a
  let b := e.b
  numberOk (entryDest e) &&
    (match e.typ with
    | 0 => numberOk (a.bits 15 8) && gainOk b.signed
    | 4 => decide (a.bits 11 8 ≤ 11) && (designOf a b).isSome
    | 5 => decide (a.bits 17 16 ≤ 2) && decide (b.toNat ≤ 65535)
    | 6 => levelCurve ts (a.bits 17 13)
    | 7 => levelCurve ts (a.bits 17 13) && numberOk (b.bits 17 10) && decide (1 ≤ b.bits 9 4) && decide (b.bits 9 4 ≤ 60)
    | _ => false)

/-- The key of an entry of table 160 (R237). -/
def routeKey (e : MapEntry) : Nat × Nat × Nat :=
  match e.typ with
  | 0 => (0, entryDest e, e.a.bits 15 8)
  | 4 => (4, entryDest e, e.a.bits 11 8)
  | t => (t, entryDest e, 0)

/-- Table 160 is valid beside the other tables. -/
def validTable160 (ts : List Table) (ws : List Word) : Bool :=
  match mapSections ws.length ws with
  | none => false
  | some es => es.all (validRoute ts) && noRepeats (es.map routeKey)

/-- An entry of table 256 is valid beside the entries of the table and the other tables (R124, R243, R245, R246). -/
def validZoneEntry (ts : List Table) (es : List MapEntry) (e : MapEntry) : Bool :=
  let zones := (es.filter (fun x => x.typ == 1)).map (fun x => x.a.bits 5 0)
  match e.typ with
  | 1 => (tableIn ts (192 + e.b.bits 17 12)).isSome
  | 2 => numberOk (entryDest e) && zones.contains (e.a.bits 13 8)
  | 3 => match tableIn ts 576 with
    | some f => decide (e.a.bits 5 0 < fmtCount f)
    | none => false
  | 8 => decide (e.a.bits 3 0 ≤ 11) && decide (1 ≤ e.b.bits 4 0)
  | 9 =>
    let f := e.b.bits 17 15
    decide (e.a.bits 3 0 ≤ 7) && decide (f ≤ 4) && (f != 2 || zones.contains (e.b.bits 11 6))
  | _ => false

/-- Table 256 is valid beside the other tables. -/
def validTable256 (ts : List Table) (ws : List Word) : Bool :=
  match mapSections ws.length ws with
  | none => false
  | some es =>
    let of := fun typ => es.filter (fun x => x.typ == typ)
    let gpioIn := ((of 8).filter (fun e => e.b.bit 6 && decide (4 ≤ e.a.bits 3 0))).map (fun e => e.a.bits 3 0 - 4)
    let gpioOut := (of 9).map (fun e => e.a.bits 3 0)
    es.all (validZoneEntry ts es)
      && noRepeats ((of 1).map (fun e => e.a.bits 5 0)) && noRepeats ((of 2).map entryDest)
      && noRepeats ((of 3).map (fun e => e.a.bits 17 10)) && noRepeats ((of 8).map (fun e => e.a.bits 3 0))
      && noRepeats gpioOut && gpioOut.all (fun g => !gpioIn.contains g)

/-! ## Check 11 -/

/-- A signed parameter of a list of tables. -/
def paramIntIn (ts : List Table) (tid p : Nat) (d : Int) : Int := signedField (paramIn ts tid p (w18i d).toNat) 18

/-- eFuse parameters of a port are consistent (R345, R351). -/
def validEfuse (ts : List Table) (tid : Nat) : Bool :=
  let base := paramIntIn ts tid 5 40
  let rearm := paramIntIn ts tid 7 60
  let trip : Int := paramIn ts tid 6 150
  decide (base + 10 ≤ rearm) && decide (rearm ≤ trip - 20) && decide (minSlew (paramIn ts 0 2 0) ≤ paramIn ts tid 8 1000)

/-- Default VNOM of a level in mV (R364). -/
def vnomDefault (l : Nat) : Nat :=
  match l with
  | 0 => 800
  | 1 => 750
  | 2 => 700
  | _ => 620

/-- One defined table is valid under its kind and chapter, beside the others. -/
def validTable (ts : List Table) (t : Table) : Bool :=
  match kindOf t.tid with
  | none => true
  | some k =>
    t.kind == k &&
    (match k with
    | 1 => validCurve t.words
    | 2 => validState t.words
    | 3 => validFormat t.words
    | 4 => if t.tid = 160 then validTable160 ts t.words else validTable256 ts t.words
    | _ =>
      validParam t.tid t.words &&
      (if t.tid = 0 then [0, 9, 12, 15].contains (paramOf t.words 2 0)
       else if t.tid = 64 then
         (List.range 4).all (fun l => decide (paramOf t.words (l + 1) (vnomDefault l) + 10 * paramOf t.words 9 6 ≤ 860))
           && bitOf (paramOf t.words 10 15) 3
       else if t.tid = 65 then decide (paramOf t.words 3 105 + 5 ≤ paramOf t.words 4 120)
       else if t.tid = 320 then decide (((List.range 4).filter (fun n => paramOf t.words (n + 1) 0 == 2)).length ≤ 1)
       else if t.tid = 384 then
         (sevEntries t.words).all validSevEntry && noRepeats ((sevEntries t.words).map (fun w => w.bits 15 4))
       else true))

/-- Check 11 apart from the C0 reserve and the delay pool (R134). -/
def check11Other (ts : List Table) : Bool :=
  ts.all (validTable ts) && [322, 323, 324, 325].all (validEfuse ts)

/-- Check 11 (R128): every defined table valid, the C0 reserve within 40 000 (R233), the delay pool sufficient (R225). -/
def check11 (ts : List Table) : Bool :=
  check11Other ts && decide (c0ReserveOf ts ≤ 40000) && decide (delayNeed ts ≤ 6144)

/-! ## Images (R115 to R118, R128) -/

/-- Word w of an image in flash form (R115). -/
def imageWord (bs : List Byte) (w : Nat) : Word := (rowWords (slice bs (9 * (w / 4)) 9)).getD (w % 4) 0

/-- n words of an image from word w on. -/
def imageWords (bs : List Byte) (w n : Nat) : List Word := (List.range n).map (fun k => imageWord bs (w + k))

/-- A directory entry of an image (R117). -/
structure CtiEntry where
  kind : Nat
  tid : Nat
  row : Nat
  len : Nat
  deriving DecidableEq, Repr

/-- Directory entry k (R117). -/
def ctiEntry (bs : List Byte) (k : Nat) : CtiEntry :=
  let w := fun i => imageWord bs (16 + 4 * k + i)
  ⟨(w 0).bits 17 15, (w 0).bits 11 0, (w 1).toNat, (w 2).toNat⟩

/-- Rows that a table takes. -/
def CtiEntry.rows (e : CtiEntry) : Nat := (e.len + 3) / 4

/-- The directory is well placed (check 9 of R128): tables between directory and trailer, no overlap, KIND codes, unique TIDs,
the right KIND for defined TIDs, and zero in every word that belongs to no table. -/
def directoryOk (bs : List Byte) (rows dirn : Nat) : Bool :=
  let es := (List.range dirn).map (ctiEntry bs)
  let lo := 4 + dirn
  let hi := rows - 17
  let used := fun w => es.any (fun e => decide (4 * e.row ≤ w) && decide (w < 4 * e.row + e.len))
  es.all (fun e => decide (1 ≤ e.kind) && decide (e.kind ≤ 5) && decide (1 ≤ e.len) && decide (lo ≤ e.row)
      && decide (e.row + e.rows ≤ hi) && (match kindOf e.tid with | some k => k == e.kind | none => true))
    && (List.range dirn).all (fun i => (List.range i).all (fun j =>
        let a := ctiEntry bs i
        let b := ctiEntry bs j
        a.tid != b.tid && !overlaps a.row a.rows b.row b.rows))
    && (List.range (4 * (hi - lo))).all (fun k => used (4 * lo + k) || imageWord bs (4 * lo + k) == 0)

/-- The tables of an image. -/
def tablesOf (bs : List Byte) (dirn : Nat) : List Table :=
  ((List.range dirn).map (ctiEntry bs)).map (fun e => ⟨e.tid, e.kind, imageWords bs (4 * e.row) e.len⟩)

/-- Check an image's bytes in the order of R128: the reason of the first failure, or the image. -/
def checkImage (slot : Nat) (readOk : Bool) (bs : List Byte) (s : State) : Nat ⊕ Image :=
  let h := imageWords bs 0 16
  let w := fun k => h.getD k 0
  let rows := (w 2).toNat
  let dirn := (w 3).bits 8 0
  let inRange := decide (25 ≤ rows) && decide (rows ≤ 29120)
  let tw := fun k => imageWord bs (4 * (rows - 17) + k)
  let pair := fun k n => pairBytes ((List.range n).map (fun i => tw (k + i)))
  let crc := (tw 2).toNat + (tw 3).bits 13 0 * 2 ^ 18
  if !readOk then .inl 11
  else if w 0 ≠ 0o143124 ∨ (w 1).bits 17 12 ≠ 1 ∨ (inRange ∧ tw 0 ≠ 0o164162) then .inl 1
  else if w 6 ≠ w18 Config.part then .inl 2
  else if Config.fwMajor * 64 + Config.fwMinor < (w 7).bits 17 6 then .inl 3
  else if !inRange ∨ dirn < 1 ∨ 256 < dirn ∨ rows < 4 + dirn + 17 then .inl 4
  else if crc ≠ crc32 (bs.take (9 * (rows - 17))) then .inl 5
  else if !keyInSlot (pair 4 32) ((tw 1).bits 1 0) s then .inl 6
  else if !ecdsaVerify (pair 4 32) (sha256 (bs.take (9 * (rows - 8)))) (pair 36 16) (pair 52 16) then .inl 7
  else if !directoryOk bs rows dirn then .inl 8
  else
    let ts := tablesOf bs dirn
    if (tableIn ts 0).isNone ∨ (tableIn ts 64).isNone then .inl 9
    else if !check11 ts then .inl 10
    else .inr { slot := slot, gen := (w 4).toNat + (w 5).toNat * 2 ^ 18, crc := crc, header := h, tables := ts
                bytes := bs.take (9 * rows) }

/-- Check the image in a CTI slot. -/
def checkSlot (slot : Nat) (readOk : Bool) (s : State) : Nat ⊕ Image :=
  match regionOf 2 slot s with
  | none => .inl 11
  | some e => checkImage slot readOk (flashBytes e.offset Config.ctiSlotSize s) s

/-! ## The overlay (R137) -/

/-- Patch records as changes, with a bound; none for a record of a bad length or one cut short. -/
def patchRecords : Nat → List Word → Option (List Change)
  | _, [] => some []
  | 0, _ => none
  | k + 1, t :: o :: n :: ws =>
    if n.toNat < 1 ∨ 240 < n.toNat ∨ ws.length < n.toNat then none
    else
      match patchRecords k (ws.drop n.toNat) with
      | none => none
      | some more =>
        some (((ws.take n.toNat).zipIdx).map (fun d => ⟨t.bits 11 0, o.toNat + d.2, d.1⟩) ++ more)
  | _, _ => none

/-- Apply one change to a list of tables. -/
def applyChange (ts : List Table) (c : Change) : List Table :=
  ts.map (fun t => if t.tid = c.tid then { t with words := listSet t.words c.offset c.value } else t)

/-- Apply changes in order. -/
def applyChanges (ts : List Table) (cs : List Change) : List Table := cs.foldl applyChange ts

/-- A change lies within an existing table (R133, R137). -/
def changeFits (ts : List Table) (c : Change) : Bool :=
  match tableIn ts c.tid with
  | some ws => decide (c.offset < ws.length)
  | none => false

/-- What an overlay copy's bytes give for an image: none when its CRC or MAC fails or it is not bound; else whether it is
usable, with SEQ and the changes (R137). -/
def readOverlay (bs : List Byte) (img : Image) (s : State) : Option (Bool × Nat × List Change) :=
  let w := imageWord bs
  let used := (w 2).toNat
  let rows := 2 + (used + 3) / 4
  let body := bs.take (9 * rows)
  let t := fun k => imageWord bs (4 * rows + k)
  let crc := (t 0).toNat + (t 1).bits 13 0 * 2 ^ 18
  let mac := pairBytes ((List.range 8).map (fun k => t (2 + k)))
  if w 0 ≠ 0o157166 ∨ 32700 < used ∨ crc ≠ crc32 body ∨ mac ≠ (hmac (overlayKey s) body).take 16 then none
  else if (w 4).toNat + (w 5).toNat * 2 ^ 18 ≠ img.gen ∨ (w 6).toNat + (w 7).toNat * 2 ^ 18 ≠ img.crc then none
  else
    match patchRecords used (imageWords bs 8 used) with
    | none => some (false, (w 1).toNat, [])
    | some cs =>
      let ok := cs.all (changeFits img.tables) && check11 (applyChanges img.tables cs)
      some (ok, (w 1).toNat, cs)

/-- SEQ x is newer than SEQ y (R137). -/
def seqNewer (x y : Nat) : Bool :=
  let d := (x + 262144 - y) % 262144
  decide (1 ≤ d) && decide (d ≤ 131071)

/-- What the overlay copy k in flash gives for an image. -/
def overlayCopyOf (k : Nat) (img : Image) (s : State) : Option (Bool × Nat × List Change) :=
  match regionOf 3 k s with
  | none => none
  | some e => readOverlay (flashBytes e.offset (9 * 8192) s) img s

/-- The overlay in force for an image: the copy, its SEQ and its changes; and how many bound copies are not usable (R137). -/
def chooseOverlay (img : Image) (s : State) : Option (Nat × Nat × List Change) × Nat :=
  let c0 := overlayCopyOf 0 img s
  let c1 := overlayCopyOf 1 img s
  let bad := fun c => match c with | some (false, _, _) => 1 | _ => 0
  let use := match c0, c1 with
    | some (true, q0, l0), some (true, q1, l1) => if seqNewer q1 q0 then some (1, q1, l1) else some (0, q0, l0)
    | some (true, q0, l0), _ => some (0, q0, l0)
    | _, some (true, q1, l1) => some (1, q1, l1)
    | _, _ => none
  (use, bad c0 + bad c1)

/-- Record words that changes take when committed: runs of consecutive words of one table, at most 240 to a record. -/
def overlayRecords : List Change → List (Nat × Nat × List Word)
  | [] => []
  | c :: cs =>
    match overlayRecords cs with
    | (t, o, ws) :: rest =>
      if t = c.tid ∧ o = c.offset + 1 ∧ ws.length < 240 then (t, c.offset, c.value :: ws) :: rest
      else (c.tid, c.offset, [c.value]) :: (t, o, ws) :: rest
    | [] => [(c.tid, c.offset, [c.value])]

/-- A change comes before another: by table, then by offset. -/
def changeBefore (a b : Change) : Bool := decide (a.tid < b.tid) || (a.tid == b.tid && decide (a.offset < b.offset))

/-- Merge changes into an overlay so that each word appears once (R138), in the order of tables and words. -/
def mergeOverlay (ov cs : List Change) : List Change :=
  sortBy changeBefore
    (cs.foldl (fun acc c => acc.filter (fun x => !(x.tid == c.tid && x.offset == c.offset)) ++ [c]) ov)

/-- Words of the records of an overlay (R133). -/
def overlayWords (ov : List Change) : List Word :=
  (overlayRecords ov).flatMap (fun r => [w18 r.1, w18 r.2.1, w18 r.2.2.length] ++ r.2.2)

/-- The bytes of an overlay copy (R137). -/
def overlayBytes (seq gen crc : Nat) (ov : List Change) (s : State) : List Byte :=
  let ws := overlayWords ov
  let body := wordsToRows ([0o157166, w18 seq, w18 ws.length, 0] ++ wordsOf gen 2 ++ wordsOf crc 2 ++ ws)
  body ++ wordsToRows (wordsOf (crc32 body) 2 ++ pairWords ((hmac (overlayKey s) body).take 16) ++ [0, 0])

/-! ## Runtime changes (R133) -/

/-- Add changes to a set, each word at most once, the newest last. -/
def addChanges (old new : List Change) : List Change :=
  new.foldl (fun acc c => acc.filter (fun x => !(x.tid == c.tid && x.offset == c.offset)) ++ [c]) old

/-- The overlay with these changes pending as well stays within 32 700 record words (R133). -/
def overlayRoom (cs : List Change) (s : State) : Bool :=
  decide ((overlayWords (mergeOverlay s.cfg.overlay (addChanges s.cfg.pending cs))).length ≤ 32700)

/-- Record changes that a command has already put into force: in the live view and the pending set (R133). -/
def recordChanges (cs : List Change) (s : State) : State :=
  { s with cfg := { s.cfg with live := applyChanges s.cfg.live cs, pending := addChanges s.cfg.pending cs } }

end Sys2Proof.Machine
end

