-- ==== Sys2Proof/Machine/Faults.lean ====
section
/-!
DEFINITION. Faults, safe state, the watchdog and their commands (R387 to R406, R438): the rows of fault latching,
acknowledgement and the quiet period, and the SAFE and LOG commands.
-/

namespace Sys2Proof.Machine

open Sys2Proof

/-! ## Latching -/

/-- FAULT_LATCH (R393). -/
def execFaultLatch (fs : List (BitVec 12 × Bool)) (s : State) : Result := effect (latchFaults fs) s

/-- AUTO_ACK seconds have passed after the last occurrence of a source applied at severity 1 to 3 (R391). -/
def autoAckDue (src : BitVec 12) (s : State) : Bool :=
  autoAck s != 0 && s.flt.unacked.any (fun u =>
    u.source == src && decide (u.severity ≤ 3) && decide (autoAck s * Config.tkPerS ≤ since u.last s))

/-- AUTO_ACK_EXPIRY (R391). -/
def execAutoAckExpiry (src : BitVec 12) (s : State) : Result :=
  effect (fun s => if autoAckDue src s then acknowledge (fun u => u.source == src) s else s) s

/-- COLLECTOR_SELF_FAULT (R400). -/
def execCollectorSelfFault (s : State) : Result := effect (raiseFault 0o5201) s

/-! ## Leaving safe state (R397, R398) -/

/-- The quiet period runs: active, started, neither held nor latched. -/
def quietRuns (s : State) : Bool :=
  s.aon.safeActive && s.flt.enteredDue.isNone && !s.flt.hold && !s.aon.safeLatched

/-- QUIET_TIME has passed since the last counting fault or the entry (R397). -/
def quietPassed (s : State) : Bool := quietRuns s && decide (s.flt.quietMs * Config.tkPerMs ≤ since s.flt.quietFrom s)

/-- Exit from safe state for a reason of SAFE.EXITED: 0 quiet period, 1 SAFE.RELEASE (R397, R398). -/
def exitSafe (reason : Nat) (s : State) : State :=
  let recov := min 255 (s.aon.recov + 1)
  let s := { s with aon := { s.aon with safeActive := false, safeLatched := false, safeQuiet := false, recov := recov } }
  let s := { s with flt := { s.flt with
    hold := false
    enteredDue := none
    exits := if reason = 1 then [] else (s.clk.tick :: s.flt.exits).take 15 } }
  let s := acknowledge (fun u => u.severity == 5) s
  zoneOcc 6 0 1 none (post 0o110202 [w18 reason, w18 recov] s)

/-- QUIET_PERIOD_EXPIRY (R397): at a block boundary. -/
def execQuietPeriodExpiry (s : State) : Result :=
  effect (fun s => if atBlock s && quietPassed s then exitSafe 0 s else s) s

/-- Step 5 of the entry at a block boundary: SAFE.ENTERED, and the quiet period starts (R396). -/
def announceSafe (s : State) : State :=
  match s.flt.enteredDue with
  | none => s
  | some reason =>
    let runs := !s.flt.hold && !s.aon.safeLatched
    let s := { s with flt := { s.flt with enteredDue := none }, aon := { s.aon with safeQuiet := runs } }
    post 0o110103 [w18 s.flt.entrySource.toNat, w18 reason, w18 (bit s.aon.safeLatched)] s

/-- A source applied at severity 5 still asserts its line (R406). -/
def fiveAsserted (s : State) : Bool :=
  s.flt.unacked.any (fun u => u.severity == 5 && s.flt.lines.contains u.source)

/-- A SAFE.RELEASE takes effect at a block boundary; a counting fault of the same block stands (R397, R404, R406). -/
def releaseAtBoundary (c : Command) (s : State) : State :=
  if s.flt.releaseBroken ∨ s.aon.safeActive = false then answer c stState [] false false s
  else answer c stOk [] false false (exitSafe 1 s)

/-! ## Watchdog (R395, R438) -/

/-- Ticks of a kick missed for 10 ms. -/
def kickLimit : Nat := 10 * Config.tkPerMs

/-- WATCHDOG_KICK_MISSED (R438): raises its source once until the next kick. -/
def execWatchdogKickMissed (s : State) : Result :=
  effect (fun s =>
    if s.boot.wdArmed && !s.boot.kickMissed && decide (kickLimit ≤ since s.boot.lastKick s) then
      raiseFault 0o0160 { s with boot := { s.boot with kickMissed := true } }
    else s) s

/-- WATCHDOG_RESET (R438): a kick missing for 100 ms causes a warm chip reset. -/
def execWatchdogReset (s : State) : Result :=
  effect (fun s =>
    if s.boot.wdArmed && decide (10 * kickLimit ≤ since s.boot.lastKick s) then requestWarm .watchdog s else s) s

/-- The firmware kicks the watchdog. -/
def kick (s : State) : State := { s with boot := { s.boot with lastKick := s.clk.tick, kickMissed := false } }

/-- FIRST_WATCHDOG_KICK (R40): from it on FAULT_ALIVE follows R395. -/
def execFirstWatchdogKick (s : State) : Result :=
  effect (fun s =>
    if s.boot.phase = .running ∧ s.boot.ctiUp then
      let s := kick s
      { s with boot := { s.boot with aliveOk := true } }
    else s) s

/-! ## SAFE and LOG commands (R406) -/

/-- Quiet time left in ms, as SAFE.STATUS result 5 gives it (R406). -/
def quietLeft (s : State) : Nat :=
  if !s.aon.safeActive then 0
  else if s.flt.hold || s.aon.safeLatched then 262143
  else if s.flt.enteredDue.isSome then quietTime s
  else min 262143 (s.flt.quietMs - since s.flt.quietFrom s / Config.tkPerMs)

/-- SAFE.STATUS (R406). -/
def execSafeStatus (s : State) : Result :=
  effect (immediateCommand 0o1101 anyVariant needsAuth (fun _ _ => stOk) (fun _ s =>
    ([w18 (bit s.flt.hold * 16 + bit s.aon.safeLatched * 8 + bit s.aon.safeQuiet * 4 + bit s.aon.safeActive * 2 + bit (faultN s)),
      w18 s.flt.entrySource.toNat, w18 s.aon.recov, w18 (recentExits s), w18 (quietLeft s)], s))) s

/-- The effect of SAFE.ENTER (R406). -/
def safeEnter (hold : Bool) (s : State) : State :=
  if s.aon.safeActive then
    (if hold then { s with flt := { s.flt with hold := true }, aon := { s.aon with safeQuiet := false } } else s)
  else takeFault 0o5200 5 1 { s with flt := { s.flt with hold := hold } }

/-- SAFE.ENTER (R406). -/
def execSafeEnter (s : State) : Result :=
  effect (immediateCommand 0o1102 anyVariant needsAuth (fun _ _ => stOk) (fun c s => ([], safeEnter (bitOf (c.p 1) 0) s))) s

/-- SAFE.RELEASE (R406): taken now, carried out and answered at the next block boundary. -/
def execSafeRelease (s : State) : Result :=
  effect (boundaryCommand 0o1103 anyVariant needsAuth
    (fun _ s => if s.aon.safeActive && !fiveAsserted s then stOk else stState)) s

/-- The words of table 384 that SAFE.SET_QUIET records (R406). -/
def quietChanges (c : Command) : List Change :=
  [⟨384, 1, w18 (c.p 1)⟩, ⟨384, 2, w18 (c.p 2)⟩, ⟨384, 3, w18 (c.p 3)⟩]

/-- Status of SAFE.SET_QUIET: the ranges of R405; PERSIST needs the words in an existing table and overlay room (log 15). -/
def checkSetQuiet (c : Command) (s : State) : Nat :=
  if c.p 1 < 10 ∨ 60000 < c.p 1 ∨ c.p 2 < 1 ∨ 15 < c.p 2 ∨ c.p 3 < 1 ∨ 1440 < c.p 3 then stBadParam
  else if bitOf (c.p 4) 0 then
    (if !(quietChanges c).all (changeFits s.cfg.live) then stState
     else if !overlayRoom (quietChanges c) s then stResource else stOk)
  else stOk

/-- SAFE.SET_QUIET (R406): the values act from the next start or restart of the quiet period. -/
def execSafeSetQuiet (s : State) : Result :=
  effect (immediateCommand 0o1104 anyVariant needsAuth checkSetQuiet (fun c s =>
    let s := if bitOf (c.p 4) 0 then recordChanges (quietChanges c) s else s
    ([], { s with flt := { s.flt with quietSet := some (c.p 1, c.p 2, c.p 3) } }))) s

/-- LOG.HISTORY (R406). -/
def execLogHistory (s : State) : Result :=
  effect (immediateCommand 0o1401 anyVariant noAuth (fun _ _ => stOk) (fun _ s =>
    (w18 s.aon.hist.length :: s.aon.hist.flatMap histWords, s))) s

/-- The two words of a source in LOG.READ (R406). -/
def logWords (s : State) (src : Nat) : List Word :=
  [w18 src, w18 (bit (isUnacked (BitVec.ofNat 12 src) s) * 2 ^ 17 + min 131071 (lookupD s.flt.counts src 0))]

/-- LOG.READ (R406). -/
def execLogRead (s : State) : Result :=
  effect (immediateCommand 0o1402 anyVariant noAuth
    (fun c _ => if 4095 < c.p 1 ∨ c.p 2 < 1 ∨ 125 < c.p 2 then stBadParam else stOk)
    (fun c s => (((allSources.filter (fun k => decide (c.p 1 ≤ k))).take (c.p 2)).flatMap (logWords s), s))) s

end Sys2Proof.Machine
end

