-- ==== Sys2Proof/Machine/Audio.lean ====
section
/-!
DEFINITION. The live settings of the audio matrix (10): destinations, the delay pool (R225, R226), the C0 reserve (R233), table
160 as settings (R237, R238), and the ROUTE and PROC commands (R239 to R242).
-/

namespace Sys2Proof.Machine

open Sys2Proof

/-! ## Destinations and zones -/

/-- The chain of a destination. -/
def destOf (n : Nat) (s : State) : Dest := (s.aud.dests.find? (fun d => d.num == n)).getD { num := n }

/-- Replace a destination's chain; chains are kept in the order of their numbers. -/
def setDest (d : Dest) (s : State) : State :=
  { s with aud := { s.aud with
      dests := insertBy (fun a b => decide (a.num < b.num)) d (s.aud.dests.filter (fun x => x.num != d.num)) } }

/-- The zone that a destination belongs to (R124). -/
def zoneNumOf (ts : List Table) (n : Nat) : Option Nat :=
  ((entriesOf ts 256 2).find? (fun e => entryDest e == n)).map (fun e => e.a.bits 13 8)

/-- The zone of a destination as it stands. -/
def zoneOf (n : Nat) (s : State) : Option Zone :=
  match zoneNumOf s.cfg.live n with
  | some z => s.zon.zones.find? (fun x => x.num == z)
  | none => none

/-- The destination belongs to a protected zone. -/
def destProtected (n : Nat) (s : State) : Bool := (c0Dests s.cfg.live).contains n

/-- The destination is active (R213). -/
def destActive (n : Nat) (s : State) : Bool := decide ((destOf n s).base ≠ []) || (zoneNumOf s.cfg.live n).isSome

/-- C0 cost of a destination in its live settings (R231, R233). -/
def liveCost (d : Dest) : Nat :=
  193 + 7 * (d.sections.filter (fun q => !q.bypass)).length
    + (match d.dyn with | some y => if y.on then 6 else 0 | none => 0)
    + (match d.delay with | some l => if l.format = 0 then 1 else 4 | none => 0)

/-- The C0 reserve of the live settings (R233). -/
def liveReserve (s : State) : Nat := ((c0Dests s.cfg.live).map (fun n => liveCost (destOf n s))).sum + 14 * 16

/-! ## The delay pool (R225, R226) -/

/-- Samples that an allocation of some extents holds. -/
def grantedOf (format cap : Nat) : Nat := if cap = 0 then 0 else extentsFor format cap * 64 * perRow format - 16

/-- Global number of row r of an extent: extents 0 to 6143 fill banks 1 to 6 (R23). -/
def extentRow (e r : Nat) : Nat := 65536 + 64 * e + r

/-- Byte address of a global row. -/
def rowAddr (g : Nat) : Nat := 9 * g

/-- Write a Stash row whole: its check bytes are fresh. -/
def writeRow (g row : Nat) (s : State) : State :=
  let s := stashWrite (rowAddr g) (toBytesLE 9 row) s
  { s with mem := { s.mem with stashErr := eraseKey s.mem.stashErr g } }

/-- Extents of a destination's line. -/
def extentsOf (d : Dest) : List Nat := match d.delay with | some l => l.extents | none => []

/-- Extents free for a new allocation of a destination: its own count as free (R225). -/
def freeExtents (d : Dest) (s : State) : List Nat :=
  (List.range 6144).filter (fun e => !s.aud.used.contains e || (extentsOf d).contains e)

/-- A request for a capacity can be granted (R225). -/
def canAllocate (d : Dest) (format cap : Nat) (s : State) : Bool :=
  decide (extentsFor format cap ≤ (freeExtents d s).length)

/-- Banks 1 to 6 that hold no allocated extent are off (R378). -/
def trimBanks (s : State) : State :=
  let holds := fun k => s.aud.used.any (fun e => decide (e / 1024 + 1 = k))
  { s with mem := { s.mem with
      bankOn := BitVec.ofNat 8 (((List.range 8).map (fun k =>
        if bitOf s.mem.bankOn.toNat k && (k == 0 || k == 7 || holds k) then 2 ^ k else 0)).sum) } }

/-- A bank is powered for an access (R378). -/
def powerBank (k : Nat) (s : State) : State :=
  { s with mem := { s.mem with bankOn := s.mem.bankOn ||| (1#8 <<< k) } }

/-- Clear every row of extents in a format (R226). -/
def clearExtents (format : Nat) (es : List Nat) (s : State) : State :=
  es.foldl (fun s e => (List.range 64).foldl (fun s r => writeRow (extentRow e r) (clearedRow format) s) s) s

/-- A new allocation for a destination replaces its existing one, the lowest free extents first (R225, R226; log 16). A capacity
of 0 allocates nothing. -/
def allocate (n format cap delay : Nat) (s : State) : State :=
  let d := destOf n s
  let es := (freeExtents d s).take (extentsFor format cap)
  let used := s.aud.used.filter (fun e => !(extentsOf d).contains e) ++ es
  let line := if cap = 0 then none
    else some { format := format, request := cap, granted := grantedOf format cap, delay := delay, oldDelay := delay
                extents := es, written := 0, filling := [] }
  let s := { s with aud := { s.aud with used := used } }
  let s := clearExtents format es s
  trimBanks (es.foldl (fun s e => powerBank (e / 1024 + 1) s)
    (setDest { d with delay := line, format := format, request := cap } s))

/-! ## Settings -/

/-- Set a base crosspoint; the gain -1024 is off (R218). -/
def setCross (n src : Nat) (gain : Int) (invert : Bool) (s : State) : State :=
  let d := destOf n s
  let rest := d.base.filter (fun x => x.src != src)
  if gain < -960 then setDest { d with base := rest } s
  else setDest { d with base := insertBy (fun a b => decide (a.src < b.src)) ⟨src, min 48 gain, invert⟩ rest } s

/-- Set a section's coefficients; its states are zero when it leaves bypass (R220). -/
def setSection (n i : Nat) (c : Coefs) (s : State) : State :=
  let d := destOf n s
  setDest { d with sections := listModify d.sections i (fun q =>
    let q := if q.bypass then q.clear else q
    { q with bypass := false, b0 := c.b0, b1 := c.b1, b2 := c.b2, a1 := c.a1, a2 := c.a2, k := c.k }) } s

/-- Bypass a section. -/
def bypassSection (n i : Nat) (s : State) : State :=
  let d := destOf n s
  setDest { d with sections := listModify d.sections i (fun q => { q with bypass := true }) } s

/-- Set dynamics; the gain is unity when they are enabled (R222). -/
def setDynamics (n curve attack release : Nat) (rms on : Bool) (s : State) : State :=
  let d := destOf n s
  let old := d.dyn.getD {}
  let base : Dyn := if old.on && on then old else {}
  setDest { d with dyn := some { base with curve := curve, attack := attack, release := release, rms := rms, on := on } } s

/-- Configure ambient compensation: its gain starts at 0 steps (R223). -/
def setAmbient (n curve source window gate : Nat) (s : State) : State :=
  setDest { destOf n s with ambient := some { curve := curve, source := source, window := window, gate := gate, secs := []
                                              gated := 0, sumSq := 0, since := s.clk.tick, gain := 0, target := 0, wait := 0 } } s

/-- Put an entry of table 160 into force (R237). -/
def applyEntry (e : MapEntry) (s : State) : State :=
  let n := entryDest e
  let d := destOf n s
  match e.typ with
  | 0 => setCross n (e.a.bits 15 8) e.b.signed false s
  | 4 => match designOf e.a e.b with
    | some c => setSection n (e.a.bits 11 8) c s
    | none => s
  | 5 =>
    let same := match d.delay with
      | some l => l.format == e.a.bits 17 16 && l.request == e.b.toNat && l.delay == e.b.toNat
      | none => e.b == 0 && d.format == e.a.bits 17 16
    if same then s else allocate n (e.a.bits 17 16) e.b.toNat e.b.toNat s
  | 6 => setDynamics n (e.a.bits 17 13) (e.a.bits 12 8) (e.b.bits 17 13) (e.b.bit 12) true s
  | 7 =>
    let same := match d.ambient with
      | some a => a.curve == e.a.bits 17 13 && a.source == e.b.bits 17 10 && a.window == e.b.bits 9 4 && a.gate == e.b.bits 3 0
      | none => false
    if same then s else setAmbient n (e.a.bits 17 13) (e.b.bits 17 10) (e.b.bits 9 4) (e.b.bits 3 0) s
  | _ => s

/-- Take an entry of table 160 out of force. -/
def removeEntry (e : MapEntry) (s : State) : State :=
  let n := entryDest e
  match e.typ with
  | 0 => setCross n (e.a.bits 15 8) (-1024) false s
  | 4 => bypassSection n (e.a.bits 11 8) s
  | 5 => allocate n 0 0 0 s
  | 6 => setDest { destOf n s with dyn := none } s
  | 7 => setDest { destOf n s with ambient := none } s
  | _ => s

/-! ## Entries with their places in a table -/

/-- Entries of a MAP table with the word offset of each, with a bound on the sections. -/
def placedEntries : Nat → Nat → List Word → List (Nat × MapEntry)
  | 0, _, _ => []
  | k + 1, off, t :: n :: ws =>
    match takeEntries (t.bits 17 12) n.toNat ws with
    | none => []
    | some (es, rest) => (es.zipIdx.map (fun e => (off + 2 + 2 * e.2, e.1))) ++ placedEntries k (off + 2 + 2 * n.toNat) rest
  | _, _, _ => []

/-- Placed entries of a table. -/
def placedIn (ts : List Table) (tid : Nat) : List (Nat × MapEntry) :=
  match tableIn ts tid with
  | some ws => placedEntries ws.length 0 ws
  | none => []

/-- Word offset of the entry of table 160 with a key (R238). -/
def entryAt (key : Nat × Nat × Nat) (s : State) : Option Nat :=
  ((placedIn s.cfg.live 160).find? (fun e => routeKey e.2 == key)).map (·.1)

/-- Table 160 as it stands after written words, applied to the live settings (R237, R238): entries whose key is gone leave, entries
written or new come into force. -/
def applyRouteTable (old new : List Table) (written : List Nat) (s : State) : State :=
  let before := placedIn old 160
  let after := placedIn new 160
  let gone := before.filter (fun e => !after.any (fun x => routeKey x.2 == routeKey e.2))
  let touched := after.filter (fun e =>
    written.contains e.1 || written.contains (e.1 + 1) || !before.any (fun x => x.2 == e.2))
  let s := gone.foldl (fun s e => removeEntry e.2 s) s
  touched.foldl (fun s e => applyEntry e.2 s) s

/-- Every TYPE 5 entry that a write touches finds its extents (R134, R225). -/
def routeTableFits (old new : List Table) (written : List Nat) (s : State) : Bool :=
  let s' := applyRouteTable old new written { s with mem := { s.mem with stash := [] } }
  (entriesOf new 160 5).all (fun e =>
    decide ((extentsOf (destOf (entryDest e) s')).length = extentsFor
      (match (destOf (entryDest e) s').delay with | some l => l.format | none => 0)
      (match (destOf (entryDest e) s').delay with | some l => l.request | none => 0)))

/-! ## Status -/

/-- The first status whose condition holds, in the order of R108; OK when none does. -/
def firstStatus : List (Bool × Nat) → Nat
  | [] => stOk
  | (bad, st) :: rest => if bad then st else firstStatus rest

/-- A PERSIST request meets R133 and R238: STATE without a table coding, RESOURCE without overlay room. -/
def persistChecks (persist : Bool) (coding : Option (List Change)) (s : State) : List (Bool × Nat) :=
  if persist then
    [(coding.isNone, stState), (match coding with | some cs => !overlayRoom cs s | none => false, stResource)]
  else []

/-- Record a change when PERSIST is set. -/
def persist (on : Bool) (coding : Option (List Change)) (s : State) : State :=
  match on, coding with
  | true, some cs => recordChanges cs s
  | _, _ => s

/-! ## ROUTE commands (R239 to R241) -/

/-- The gain of a ROUTE.SET: as given, or by its LAW curve; none for a LAW of the wrong kinds or a value out of range. -/
def routeGain (c : Command) (s : State) : Option Int :=
  let law := c.p 4 % 64
  if law = 63 then
    (let g := signedField (c.p 3) 18
     if gainOk g then some g else none)
  else if 32 ≤ law then none
  else
    match tableIn s.cfg.live (128 + law) with
    | some ws => if curveKinds ws = (0, 2) ∧ c.p 3 ≤ 1023 then
        (let g := evalCurve ws (c.p 3)
         some (if g < -960 then -1024 else min 48 g))
      else none
    | none => none

/-- The table coding of a ROUTE.SET: none with INVERT, with a LAW, or without an entry (R238; log 17). -/
def routeCoding (c : Command) (s : State) : Option (List Change) :=
  if c.p 4 % 64 ≠ 63 ∨ bitOf (c.p 4) 17 then none
  else (entryAt (0, c.p 2, c.p 1) s).map (fun o => [⟨160, o + 1, w18 (c.p 3)⟩])

/-- Status of a ROUTE.SET. -/
def checkRouteSet (c : Command) (s : State) : Nat :=
  firstStatus ([(!(numberOk (c.p 1) && numberOk (c.p 2)), stBadParam),
    (!s.cfg.unconfigured && (routeGain c s).isNone, stBadParam), (s.cfg.unconfigured, stState)]
    ++ persistChecks (bitOf (c.p 4) 16) (routeCoding c s) s)

/-- ROUTE.SET (R239): takes effect at the next block boundary, before its reply. -/
def execRouteSet (s : State) : Result :=
  effect (boundaryCommand 0o0401 anyVariant (fun c s => destProtected (c.p 2) s) checkRouteSet) s

/-- The base coefficient of a gain with its polarity (R215). -/
def signedCoef (g : Int) (invert : Bool) : Int := if invert then -(gainCoef g) else gainCoef g

/-- The effect of ROUTE.SET at its boundary. -/
def runRouteSet (c : Command) (s : State) : List Word × State :=
  let g := (routeGain c s).getD (-1024)
  let coding := routeCoding c s
  let s := setCross (c.p 2) (c.p 1) g (bitOf (c.p 4) 17) s
  ([w18i (signedCoef g (bitOf (c.p 4) 17))], persist (bitOf (c.p 4) 16) coding s)

/-- ROUTE.GET (R240). -/
def execRouteGet (s : State) : Result :=
  effect (immediateCommand 0o0402 anyVariant (fun c s => destProtected (c.p 1) s)
    (fun c s => firstStatus [(!(numberOk (c.p 1) && numberOk (c.p 2)), stBadParam), (s.cfg.unconfigured, stState)])
    (fun c s =>
      let xs := ((destOf (c.p 1) s).base.filter (fun x => decide (c.p 2 ≤ x.src))).take 125
      let z := match zoneOf (c.p 1) s with | some z => z.source | none => 0
      (w18 (z * 256 + xs.length) :: xs.flatMap (fun x => [w18 x.src, w18i x.gain]), s))) s

/-- Destinations that a ROUTE.CLEAR acts on. -/
def clearTargets (c : Command) : List Nat := if c.p 1 = 0 then (List.range 192).map (· + 1) else [c.p 1]

/-- The table coding of a ROUTE.CLEAR: every TYPE 0 entry of its destinations off; none when a crosspoint that is on has no
entry (R238; log 17). -/
def clearCoding (c : Command) (s : State) : Option (List Change) :=
  let ns := clearTargets c
  let es := (placedIn s.cfg.live 160).filter (fun e => e.2.typ == 0 && ns.contains (entryDest e.2))
  let covered := ns.all (fun n => (destOf n s).base.all (fun x => es.any (fun e => routeKey e.2 == (0, n, x.src))))
  if covered then some (es.map (fun e => ⟨160, e.1 + 1, w18i (-1024)⟩)) else none

/-- Status of a ROUTE.CLEAR. -/
def checkRouteClear (c : Command) (s : State) : Nat :=
  firstStatus ([(decide (192 < c.p 1), stBadParam), (s.cfg.unconfigured, stState)]
    ++ persistChecks (bitOf (c.p 2) 16) (clearCoding c s) s)

/-- A ROUTE.CLEAR acts on a protected destination (R241). -/
def clearNeedsAuth (c : Command) (s : State) : Bool :=
  (clearTargets c).any (fun n => destProtected n s && (decide (c.p 1 ≠ 0) || destActive n s))

/-- ROUTE.CLEAR (R241). -/
def execRouteClear (s : State) : Result := effect (boundaryCommand 0o0403 anyVariant clearNeedsAuth checkRouteClear) s

/-- The effect of ROUTE.CLEAR at its boundary. -/
def runRouteClear (c : Command) (s : State) : List Word × State :=
  let coding := clearCoding c s
  let s := (clearTargets c).foldl (fun s n =>
    if (destOf n s).base = [] then s else setDest { destOf n s with base := [] } s) s
  ([], persist (bitOf (c.p 2) 16) coding s)

/-! ## PROC commands (R242) -/

/-- SECTION and MODE of a PROC.SET_EQ. -/
def eqSection (c : Command) : Nat := c.p 2 % 16
/-- MODE of a PROC.SET_EQ. -/
def eqMode (c : Command) : Nat := c.p 2 / 16 % 4

/-- A PROC.SET_EQ of a mode. -/
def eqModeIs (m : Nat) (c : Command) : Bool := eqMode c == m

/-- PERSIST of a PROC.SET_EQ. -/
def eqPersist (c : Command) : Bool := bitOf (c.p 2) 17

/-- Words a and b of the TYPE 4 entry that a design sets. -/
def eqWords (c : Command) : Word × Word :=
  (w18 (c.p 3 / 4096 * 4096 + eqSection c * 256 + c.p 1), w18 (c.p 4))

/-- The coefficients that a PROC.SET_EQ sets; none for a refused design or raw coefficients (R221). -/
def eqCoefs (c : Command) : Option Coefs :=
  if eqMode c = 0 then (if c.p 3 % 256 = 0 then designOf (eqWords c).1 (eqWords c).2 else none)
  else
    let q := fun n => signedField (c.p n) 18
    if (q 7).natAbs < 65536 ∧ ((q 6).natAbs : Int) < 65536 + q 7 ∧ c.p 8 ≤ 3 then
      some ⟨q 3, q 4, q 5, q 6, q 7, c.p 8⟩
    else none

/-- The table coding of a PROC.SET_EQ: a design over an existing entry only (R238). -/
def eqCoding (c : Command) (s : State) : Option (List Change) :=
  if eqMode c = 0 then
    (entryAt (4, c.p 1, eqSection c) s).map (fun o => [⟨160, o, (eqWords c).1⟩, ⟨160, o + 1, (eqWords c).2⟩])
  else none

/-- The C0 reserve would stay within its limit after a change of one destination (R233). -/
def reserveFits (s' : State) (s : State) : Bool := decide (liveReserve s' ≤ 40000) || decide (liveReserve s' ≤ liveReserve s)

/-- Status of a PROC.SET_EQ. -/
def checkSetEq (c : Command) (s : State) : Nat :=
  let bad := !numberOk (c.p 1) || decide (11 < eqSection c) || (eqMode c != 1 && (eqCoefs c).isNone)
  let s' := match eqCoefs c with | some k => setSection (c.p 1) (eqSection c) k s | none => s
  firstStatus ([(bad, stBadParam), (s.cfg.unconfigured, stState)]
    ++ persistChecks (eqPersist c) (eqCoding c s) s ++ [(eqMode c != 1 && !reserveFits s' s, stResource)])

/-- PROC.SET_EQ, MODE 0 (R221, R242). -/
def execProcSetEqDesign (s : State) : Result :=
  effect (boundaryCommand 0o0601 (fun c => eqModeIs 0 c || eqModeIs 3 c) noAuth
    (fun c s => if eqMode c = 3 then stBadParam else checkSetEq c s)) s

/-- PROC.SET_EQ, MODE 1 (R242). -/
def execProcSetEqBypass (s : State) : Result := effect (boundaryCommand 0o0601 (eqModeIs 1) noAuth checkSetEq) s

/-- PROC.SET_EQ, MODE 2 (R221, R242). -/
def execProcSetEqRaw (s : State) : Result := effect (boundaryCommand 0o0601 (eqModeIs 2) noAuth checkSetEq) s

/-- The effect of PROC.SET_EQ at its boundary: the coefficients in force. -/
def runSetEq (c : Command) (s : State) : List Word × State :=
  let coding := eqCoding c s
  match eqMode c, eqCoefs c with
  | 1, _ => ([65536, 0, 0, 0, 0, 0], persist (eqPersist c) coding (bypassSection (c.p 1) (eqSection c) s))
  | _, some k =>
    ([w18i k.b0, w18i k.b1, w18i k.b2, w18i k.a1, w18i k.a2, w18 k.k],
      persist (eqPersist c) coding (setSection (c.p 1) (eqSection c) k s))
  | _, none => ([], s)

/-- Format of the next allocation of a destination. -/
def nextFormat (d : Dest) : Nat := match d.delay with | some l => l.format | none => d.format

/-- Capacity in force after a PROC.SET_DELAY (R242). -/
def setDelayCapacity (c : Command) (s : State) : Nat :=
  let d := destOf (c.p 1) s
  if c.p 3 = 0 then (match d.delay with | some l => l.granted | none => 0) else grantedOf (nextFormat d) (c.p 3)

/-- The table coding of a PROC.SET_DELAY: DELAY of the TYPE 5 entry (R237, R238; log 17). -/
def delayCoding (c : Command) (s : State) : Option (List Change) :=
  (entryAt (5, c.p 1, 0) s).map (fun o => [⟨160, o + 1, w18 (c.p 2)⟩])

/-- The live settings after a PROC.SET_DELAY. -/
def setDelay (c : Command) (s : State) : State :=
  let d := destOf (c.p 1) s
  if c.p 3 = 0 then
    match d.delay with
    | some l => setDest { d with delay := some { l with delay := c.p 2 } } s
    | none => s
  else allocate (c.p 1) (nextFormat d) (c.p 3) (c.p 2) s

/-- Status of a PROC.SET_DELAY. -/
def checkSetDelay (c : Command) (s : State) : Nat :=
  let d := destOf (c.p 1) s
  let bad := !numberOk (c.p 1) || decide (65535 < c.p 2) || decide (65535 < c.p 3)
    || (!s.cfg.unconfigured && decide (setDelayCapacity c s < c.p 2))
  let full := decide (c.p 3 ≠ 0) && (!canAllocate d (nextFormat d) (c.p 3) s || !reserveFits (setDelay c s) s)
  firstStatus ([(bad, stBadParam), (s.cfg.unconfigured, stState)]
    ++ persistChecks (bitOf (c.p 4) 17) (delayCoding c s) s ++ [(full, stResource)])

/-- PROC.SET_DELAY (R225, R226, R242). -/
def execProcSetDelay (s : State) : Result := effect (boundaryCommand 0o0602 anyVariant noAuth checkSetDelay) s

/-- Capacity granted to a destination. -/
def granted (n : Nat) (s : State) : Nat := match (destOf n s).delay with | some l => l.granted | none => 0

/-- The effect of PROC.SET_DELAY at its boundary. -/
def runSetDelay (c : Command) (s : State) : List Word × State :=
  let coding := delayCoding c s
  let s := setDelay c s
  ([w18 (granted (c.p 1) s)], persist (bitOf (c.p 4) 17) coding s)

/-- Capacity that PROC.DELAY_FORMAT requests (R242). -/
def formatCapacity (d : Dest) : Nat := match d.delay with | some l => max d.request l.delay | none => 0

/-- The table coding of a PROC.DELAY_FORMAT: FORMAT of the TYPE 5 entry. -/
def formatCoding (c : Command) (s : State) : Option (List Change) :=
  (entryAt (5, c.p 1, 0) s).map (fun o => [⟨160, o, w18 (c.p 2 * 65536 + c.p 1)⟩])

/-- The live settings after a PROC.DELAY_FORMAT. -/
def setDelayFormat (c : Command) (s : State) : State :=
  let d := destOf (c.p 1) s
  match d.delay with
  | none => setDest { d with format := c.p 2 } s
  | some l =>
    let s := allocate (c.p 1) (c.p 2) (formatCapacity d) l.delay s
    setDest { destOf (c.p 1) s with request := d.request } s

/-- Status of a PROC.DELAY_FORMAT. -/
def checkDelayFormat (c : Command) (s : State) : Nat :=
  let d := destOf (c.p 1) s
  firstStatus ([(!numberOk (c.p 1) || decide (2 < c.p 2), stBadParam), (s.cfg.unconfigured, stState)]
    ++ persistChecks (bitOf (c.p 3) 17) (formatCoding c s) s
    ++ [(!canAllocate d (c.p 2) (formatCapacity d) s || !reserveFits (setDelayFormat c s) s, stResource)])

/-- PROC.DELAY_FORMAT (R242). -/
def execProcDelayFormat (s : State) : Result := effect (boundaryCommand 0o0605 anyVariant noAuth checkDelayFormat) s

/-- The effect of PROC.DELAY_FORMAT at its boundary. -/
def runDelayFormat (c : Command) (s : State) : List Word × State :=
  let coding := formatCoding c s
  let s := setDelayFormat c s
  ([w18 (granted (c.p 1) s)], persist (bitOf (c.p 3) 17) coding s)

/-- Word a or b of a PROC.SET_DYNAMICS. -/
def dynWord (c : Command) (n : Nat) : Word := w18 (c.p n)

/-- ENABLE of a PROC.SET_DYNAMICS. -/
def dynEnable (c : Command) : Bool := bitOf (c.p 3) 0

/-- The table coding of a PROC.SET_DYNAMICS: its TYPE 6 entry, for enabled dynamics only (R238; log 17). -/
def dynCoding (c : Command) (s : State) : Option (List Change) :=
  if dynEnable c then
    (entryAt (6, c.p 1, 0) s).map (fun o =>
      [⟨160, o, w18 (c.p 2 / 256 * 256 + c.p 1)⟩, ⟨160, o + 1, w18 (c.p 3 / 4096 * 4096)⟩])
  else none

/-- The live settings after a PROC.SET_DYNAMICS. -/
def applySetDynamics (c : Command) (s : State) : State :=
  setDynamics (c.p 1) ((dynWord c 2).bits 17 13) ((dynWord c 2).bits 12 8) ((dynWord c 3).bits 17 13) ((dynWord c 3).bit 12)
    (dynEnable c) s

/-- Status of a PROC.SET_DYNAMICS. -/
def checkSetDynamics (c : Command) (s : State) : Nat :=
  let curveBad := !s.cfg.unconfigured && dynEnable c && !levelCurve s.cfg.live ((dynWord c 2).bits 17 13)
  firstStatus ([(!numberOk (c.p 1) || decide (c.p 2 % 256 ≠ 0) || curveBad, stBadParam), (s.cfg.unconfigured, stState)]
    ++ persistChecks (bitOf (c.p 3) 1) (dynCoding c s) s ++ [(!reserveFits (applySetDynamics c s) s, stResource)])

/-- PROC.SET_DYNAMICS (R222, R242). -/
def execProcSetDynamics (s : State) : Result := effect (boundaryCommand 0o0603 anyVariant noAuth checkSetDynamics) s

/-- The effect of PROC.SET_DYNAMICS at its boundary. -/
def runSetDynamics (c : Command) (s : State) : List Word × State :=
  let coding := dynCoding c s
  ([], persist (bitOf (c.p 3) 1) coding (applySetDynamics c s))

/-- The meters of a KIND: 0 sources, 1 destinations. -/
def metersOf (kind : Nat) (s : State) : List (Nat × Meter) := if kind = 0 then s.aud.srcMeters else s.aud.destMeters

/-- Replace the meters of a KIND. -/
def setMeters (kind : Nat) (l : List (Nat × Meter)) (s : State) : State :=
  if kind = 0 then { s with aud := { s.aud with srcMeters := l } } else { s with aud := { s.aud with destMeters := l } }

/-- KIND and first number of a PROC.METER. -/
def meterKind (c : Command) : Nat := c.p 1 / 65536
/-- Channels that a PROC.METER reports. -/
def meterRange (c : Command) : List Nat := (List.range (c.p 2)).map (fun k => c.p 1 % 256 + k)

/-- PROC.METER (R224, R242): PEAK restarts and STALE clears for what it reports. -/
def execProcMeter (s : State) : Result :=
  effect (immediateCommand 0o0604 anyVariant noAuth
    (fun c s => firstStatus [(decide (1 < meterKind c) || decide (c.p 2 < 1) || decide (125 < c.p 2)
        || decide (c.p 1 % 256 < 1) || decide (193 < c.p 1 % 256 + c.p 2), stBadParam), (s.cfg.unconfigured, stState)])
    (fun c s =>
      let ms := metersOf (meterKind c) s
      let get := fun n => lookupD ms n {}
      let stale := (meterRange c).any (fun n => (get n).stale)
      let l := (meterRange c).foldl (fun l n => insertKey l n { get n with peak := -1024, stale := false }) ms
      (w18 (bit stale) :: (meterRange c).flatMap (fun n => [w18i (get n).peak, w18i (meterRms (get n))]),
        setMeters (meterKind c) l s))) s

/-! ## Ambient compensation (R223) -/

/-- One second of ambient measurement closes: N over the window, and the target when at least 10 % of its blocks were gated in. The
blocks are those of the time that has passed, those in which the destination was not served among them. -/
def ambientSecond (s : State) (d : Dest) : Dest :=
  match d.ambient with
  | none => d
  | some a =>
    if since a.since s < Config.tkPerS then d
    else
      let secs := ((a.gated, since a.since s / 16, a.sumSq) :: a.secs).take a.window
      let gated := (secs.map (·.1)).sum
      let all := (secs.map (·.2.1)).sum
      let a := { a with secs := secs, gated := 0, sumSq := 0, since := s.clk.tick }
      if all ≤ 10 * gated ∧ 0 < gated then
        let n := levelOfSquare ((secs.map (·.2.2)).sum) (16 * gated)
        let v := match tableIn s.cfg.live (128 + a.curve) with | some ws => evalCurve ws n | none => 0
        { d with ambient := some { a with target := clampInt (-960) 48 v } }
      else { d with ambient := some a }

/-- AMBIENT_UPDATE (R223): once per second. -/
def execAmbientUpdate (s : State) : Result :=
  effect (fun s => { s with aud := { s.aud with dests := s.aud.dests.map (ambientSecond s) } }) s

end Sys2Proof.Machine
end

