-- ==== Sys2Proof/Machine/Messages.lean ====
section
/-!
DEFINITION. The message store and the Marl codec (13): libraries and their verification (R279 to R282, R294, R295), the decoder
(R283 to R285), the message cache (R289), voices (R288, R252) and the MSG commands (R290 to R293).
-/

namespace Sys2Proof.Machine

open Sys2Proof

/-! ## Messages and voices as they stand -/

/-- The message of a number in the accepted libraries. -/
def msgOf (number : Nat) (s : State) : Option Msg := s.msg.msgs.find? (fun m => m.number == number)

/-- Change the messages of a number. -/
def mapMsg (number : Nat) (f : Msg → Msg) (s : State) : State :=
  { s with msg := { s.msg with msgs := s.msg.msgs.map (fun m => if m.number == number then f m else m) } }

/-- Voice v. -/
def voiceOf (v : Nat) (s : State) : Option Voice := s.msg.voices.getD v none

/-- Replace voice v. -/
def setVoice (v : Nat) (x : Option Voice) (s : State) : State :=
  { s with msg := { s.msg with voices := listSet s.msg.voices v x } }

/-- Matrix source of a voice (R288). -/
def voiceSource (v : Nat) : Nat := 177 + v

/-- The STATE table of a zone's machine (R243). -/
def machineOf (z : Zone) (s : State) : List Word := (tableIn s.cfg.live (192 + z.inst)).getD []

/-- LEVEL of a zone (R122). -/
def zoneLevel (z : Zone) (s : State) : Nat := stLevel (machineOf z s) z.state

/-- LOAD_BLOCK_LEVEL (R126). -/
def loadBlockLevel (s : State) : Nat := boardParam 8 8 s

/-- The highest LEVEL that shares a voice; a host-started voice counts as LEVEL 0 (R252, R289). -/
def voiceLevel (v : Nat) (s : State) : Nat :=
  (s.zon.zones.filter (fun z => z.voice == some v)).foldl (fun m z => max m (zoneLevel z s)) 0

/-- Change one zone. -/
def mapZone (n : Nat) (f : Zone → Zone) (s : State) : State :=
  { s with zon := { s.zon with zones := s.zon.zones.map (fun z => if z.num == n then f z else z) } }

/-- Every zone that holds a voice loses it, with a message-ended event in the next block (R252). -/
def loseVoice (v : Nat) (s : State) : State :=
  let holders := (s.zon.zones.filter (fun z => z.voice == some v)).map (·.num)
  holders.foldl (fun s n =>
    zoneOcc 7 0 0 (some n) (mapZone n (fun z =>
      { z with voice := none, source := if z.source = voiceSource v then 0 else z.source }) s)) s

/-- A voice ends with a reason of MSG.VOICE_ENDED (R288). -/
def endVoice (v reason : Nat) (s : State) : State :=
  match voiceOf v s with
  | none => s
  | some x => loseVoice v (post 0o070103 [w18 v, w18 x.msg.number, w18 reason] (setVoice v none s))

/-- A start of an absent or failed message takes no voice (R289). -/
def deniedStart (number : Nat) (s : State) : State := post 0o070103 [31, w18 number, 3] s

/-- Put a message on a voice for zones, or for the host when there are none. -/
def takeVoice (v : Nat) (m : Msg) (zones : List Nat) (s : State) : State :=
  setVoice v (some { msg := m, zones := zones, start := s.clk.tick }) s

/-- The lowest-numbered free voice. -/
def freeVoice (s : State) : Option Nat := (List.range 16).find? (fun v => (voiceOf v s).isNone)

/-! ## The order of verification (R281) -/

/-- Messages that are neither verified nor failed. -/
def unverified (s : State) : List Msg := s.msg.msgs.filter (fun m => !m.verified && !m.failed)

/-- The number that is verified next. -/
def nextToVerify (s : State) : Option Nat :=
  let byNumber := sortBy (fun a b => decide (a.number < b.number)) (unverified s)
  let pick := fun (p : Msg → Bool) => (byNumber.find? p).map (·.number)
  match s.msg.front.find? (fun k => byNumber.any (fun m => m.number == k)) with
  | some k => some k
  | none => match pick (fun m => decide (0 < m.pinned)) with
    | some k => some k
    | none => match pick (·.emergency) with
      | some k => some k
      | none => pick (fun _ => true)

/-- A message moves to the front of the order. -/
def toFront (number : Nat) (s : State) : State :=
  { s with msg := { s.msg with front := number :: s.msg.front.filter (fun k => k != number) } }

/-- SIG of the record and HASH of the payload hold (R280). -/
def messageGood (m : Msg) (s : State) : Bool :=
  ecdsaVerify m.pubkey (sha256 (m.record.take 56)) (slice m.record 56 32) (slice m.record 88 32)
    && decide (sha256 (flashBytes m.addr m.bytes s) = slice m.record 24 32)

/-- A message is marked failed: it never plays (R280). -/
def failMessage (number : Nat) (s : State) : State :=
  raiseFault 0o0224 (mapMsg number (fun m => { m with failed := true, verified := false }) s)

/-- A flash read that fails or is not answered raises its fault of PORT block 13 (R388). -/
def flashReadFault (readOk : Bool) (s : State) : State := if readOk then s else raiseFault 0o4321 s

/-- Every library of the directory has been verified under R279, which comes before its messages (R281). -/
def librariesChecked (s : State) : Bool := (dirEntries s).all (fun e => e.typ != 4 || s.msg.checked.contains e.index)

/-- MESSAGE_VERIFICATION (R281): the message whose turn it is. -/
def execMessageVerification (number : BitVec 13) (readOk : Bool) (s : State) : Result :=
  effect (fun s =>
    if fwRuns s ∧ librariesChecked s ∧ nextToVerify s = some number.toNat then
      match msgOf number.toNat s with
      | none => s
      | some m =>
        let s := flashReadFault readOk s
        if readOk && messageGood m s then mapMsg number.toNat (fun m => { m with verified := true }) s
        else failMessage number.toNat s
    else s) s

/-! ## Marl frames (R283 to R285) -/

/-- Samples that R283 gives for frame i of a message. -/
def frameSamples (m : Msg) (i : Nat) : Nat := if i + 1 < m.frames then 256 else m.samples - 256 * (m.frames - 1)

/-- Bits of bytes, most significant first. -/
def bytesBits (bs : List Byte) : List Bool := bs.flatMap (fun b => msbBits 8 b.toNat)

/-- CRC-16 of R283 and R259. -/
def crc16 (bits : List Bool) : Nat := crcBits 16 0x8BB7 0xFFFF bits

/-- The first n bits as a number, and the bits after them. -/
def takeNum (n : Nat) (bs : List Bool) : Nat × List Bool := (ofBits ((List.range n).map (fun k => bs.getD k false)), bs.drop n)

/-- Count 1 bits up to the first 0 bit, which is consumed, or up to 24 (R285). -/
def riceQuotient : Nat → List Bool → Nat × List Bool
  | 0, bs => (0, bs)
  | n + 1, b :: bs => if b then (let (q, r) := riceQuotient n bs; (q + 1, r)) else (0, bs)
  | _ + 1, [] => (0, [])

/-- A Rice code with parameter k (R285). -/
def riceDecode (k : Nat) (bs : List Bool) : Nat × List Bool :=
  let (q, rest) := riceQuotient 24 bs
  if q = 24 then takeNum 20 rest
  else
    let (r, rest) := takeNum k rest
    (q * 2 ^ k + r, rest)

/-- Reconstruct n samples from the two before them (R285). -/
def marlSamples (k e : Nat) : Nat → Int → Int → List Bool → List Int
  | 0, _, _, _ => []
  | n + 1, r2, r1, bs =>
    let (u, rest) := riceDecode k bs
    let q : Int := if u % 2 = 0 then (u / 2 : Nat) else -((u + 1) / 2 : Nat)
    let r := saturate (2 * r1 - r2 + q * (2 * e + 1 : Nat))
    r :: marlSamples k e n r1 r rest

/-- LEN of a frame's first bytes (R283). -/
def frameLen (bs : List Byte) : Nat := ofBytesBE (bs.take 2)

/-- The samples of frame i of a message from its bytes and its payload offset; none for a failed frame (R284). -/
def decodeFrame (m : Msg) (i offset : Nat) (bs : List Byte) : Option (List Int) :=
  let len := frameLen bs
  let bits := bytesBits bs
  let ns := ofBits ((bits.drop 20).take 8)
  let placed := if i + 1 < m.frames then decide (offset + len < m.bytes) else offset + len == m.bytes
  if 11 ≤ len ∧ len ≤ bs.length ∧ placed ∧ ns + 1 = frameSamples m i
      ∧ crc16 (bytesBits (bs.take (len - 2))) = ofBytesBE ((bs.drop (len - 2)).take 2) then
    some (marlSamples (ofBits ((bits.drop 16).take 4)) m.e (ns + 1) (signedField (ofBits ((bits.drop 28).take 18)) 18)
      (signedField (ofBits ((bits.drop 46).take 18)) 18) (bits.drop 64))
  else none

/-- Payload bytes of a message from an offset on, up to the largest frame that its LEN names. -/
def payloadFrom (m : Msg) (offset : Nat) (s : State) : List Byte :=
  let len := frameLen (flashBytes (m.addr + offset) 2 s)
  flashBytes (m.addr + offset) (min len (m.bytes - offset)) s

/-! ## The cache (R289) -/

/-- Frames that cover pinned seconds. -/
def pinFrames (m : Msg) (secs : Nat) : Nat := min m.frames ((secs * 375 + 1) / 2)

/-- Offsets and lengths of the first n frames of a message, from frame i at an offset on; none when a LEN locates no frame. -/
def frameChain (m : Msg) (s : State) : Nat → Nat → Nat → Option (List (Nat × Nat × Nat))
  | 0, _, _ => some []
  | n + 1, i, offset =>
    let len := frameLen (flashBytes (m.addr + offset) 2 s)
    if len < 11 ∨ m.bytes < offset + len then none
    else
      match frameChain m s n (i + 1) (offset + len) with
      | some l => some ((i, offset, len) :: l)
      | none => none

/-- Cache rows in use, apart from those of a message. -/
def cacheUsed (number : Nat) (s : State) : List Nat :=
  (s.msg.cache.filter (fun f => f.number != number)).flatMap (·.rows)

/-- Rows that frames of these lengths take. -/
def rowsFor (lens : List Nat) : Nat := (lens.map (fun n => (n + 8) / 9)).sum

/-- Messages pinned now, apart from one. -/
def pinnedCount (number : Nat) (s : State) : Nat :=
  (s.msg.msgs.filter (fun m => m.number != number && decide (0 < m.pinned))).length

/-- The cache has the rows and the place for a message's pinned seconds (R289). How many rows a broken chain of LEN needs is not known:
its frames fail when they are read (R293). -/
def pinFits (m : Msg) (secs : Nat) (s : State) : Bool :=
  decide (pinnedCount m.number s < 16) && (match frameChain m s (pinFrames m secs) 0 0 with
    | some l => decide (rowsFor (l.map (·.2.2)) ≤ 49152 - (cacheUsed m.number s).length)
    | none => true)

/-- Deal rows out to frames. -/
def dealRows (m : Msg) : List (Nat × Nat × Nat) → List Nat → List (CacheFrame × Nat)
  | [], _ => []
  | (i, off, len) :: rest, free =>
    let n := (len + 8) / 9
    (⟨m.number, m.addr, i, len, free.take n⟩, off) :: dealRows m rest (free.drop n)

/-- Split bytes into rows of nine. -/
def rowsOfBytes : Nat → List Byte → List Nat
  | 0, _ => []
  | n + 1, bs => ofBytesLE (bs.take 9) :: rowsOfBytes n (bs.drop 9)

/-- Global number of a bank 7 row. -/
def cacheRow (r : Nat) : Nat := 7 * 65536 + r

/-- Store a frame in its rows. -/
def storeFrame (m : Msg) (f : CacheFrame × Nat) (s : State) : State :=
  let bs := flashBytes (m.addr + f.2) f.1.len s
  let s := (f.1.rows.zip (rowsOfBytes f.1.rows.length bs)).foldl (fun s r => writeRow (cacheRow r.1) r.2 s) s
  { s with msg := { s.msg with cache := s.msg.cache ++ [f.1] } }

/-- Free a message's cache frames. -/
def dropCache (number : Nat) (s : State) : State :=
  { s with msg := { s.msg with cache := s.msg.cache.filter (fun f => f.number != number) } }

/-- Place a message's first frames in the cache and pin it for its seconds (R289). -/
def pinMessage (m : Msg) (secs : Nat) (s : State) : State :=
  let free := (List.range 49152).filter (fun r => !(cacheUsed m.number s).contains r)
  let s := dropCache m.number s
  let s := match frameChain m s (pinFrames m secs) 0 0 with
    | some l => (dealRows m l free).foldl (fun s f => storeFrame m f s) s
    | none => s
  mapMsg m.number (fun m => { m with pinned := secs }) s

/-- Pin messages in order of NUMBER until the cache or the places are full (R289); one whose frames cannot be found is left out. -/
def pinInOrder : List (Msg × Nat) → State → State
  | [], s => s
  | (m, secs) :: ms, s =>
    if (frameChain m s (pinFrames m secs) 0 0).isNone then pinInOrder ms s
    else if pinFits m secs s then pinInOrder ms (pinMessage m secs s)
    else s

/-- Messages with their pinned seconds, in order of NUMBER; those without are left out. -/
def pinsOf (secs : Msg → Nat) (ms : List Msg) : List (Msg × Nat) :=
  (sortBy (fun a b => decide (a.number < b.number)) (ms.filter (fun m => decide (0 < secs m)))).map (fun m => (m, secs m))

/-- Fill the cache again with the frames of the messages that are pinned (R282). -/
def fillCache (s : State) : State := pinInOrder (pinsOf (·.pinned) s.msg.msgs) s

/-- Rows of a cache frame: the number of the worst row's wrong symbols, and the bytes. -/
def cacheBytes (f : CacheFrame) (s : State) : Nat × List Byte :=
  (f.rows.foldl (fun n r => max n (lookupD s.mem.stashErr (cacheRow r) 0)) 0,
    (f.rows.flatMap (fun r => stashBytes (rowAddr (cacheRow r)) 9 s)).take f.len)

/-! ## Libraries (R279, R295) -/

/-- Numbers of accepted libraries other than one. -/
def otherNumbers (lib : Nat) (s : State) : List Nat := (s.msg.msgs.filter (fun m => m.lib != lib)).map (·.number)

/-- Take a library's messages out of force. -/
def removeLibrary (lib : Nat) (s : State) : State :=
  let ns := (s.msg.msgs.filter (fun m => m.lib == lib)).map (·.number)
  { s with msg := { s.msg with
      msgs := s.msg.msgs.filter (fun m => m.lib != lib)
      cache := s.msg.cache.filter (fun f => !ns.contains f.number)
      front := s.msg.front.filter (fun k => !ns.contains k) } }

/-- Put a library's messages into force: the records' pins apply (R293, R295). -/
def activateLibrary (lib : Nat) (ms : List Msg) (s : State) : State :=
  let s := removeLibrary lib s
  let s := { s with msg := { s.msg with msgs := sortBy (fun a b => decide (a.number < b.number)) (s.msg.msgs ++ ms) } }
  let s := pinInOrder (pinsOf (·.pin) ms) s
  post 0o070203 [w18 lib, 0, 0] s

/-- A library is rejected: MSG.LIBRARY with its reason, and the fault (R279). -/
def rejectLibrary (lib reason : Nat) (s : State) : State := raiseFault 0o0223 (post 0o070203 [w18 lib, 1, w18 reason] s)

/-- LIBRARY_VERIFICATION (R279): once for each library at a start. -/
def execLibraryVerification (index : Fin 16) (readOk : Bool) (s : State) : Result :=
  effect (fun s =>
    match regionOf 4 index.val s with
    | none => s
    | some e =>
      if !fwRuns s || s.msg.checked.contains index.val then s
      else
        let s := flashReadFault readOk { s with msg := { s.msg with checked := s.msg.checked ++ [index.val] } }
        match checkLibrary e readOk (otherNumbers index.val s) s with
        | .inl reason => rejectLibrary index.val reason s
        | .inr ms => activateLibrary index.val ms s) s

/-! ## Voice rows (R288) -/

/-- VOICE_START (R288): a voice taken at a block boundary starts there; an unverified message moves to the front (R281). -/
def execVoiceStart (v : Fin 16) (s : State) : Result :=
  effect (fun s =>
    match voiceOf v.val s with
    | none => s
    | some x =>
      if x.started || !atBlock s then s
      else
        let s := setVoice v.val (some { x with started := true, start := s.clk.tick }) s
        match msgOf x.msg.number s with
        | some m => if m.verified then s else toFront m.number s
        | none => s) s

/-- VOICE_START_TIMEOUT (R288): a voice still held 2 s after its start ends with reason 3. -/
def execVoiceStartTimeout (v : Fin 16) (s : State) : Result :=
  effect (fun s =>
    match voiceOf v.val s with
    | some x => if x.holding && decide (2 * Config.tkPerS ≤ since x.start s) then endVoice v.val 3 s else s
    | none => s) s

/-- A frame of a voice failed: zeros in its place, MSG.FRAME_ERROR and the fault of its store (R284). -/
def frameFailed (v : Nat) (x : Voice) (len : Nat) (cache : Bool) (s : State) : State :=
  let last := decide (x.msg.frames ≤ x.frame + 1)
  let lost := len < 11 ∨ x.msg.bytes ≤ x.offset + len
  let ending := if x.failedLast ∨ (lost ∧ !last) then some 3 else if last then some 0 else none
  let x' := { x with
    buffer := x.buffer ++ List.replicate (frameSamples x.msg x.frame) 0
    frame := x.frame + 1, offset := x.offset + len, failedLast := true, ending := ending }
  let s := post 0o070304 ([w18 v, w18 x.msg.number] ++ wordsOf x.frame 2) (setVoice v (some x') s)
  raiseFault (if cache then 0o3303 else 0o4320) s

/-- A frame of a voice decoded. -/
def frameDecoded (v : Nat) (x : Voice) (len : Nat) (ys : List Int) (s : State) : State :=
  setVoice v (some { x with
    buffer := x.buffer ++ ys, frame := x.frame + 1, offset := x.offset + len, failedLast := false
    ending := if x.msg.frames ≤ x.frame + 1 then some 0 else none }) s

/-- The bytes of a frame cross the switch core to its voice as CLASS 0 cells (R199), from the xSPI message fetch or the bank 7 cache, and
are decoded. A frame that finds no cell is not decoded. -/
def frameArrives (v : Nat) (x : Voice) (cache : Bool) (bs : List Byte) (s : State) : State :=
  let (ok, s) := crossIso (if cache then 16 else 15) dspDest (cellCount bs.length) (14, 0, voiceSource v) s
  if !ok then s
  else
    match decodeFrame x.msg x.frame x.offset bs with
    | some ys => frameDecoded v x (frameLen bs) ys s
    | none => frameFailed v x (frameLen bs) cache s

/-- A frame is read from flash for its voice (R284, R288): after a read that fails or is not answered it has not arrived. -/
def fetchFlash (v : Nat) (x : Voice) (readOk : Bool) (s : State) : State :=
  if readOk then frameArrives v x false (payloadFrom x.msg x.offset s) s else flashReadFault false s

/-- The next frame of a voice arrives: from the cache where it holds the frame and reads, otherwise from flash; a cache frame that
neither gives has failed (R288, R289). -/
def fetchFrame (v : Nat) (readOk : Bool) (s : State) : State :=
  match voiceOf v s with
  | none => s
  | some x =>
    if !x.started || x.ending.isSome then s
    else
      match s.msg.cache.find? (fun f => f.number == x.msg.number && f.base == x.msg.addr && f.frame == x.frame) with
      | none => fetchFlash v x readOk s
      | some f =>
        let (worst, bs) := cacheBytes f s
        if 2 ≤ worst then
          let s := raiseFault 0o3300 s
          if readOk then fetchFlash v x true s else frameFailed v x f.len true (flashReadFault false s)
        else frameArrives v x true bs (if worst = 1 then raiseFault 0o3301 s else s)

/-- MARL_FRAME_FETCH (R288). -/
def execMarlFrameFetch (v : Fin 16) (readOk : Bool) (s : State) : Result := effect (fetchFrame v.val readOk) s

/-- VOICE_ENDED (R288): a voice whose last sample has left is free from the next block boundary. -/
def execVoiceEnded (v : Fin 16) (s : State) : Result :=
  effect (fun s =>
    match voiceOf v.val s with
    | some x =>
      (match x.ending with
      | some r => if x.buffer = [] && atBlock s then endVoice v.val r s else s
      | none => s)
    | none => s) s

/-- The samples of a running voice for a block, and the voice after it: a frame that has not been decoded by its deadline is zero
and skipped, and its samples count as MISSING (R288). -/
def voiceBlock (x : Voice) (s : State) : List Int × Voice × Nat :=
  if x.buffer.length < 16 ∧ x.ending = none then
    let n := frameSamples x.msg x.frame
    let len := frameLen (flashBytes (x.msg.addr + x.offset) 2 s)
    let more := x.buffer ++ List.replicate n 0
    let ending := if x.msg.frames ≤ x.frame + 1 then some 0 else if len < 11 ∨ x.msg.bytes ≤ x.offset + len then some 3 else none
    (more.take 16, { x with buffer := more.drop 16, frame := x.frame + 1, offset := x.offset + len, ending := ending
                            sent := x.sent + 16 }, n)
  else (x.buffer.take 16, { x with buffer := x.buffer.drop 16, sent := x.sent + 16 }, 0)

/-- A voice may begin: started, verified, and frame 0 decoded (R281, R288). -/
def voiceReady (x : Voice) (s : State) : Bool :=
  x.started && decide (0 < x.frame)
    && s.msg.msgs.any (fun m => m.number == x.msg.number && m.addr == x.msg.addr && m.verified)

/-! ## MSG commands (R290 to R293) -/

/-- The four words of a message in MSG.LIST (R290). -/
def listWords (m : Msg) : List Word :=
  [w18 (m.lib * 8192 + m.number),
   w18 (bit m.emergency * 2 ^ 17 + bit (decide (0 < m.pinned)) * 2 ^ 16 + bit m.verified * 2 ^ 15 + bit m.failed * 2 ^ 14 + m.e)]
    ++ wordsOf m.samples 2

/-- MSG.LIST (R290). -/
def execMsgList (s : State) : Result :=
  effect (immediateCommand 0o0701 anyVariant noAuth
    (fun c _ => if 8191 < c.p 1 ∨ c.p 2 < 1 ∨ 62 < c.p 2 then stBadParam else stOk)
    (fun c s =>
      let ms := ((sortBy (fun a b => decide (a.number < b.number)) s.msg.msgs).filter
        (fun m => decide (c.p 1 ≤ m.number))).take (c.p 2)
      (w18 ms.length :: ms.flatMap listWords, s))) s

/-- The voice that a MSG.PLAY takes. -/
def playVoice (c : Command) (s : State) : Option Nat :=
  let v := c.p 2 % 32
  if v = 31 then freeVoice s else if (voiceOf v s).isNone then some v else none

/-- Status of a MSG.PLAY (R291). -/
def checkPlay (c : Command) (s : State) : Nat :=
  let v := c.p 2 % 32
  firstStatus [((msgOf (c.p 1) s).isNone || (decide (15 < v) && v != 31), stBadParam),
    ((match msgOf (c.p 1) s with | some m => m.failed | none => false), stState), ((playVoice c s).isNone, stResource)]

/-- MSG.PLAY (R291): the voice is taken at the next block boundary. -/
def execMsgPlay (s : State) : Result := effect (boundaryCommand 0o0702 anyVariant noAuth checkPlay) s

/-- The effect of MSG.PLAY at its boundary. -/
def runPlay (c : Command) (s : State) : List Word × State :=
  match msgOf (c.p 1) s, playVoice c s with
  | some m, some v => if m.failed then ([31], deniedStart (c.p 1) s) else ([w18 v], takeVoice v m [] s)
  | _, _ => ([31], deniedStart (c.p 1) s)

/-- A voice is held by a protected zone whose LEVEL is at or above LOAD_BLOCK_LEVEL (R292). -/
def voiceProtected (v : Nat) (s : State) : Bool :=
  s.zon.zones.any (fun z => z.voice == some v && z.prot && decide (loadBlockLevel s ≤ zoneLevel z s))

/-- MSG.STOP (R292). -/
def execMsgStop (s : State) : Result :=
  effect (boundaryCommand 0o0703 anyVariant noAuth (fun c s =>
    firstStatus [(decide (15 < c.p 1) && c.p 1 != 31, stBadParam), (c.p 1 != 31 && voiceProtected (c.p 1) s, stState)])) s

/-- The effect of MSG.STOP at its boundary. -/
def runStop (c : Command) (s : State) : List Word × State :=
  if c.p 1 = 31 then
    let busy := (List.range 16).filter (fun v => (voiceOf v s).isSome)
    let stop := busy.filter (fun v => !voiceProtected v s)
    let left := busy.filter (fun v => voiceProtected v s)
    ([w18 stop.length, w18 ((left.map (fun v => 2 ^ v)).sum)], stop.foldl (fun s v => endVoice v 1 s) s)
  else
    match voiceOf (c.p 1) s with
    | none => ([8191], s)
    | some x => ([w18 x.msg.number], endVoice (c.p 1) 1 s)

/-- MSG.PIN (R293). -/
def execMsgPin (s : State) : Result :=
  effect (longCommand 0o0704 anyVariant noAuth
    (fun c s =>
      match msgOf (c.p 1) s with
      | none => stBadParam
      | some m => if 8 < c.p 2 then stBadParam else if 0 < c.p 2 ∧ !pinFits m (c.p 2) s then stResource else stOk)
    (fun c s => { s with msg := { s.msg with op := some (.pin (c.p 1) (c.p 2) s.clk.tick) } })) s

/-- MSG_PIN_TIMEOUT (R293): the message keeps the pin it had before. -/
def execMsgPinTimeout (s : State) : Result :=
  effect (fun s =>
    match s.msg.op with
    | some (.pin _ _ start) =>
      if 2 * Config.tkPerS ≤ since start s then groupDone 0o07 stTimeout { s with msg := { s.msg with op := none } } else s
    | _ => s) s

/-- Every frame that a pin would place reads and passes its CRC (R293). -/
def pinFramesGood (m : Msg) (secs : Nat) (s : State) : Bool :=
  match frameChain m s (pinFrames m secs) 0 0 with
  | none => false
  | some l => l.all (fun f => (decodeFrame m f.1 f.2.1 (flashBytes (m.addr + f.2.1) f.2.2 s)).isSome)

/-- The frames of a MSG.PIN are read (R293): a read that fails, or that ends 2 s after the acceptance or later, leaves the command to
its timeout. -/
def pinCompletes (number secs : Nat) (start : Tick) (ok : Bool) (s : State) : State :=
  match msgOf number s with
  | none => groupDone 0o07 stTimeout { s with msg := { s.msg with op := none } }
  | some m =>
    if !ok then flashReadFault false s
    else if !pinFramesGood m secs s then raiseFault 0o4320 s
    else if 2 * Config.tkPerS ≤ since start s then s
    else groupDone 0o07 stOk (pinMessage m secs { s with msg := { s.msg with op := none } })

/-! ## MSG.LOAD (R294, R295) -/

/-- The library number of a BEGIN or DELETE, the size of a BEGIN, the offset and count of a DATA. -/
def loadSize (c : Command) : Nat := c.p 3 + 2 ^ 18 * c.p 4
/-- Byte offset of a DATA. -/
def dataOffset (c : Command) : Nat := c.p 2 + 2 ^ 18 * c.p 3
/-- Byte count of a DATA. -/
def dataCount (c : Command) : Nat := c.p 4
/-- Bytes of a DATA. -/
def dataBytes (c : Command) : List Byte := (pairBytes (c.params.drop 4)).take (dataCount c)

/-- A region of flash overlaps that of a bundle which a playing voice still reads (R289). -/
def voiceReads (a n : Nat) (s : State) : Bool :=
  s.msg.voices.any (fun v => match v with | some x => overlaps x.msg.region.1 x.msg.region.2 a n | none => false)

/-- The lowest free region of a size at a multiple of 65 536 (R275, R294; log 18). -/
def freeRegion (size : Nat) (s : State) : Option Nat :=
  ((List.range 2047).map (fun k => Config.flashBlock * (k + 1))).find? (fun a =>
    decide (a + size ≤ Config.flashMax) && !(dirEntries s).any (fun e => overlaps e.offset e.size a size) && !voiceReads a size s)

/-- MSG.LOAD BEGIN (R294). -/
def execMsgLoadBegin (s : State) : Result :=
  effect (longCommand 0o0705 (fun c => opIs 0 c || decide (4 < c.p 1)) noAuth
    (fun c s => firstStatus [(decide (4 < c.p 1) || decide (15 < c.p 2) || loadSize c == 0, stBadParam),
      (s.msg.load.isSome, stState),
      ((freeRegion (roundRegion (loadSize c)) s).isNone || decide (254 ≤ (dirEntries s).length), stResource)])
    (fun c s =>
      let a := (freeRegion (roundRegion (loadSize c)) s).getD 0
      { s with msg := { s.msg with op := some (.begin (c.p 2) (loadSize c) a) } })) s

/-- Some byte of a range has been written. -/
def wasWritten (ranges : List (Nat × Nat)) (a n : Nat) : Bool := ranges.any (fun r => overlaps r.1 r.2 a n)

/-- MSG.LOAD DATA (R294). -/
def execMsgLoadData (s : State) : Result :=
  effect (longCommand 0o0705 (opIs 1) noAuth
    (fun c s =>
      let n := dataCount c
      let size := match s.msg.load with | some l => l.size | none => 2 ^ 36
      firstStatus [(decide (n < 1) || decide (480 < n) || decide (size < dataOffset c + n), stBadParam),
        ((match s.msg.load with | some l => wasWritten l.ranges (dataOffset c) n | none => true), stState)])
    (fun c s => { s with msg := { s.msg with op := some (.data (dataOffset c) (dataBytes c)) } })) s

/-- MSG.LOAD END (R294). -/
def execMsgLoadEnd (s : State) : Result :=
  effect (longCommand 0o0705 (opIs 2) noAuth (fun _ s => if s.msg.load.isNone then stState else stOk)
    (fun _ s => { s with msg := { s.msg with op := some .finish } })) s

/-- MSG.LOAD DELETE (R294). -/
def execMsgLoadDelete (s : State) : Result :=
  effect (longCommand 0o0705 (opIs 3) noAuth
    (fun c s => firstStatus [(decide (15 < c.p 2), stBadParam), ((regionOf 4 (c.p 2) s).isNone, stState)])
    (fun c s => { s with msg := { s.msg with op := some (.delete (c.p 2)) } })) s

/-- MSG.LOAD ABORT (R294). -/
def execMsgLoadAbort (s : State) : Result :=
  effect (longCommand 0o0705 (opIs 4) noAuth (fun _ s => if s.msg.load.isNone then stState else stOk)
    (fun _ s => { s with msg := { s.msg with op := some .abort } })) s

/-- The library being loaded as a directory entry of a type. -/
def loadEntry (typ : Nat) (l : LibLoad) : DirEntry := ⟨typ, l.lib, l.offset, roundRegion l.size⟩

/-- END of a load: checked under R279 and activated by a single directory rewrite, or rejected with the earlier library in
force (R295). -/
def loadEnds (l : LibLoad) (ok : Bool) (s : State) : State :=
  let s := flashReadFault ok s
  match checkLibrary (loadEntry 4 l) ok (otherNumbers l.lib s) s with
  | .inl reason => groupDone 0o07 stBadParam (rejectLibrary l.lib reason s)
  | .inr ms =>
    let es := (dirEntries s).filter (fun e => e.typ != 5 && !(e.typ == 4 && e.index == l.lib)) ++ [loadEntry 4 l]
    let s := activateLibrary l.lib ms (writeDirectory es
      { s with msg := { s.msg with load := none, checked := l.lib :: s.msg.checked.filter (fun k => k != l.lib) } })
    groupDone 0o07 stOk s

/-- A flash-backed MSG operation ends (R293 to R295); a failed erase, program or rewrite ends with TIMEOUT (log 19). -/
def msgCompletes (ok : Bool) (s : State) : State :=
  match s.msg.op with
  | none => s
  | some (.pin number secs start) => pinCompletes number secs start ok s
  | some .finish =>
    let s := { s with msg := { s.msg with op := none } }
    (match s.msg.load with
    | some l => loadEnds l ok s
    | none => groupDone 0o07 stState s)
  | some op =>
    let s := { s with msg := { s.msg with op := none } }
    if !ok then groupDone 0o07 stTimeout s
    else
      match op, s.msg.load with
      | .begin lib size a, _ =>
        let l : LibLoad := ⟨lib, size, a, []⟩
        let s := flashErase a (roundRegion size) (writeDirectory (dirEntries s ++ [loadEntry 5 l]) s)
        groupDone 0o07 stOk { s with msg := { s.msg with load := some l } }
      | .data off bs, some l =>
        let s := flashWrite (l.offset + off) bs s
        groupDone 0o07 stOk { s with msg := { s.msg with load := some { l with ranges := (off, bs.length) :: l.ranges } } }
      | .delete lib, _ =>
        let s := writeDirectory ((dirEntries s).filter (fun e => !(e.typ == 4 && e.index == lib))) s
        groupDone 0o07 stOk (post 0o070203 [w18 lib, 2, 0] (removeLibrary lib s))
      | .abort, some _ =>
        let s := writeDirectory ((dirEntries s).filter (fun e => e.typ != 5)) s
        groupDone 0o07 stOk { s with msg := { s.msg with load := none } }
      | _, none => groupDone 0o07 stState s
      | _, _ => s

end Sys2Proof.Machine
end

