-- ==== Sys2Proof/Machine/Zones.lean ====
section
/-!
DEFINITION. Zones, triggers and precedence (11): trigger inputs (R245, R247), event queues and machines (R248 to R250), zone
actions and voices (R251, R252), GPIO outputs (R246), the heartbeat (R254) and the ZONE commands (R253, R256).
-/

namespace Sys2Proof.Machine

open Sys2Proof

/-! ## Machines -/

/-- The binding word of an occurrence (R122). -/
def occWord (o : Occ) : Word := w18 (o.src * 16384 + o.edge * 8192 + o.index)

/-- Event number that a machine binds to an occurrence (R244). -/
def bindingOf (ws : List Word) (o : Occ) : Option Nat := (stBindings ws).findIdx? (fun w => w == occWord o)

/-- The occurrence is for this zone and its machine binds it. -/
def boundBy (o : Occ) (z : Zone) (s : State) : Bool :=
  (o.zone.isNone || o.zone == some z.num) && (bindingOf (machineOf z s) o).isSome

/-- Occurrences in the order in which they enter the queues (R248). -/
def occBefore (a b : Occ) : Bool :=
  let key := fun (o : Occ) => o.src * 2 ^ 20 + o.index * 2 + o.edge
  decide (a.tick.toNat < b.tick.toNat) || (a.tick == b.tick && decide (key a < key b))

/-- Occurrences since the boundary before enter the queue of a zone (R248): a full queue drops and counts. -/
def queueOccs (os : List Occ) (s : State) (z : Zone) : Zone :=
  os.foldl (fun z o =>
    if boundBy o z s then (if z.queue.length < 32 then { z with queue := z.queue ++ [o] } else { z with lost := z.lost + 1 })
    else z) z

/-- Deliver the occurrences to the zones (R244, R248). -/
def deliverOccs (s : State) : State :=
  let os := sortBy occBefore s.zon.occs
  { s with zon := { s.zon with occs := [], zones := s.zon.zones.map (queueOccs os s) } }

/-- ZONE.EVENTS_LOST, at most once per second for a zone (R248). -/
def postLost (s : State) : State :=
  (s.zon.zones).foldl (fun s z =>
    let due : Bool := match z.lostPost with | some t => decide (Config.tkPerS ≤ since t s) | none => true
    if 0 < z.lost ∧ due then
      post 0o050302 [w18 z.num, w18 (min z.lost 262143)]
        (mapZone z.num (fun z => { z with lost := 0, lostPost := some s.clk.tick }) s)
    else s) s

/-- Process one event against the state of a machine (R249): the zone, and the new state when a state is entered. -/
def machineStep (ws : List Word) (z : Zone) (o : Occ) : Zone × Option Nat :=
  match bindingOf ws o with
  | none => (z, none)
  | some e =>
    let cell := stCell ws z.state e
    let z := { z with acts := z.acts ++ (actionList ws (cell.bits 11 0)).getD [] }
    let next := cell.bits 17 12
    if next = 63 then (z, none)
    else ({ z with state := next, acts := z.acts ++ (actionList ws ((stDesc ws next).bits 11 0)).getD [] }, some next)

/-- Process events of a zone in order. -/
def runEvents (ws : List Word) : List Occ → Zone → State → Zone × State
  | [], z, s => (z, s)
  | o :: os, z, s =>
    let (z', entered) := machineStep ws z o
    let s := match entered with
      | some st => post 0o050103 [w18 z.num, w18 z.state, w18 st] s
      | none => s
    runEvents ws os z' s

/-- Up to 8 events of a zone at a block boundary (R248). -/
def runZone (s : State) (z : Zone) : State :=
  let (z', s) := runEvents (machineOf z s) (z.queue.take 8) { z with queue := z.queue.drop 8 } s
  mapZone z.num (fun _ => z') s

/-- The machines run, except during a reload (R132). -/
def runZones (s : State) : State := if s.cfg.reloading then s else s.zon.zones.foldl runZone s

/-! ## Actions (R250 to R252) -/

/-- What the actions of a block ask of a zone's voice. -/
inductive Want where
  | keep | stop | start (number : Nat)
  deriving DecidableEq, Repr

/-- One action on a zone (R251). -/
def actOn (zw : Zone × Want) (w : Word) : Zone × Want :=
  let (z, want) := zw
  let arg := w.bits 12 0
  match w.bits 16 13 with
  | 1 => (z, .start arg)
  | 2 =>
    let held := match z.voice with | some v => z.source == voiceSource v | none => false
    let pendingStart := match want with | .start _ => true | _ => false
    (if held || pendingStart then { z with source := 0 } else z, .stop)
  | 3 => ({ z with source := if arg = 8191 then 0 else arg }, .stop)
  | 4 => ({ z with duck := arg }, want)
  | 5 => ({ z with machineMute := arg == 1 }, want)
  | _ => (z, want)

/-- All the actions of a zone's block, in order: the later one stands (R250). -/
def actsOf (z : Zone) : Zone × Want := z.acts.foldl actOn ({ z with acts := [] }, .keep)

/-- A zone leaves its voice; the voice stops when no zone remains in it (R252). -/
def leaveVoice (n : Nat) (s : State) : State :=
  match s.zon.zones.find? (fun z => z.num == n) with
  | some z =>
    (match z.voice with
    | some v =>
      let s := mapZone n (fun z => { z with voice := none }) s
      if s.zon.zones.any (fun z => z.voice == some v) then s else setVoice v none s
    | none => s)
  | none => s

/-- The zones that start a message in this block, with the highest of their LEVELs. -/
def startLevel (ns : List Nat) (s : State) : Nat :=
  (s.zon.zones.filter (fun z => ns.contains z.num)).foldl (fun m z => max m (zoneLevel z s)) 0

/-- The voice that step 3 of R252 takes: lowest highest LEVEL below the requester's, the highest-numbered among equals. -/
def takeable (level : Nat) (s : State) : Option Nat :=
  (List.range 16).foldl (fun best v =>
    if voiceLevel v s < level then
      (match best with
      | none => some v
      | some b => if voiceLevel v s ≤ voiceLevel b s then some v else best)
    else best) none

/-- The zones hold a voice and make it their zone-layer source. -/
def shareVoice (v : Nat) (ns : List Nat) (s : State) : State :=
  ns.foldl (fun s n => mapZone n (fun z => { z with voice := some v, source := voiceSource v }) s) s

/-- Zones get no voice: a message-ended event in the next block, and their zone-layer source becomes none (R252). -/
def noVoice (ns : List Nat) (s : State) : State :=
  ns.foldl (fun s n => zoneOcc 7 0 0 (some n) (mapZone n (fun z => { z with source := 0 }) s)) s

/-- ZONE.VOICE_DENIED, at most once per second for a zone (R252). -/
def postDenied (number : Nat) (ns : List Nat) (s : State) : State :=
  (s.zon.zones.filter (fun z => ns.contains z.num)).foldl (fun s z =>
    let due : Bool := match z.denied with | some t => decide (Config.tkPerS ≤ since t s) | none => true
    if due then post 0o050202 [w18 z.num, w18 number] (mapZone z.num (fun z => { z with denied := some s.clk.tick }) s)
    else s) s

/-- Zones start one message in one block (R252). -/
def startMessage (number : Nat) (ns : List Nat) (s : State) : State :=
  match msgOf number s with
  | none => noVoice ns (deniedStart number s)
  | some m =>
    if m.failed then noVoice ns (deniedStart number s)
    else
      match freeVoice s with
      | some v => shareVoice v ns (takeVoice v m ns s)
      | none =>
        match takeable (startLevel ns s) s with
        | some v => shareVoice v ns (takeVoice v m ns (endVoice v 2 s))
        | none => postDenied number ns (noVoice ns s)

/-- Start messages for zones in ascending order, those of one message together. -/
def startAll : Nat → List (Nat × Nat) → State → State
  | 0, _, s => s
  | _, [], s => s
  | k + 1, (n, m) :: rest, s =>
    let same := (rest.filter (fun r => r.2 == m)).map (·.1)
    startAll k (rest.filter (fun r => r.2 != m)) (startMessage m (n :: same) s)

/-- Apply the actions that the zones' events of the block before asked for (R250). -/
def applyActs (s : State) : State :=
  let asked := s.zon.zones.map actsOf
  let s := { s with zon := { s.zon with zones := asked.map (·.1) } }
  let leavers := asked.filter (fun a => a.2 != .keep)
  let s := leavers.foldl (fun s a => leaveVoice a.1.num s) s
  let starts := leavers.flatMap (fun a => match a.2 with | .start m => [(a.1.num, m)] | _ => [])
  startAll starts.length starts s

/-! ## Trigger inputs (R245, R247, R255) -/

/-- The TYPE 8 entry of an input. -/
def inputEntry (k : Nat) (s : State) : Option MapEntry := (entriesOf s.cfg.live 256 8).find? (fun e => e.a.bits 3 0 == k)

/-- DEBOUNCE of an input; none for a GPIO pin that is no trigger input. -/
def debounceOf (k : Nat) (s : State) : Option Nat :=
  match inputEntry k s with
  | some e => if k < 4 ∨ e.b.bit 6 then some (e.b.bits 4 0) else none
  | none => if k < 4 then some 3 else none

/-- An input is asserted at its pin, under its polarity. -/
def asserted (k : Nat) (inp : BlockInputs) (s : State) : Bool :=
  if k < 4 then bitOf inp.wake.toNat k != bitOf s.aon.wakePol.vote.toNat k
  else bitOf inp.gpio.toNat (k - 4) != (match inputEntry k s with | some e => e.b.bit 5 | none => false)

/-- The occurrence of an input's edge. -/
def inputOcc (k : Nat) (on : Bool) (s : State) : State :=
  zoneOcc (if k < 4 then 0 else 1) (if k < 4 then k else k - 4) (if on then 0 else 1) none s

/-- Set an input's debounce. -/
def setInput (k : Nat) (t : TrigIn) (s : State) : State := { s with zon := { s.zon with inputs := listSet s.zon.inputs k t } }

/-- Sample one trigger input (R245, R247, R255). -/
def sampleInput (inp : BlockInputs) (s : State) (k : Nat) : State :=
  match debounceOf k s with
  | none => s
  | some n =>
    let t := s.zon.inputs.getD k {}
    let on := asserted k inp s
    if s.zon.firstSample then
      let s := setInput k ⟨on, on, 0⟩ s
      if on then inputOcc k true s else s
    else if s.zon.resample then
      let s := setInput k ⟨on, on, 0⟩ s
      if on != t.level then inputOcc k on s else s
    else if on = t.level then setInput k { t with sample := on, count := 0 } s
    else if t.count + 1 < n then setInput k { t with sample := on, count := t.count + 1 } s
    else inputOcc k on (setInput k ⟨on, on, 0⟩ s)

/-- Safe state whose activity differs from the recorded one delivers its occurrence (R255), in place of those of its changes since
the record; an occurrence for one zone that starts in INIT stays (R247). -/
def resampleSafe (s : State) : State :=
  if !s.zon.resample then s
  else
    let stays := fun (o : Occ) => o.src != 6 || (o.zone.isSome && (s.zon.recordSafe || !s.aon.safeActive))
    let s := { s with zon := { s.zon with occs := s.zon.occs.filter stays } }
    if s.zon.recordSafe != s.aon.safeActive then zoneOcc 6 0 (if s.aon.safeActive then 0 else 1) none s else s

/-- Sample every trigger input at a block boundary. -/
def sampleInputs (inp : BlockInputs) (s : State) : State :=
  let s := (List.range 12).foldl (sampleInput inp) (resampleSafe s)
  { s with zon := { s.zon with firstSample := false, resample := false } }

/-! ## GPIO outputs (R246) -/

/-- The level that an output's entry asks for. -/
def outputLevel (b : Word) (s : State) : Bool :=
  let inv := b.bit 14
  if s.aon.safeActive && b.bit 13 then b.bit 12
  else
    match b.bits 17 15 with
    | 0 => false
    | 1 => true
    | 2 => (s.zon.zones.any (fun z => z.num == b.bits 11 6 && decide (b.bits 5 2 ≤ zoneLevel z s))) != inv
    | 3 => (!s.zon.hbLost) != inv
    | _ => (s.msg.voices.any (fun v => match v with | some x => x.started && !x.holding | none => false)) != inv

/-- Evaluate every GPIO output at a block boundary. -/
def driveOutputs (s : State) : State :=
  { s with zon := { s.zon with gpioOut := s.zon.gpioCfg.map (fun c => c.map (fun b => outputLevel b s)) } }

/-- Take the TYPE 9 entries of table 256 into force. -/
def loadOutputs (s : State) : State :=
  { s with zon := { s.zon with gpioCfg := (List.range 8).map (fun k =>
      ((entriesOf s.cfg.live 256 9).find? (fun e => e.a.bits 3 0 == k)).map (·.b)) } }

/-! ## Heartbeat (R254) -/

/-- HB_TIMEOUT in ticks (R298). -/
def hbTimeout (s : State) : Nat := param 448 1 1000 s * Config.tkPerMs

/-- A heartbeat that arrived while it was lost returns at the block boundary (R254). -/
def heartbeatReturn (s : State) : State :=
  if s.zon.hbReturn then
    let s := { s with zon := { s.zon with hbReturn := false, hbLost := false } }
    zoneOcc 3 0 1 none (post 0o010601 [1] s)
  else s

/-- HEARTBEAT_LOSS (R253, R254): at the first block boundary at which the timeout has passed. -/
def execHeartbeatLoss (s : State) : Result :=
  effect (fun s =>
    if s.boot.phase = .running ∧ awake s ∧ atBlock s ∧ s.zon.hbLost = false ∧ hbTimeout s ≤ since s.zon.hbTick s then
      let s := { s with zon := { s.zon with hbLost := true, zones := s.zon.zones.map (fun z => { z with hostMute := false }) } }
      zoneOcc 3 0 0 none (post 0o010601 [0] s)
    else s) s

/-! ## Starting zones (R243, R247, R255) -/

/-- A zone in its initial state, whose entry actions run in the block of activation. -/
def initZone (num inst : Nat) (prot : Bool) (ts : List Table) : Zone :=
  let ws := (tableIn ts (192 + inst)).getD []
  { num := num, inst := inst, prot := prot, state := stInit ws
    acts := (actionList ws ((stDesc ws (stInit ws)).bits 11 0)).getD [] }

/-- The zones of table 256: number, instance, PROTECTED. -/
def zoneEntries (ts : List Table) : List (Nat × Nat × Bool) :=
  (sortBy (fun a b => decide (a.1 < b.1)) ((entriesOf ts 256 1).map (fun e => (e.a.bits 5 0, e.b.bits 17 12, e.b.bit 0))))

/-- Bring the zones in line with the tables (R130): a zone whose STATE table is word for word the one it had keeps its state; any
other starts in INIT, with the safe-state occurrence where safe state is active (R247). Voices of the others stop without an event.
`keepAny`: a zone whose instance stays also keeps its state when words of that instance have changed. -/
def syncZones (old : List Table) (keepAny : Bool) (s : State) : State :=
  let same := fun (z : Zone) (inst : Nat) =>
    (keepAny && z.inst == inst) || tableIn old (192 + z.inst) == tableIn s.cfg.live (192 + inst)
  let es := zoneEntries s.cfg.live
  let kept := s.zon.zones.filter (fun z => es.any (fun e => e.1 == z.num && same z e.2.1))
  let s := (s.zon.zones.filter (fun z => !kept.any (fun k => k.num == z.num))).foldl (fun s z => leaveVoice z.num s) s
  let fresh := es.filter (fun e => !kept.any (fun k => k.num == e.1))
  let zones := es.map (fun e =>
    match (s.zon.zones.find? (fun z => z.num == e.1 && same z e.2.1)) with
    | some z => { z with inst := e.2.1, prot := e.2.2 }
    | none => initZone e.1 e.2.1 e.2.2 s.cfg.live)
  let s := { s with zon := { s.zon with zones := zones } }
  if s.aon.safeActive then fresh.foldl (fun s e => zoneOcc 6 0 0 (some e.1) s) s else s

/-- A zone after a warm chip reset with its record valid: its state's entry actions run again, and the voice it held, which the reset
has stopped, is no longer its source (R255). -/
def resumeZone (s : State) (z : Zone) : Zone :=
  let ws := machineOf z s
  let held := match z.voice with | some v => z.source == voiceSource v | none => false
  { z with queue := [], lost := 0, hostMute := false, voice := none
           source := if held then 0 else z.source
           acts := (actionList ws ((stDesc ws z.state).bits 11 0)).getD [] }

/-! ## ZONE commands (R256) -/

/-- The zones that a parameter names: 64 names every defined zone. -/
def namedZones (n : Nat) (s : State) : List Zone := s.zon.zones.filter (fun z => n == 64 || z.num == n)

/-- A zone parameter names no defined zone. -/
def badZone (n : Nat) (s : State) : Bool := decide (64 < n) || (n != 64 && (namedZones n s).isEmpty)

/-- A command acts on a protected zone (R113). -/
def zoneNeedsAuth (c : Command) (s : State) : Bool := (namedZones (c.p 1) s).any (·.prot)

/-- Status of a ZONE command. -/
def checkZone (c : Command) (s : State) : Nat := if badZone (c.p 1) s then stBadParam else stOk

/-- Deliver an occurrence to the zones named: the number whose machine binds it (R256).
DESIGN CHOICE (log 46): the occurrence carries the tick at which the command runs, not the arrival of its packet. -/
def zoneEvent (n src index edge : Nat) (s : State) : List Word × State :=
  let o : Occ := ⟨s.clk.tick, src, index, edge, if n = 64 then none else some n⟩
  ([w18 ((s.zon.zones.filter (fun z => boundBy o z s)).length)], { s with zon := { s.zon with occs := s.zon.occs ++ [o] } })

/-- ZONE.TRIGGER (R244, R256). -/
def execZoneTrigger (s : State) : Result := effect (boundaryCommand 0o0501 anyVariant zoneNeedsAuth checkZone) s

/-- The effect of ZONE.TRIGGER at its boundary. -/
def runTrigger (c : Command) (s : State) : List Word × State :=
  zoneEvent (c.p 1) 2 (c.p 2 % 64) (if bitOf (c.p 2) 13 then 1 else 0) s

/-- ZONE.RELEASE (R244, R256). -/
def execZoneRelease (s : State) : Result := effect (boundaryCommand 0o0502 anyVariant zoneNeedsAuth checkZone) s

/-- The effect of ZONE.RELEASE at its boundary. -/
def runRelease (c : Command) (s : State) : List Word × State := zoneEvent (c.p 1) 8 0 0 s

/-- The host mute of a zone applies (R253). -/
def muteApplied (z : Zone) (s : State) : Bool := z.hostMute && decide (zoneLevel z s < loadBlockLevel s)

/-- ZONE.MUTE (R253, R256). -/
def execZoneMute (s : State) : Result := effect (boundaryCommand 0o0504 anyVariant zoneNeedsAuth checkZone) s

/-- The effect of ZONE.MUTE at its boundary. -/
def runMute (c : Command) (s : State) : List Word × State :=
  let on := bitOf (c.p 2) 0
  let s := (namedZones (c.p 1) s).foldl (fun s z => mapZone z.num (fun z => { z with hostMute := on }) s) s
  match (namedZones (c.p 1) s) with
  | z :: _ => ([w18 (bit z.hostMute * 2 + bit (muteApplied z s))], s)
  | [] => ([0], s)

/-- The four results of ZONE.STATUS (R256). -/
def statusWords (z : Zone) (s : State) : List Word :=
  [w18 (z.state * 4096 + zoneLevel z s * 256 + z.voice.getD 31), w18 (z.duck * 256 + z.source),
   w18 (bit z.prot * 32 + bit s.aon.safeActive * 16 + bit z.hostMute * 8 + bit (muteApplied z s) * 4 + bit z.machineMute * 2
      + bit s.zon.hbLost),
   w18 ((entriesOf s.cfg.live 256 2).filter (fun e => e.a.bits 13 8 == z.num)).length]

/-- ZONE.STATUS (R256). -/
def execZoneStatus (s : State) : Result :=
  effect (immediateCommand 0o0503 anyVariant noAuth
    (fun c s => if c.p 1 = 64 ∨ badZone (c.p 1) s then stBadParam else stOk)
    (fun c s => (match namedZones (c.p 1) s with | z :: _ => statusWords z s | [] => [], s))) s

end Sys2Proof.Machine
end

