-- ==== Sys2Proof/Machine/Chain.lean ====
section
/-!
DEFINITION. The processing of one block (R213 to R230, R234): effective coefficients, the destination chain, delay lines in Stash
and meters.
-/

namespace Sys2Proof.Machine

open Sys2Proof

/-! ## Effective coefficients (R219) -/

/-- The coefficient of a base crosspoint under a zone's duck. -/
def baseCoef (duck : Nat) (x : Crosspoint) : Int := signedCoef (x.gain - duck) x.invert

/-- Effective coefficients of a destination, by source (R219). -/
def effectiveMix (n : Nat) (s : State) : List (Nat × Int) :=
  let z := zoneOf n s
  let duck := match z with | some z => z.duck | none => 0
  let src := match z with | some z => z.source | none => 0
  let base := ((destOf n s).base.filter (fun x => x.src != src)).map (fun x => (x.src, baseCoef duck x))
  if src = 0 then base else base ++ [(src, 65536)]

/-- The destination gain coefficient of DGAIN (R217, R223, R253). -/
def gainNow (n : Nat) (s : State) : Int :=
  let muted := match zoneOf n s with | some z => z.machineMute || muteApplied z s | none => false
  if muted then 0
  else match (destOf n s).ambient with | some a => gainCoef a.gain | none => 65536

/-- The samples of a source in a block; a source that delivered none contributes zero (R27). -/
def sourceBlock (srcs : List (Nat × List Int)) (k : Nat) : List Int := lookupD srcs k []

/-- The MIX of a block under ramped coefficients (R216, R217). -/
def mixBlock (srcs : List (Nat × List Int)) (old new : List (Nat × Int)) : List Int :=
  let keys := new.map (·.1) ++ (old.map (·.1)).filter (fun k => !(new.map (·.1)).contains k)
  let terms := keys.map (fun k => (sourceBlock srcs k, lookupD old k 0, lookupD new k 0))
  block (fun n => sampleOf ((terms.map (fun t => at16 t.1 n * rampAt t.2.1 t.2.2 n)).sum))

/-! ## Equaliser and dynamics under variants (R220, R222, R234) -/

/-- Section i runs in a variant. -/
def eqRuns (variant i : Nat) : Bool :=
  match variant with
  | 0 => true
  | 1 => decide (i < 6)
  | 2 => decide (i < 2)
  | _ => false

/-- The equaliser of a block: sections that start to run again begin from zero. -/
def eqBlock (d : Dest) (variant : Nat) (xs : List Int) : List Int × List Section :=
  let ready := (d.sections.zipIdx).map (fun q => if eqRuns variant q.2 && !eqRuns d.variant q.2 then q.1.clear else q.1)
  sectionsRun (eqRuns variant) 0 ready xs

/-- The dynamics of a block (R222). -/
def dynBlock (y : Dyn) (peakOnly : Bool) (xs : List Int) (s : State) : List Int × Dyn :=
  let l := blockLevel (y.rms && !peakOnly) xs
  let t := match tableIn s.cfg.live (128 + y.curve) with
    | some ws => clampInt (-960) 48 (evalCurve ws l - l)
    | none => 0
  let g := dynUpdate y t
  let c := dynCoef g
  (if c < y.coef then scaleBlock c c xs else scaleBlock y.coef c xs, { y with g := g, coef := c })

/-! ## Delay lines (R225 to R230) -/

/-- Fault source of a Stash bank's cause. -/
def bankSource (g cause : Nat) : BitVec 12 := BitVec.ofNat 12 (0o3120 + 0o20 * (g / 65536) + cause)

/-- Read sample i of a delay line from its stored row (R230); `first` marks the row's first read in the block, which reports.
DESIGN CHOICE (log 45): the manual states what one wrong symbol and two do; three or more count as a detected error too. -/
def readStored (l : Delay) (i : Nat) (first : Bool) (s : State) : Int × State :=
  let p := perRow l.format
  let rows := l.extents.length * 64
  let q := i / p
  let g := extentRow (l.extents.getD (q % rows / 64) 0) (q % 64)
  let wrong := lookupD s.mem.stashErr g 0
  let s := if first ∧ 2 ≤ wrong then raiseFault (bankSource g 0) s
    else if first ∧ wrong = 1 then raiseFault (bankSource g 1) s else s
  if 2 ≤ wrong then
    let (b, s) := drawBits 18 s
    (b.toInt, s)
  else
    let row := ofBytesLE (stashBytes (rowAddr g) 9 s)
    if l.format = 0 then (rowSample 0 row (i % p), s)
    else if rowSeq l.format row = clearedSeq l.format then (0, s)
    else if rowSeq l.format row ≠ passSeq l.format (q / rows) then (0, if first then raiseFault 0o3100 s else s)
    else (rowSample l.format row (i % p), s)

/-- Read the sample due some ticks before the newest one. -/
def readDelay (l : Delay) (newest delay : Nat) (first : Bool) (s : State) : Int × State :=
  if newest < delay then (0, s)
  else
    let i := newest - delay
    let p := perRow l.format
    if i / p = newest / p then (l.filling.getD (i % p) 0, s) else readStored l i (first || i % p == 0) s

/-- Pack a full row and store it (R227, R230). -/
def storeLine (l : Delay) (s : State) : Delay × State :=
  let p := perRow l.format
  if l.filling.length < p then (l, s)
  else
    let rows := l.extents.length * 64
    let q := (l.written - 1) / p
    let g := extentRow (l.extents.getD (q % rows / 64) 0) (q % 64)
    ({ l with filling := [] }, writeRow g (packRow l.format (passSeq l.format (q / rows)) l.filling) s)

/-- One sample through a delay line; a change of DELAY crossfades over the block (R226). -/
def delaySample (l : Delay) (n : Nat) (x : Int) (s : State) : Int × Delay × State :=
  let newest := l.written
  let l := { l with filling := l.filling ++ [x], written := l.written + 1 }
  let (new, s) := readDelay l newest l.delay (n == 0) s
  let (out, s) :=
    if l.oldDelay = l.delay then (new, s)
    else
      let (old, s) := readDelay l newest l.oldDelay false s
      (rampAt old new n, s)
  let (l, s) := storeLine l s
  (out, l, s)

/-- Samples through a delay line. -/
def delaySamples (l : Delay) (n : Nat) (s : State) : List Int → List Int × Delay × State
  | [] => ([], { l with oldDelay := l.delay }, s)
  | x :: xs =>
    let (y, l, s) := delaySample l n x s
    let (ys, l, s) := delaySamples l (n + 1) s xs
    (y :: ys, l, s)

/-! ## One destination -/

/-- The ambient measurement of a block (R223): gated in below -20 dB - 5 g dB; and the gain's move toward its target. -/
def ambientBlock (a : Ambient) (admitted : Bool) (mix sense : List Int) : Ambient :=
  let gate := admitted && decide (peakOf mix ^ 4 * 10 ^ (4 + a.gate) < 131072 ^ 4)
  let a := if gate then { a with gated := a.gated + 1, sumSq := a.sumSq + sumSquares sense } else a
  if !admitted then a
  else if a.gain = a.target then { a with wait := min 24 (a.wait + 1) }
  else if a.wait + 1 < 24 then { a with wait := a.wait + 1 }
  else { a with wait := 0, gain := if a.gain < a.target then a.gain + 1 else a.gain - 1 }

/-- A block of a destination's chain in a variant: its output and the state after it (R217). -/
def destBlock (srcs : List (Nat × List Int)) (n variant : Nat) (s : State) : List Int × State :=
  let d := destOf n s
  let mix := effectiveMix n s
  let gain := gainNow n s
  let act := destActive n s
  if variant = 4 then
    (List.replicate 16 0, setDest { d with lastMix := mix, lastGain := gain, active := act, variant := 4 } s)
  else
    let m := mixBlock srcs d.lastMix mix
    let x := scaleBlock d.lastGain gain m
    let (x, sections) := eqBlock d variant x
    let (x, dyn) := match d.dyn with
      | some y => if y.on && decide (variant ≤ 2) then (let (x, y) := dynBlock y (variant == 2) x s; (x, some y)) else (x, some y)
      | none => (x, none)
    let amb := d.ambient.map (fun a => ambientBlock a s.aud.c3 m (sourceBlock srcs a.source))
    let (x, delay, s) := match d.delay with
      | some l => (let (y, l, s) := delaySamples l 0 s x; (y, some l, s))
      | none => (x, none, s)
    (x, setDest { d with lastMix := mix, lastGain := gain, sections := sections, dyn := dyn, ambient := amb, delay := delay
                         active := act, variant := variant } s)

/-- Destinations that are served in a block: active, or active in the block before (R213). -/
def servedDests (s : State) : List Nat :=
  ((List.range 192).map (· + 1)).filter (fun n => destActive n s || (destOf n s).active)

/-- The meter of a channel after a block, with the channel's samples where it carries any: it holds and is STALE where meters are not
admitted (R224, R234). -/
def meterAfter (admitted : Bool) (m : Meter) (x : Option (List Int)) : Meter :=
  if !admitted then { m with stale := true }
  else
    match x with
    | some l => meterStep m l
    | none => if m = {} then m else meterStep m (List.replicate 16 0)

/-- The meters of the 192 sources or destinations after a block; those at their initial value are not listed. -/
def metersAfter (admitted : Bool) (xs : List (Nat × List Int)) (l : List (Nat × Meter)) : List (Nat × Meter) :=
  (List.range 192).filterMap (fun k =>
    let m := meterAfter admitted (lookupD l (k + 1) {}) ((xs.find? (fun x => x.1 == k + 1)).map (·.2))
    if m = {} then none else some (k + 1, m))

/-- Process a block from its source samples in the variants of its destinations: the outputs become the block that leaves next
(R208). -/
def processBlock (srcs : List (Nat × List Int)) (variants : List (Nat × Nat)) (s : State) : State :=
  let (outs, s) := (servedDests s).foldl (fun (acc : List (Nat × List Int) × State) n =>
    let (y, s) := destBlock srcs n (lookupD variants n 0) acc.2
    (acc.1 ++ [(n, y)], s)) ([], s)
  { s with aud := { s.aud with
      next := outs
      srcMeters := metersAfter s.aud.c3 srcs s.aud.srcMeters
      destMeters := metersAfter s.aud.c3 outs s.aud.destMeters } }

end Sys2Proof.Machine
end

