-- ==== Sys2Proof/Machine/Switch.lean ====
section
/-!
DEFINITION. The switch core (09): ingress (R195 to R198) and arbitration (R199), TT buffers (R160), the free-list audit (R204), link modes
and holds (R205 to R207), and the patrol scrubber (R24).
-/

namespace Sys2Proof.Machine

open Sys2Proof

/-- Code of a speed in a location word (R193). -/
def speedCode : Speed → Nat
  | .ls => 1
  | .fs => 2
  | .hs => 3
  | .ss => 4

/-- The location word of a device (R193). -/
def locWord (speed : Speed) (hubPort addr : Nat) : Nat := speedCode speed * 4096 + hubPort * 256 + addr

/-- The words of table 576. -/
def formatWords (s : State) : List Word := (tableIn s.cfg.live 576).getD []

/-- TYPE 1 entries of a TDM port and a direction: slot mask and FIRST (R123). -/
def tdmEntries (port dir : Nat) (s : State) : List (Nat × Nat) :=
  let ws := formatWords s
  ((List.range (fmtCount ws)).map (fmtEntry ws)).filterMap (fun e =>
    let (t, d, _, first) := fmtHead e
    if t = 1 ∧ d = dir ∧ (e.getD 2 0).bits 0 0 = port then some ((e.getD 1 0).bits 15 0, first) else none)

/-- PORT, location word and first channel of a TDM port's stream in a direction, 0 in and 1 out (R210). -/
def tdmStream (port dir : Nat) (s : State) : Nat × Nat × Nat :=
  (12 + port, 0, match tdmEntries port dir s with | e :: _ => e.2 | [] => 0)

/-- PORT, location word and first channel of the function's playback and capture (R210). -/
def playbackStream : Nat × Nat × Nat := (0, 0, 1)

/-- The stream of the function's capture: destination 1, as playback is source 1, so PORT tells them apart (DESIGN CHOICE, log 49). -/
def captureStream : Nat × Nat × Nat := (11, 0, 1)

/-- PORT, location word and channel under which a packet's stream is counted (R210): an owned stream, a stream of TDM, the function or the
message voices, or else a pass-through endpoint. -/
def streamId (src addr ep : Nat) (dirIn : Bool) (dest : BitVec 18) (s : State) : Nat × Nat × Nat :=
  let onPort := fun (st : Stream) => (1 ≤ src && decide (src ≤ 10) && st.port + 1 == src) || bitOf dest.toNat (st.port + 1)
  let toPort := ((List.range 10).find? (fun k => bitOf dest.toNat (k + 1))).map (· + 1)
  match s.own.streams.find? (fun st => st.addr == addr && st.ep == ep && st.dirOut == !dirIn && onPort st) with
  | some st => (st.port + 1, locWord st.speed st.hubPort st.addr, st.first)
  | none =>
    if src = 13 ∨ src = 14 then tdmStream (src - 13) 0 s
    else if src = 15 ∨ src = 16 then (14, 0, 0)
    else if bitOf dest.toNat 13 then tdmStream 0 1 s
    else if bitOf dest.toNat 14 then tdmStream 1 1 s
    else if src = 11 then playbackStream
    else if bitOf dest.toNat 11 ∧ src = 12 then captureStream
    else (if 1 ≤ src ∧ src ≤ 10 then src else toPort.getD 0, addr + 128 * bit dirIn + 256 * ep, 511)

/-! ## TT buffers (R160) -/

/-- Port k + 1 runs through its TT: a FullSpeed or LowSpeed device on a pass-through port under a High-Speed upstream (R160). -/
def throughTt (k : Nat) (s : State) : Bool :=
  let p := s.ports.getD k {}
  s.hub.highSpeed && !p.owned && (p.speed == some .fs || p.speed == some .ls)

/-- A transaction is periodic: isochronous, or interrupt, the CTRL class of an endpoint other than 0. -/
def periodic (cls : CellClass) (ep : BitVec 4) : Bool := cls == .iso || (cls == .ctrl && ep != 0)

/-- Change the count of a TT's buffered split transactions. -/
def countTt (per : Bool) (f : Nat → Nat) (k : Nat) (s : State) : State :=
  { s with ports := listModify s.ports k (fun p =>
      if per then { p with ttPeriodic := f p.ttPeriodic } else { p with ttNonPeriodic := f p.ttNonPeriodic }) }

/-- The TTs of a packet's destination ports have a buffer for it: 16 periodic and 2 non-periodic each, none while stopped (R160). -/
def ttRoom (cls : CellClass) (ep : BitVec 4) (dest : BitVec 18) (s : State) : Bool :=
  (List.range 10).all (fun k =>
    let p := s.ports.getD k {}
    !(bitOf dest.toNat (k + 1) && throughTt k s)
      || (!p.ttStopped && (if periodic cls ep then decide (p.ttPeriodic < 16) else decide (p.ttNonPeriodic < 2))))

/-- A packet takes a buffer in the TTs of its destination ports. -/
def ttTake (cls : CellClass) (ep : BitVec 4) (dest : BitVec 18) (s : State) : State :=
  (List.range 10).foldl (fun s k =>
    if bitOf dest.toNat (k + 1) && throughTt k s then countTt (periodic cls ep) (· + 1) k s else s) s

/-- The TT of an egress may run a transaction of a kind: not while stopped, and at alternate 0 only when no port before it has one in the
pipeline that all share (R160). -/
def ttTurn (e : Nat) (per : Bool) (s : State) : Bool :=
  let held := fun (k : Nat) => let p := s.ports.getD k {}
    decide (0 < (if per then p.ttPeriodic else p.ttNonPeriodic))
  !(1 ≤ e && decide (e ≤ 10) && throughTt (e - 1) s)
    || (!(s.ports.getD (e - 1) {}).ttStopped && (s.hub.altHub != 0 || (List.range (e - 1)).all (fun k => !(held k))))

/-- A TT discards its buffered transactions of a kind, with their cells (R160, R172). -/
def ttDrop (per : Bool) (k : Nat) (s : State) : State :=
  if !throughTt k s then countTt per (fun _ => 0) k s
  else
    let mine := fun (i : Nat) => match cellAt i s with | some c => periodic c.cls c.ep == per | none => false
    let s' := (List.range 3).foldl (fun (acc : State) c =>
      let q := queueOf (k + 1) c s
      releaseCells (q.filter mine) (setQueue (k + 1) c (q.filter (fun i => !mine i)) acc)) s
    countTt per (fun _ => 0) k s'

/-! ## Ingress (R195 to R199) -/

/-- A port of a packet is an owned one, so that its cells carry ADDR (R196). -/
def touchesOwned (src : Nat) (dest : BitVec 18) (s : State) : Bool :=
  (List.range 10).any (fun k => (s.ports.getD k {}).owned && (src == k + 1 || bitOf dest.toNat (k + 1)))

/-- Write a packet's cells and enter them into every queue that DEST names (R195, R196, R200). -/
def writeCells (pkt : IngressPacket) (s : State) : State :=
  let n := cellCount pkt.payload.length
  let pools := (takePools pkt.cls pkt.src.val n s).getD []
  let idx := freeCells n s
  let id := streamId pkt.src.val pkt.addr.toNat pkt.ep.toNat pkt.dirIn pkt.dest s
  let cell : Nat → Cell := fun k =>
    { dest := pkt.dest, src := pkt.src.val, cls := pkt.cls, len := min 64 (pkt.payload.length - 64 * k), last := k + 1 == n
      deadline := if pkt.cls = .iso then BitVec.ofNat 12 (s.clk.tick.toNat + pkt.interval.val) else 0
      addr := if touchesOwned pkt.src.val pkt.dest s then pkt.addr else 0, ep := pkt.ep, dirIn := pkt.dirIn
      ctx := pkt.ctx.map (·.val), payload := slice pkt.payload (64 * k) 64, refs := (egresses pkt.dest).length
      pool := pools.getD k 2, bad := false, refBad := false, suspect := false, off := 64 * k, frames := pkt.frames, stream := id }
  let s := rewriteCells idx s
  let cells := (idx.zipIdx).foldl (fun l i => insertKey l i.1 (cell i.2)) s.sw.cells
  let s := ttTake pkt.cls pkt.ep pkt.dest { s with sw := { s.sw with cells := cells } }
  (egresses pkt.dest).foldl (fun s e => setQueue e (classCode pkt.cls) (queueOf e (classCode pkt.cls) s ++ idx) s) s

/-- A packet for the DSP cluster arrives after the cutoff of its block (R208). -/
def isLate (pkt : IngressPacket) (s : State) : Bool :=
  pkt.cls == .iso && bitOf pkt.dest.toNat 12 && decide (16 * (pkt.block + 1) < s.clk.tick.toNat)

/-- A packet of n cells is admitted (R198): its cells can be allocated, its queues and TTs have room. -/
def admits (pkt : IngressPacket) (s : State) : Bool :=
  coreRoom pkt.cls pkt.src.val pkt.dest (cellCount pkt.payload.length) s && ttRoom pkt.cls pkt.ep pkt.dest s

/-- A packet enters the switch core (R27, R195 to R198, R208): late source cells are MISSING, an ISO packet without a cell or a TT buffer is
DROPPED, a CTRL or BULK packet without room is answered with NAK or NRDY, or waits in its internal source. What the DSP cluster takes from
an admitted packet is the first argument. -/
def ingress (deliver : IngressPacket → State → State) (pkt : IngressPacket) (s : State) : State :=
  let n := cellCount pkt.payload.length
  let id := streamId pkt.src.val pkt.addr.toNat pkt.ep.toNat pkt.dirIn pkt.dest s
  if isLate pkt s then countStream id.1 id.2.1 id.2.2 pkt.frames 0 0 s
  else if admits pkt s then
    deliver pkt (writeCells pkt (if pkt.cls = .iso then (egresses pkt.dest).foldl (fun s e => makeRoom e n 256 s) s else s))
  else if pkt.cls = .iso then countStream id.1 id.2.1 id.2.2 0 1 0 s
  else if pkt.src.val ≤ 11 then emit (.handshake (if pkt.ss then .nrdy else .nak)) s
  else { s with sw := { s.sw with waiting := s.sw.waiting ++ [pkt] } }

/-- A packet whose source already waits in its class waits behind it (R198). -/
def enter (deliver : IngressPacket → State → State) (pkt : IngressPacket) (s : State) : State :=
  if s.sw.waiting.any (fun w => w.src == pkt.src && w.cls == pkt.cls) then { s with sw := { s.sw with waiting := s.sw.waiting ++ [pkt] } }
  else ingress deliver pkt s

/-- Internal sources that wait try again, in their order (R198). -/
def retryWaiting (s : State) : State :=
  s.sw.waiting.foldl (fun s pkt => enter (fun _ s => s) pkt s) { s with sw := { s.sw with waiting := [] } }

/-- QUEUE_FLUSH (R201). -/
def execQueueFlush (dest : Fin 18) (s : State) : Result := effect (fun s => retryWaiting (flush false dest.val s)) s

/-- The packet that the write port takes next (R199): CLASS 0 before 1 before 2, and within a class the sources in round robin. -/
def nextWrite (pkts : List IngressPacket) (s : State) : Option (IngressPacket × List IngressPacket) :=
  let cls : List CellClass := [.iso, .ctrl, .bulk]
  match cls.find? (fun c => pkts.any (fun p => p.cls == c)) with
  | none => none
  | some c =>
    let last := s.sw.wr.getD (classCode c) 17
    match ((List.range 18).map (fun k => (last + 1 + k) % 18)).find? (fun e => pkts.any (fun p => p.cls == c && p.src.val == e)) with
    | none => none
    | some e =>
      match pkts.findIdx? (fun p => p.cls == c && p.src.val == e) with
      | some i => (pkts[i]?).map (fun p => (p, pkts.eraseIdx i))
      | none => none

/-- The write port takes packets, with a bound on their number. -/
def writePort (deliver : IngressPacket → State → State) : Nat → List IngressPacket → State → State
  | 0, _, s => s
  | k + 1, pkts, s =>
    match nextWrite pkts s with
    | some (p, rest) => writePort deliver k rest (enter deliver p { s with sw := { s.sw with wr := listSet s.sw.wr (classCode p.cls) p.src.val } })
    | none => s

/-! ## Egress (R199, R203, R266) -/

/-- FAIL marks are asked for now (R266). -/
def failMarks (s : State) : Bool := s.aon.safeActive && tagFailEn s

/-- The mark of a stream context for a frame: on while FAIL marks are asked for, off from the first group boundary after (R266). -/
def markAt (asked was : Bool) (frameTick : Nat) : Bool := asked || (was && frameTick % 4 != 0)

/-- The CRC bits of a subslot's low byte, by the sample's place in its group (R258). -/
def crcBitsOf (frameTick : Nat) : Byte :=
  match frameTick % 4 with
  | 0 => 0
  | 1 => 0x0F
  | _ => 0x3F

/-- Bytes of a tagged OUT packet as they leave: the CRC bits complemented while the mark is on (R266). -/
def markBytes (asked : Bool) (ch start : Nat) : Nat → Bool → List Byte → List Byte × Bool
  | _, was, [] => ([], was)
  | off, was, b :: bs =>
    let t := start + off / 3 / (max 1 ch)
    let m := markAt asked was t
    let (rest, m') := markBytes asked ch start (off + 1) m bs
    ((if off % 3 = 0 ∧ m then b ^^^ crcBitsOf t else b) :: rest, m')

/-- The payload of a cell as its egress sends it, with the context's mark after it. -/
def egressBytes (c : Cell) (s : State) : List Byte × State :=
  match c.ctx.bind (fun k => (s.own.ctxs.getD k none).map (fun x => (k, x))) with
  | some (k, x) =>
    if x.dirOut then
      let start := c.deadline.toNat + 4096 - c.frames
      let (bs, m) := markBytes (failMarks s) x.ch start c.off x.mark c.payload
      (bs, { s with own := { s.own with ctxs := listSet s.own.ctxs k (some { x with mark := m }) } })
    else (c.payload, s)
  | none => (c.payload, s)

/-- The link of an egress: 0 the upstream face, 1 to 4 the flex ports. -/
def egressHeld (e : Nat) (s : State) : Bool := decide (e ≤ 4) && ((s.sw.links.getD e {}).down).isSome

/-- The egress that a class grants: the first ready one after the one granted last, in round robin (R199). -/
def grantOf (cls : Nat) (ready : BitVec 18) (s : State) : Option Nat :=
  let last := s.sw.rr.getD cls 17
  ((List.range 18).map (fun k => (last + 1 + k) % 18)).find? (fun e =>
    bitOf ready.toNat e && !egressHeld e s && (match (queueOf e cls s).head? with
      | none => false
      | some i => match cellAt i s with | some c => ttTurn e (periodic c.cls c.ep) s | none => true))

/-- The class and egress that the read port grants (R199). -/
def readGrant (ready : BitVec 18) (s : State) : Option (Nat × Nat) :=
  match grantOf 0 ready s with
  | some e => some (0, e)
  | none => match grantOf 1 ready s with
    | some e => some (1, e)
    | none => (grantOf 2 ready s).map (fun e => (2, e))

/-- Wrong symbols of the words of a cell: those with one, and those with more (R22). -/
def cellErrors (i : Nat) (s : State) : Nat × Nat :=
  let ws := s.sw.errs.filter (fun x => x.1 / 8 == i)
  ((ws.filter (fun x => x.2 == 1)).length, (ws.filter (fun x => decide (2 ≤ x.2))).length)

/-- Raise a fault n times. -/
def raiseTimes (src : BitVec 12) : Nat → State → State
  | 0, s => s
  | n + 1, s => raiseTimes src n (raiseFault src s)

/-- A cell is marked bad, with the fault of each of its words that cannot be corrected (R203). -/
def spoilCell (i : Nat) (c : Cell) (s : State) : State :=
  raiseTimes 0o3020 (cellErrors i s).2 { s with sw := { s.sw with cells := insertKey s.sw.cells i { c with bad := true } } }

/-- The packet that ends with a cell has left a TT's buffer (R160). -/
def ttLeave (e : Nat) (c : Cell) (s : State) : State :=
  if c.last && 1 ≤ e && decide (e ≤ 10) && throughTt (e - 1) s then countTt (periodic c.cls c.ep) (· - 1) (e - 1) s else s

/-- An egress reads the cell at the head of a queue (R199, R200, R203): a bad cell ends its packet. -/
def readCell (cls e : Nat) (s : State) : State :=
  match queueOf e cls s with
  | [] => s
  | i :: rest =>
    let s := { s with sw := { s.sw with rr := listSet s.sw.rr cls e } }
    match cellAt i s with
    | none => setQueue e cls rest s
    | some c =>
      let (one, more) := cellErrors i s
      if c.bad ∨ 0 < more then
        let s := if c.bad then s else spoilCell i c s
        let p := headPacket s (i :: rest)
        let s := ttLeave e { c with last := true } (releaseCells p (setQueue e cls (rest.drop (p.length - 1)) s))
        if e ≤ 11 then emit (.cell e [] true true) s else s
      else
        let (bs, s) := egressBytes c (raiseTimes 0o3021 one s)
        ttLeave e c (releaseCell i (setQueue e cls rest (emit (.cell e bs c.last false) s)))

/-- CELL_EGRESS (R199). -/
def execCellEgress (ready : BitVec 18) (s : State) : Result :=
  effect (fun s => match readGrant ready s with | some (cls, e) => retryWaiting (readCell cls e s) | none => s) s

/-! ## Free-list audit (R204) -/

/-- Queues that refer to a cell. -/
def queueRefs (i : Nat) (s : State) : Nat := (s.sw.queues.filter (fun q => q.contains i)).length

/-- Free cells. -/
def freeCount (s : State) : Nat := 8192 - s.sw.cells.length - s.sw.leaked.length

/-- Reference counts are set from the queue references found; a cell with none is freed (R204). -/
def settleRefs (s : State) : State :=
  { s with sw := { s.sw with cells := s.sw.cells.filterMap (fun c =>
      let n := queueRefs c.1 s
      if n = 0 then none else some (c.1, { c.2 with refs := n, refBad := false })) } }

/-- Cells held by no queue and not free. -/
def unaccounted (s : State) : Nat :=
  s.sw.leaked.length + (s.sw.cells.filter (fun c => queueRefs c.1 s == 0)).length

/-- The audit's findings and reclaim (R204). -/
def audit (s : State) : State :=
  let bad := decide (0 < unaccounted s) || decide (s.sw.twice ≠ [])
  let counts := (s.sw.cells.filter (fun c => c.2.refBad)).length
  let reclaimed := (s.sw.leaked.filter (·.2)).length
  let left := (s.sw.leaked.filter (fun l => !l.2)).map (fun l => (l.1, true))
  let s := raiseTimes 0o3022 counts s
  let s := settleRefs { s with sw := { s.sw with leaked := left, twice := [], lastAudit := s.clk.tick } }
  if bad then post 0o010403 [w18 (freeCount s), w18 reclaimed, w18 left.length] (raiseFault 0o3040 s) else s

/-- FREE_LIST_AUDIT (R204): every 100 ms. -/
def execFreeListAudit (s : State) : Result :=
  effect (fun s => if 100 * Config.tkPerMs ≤ since s.sw.lastAudit s then audit s else s) s

/-! ## Link modes (R205 to R207) -/

/-- Replace the control of a link. -/
def setLink (k : Nat) (l : LinkCtl) (s : State) : State := { s with sw := { s.sw with links := listSet s.sw.links k l } }

/-- The hold of a link ends with an outcome: PORT.LINK_HOLD (R205). -/
def endHold (k outcome iso : Nat) (s : State) : State :=
  post 0o031003 [w18 k, w18 outcome, w18 iso] (setLink k { s.sw.links.getD k {} with down := none } s)

/-- A flush under R202 ends a hold at once (R205): what it drops counts as dropped under the hold (R210). -/
def flushLink (cut : Bool) (k : Nat) (s : State) : State :=
  if ((s.sw.links.getD k {}).down).isSome then
    let (iso, s') := flushEgress cut k (countDropped (queueOf k 0 s) s)
    endHold k 2 iso s'
  else flush cut k s

/-- State of a SuperSpeed link: of the upstream face, or of a flex port. -/
def linkState (k : Nat) (s : State) : LinkState := if k = 0 then s.hub.ssLink else (s.sw.links.getD k {}).state

/-- A SuperSpeed link takes a state. -/
def setLinkState (k : Nat) (x : LinkState) (s : State) : State :=
  if k = 0 then { s with hub := { s.hub with ssLink := x } } else setLink k { s.sw.links.getD k {} with state := x } s

/-- The embedded function leaves the USB 3 hub for the USB 2 hub (R142): on both, port 11 shows a changed connection. -/
def functionMoves (s : State) : State :=
  if s.hub.connected && s.hub.functionUsb3 then
    { s with hub := { s.hub with
        functionUsb3 := false, hub3 := {}, function := {}, port11 := { cConnection := true }, altPlay := 0, altCap := 0, playRing := []
        playRunning := false, capRing := [], ram := {} } }
  else s

/-- A link may enter U1 or U2 (R162): upstream only with both streams at alternate 0; on a pass-through port as the host's timeouts
allow. -/
def mayRest (k : Nat) (x : LinkState) (s : State) : Bool :=
  let p := s.ports.getD (k - 1) {}
  match x with
  | .u1 => if k = 0 then streamsIdle s else p.owned || p.usb3.u1Timeout != 0
  | .u2 => if k = 0 then streamsIdle s else p.owned || p.usb3.u2Timeout != 0
  | _ => true

/-- A link enters a state (R142, R162, R202, R205): it is down when it leaves U0, U1 or U2 for anything but U3, and entry of SS.Disabled or
SS.Inactive flushes its queues whatever it left. -/
def linkDown (k : Nat) (dst : LinkState) (s : State) : State :=
  if !mayRest k dst s then s
  else
    let l := s.sw.links.getD k {}
    let was := linkState k s
    let up := was == .u0 || was == .u1 || was == .u2
    let s := setLinkState k dst s
    let s := if k = 0 ∧ onUsb3 dst = false then functionMoves s else s
    match dst with
    | .u0 => s
    | .u1 => s
    | .u2 => s
    | .u3 => s
    | .disabled => flushLink true k s
    | .inactive => flushLink true k s
    | _ =>
      if l.down.isSome ∨ up = false then s
      else if l.hold then setLink k { s.sw.links.getD k {} with down := some (s.clk.tick, l.holdMs) } s
      else flush false k s

/-- LINK_DOWN (R205). -/
def execLinkDown (k : Fin 5) (dst : LinkState) (s : State) : Result := effect (linkDown k.val dst) s

/-- An ISO cell's service interval has passed (R206). -/
def intervalPassed (c : Cell) (s : State) : Bool :=
  decide ((s.clk.tick.toNat + 4096 - c.deadline.toNat) % 4096 < 3072)

/-- A held link returns to U0: ISO cells whose interval has passed are dropped, their packets counted (R205, R210). -/
def linkReturn (k : Nat) (s : State) : State :=
  match (s.sw.links.getD k {}).down with
  | none => s
  | some (_, _) =>
    let q := queueOf k 0 s
    let passed := q.filter (fun i => match cellAt i s with | some c => intervalPassed c s | none => false)
    let s' := countDropped passed s
    let s' := releaseCells passed (setQueue k 0 (q.filter (fun i => !passed.contains i)) s')
    endHold k 0 passed.length (setLinkState k .u0 s')

/-- LINK_HOLD_RETURN (R205): within HOLD_TIME. -/
def execLinkHoldReturn (k : Fin 5) (s : State) : Result :=
  effect (fun s =>
    match (s.sw.links.getD k.val {}).down with
    | some (t, ms) => if since t s ≤ ms * Config.tkPerMs then linkReturn k.val s else s
    | none => s) s

/-- LINK_HOLD_EXPIRED (R205). -/
def execLinkHoldExpired (k : Fin 5) (s : State) : Result :=
  effect (fun s =>
    match (s.sw.links.getD k.val {}).down with
    | some (t, ms) =>
      if ms * Config.tkPerMs ≤ since t s then
        (let (iso, s) := flushEgress false k.val (countDropped (queueOf k.val 0 s) s)
         endHold k.val 1 iso s)
      else s
    | none => s) s

/-- PORT.LINK_MODE (R207). -/
def execPortLinkMode (s : State) : Result :=
  effect (immediateCommand 0o0306 anyVariant noAuth
    (fun c _ => firstStatus [(decide (4 < c.p 1) || decide (1 < c.p 2)
      || (if c.p 2 = 1 then decide (c.p 3 < 1) || decide (50 < c.p 3) else decide (c.p 3 ≠ 0)), stBadParam)])
    (fun c s => ([w18 (c.p 2 * 64 + c.p 3)],
      setLink (c.p 1) { s.sw.links.getD (c.p 1) {} with hold := c.p 2 == 1, holdMs := c.p 3 } s))) s

/-! ## Patrol scrubber (R24, R203, R388) -/

/-- An uncorrectable Stash row is found: its bank's fault; in the protected or overlay region the CTI is reloaded (R132). -/
def stashUncorrectable (g : Nat) (s : State) : State :=
  let s := raiseFault (bankSource g 0) s
  if g < 40960 ∧ s.cfg.active.isSome then { s with cfg := { s.cfg with reloading := true } } else s

/-- The walker of Stash reads one row: a correctable error is written back corrected. -/
def scrubStash (s : State) : State :=
  let g := s.mem.stashWalk
  let wrong := lookupD s.mem.stashErr g 0
  let wraps := decide (g + 1 = 524288)
  let s := { s with mem := { s.mem with
      stashWalk := if wraps then 0 else g + 1
      stashPass := if wraps then s.clk.tick else s.mem.stashPass } }
  if !bitOf s.mem.bankOn.toNat (g / 65536) then s
  else if wrong = 1 then raiseFault (bankSource g 1) { s with mem := { s.mem with stashErr := eraseKey s.mem.stashErr g } }
  else if 2 ≤ wrong then stashUncorrectable g s
  else s

/-- The walker of cell memory reads one word: a correctable error is written back corrected, an uncorrectable one marks the whole cell bad,
in use or free (R24, R203). -/
def scrubCell (s : State) : State :=
  let w := s.mem.cellWalk
  let i := w / 8
  let wrong := lookupD s.sw.errs w 0
  let wraps := decide (w + 1 = 65536)
  let s := { s with mem := { s.mem with
      cellWalk := if wraps then 0 else w + 1
      cellPass := if wraps then s.clk.tick else s.mem.cellPass } }
  if wrong = 0 then s
  else if wrong = 1 then raiseFault 0o3021 { s with sw := { s.sw with errs := eraseKey s.sw.errs w } }
  else
    match cellAt i s with
    | some c => if c.bad then s else spoilCell i c s
    | none => if s.sw.badFree.contains i then s else raiseFault 0o3020 { s with sw := { s.sw with badFree := s.sw.badFree ++ [i] } }

/-- PATROL_SCRUB (R24): one row of Stash and one word of cell memory. -/
def execPatrolScrub (s : State) : Result := effect (fun s => scrubCell (scrubStash s)) s

/-- SCRUB_PASS_LATE (R388): a Stash pass not complete in 2.5 s, a cell-memory pass not complete in 0.3 s. -/
def execScrubPassLate (m : ScrubMem) (s : State) : Result :=
  effect (fun s =>
    let late := match m with
      | .stash => decide (120000 ≤ since s.mem.stashPass s)
      | .cell => decide (14400 ≤ since s.mem.cellPass s)
    if late then raiseFault 0o3320 s else s) s

end Sys2Proof.Machine
end

