-- ==== Sys2Proof/Machine/Trees.lean ====
section
/-!
DEFINITION. The owned trees as shared operations (08, 12): devices and streams by place, console key bindings (R185), the release of
streams and contexts (R268), the removal of a device (R187), and the reserved bandwidth (R184).
-/

namespace Sys2Proof.Machine

open Sys2Proof

/-- A downstream port by its number from 0. -/
def portOf (k : Nat) (s : State) : DownPortState := s.ports.getD k {}

/-- Change a downstream port. -/
def mapPort (k : Nat) (f : DownPortState → DownPortState) (s : State) : State :=
  { s with ports := listModify s.ports k f }

/-- Port k + 1 is fitted (R126). -/
def fitted (k : Nat) (s : State) : Bool := bitOf (boardParam 1 0o1777 s) k

/-- ROLE of a flex port in table 320 (R315). -/
def flexRole (n : Nat) (s : State) : Nat := param 320 (n + 1) 0 s

/-- Port k + 1 is configured as upstream B (R296). -/
def isUpstreamB (k : Nat) (s : State) : Bool := decide (k < 4) && flexRole k s == 2

/-- The flex port that is upstream B. -/
def upstreamB (s : State) : Option Nat := (List.range 4).find? (fun n => flexRole n s == 2)

/-! ## Port situations (R155) -/

/-- The situation of a hub port in the table of R155. -/
inductive Situation where
  | internal | noPort | absent | forced | owned | pass
  deriving DecidableEq, Repr

/-- Situation of port k + 1 below 11, or of port 11, on a hub; FORCE_OFF shows on both hubs (R159). -/
def situation (usb3 : Bool) (k : Nat) (s : State) : Situation :=
  if k = 10 then .internal
  else if s.cfg.unconfigured ∨ s.cfg.active.isNone ∨ fitted k s = false ∨ isUpstreamB k s = true then
    (if usb3 ∧ 4 ≤ k then .noPort else .absent)
  else if (portOf k s).forceOff then .forced
  else if usb3 ∧ 4 ≤ k then .noPort
  else if (portOf k s).owned then .owned
  else .pass

/-- One side of a port. -/
def sideOf (usb3 : Bool) (p : DownPortState) : Side := if usb3 then p.usb3 else p.usb2

/-- Change one side of a port. -/
def mapSide (usb3 : Bool) (k : Nat) (f : Side → Side) (s : State) : State :=
  mapPort k (fun p => if usb3 then { p with usb3 := f p.usb3 } else { p with usb2 := f p.usb2 }) s

/-- A change on a pass-through port asks for remote wake; on the USB 3 hub only under the port's wake mask (R163). -/
def wakeOnPort (usb3 : Bool) (k : Nat) (e : WakeEvent) (s : State) : State :=
  let x := sideOf usb3 (portOf k s)
  let masked := match e with
    | .deviceResume => true
    | .connect => !usb3 || bitOf x.wakeMask 0
    | .disconnect => !usb3 || bitOf x.wakeMask 1
    | .overCurrent => !usb3 || bitOf x.wakeMask 2
  let enabled := if usb3 then s.hub.hub3.remoteWake else s.hub.hub2.remoteWake
  if s.hub.connected && s.hub.suspended && enabled && masked && situation usb3 k s == .pass then requestWake s else s

/-! ## Devices and streams -/

/-- The devices at a place of a tree. -/
def devsAt (k hubPort : Nat) (s : State) : List OwnedDev := s.own.devs.filter (fun d => d.port == k && d.hubPort == hubPort)

/-- A device by port and address, when it has one. -/
def devByAddr (k addr : Nat) (s : State) : Option OwnedDev := s.own.devs.find? (fun d => d.port == k && d.addr == addr)

/-- A stream belongs to a device. -/
def streamOf (d : OwnedDev) (x : Stream) : Bool := x.port == d.port && x.hubPort == d.hubPort && x.addr == d.addr

/-- Streams of a device. -/
def streamsOf (d : OwnedDev) (s : State) : List Stream := s.own.streams.filter (streamOf d)

/-- Change the streams that a test selects. -/
def mapStreams (p : Stream → Bool) (f : Stream → Stream) (s : State) : State :=
  { s with own := { s.own with streams := s.own.streams.map (fun x => if p x then f x else x) } }

/-- Change the devices that a test selects. -/
def mapDevs (p : OwnedDev → Bool) (f : OwnedDev → OwnedDev) (s : State) : State :=
  { s with own := { s.own with devs := s.own.devs.map (fun d => if p d then f d else d) } }

/-- Set a stream context. -/
def setCtx (c : Nat) (x : Option Ctx) (s : State) : State := { s with own := { s.own with ctxs := listSet s.own.ctxs c x } }

/-- A stream context. -/
def ctxOf (c : Nat) (s : State) : Option Ctx := s.own.ctxs.getD c none

/-- The lowest-numbered free context (R268). -/
def freeCtx (s : State) : Option Nat := (List.range 64).find? (fun c => (ctxOf c s).isNone)

/-- A stream's context is released (R268); the errors it counted in the running block still raise their faults at its end (R264). -/
def releaseCtx (c : Nat) (s : State) : State :=
  match ctxOf c s with
  | some x =>
    let e := s.own.endErr
    setCtx c none { s with own := { s.own with endErr := (e.1 || x.blkCounter, e.2.1 || x.blkCrc, e.2.2 || x.blkFail) } }
  | none => s

/-- Streams that a test selects stop, and their contexts are released (R268): what the IN streams received for the running block is
still taken, and their sources contribute zero from the next block on (R27, R187). -/
def stopStreams (p : Stream → Bool) (s : State) : State :=
  let going := s.own.streams.filter p
  let s := going.foldl (fun s x => match x.ctx with | some c => releaseCtx c s | none => s) s
  { s with own := { s.own with
      streams := s.own.streams.filter (fun x => !p x)
      ending := s.own.ending ++ going.filter (fun x => x.running && !x.dirOut) } }

/-! ## Console key bindings (R124, R185) -/

/-- A key binding: its number, the FORMAT entry that names the console, and the Button usage. -/
structure KeyBinding where
  number : Nat
  entry : Nat
  usage : Nat
  deriving DecidableEq, Repr

/-- Key bindings of a set of tables (R124). -/
def keyBindings (ts : List Table) : List KeyBinding :=
  (entriesOf ts 256 3).map (fun e => ⟨e.a.bits 17 10, e.a.bits 5 0, e.b.bits 15 0⟩)

/-- STDENUM: the standard profile is in force instead of the FAST one (R168). -/
def stdEnum (s : State) : Bool := ((formatWords s).getD 0 0).bit 16

/-- Vendor and product IDs match a FORMAT entry; 0 matches any (R123, R181). -/
def idsMatch (e : List Word) (vendor product : Nat) : Bool :=
  let v := (e.getD 2 0).bits 15 0
  let p := (e.getD 3 0).bits 15 0
  (v == 0 || v == vendor) && (p == 0 || p == product)

/-- The device whose stream occupies a FORMAT entry. -/
def occupant (entry : Nat) (devs : List OwnedDev) (streams : List Stream) : Option OwnedDev :=
  match streams.find? (fun x => x.entry == entry) with
  | some x => devs.find? (fun d => streamOf d x)
  | none => none

/-- Extend the bindings of entries to devices by one entry without a stream: the first enumerated device of its IDs that is not
bound through another entry (R185). -/
def bindEntry (ws : List Word) (devs : List OwnedDev) (acc : List (Nat × OwnedDev)) (entry : Nat) : List (Nat × OwnedDev) :=
  if acc.any (fun b => b.1 == entry) then acc
  else
    match devs.find? (fun d => d.reason == 0 && idsMatch (fmtEntry ws entry) d.vendor d.product
        && !(acc.any (fun b => b.2.port == d.port && b.2.addr == d.addr))) with
    | some d => acc ++ [(entry, d)]
    | none => acc

/-- The console bound through each FORMAT entry that a key binding names (R185). -/
def consoles (devs : List OwnedDev) (streams : List Stream) (s : State) : List (Nat × OwnedDev) :=
  let entries := (keyBindings s.cfg.live).map (·.entry)
  let held := entries.foldl (fun (acc : List (Nat × OwnedDev)) e =>
    if acc.any (fun b => b.1 == e) then acc
    else match occupant e devs streams with | some d => acc ++ [(e, d)] | none => acc) []
  entries.foldl (bindEntry (formatWords s) devs) held

/-- Key bindings bound to a device. -/
def boundKeys (d : OwnedDev) (devs : List OwnedDev) (streams : List Stream) (s : State) : List KeyBinding :=
  let mine := (consoles devs streams s).filter (fun b => b.2.port == d.port && b.2.addr == d.addr)
  (keyBindings s.cfg.live).filter (fun k => mine.any (fun b => b.1 == k.entry))

/-- Release every binding asserted on a console (R185, R244). -/
def releaseKeys (addr : Nat) (s : State) : State :=
  let mine := s.own.keys.filter (fun k => k.2 == addr)
  let s := mine.foldl (fun s k => zoneOcc 4 k.1 1 none s) s
  { s with own := { s.own with keys := s.own.keys.filter (fun k => k.2 != addr) } }

/-! ## Speeds and queues of a port -/

/-- Speed of what is attached to the SuperSpeed or the USB 2.0 side of a port; a USB 3 hub has both (R186). -/
def DownPortState.speedOn (super : Bool) (p : DownPortState) : Option Speed :=
  if !p.attached then none
  else match p.speed with
    | some x => if (x == .ss) == super then some x else p.second
    | none => none

/-- Something of a speed attaches to a port: the only device, or the other half of a hub. -/
def DownPortState.attach (x : Speed) (p : DownPortState) : DownPortState :=
  match p.attached, p.speed with
  | true, some y => if (y == .ss) == (x == .ss) then { p with speed := some x } else { p with second := some x }
  | _, _ => { p with attached := true, speed := some x, second := none }

/-- Nothing is attached. -/
def DownPortState.detach (p : DownPortState) : DownPortState := { p with attached := false, speed := none, second := none }

/-- One side of a port loses its device. -/
def DownPortState.detachSide (super : Bool) (p : DownPortState) : DownPortState :=
  match p.speedOn (!super) with
  | some y => { p with speed := some y, second := none }
  | none => p.detach

/-- The SuperSpeed link of flex port k + 1 takes a state with what attaches to or leaves that side. -/
def linkOf (k : Nat) (super : Bool) (x : LinkState) (s : State) : State :=
  if super ∧ k < 4 then setLinkState (k + 1) x s else s

/-- The queues of port k + 1 are flushed as on a disconnect (R202). -/
def flushPort (k : Nat) (s : State) : State := if k + 1 ≤ 4 then flushLink true (k + 1) s else flush true (k + 1) s

/-! ## Bandwidth (R184) -/

/-- Payload reserved on a port's own link: that of the devices at the link's speed. -/
def reservedOn (k : Nat) (s : State) : Nat :=
  let super := (portOf k s).speed == some .ss
  ((s.own.devs.filter (fun d => d.port == k && (d.speed == .ss) == super)).map (·.payload)).sum

/-- Keep the port's reserved payload. -/
def settleReserved (k : Nat) (s : State) : State := mapPort k (fun p => { p with reserved := reservedOn k s }) s

/-! ## Removal -/

/-- The location word of a device (R193). -/
def devLoc (d : OwnedDev) : Nat := locWord d.speed d.hubPort d.addr

/-- A device carries a stream whose entry has TAG 1. -/
def carriesTag (d : OwnedDev) (s : State) : Bool := (streamsOf d s).any (·.tagEntry)

/-- LE1 forgets one device: its streams stop, its contexts, bandwidth, address and endpoints are released, and its asserted keys
are released (R185, R187). -/
def forgetDevice (d : OwnedDev) (s : State) : State :=
  let s := stopStreams (streamOf d) s
  let s := releaseKeys d.addr s
  settleReserved d.port { s with own := { s.own with devs := s.own.devs.filter (fun x => x != d) } }

/-- A device is detached: PORT.DEVICE_REMOVED, and the protocol fault when it carried a stream of a TAG entry (R187). -/
def detachDevice (fault : Bool) (d : OwnedDev) (s : State) : State :=
  let tag := carriesTag d s
  let s := post 0o030602 [w18 (d.port + 1), w18 (devLoc d)] (forgetDevice d s)
  if fault && tag then raiseFault 0o2021 s else s

/-- Devices lost with a place of a tree: all of the tree for the port itself, otherwise those at the hub port, in order of address. -/
def lostDevices (k hubPort : Nat) (s : State) : List OwnedDev :=
  sortBy (fun a b => decide (a.addr < b.addr))
    (s.own.devs.filter (fun d => d.port == k && (hubPort == 0 || d.hubPort == hubPort)))

/-- Failed enumeration attempts of a place are forgotten (R177). -/
def clearFailures (k hubPort : Nat) (s : State) : State :=
  mapPort k (fun p => { p with failures := if hubPort = 0 then [] else eraseKey p.failures hubPort }) s

/-- A place of an owned tree loses its devices (R187); with the port itself its queues are flushed (R202). -/
def detachTree (k hubPort : Nat) (fault : Bool) (s : State) : State :=
  let s := clearFailures k hubPort ((lostDevices k hubPort s).foldl (fun s d => detachDevice fault d s) s)
  if hubPort = 0 then flushPort k s else s

/-- A place of an owned tree is forgotten, to be enumerated anew (R189, R194): no event and no fault. -/
def forgetTree (k hubPort : Nat) (s : State) : State :=
  clearFailures k hubPort ((lostDevices k hubPort s).foldl (fun s d => forgetDevice d s) s)

end Sys2Proof.Machine
end

