-- ==== Sys2Proof/Machine/Flex.lean ====
section
/-!
DEFINITION. The flex ports as shared operations (15, 16): roles and CC terminations (R315 to R317), capabilities (R325), limits (R344,
R345), power on and off (R320, R350), the end of a contract, Hard_Reset (R324), and the trip sequence (R354 to R357).
-/

namespace Sys2Proof.Machine

open Sys2Proof

/-- A flex port. -/
def flexAt (n : Nat) (s : State) : Flex := s.flex.getD n {}

/-- Change a flex port. -/
def mapFlex (n : Nat) (f : Flex → Flex) (s : State) : State := { s with flex := listModify s.flex n f }

/-- The Type-C logic and the PD engine serve: the firmware runs outside HIBERNATE (R317, R333). -/
def flexRuns (s : State) : Bool := fwRuns s && s.pwr.state != .hibernate

/-- The PD revision in force refuses with Not_Supported, or with Reject at revision 2.0 (R314). -/
def refusal (f : Flex) : PdOut := if f.rev3 then .notSupported else .reject

/-- Flex port n carries the upstream face. -/
def carriesFace (n : Nat) (s : State) : Bool := s.hub.face == some .b && upstreamB s == some n

/-- Port k + 1 may be powered by its owner: not forced off, and owned or powered by the host (R156, R159). -/
def powerAllowed (k : Nat) (s : State) : Bool :=
  let p := portOf k s
  !p.forceOff && (p.owned || p.hostPower)

/-- The port presents its role's termination while unattached, rather than Open (R131, R156, R315, R324, R355, R357). -/
def ccAllowed (n : Nat) (s : State) : Bool :=
  let f := flexAt n s
  s.cfg.active.isSome && fitted n s && !f.latched && f.backoff.isNone && f.errorFrom.isNone
    && (flexRole n s == 2 || powerAllowed n s)

/-- What an unattached port presents (R316): a DRP port begins with Rp. -/
def restCc (n : Nat) (s : State) : CcState :=
  if !ccAllowed n s then .open else if flexRole n s = 2 then .rd else .rp

/-- An unattached port presents what it may now. -/
def settleCc (n : Nat) (s : State) : State :=
  let cc := restCc n s
  mapFlex n (fun f => if f.role = .unattached then { f with cc := cc, trySince := none } else f) s

/-! ## Capabilities (R325) -/

/-- VHI_V in volts (R126). -/
def vhiV (s : State) : Nat := boardParam 2 0 s

/-- I(V) in units of 10 mA (R325). -/
def offerCurrent (alloc volt : Nat) : Nat := min 300 (alloc / (volt * 10))

/-- The PDOs a port offers: volts and 10 mA (R325). -/
def pdosOf (n : Nat) (s : State) : List (Nat × Nat) :=
  let p := (flexAt n s).alloc
  let v := vhiV s
  let high := decide (v = 9 ∨ v = 12 ∨ v = 15) && bitOf (param 321 9 0o17 s) n && decide (50 ≤ offerCurrent p v) && !s.rails.vhiBad
  (5, offerCurrent p 5) :: (if high then [(v, offerCurrent p v)] else [])

/-- The data object of a Fixed PDO (R325): USB Communications Capable in the first. -/
def pdoObject (o : Nat × Nat) : BitVec 32 := BitVec.ofNat 32 ((if o.1 = 5 then 0x04000000 else 0) + o.1 * 20 * 1024 + o.2)

/-- Send Source_Capabilities (R319, R325, R328), which an answer of the partner follows for a reason of PD.CONTRACT. -/
def sendCaps (n reason : Nat) (answered : Bool) (s : State) : State :=
  let os := pdosOf n s
  let t := s.clk.tick
  emit (.pd n (.sourceCapabilities (os.map pdoObject)))
    (mapFlex n (fun f => { f with offered := os, capsCount := f.capsCount + 1, capsTick := t, awaiting := answered, reason := reason }) s)

/-- Rp level that an allocation covers (R322): 0 default, 1 1.5 A, 2 3.0 A. -/
def rpLevel (alloc : Nat) : Nat := if 15000 ≤ alloc then 2 else if 7500 ≤ alloc then 1 else 0

/-- Contract power in mW (R326). -/
def contractPower (f : Flex) : Nat := match f.contract with | some c => c.volt * c.cur * 10 | none => 0

/-- PMAX in force, 100 mW (R327, R342). -/
def pmaxOf (n : Nat) (s : State) : Nat := match (flexAt n s).pmax with | some p => p | none => param 321 (5 + n) 450 s

/-! ## Limits (R344, R345) -/

/-- Parameter p of a port's eFuse table with its default. -/
def efuseParam (n p : Nat) (s : State) : Nat :=
  param (322 + n) p ([400, 25, 4000, 2500, 40, 150, 60, 1000, 8, 8000, 5, 10, 20, 50, 60].getD (p - 1) 0) s

/-- T_BASE and TJ_REARM are signed (R345). -/
def efuseTemp (n p : Nat) (s : State) : Int := signedField (efuseParam n p s) 18

/-- ILIM in mA (R344). -/
def ilim (f : Flex) : Nat :=
  match f.contract with
  | some c => c.cur * 10
  | none => [900, 1500, 3000].getD f.rp 900

/-- SHORT_I in mA (R344). -/
def shortI (n : Nat) (s : State) : Nat := min (efuseParam n 9 s * ilim (flexAt n s) / 4) (efuseParam n 10 s)

/-- Modelled junction temperature of the hotter pair, in 1/256 degC (R346). -/
def junction (n : Nat) (f : Flex) (s : State) : Int :=
  let u := 2 ^ 24
  efuseTemp n 5 s * 256 + max ((f.d1 / u : Nat) + (f.d2 / u : Nat) : Int) ((f.h1 / u : Nat) + (f.h2 / u : Nat) : Int)

/-- Junction temperature in 0.125 degC, as PS_Fn_TMOD shows it. -/
def junction8 (n : Nat) (f : Flex) (s : State) : Int := junction n f s / 32

/-- POWER of PS_Fn_STAT (R89). -/
def flexPower (f : Flex) : Nat :=
  if f.latched then 7
  else if f.backoff.isSome then 6
  else
    match f.trans with
    | some t => if t.begun && !t.same then (if t.dst.volt = 5 then 5 else 3)
                else if f.gateH = .full then 4 else if f.gate5 = .full then 2 else if f.ramp.isSome then 1 else 0
    | none => if f.ramp.isSome then 1 else if f.gateH = .full then 4 else if f.gate5 = .full then 2 else 0

/-- Dissipation of a ramp in whole mJ, rounded (R360); a ramp's energy is held in units of 0.1 pJ. -/
def rampMj (r : Option Ramp) : Nat := match r with | some x => (x.energy + 5000000000) / 10000000000 | none => 0

/-! ## Power off and on -/

/-- Both gates off and DISCH applied until VBUS is below 0.8 V (R320); FALLBACK ends as the port is unpowered (R352). -/
def Flex.unpower (f : Flex) : Flex :=
  { f with gate5 := .off, gateH := .off, ramp := none, disch := true, dischSets := 0, fallback := false
           diffSets := 0, ocSets := 0, fbSets := 0, steadyFrom := none }

/-- The alternate mode ends, and both SBU balls return to high impedance (R339). -/
def Flex.endMode (f : Flex) : Flex := { f with altMode := false, loop := false, faultRet := false, discover := false }

/-- The contract and everything pending for it end. -/
def Flex.endContract (f : Flex) : Flex :=
  { f.endMode with contract := none, trans := none, awaiting := false, offered := [], capsCount := 0, swap := none
                   swapWaits := 0, alertDue := false }

/-- The port has no partner any more, and presents a termination. -/
def Flex.leave (cc : CcState) (f : Flex) : Flex :=
  { f.endContract with role := .unattached, cc := cc, trySince := none, cc2 := false, pd := false, rev3 := true, spoken := false, rp := 0
                       vconn := false, vconnTrip := false, vconnWasSink := false, reason := 0, hardResets := 0, hardFrom := none
                       hardOff := false, hardVconn := false, removed := none }

/-- A long PD command of the port ends (R342). -/
def pdDone (n status : Nat) (s : State) : State :=
  if (flexAt n s).cmd.isSome then groupDone 0o15 status (mapFlex n (fun f => { f with cmd := none }) s) else s

/-- The long PD command of the port when it is the one of a code. -/
def pdDoneIf (n code status : Nat) (s : State) : State := if (flexAt n s).cmd = some code then pdDone n status s else s

/-- The partner is gone: PD.HARD_RESET ends with OK, the other commands with STATE (R342). -/
def pdGone (n : Nat) (s : State) : State :=
  match (flexAt n s).cmd with
  | some c => pdDone n (if c = 5 then stOk else stState) s
  | none => s

/-- VBUS rises from where it is to 5 V through the inrush ramp (R319, R350). -/
def Flex.rampUp (f : Flex) : Flex :=
  { f with gate5 := .linear, gateH := .off, disch := false, dischSets := 0
           ramp := some { start := f.vbus, target := 5000, sets := 0, energy := 0, fbEnergy := 0 } }

/-- Power a port off as ClearPortFeature(PORT_POWER) and FORCE_OFF do (R156, R340): gates off, Open on CC, and the contract, VCONN and
the mode end. -/
def flexOff (n : Nat) (s : State) : State := mapFlex n (fun f => f.unpower.leave .open) (pdGone n s)

/-- Post PD.DETACH (R320, R332). -/
def postDetach (n power energy : Nat) (s : State) : State := post 0o150203 [w18 (n + 1), w18 power, w18 energy] s

/-- A partner leaves a port that sources VBUS or refuses it (R320). -/
def sourceDetach (n : Nat) (s : State) : State :=
  let f := flexAt n s
  let s := postDetach n (flexPower f) (rampMj f.ramp) (pdGone n s)
  settleCc n (mapFlex n (fun f => (if f.role = .accessory then f else f.unpower).leave .open) s)

/-! ## Hard_Reset (R324) -/

/-- A Hard_Reset is sent or received: every sequence is abandoned, and the recovery of R324 begins. -/
def hardReset (n : Nat) (sent : Bool) (s : State) : State :=
  let s := if sent then emit (.pd n .hardReset) s else s
  let s := post 0o150602 [w18 (n + 1), w18 (bit sent)] s
  let t := s.clk.tick
  let s := pdDoneIf n 3 stState (pdDoneIf n 4 stState s)
  mapFlex n (fun f =>
    let g := { f with contract := none, trans := none, awaiting := false, offered := [], capsCount := 0, swap := none
                      swapWaits := 0, alertDue := false, reason := 4, hardResets := f.hardResets + bit sent }
    if f.role = .source then { g with hardFrom := some t, hardOff := false, hardVconn := f.vconn } else g.endMode) s

/-! ## Trips (R348, R354 to R357) -/

/-- Backoff after the k-th consecutive trip, in ms (R355). -/
def backoffMs (k : Nat) : Nat := 200 * 2 ^ min (k - 1) 5

/-- The port trips for a cause of R348: gates off, VCONN and the mode off, Open on CC, DISCH, the contract ended, the fault and
PD.EFUSE (R354), and the backoff or the latch (R355 to R357). -/
def trip (n cause : Nat) (s : State) : State :=
  let f := flexAt n s
  let trips := f.trips + 1
  let shorts := if cause = 2 then min 3 (f.shorts + 1) else f.shorts
  let latch := (cause == 2 && shorts == 3) || cause == 7
  let t := s.clk.tick
  let ms := backoffMs trips
  let mj := rampMj f.ramp
  let s := pdGone n s
  let s := mapFlex n (fun f =>
    { f.unpower.leave .open with
      disch := decide (cause ≠ 7), trips := trips, shorts := shorts, shortLast := cause == 2, latched := latch, absent := 0
      backoff := if latch then none else some (t + BitVec.ofNat 54 (ms * Config.tkPerMs)) }) s
  let s := raiseFault (BitVec.ofNat 12 (0o4100 + 0o20 * n + cause)) s
  let s := post 0o150705 [w18 (n + 1), w18 (bit f.fallback * 16 + cause), w18i (junction8 n f s), w18 mj,
    w18 (if latch then 0 else ms / 100)] s
  let s := if latch then post 0o151002 [w18 (n + 1), 1] s else s
  if (portOf n s).owned then detachTree n 0 true s
  else
    let s := mapPort n (fun p =>
      { p with usb2 := { p.usb2 with cOverCurrent := true }, usb3 := { p.usb3 with cOverCurrent := true } }) s
    wakeOnPort true n .overCurrent (wakeOnPort false n .overCurrent s)

/-- The latch or the backoff of a port ends: it returns to its role and reports a state of PD.EFUSE_STATE (R355, R357). -/
def rearm (n state : Nat) (s : State) : State :=
  let s := mapFlex n (fun f => { f with latched := false, backoff := none, absent := 0 }) s
  post 0o151002 [w18 (n + 1), w18 state] (settleCc n s)

/-- The latch ends and the counts clear (R356, R357). -/
def endLatch (n : Nat) (s : State) : State :=
  if (flexAt n s).latched then rearm n 2 (mapFlex n (fun f => { f with trips := 0, shorts := 0 }) s) else s

end Sys2Proof.Machine
end

