-- ==== Sys2Proof/Machine/EFuse.lean ====
section
/-!
DEFINITION. Port power, inrush and electronic fusing (16): the sample set of R343 with the thermal models (R346, R347), the trip
conditions (R348), ramps and hand-overs (R329, R350), fall-back (R352, R353), discharge and energy (R354, R360); the trip, backoff
and latch rows (R349, R355 to R357), and the power-fail warning (R361, R362).
-/

namespace Sys2Proof.Machine

open Sys2Proof

/-! ## The models (R346, R347) -/

/-- The coefficient of a pole, to 2^-24 (R346): RTH in 0.01 K/W, CTH in 0.1 mJ/K, a step of 10 microseconds. -/
def poleCoef (rth cth : Nat) : Int := roundDiv (fxRise (10 * fx / (rth * cth : Nat))) (2 ^ 56)

/-- One step of a pole held in 1/256 K with 24 more fraction bits (log 20); p is in units of 10 nW. -/
def poleStep (rth cth : Nat) (d : Nat) (p : Int) : Nat :=
  let goal : Int := p * rth * 2 ^ 32 / 10 ^ 10
  ((d : Int) + (goal - d) * poleCoef rth cth / 2 ^ 24).toNat

/-- Volts of the pairs' output node over Fn_VBUS_SNS by the shunt, in units of 10 microvolts. -/
def nodeOf (f : Flex) : Int := (f.vbus : Int) * 100 + f.iA

/-- The 5 V pair conducts: driven, or reverse-blocking with its rail above the output node (R329, R347). -/
def on5 (f : Flex) (vsrc5 : Nat) : Bool :=
  match f.gate5 with
  | .off => false
  | .linear => true
  | .full => true
  | .blocking => decide (nodeOf f ≤ (vsrc5 : Int) * 100 + (if (match f.trans with | some t => decide (5 < t.dst.volt) | none => false) then 2000 else 0))

/-- The VHI pair conducts. -/
def onH (f : Flex) : Bool := f.gateH == .linear || f.gateH == .full

/-- A pair voltage in units of 10 microvolts, at a current in mA (R343). -/
def pairVolts (rail : Nat) (f : Flex) (i : Int) : Int := (rail : Int) * 100 - ((f.vbus : Int) * 100 + i)

/-- The rail reading is implausible (R352). -/
def bad5 (v : Nat) : Bool := decide (v < 4000) || decide (6000 < v)

/-- VSRCH_SNS is outside VHI_V by 15 % (R352). -/
def badH (v vhi : Nat) : Bool := decide (v * 100 < vhi * 85000) || decide (vhi * 115000 < v * 100)

/-- The two current readings differ by more than 50 mA + 5 % of the larger (R352). -/
def differ (f : Flex) : Bool := decide (1000 + max f.iA.natAbs f.iB.natAbs < 20 * (f.iA - f.iB).natAbs)

/-- The sense balls of a port declared present read as grounded: its gate is in full enhancement, or a ramp has run for 100 sets, and
VBUS and both currents still read zero (R56; DEDUCED, log 44). -/
def grounded (f : Flex) : Bool :=
  (f.gate5 == .full || f.gateH == .full || (match f.ramp with | some r => decide (100 ≤ r.sets) | none => false))
    && f.vbus == 0 && f.iA == 0 && f.iB == 0

/-- An input of the model is implausible (R352), with the current disagreement already counted. -/
def implausible (f : Flex) (s : State) : Bool :=
  let low := fun (on : Bool) (rail : Nat) => on && decide (pairVolts rail f f.iA < -30000) && decide (100 < f.iA)
  decide (3 ≤ f.diffSets) || bad5 s.rails.vsrc5
    || (vhiV s != 0 && onH f && badH s.rails.vsrch (vhiV s))
    || low (on5 f s.rails.vsrc5) s.rails.vsrc5 || low (onH f) s.rails.vsrch || grounded f

/-- Inputs of the models: the current, and the rails, with the substitutes of R353 in fall-back. -/
def modelInputs (f : Flex) (s : State) : Int × Nat × Nat :=
  if f.fallback then
    (max f.iA f.iB, if bad5 s.rails.vsrc5 then 5000 else s.rails.vsrc5,
      if badH s.rails.vsrch (vhiV s) then 1000 * vhiV s else s.rails.vsrch)
  else (f.iA, s.rails.vsrc5, s.rails.vsrch)

/-- Dissipation of the two pairs in units of 10 nW, 0 when negative (R346, R347). -/
def pairPower (f : Flex) (s : State) : Nat × Nat :=
  let (i, r5, rh) := modelInputs f s
  ((if on5 f s.rails.vsrc5 then (pairVolts r5 f i * i).toNat else 0), (if onH f then (pairVolts rh f i * i).toNat else 0))

/-- Both models take one step (R346). -/
def stepModels (n : Nat) (s : State) (f : Flex) : Flex :=
  let (p5, ph) := pairPower f s
  let r1 := efuseParam n 1 s
  let c1 := efuseParam n 2 s
  let r2 := efuseParam n 3 s
  let c2 := efuseParam n 4 s
  { f with d1 := poleStep r1 c1 f.d1 p5, d2 := poleStep r2 c2 f.d2 p5, h1 := poleStep r1 c1 f.h1 ph, h2 := poleStep r2 c2 f.h2 ph }

/-- The energy of a set enters the port's counter; a residue below 1 mJ is carried (R360). -/
def addEnergy (s : State) (f : Flex) : Flex :=
  if f.iA ≤ 0 then f
  else
    let rail := if onH f ∧ s.rails.vsrc5 < f.vbus then s.rails.vsrch else s.rails.vsrc5
    let e := f.residue + rail * f.iA.toNat
    { f with energy := f.energy + BitVec.ofNat 36 (e / 100000000), residue := e % 100000000 }

/-! ## Ramps and hand-overs (R329, R350) -/

/-- The ramp adds its set's dissipation, and in fall-back the estimate (R353, R360). -/
def stepRamp (s : State) (f : Flex) : Flex :=
  match f.ramp with
  | none => f
  | some r =>
    let (p5, ph) := pairPower f s
    { f with ramp := some { r with sets := r.sets + 1, energy := r.energy + p5 + ph
                                   fbEnergy := if f.fallback then r.fbEnergy + max p5 ph else 0 } }

/-- The hand-over of a fall begins once VBUS has fallen to within 0.25 V of VSRC5_SNS (R329). -/
def fallReached (f : Flex) (s : State) : Bool := decide (f.vbus ≤ s.rails.vsrc5 + 250)

/-- VBUS is within 3 % of the target (R350). -/
def riseReached (f : Flex) (r : Ramp) : Bool :=
  decide (r.target * 97 ≤ f.vbus * 100) && decide (f.vbus * 100 ≤ r.target * 103)

/-- A ramp reaches its end: the gate goes to full enhancement, and in a transition the hand-over begins (R329, R350). -/
def finishRamp (s : State) (f : Flex) : Flex :=
  match f.ramp with
  | none => f
  | some r =>
    match f.trans with
    | some t =>
      if t.begun && !t.same then
        if t.dst.volt = 5 then
          (if fallReached f s then { f with ramp := none, gate5 := .blocking, disch := false, trans := some { t with hand := some 0 } } else f)
        else if riseReached f r then { f with ramp := none, gateH := .full, trans := some { t with hand := some 0 } } else f
      else if riseReached f r then { f with ramp := none, gate5 := .full } else f
    | none => if riseReached f r then { f with ramp := none, gate5 := .full } else f

/-- The hand-over of a transition (R329): reverse-blocking turns the 5 V pair off as the node rises above its rail, and 1 ms after the
ramp the pair of the new voltage carries the load alone. -/
def stepHand (s : State) (f : Flex) : Flex :=
  match f.trans with
  | none => f
  | some t =>
    if !t.begun || t.same then f
    else
      let rise := decide (5 < t.dst.volt)
      let f := if rise && f.gate5 == .blocking && decide ((s.rails.vsrc5 : Int) * 100 + 2000 < nodeOf f) then { f with gate5 := .off } else f
      match t.hand with
      | none => f
      | some k =>
        let f := { f with trans := some { t with hand := some (k + 1) } }
        if k + 1 = 100 then (if rise then { f with gate5 := .off } else { f with gate5 := .full, gateH := .off }) else f

/-- RAMP_SLEW in mV/ms. -/
def slewOf (n : Nat) (s : State) : Nat := max 1 (efuseParam n 8 s)

/-- DISCH of a fall while VBUS lags the ramp by more than 0.5 V (R329). -/
def stepLag (n : Nat) (s : State) (f : Flex) : Flex :=
  match f.ramp, f.trans with
  | some r, some t =>
    if t.begun && !t.same && t.dst.volt == 5 then
      { f with disch := decide (r.start - slewOf n s * r.sets / 100 + 500 < f.vbus) }
    else f
  | _, _ => f

/-! ## Limits (R348) -/

/-- A gate is on. -/
def anyOn (f : Flex) (s : State) : Bool := on5 f s.rails.vsrc5 || onH f

/-- The counts of consecutive sets over a limit (R348). -/
def stepCounts (n : Nat) (s : State) (f : Flex) : Flex :=
  let (p5, ph) := pairPower f s
  let oc := anyOn f s && decide ((efuseParam n 11 s * ilim f : Int) < 4 * f.iA)
  let fb := f.fallback && decide (efuseParam n 13 s * 10000000 < max p5 ph)
  { f with ocSets := if oc then f.ocSets + 1 else 0, fbSets := if fb then f.fbSets + 1 else 0 }

/-- A ramp is not complete 20 ms after its nominal duration (R348, R350). -/
def rampLate (n : Nat) (f : Flex) (s : State) : Bool :=
  match f.ramp with
  | some r => decide (((r.target : Int) - r.start).natAbs * 100 / slewOf n s + 2000 < r.sets)
  | none => false

/-- The first condition of R348 that a sample set meets; the comparator of cause 2 has a row of its own. -/
def tripCause (n : Nat) (f : Flex) (s : State) : Option Nat :=
  let energy := match f.ramp with | some r => r.fbEnergy | none => 0
  if !f.fallback && anyOn f s && decide ((efuseParam n 6 s : Int) * 256 ≤ junction n f s) then some 1
  else if efuseParam n 12 s * 100 ≤ f.ocSets then some 3
  else if f.fallback && decide (100 ≤ f.fbSets) then some 4
  else if f.fallback && decide (efuseParam n 14 s * 10000000000 < energy) then some 5
  else if rampLate n f s then some 6
  else if f.disch && f.ramp.isNone && decide (5000 ≤ f.dischSets) then some 7
  else none

/-! ## Discharge, removal and recovery -/

/-- DISCH is held until VBUS is below 0.8 V (R320, R354). -/
def stepDischarge (f : Flex) : Flex :=
  if f.disch && f.ramp.isNone then
    (if f.vbus < 800 then { f with disch := false, dischSets := 0 } else { f with dischSets := f.dischSets + 1 })
  else f

/-- Step 4 of R332: VBUS is below 0.8 V after a removal during a transition. -/
def finishRemoval (n : Nat) (s : State) : State :=
  let f := flexAt n s
  match f.removed with
  | some (power, mj) =>
    if f.disch then s else settleCc n (mapFlex n (fun f => f.leave .open) (postDetach n power mj (pdGone n s)))
  | none => s

/-- The timed steps of a Hard_Reset on a Source (R324): off after tPSHardReset, and on again after tSrcRecover. -/
def stepHardReset (n : Nat) (s : State) : State :=
  let f := flexAt n s
  match f.hardFrom with
  | none => s
  | some t =>
    if !f.hardOff then
      (if 30 * Config.tkPerMs ≤ since t s then
        mapFlex n (fun f => { f.unpower.endMode with hardOff := true, vconn := false }) s
      else s)
    else if 830 * Config.tkPerMs ≤ since t s && !f.disch then
      mapFlex n (fun f => { f.rampUp with hardFrom := none, hardOff := false, vconn := f.hardVconn, hardVconn := false, capsCount := 0 }) s
    else s

/-- ErrorRecovery ends after tErrorRecovery: the port is Unattached (R324). -/
def stepErrorRecovery (n : Nat) (s : State) : State :=
  match (flexAt n s).errorFrom with
  | some t =>
    if 30 * Config.tkPerMs ≤ since t s then pdGone n (settleCc n (mapFlex n (fun f => { f with errorFrom := none }) s)) else s
  | none => s

/-- The tick since which VBUS has been held at the contract voltage (R356). -/
def stepSteady (s : State) (f : Flex) : Flex :=
  let held := (f.gate5 == .full || f.gateH == .full) && f.ramp.isNone && (match f.trans with | some t => !t.begun || t.same | none => true)
  { f with steadyFrom := if held then some (f.steadyFrom.getD s.clk.tick) else none }

/-- A port enters fall-back (R352). -/
def enterFallback (n : Nat) (s : State) : State :=
  let s := mapFlex n (fun f => { f with fallback := true, fbSets := 0 }) s
  raiseFault (BitVec.ofNat 12 (0o4110 + 0o20 * n)) (post 0o151002 [w18 (n + 1), 3] s)

/-- One port's part of a sample set (R343, R346 to R354, R360). -/
def portSet (s : State) (n : Nat) : State :=
  let s := mapFlex n (fun f => { f with diffSets := if differ f then f.diffSets + 1 else 0 }) s
  let f := flexAt n s
  let s := if anyOn f s && !f.fallback && implausible f s then enterFallback n s else s
  let s := mapFlex n (fun f => stepCounts n s (addEnergy s (stepRamp s (stepModels n s f)))) s
  match tripCause n (flexAt n s) s with
  | some c => trip n c s
  | none =>
    let s := mapFlex n (fun f => stepLag n s (stepHand s (finishRamp s (stepDischarge f)))) s
    stepErrorRecovery n (stepHardReset n (finishRemoval n (mapFlex n (stepSteady s) s)))

/-- VSRCH_SNS leaves or returns to VHI_V by 5 %: PDO2 is withheld, and the fault is raised once (R325). -/
def checkVhi (s : State) : State :=
  let v := 1000 * vhiV s
  let bad := decide (v ≠ 0) && (decide (s.rails.vsrch * 100 < v * 95) || decide (v * 105 < s.rails.vsrch * 100))
  let was := s.rails.vhiBad
  let s := { s with rails := { s.rails with vhiBad := bad } }
  if bad && !was then raiseFault 0o4060 s else s

/-- A sample set: the readings, then each fitted port in order (R343). -/
def sampleSet (a : AdcSet) (s : State) : State :=
  let s := { s with rails := { s.rails with vsrc5 := a.vsrc5, vsrch := a.vsrch, vin := a.vin } }
  let s := (List.range 4).foldl (fun s n =>
    mapFlex n (fun f => { f with iA := a.iA.getD n 0, iB := a.iB.getD n 0, vbus := a.vbus.getD n 0 }) s) s
  let s := if s.cfg.active.isSome then checkVhi s else s
  (List.range 4).foldl portSet s

/-- ADC_SAMPLE_SET (R343): the PORT cluster converts in every state but HIBERNATE. -/
def execAdcSampleSet (a : AdcSet) (s : State) : Result :=
  if a.iA.length = 4 ∧ a.iB.length = 4 ∧ a.vbus.length = 4 then
    effect (fun s => if s.pwr.state = .hibernate then s else sampleSet a s) s
  else .fault (.illFormed "ADC_SAMPLE_SET without four readings of each kind")

/-! ## Trip, backoff and latch rows -/

/-- SHORT_TRIP (R349): the current crosses SHORT_I within the comparator's accuracy. -/
def execShortTrip (n : FlexPort) (current : Nat) (s : State) : Result :=
  effect (fun s =>
    let lim := shortI n.val s
    if s.pwr.state ≠ .hibernate ∧ anyOn (flexAt n.val s) s ∧ lim ≤ current + max (lim / 10) 100 then trip n.val 2 s else s) s

/-- Both models are at or below TJ_REARM (R355). -/
def cooled (n : Nat) (s : State) : Bool := decide (junction n (flexAt n s) s ≤ efuseTemp n 7 s * 256)

/-- BACKOFF_EXPIRY (R355). -/
def execBackoffExpiry (n : FlexPort) (s : State) : Result :=
  effect (fun s =>
    match (flexAt n.val s).backoff with
    | some t => if t.toNat ≤ s.clk.tick.toNat ∧ cooled n.val s then rearm n.val 0 s else s
    | none => s) s

/-- LATCH_PROBE (R357). -/
def execLatchProbe (n : FlexPort) (rd : Bool) (s : State) : Result :=
  effect (fun s =>
    let f := flexAt n.val s
    if !f.latched then s
    else if rd then (if 3 ≤ f.absent then endLatch n.val s else mapFlex n.val (fun f => { f with absent := 0 }) s)
    else mapFlex n.val (fun f => { f with absent := f.absent + 1 }) s) s

/-- CONSEC_CLEAR (R356). -/
def execConsecClear (n : FlexPort) (s : State) : Result :=
  effect (fun s =>
    match (flexAt n.val s).steadyFrom with
    | some t => if efuseParam n.val 15 s * Config.tkPerS ≤ since t s then
        mapFlex n.val (fun f => { f with trips := 0, shorts := 0 }) s else s
    | none => s) s

/-! ## Power-fail warning (R341, R361, R362) -/

/-- PFAIL_TH (R126). -/
def pfailTh (s : State) : Nat := boardParam 4 0 s

/-- The Alert of a change of the warning goes to a port with a revision 3.x contract, after a sequence in progress (R340, R362). -/
def alertPort (s : State) (n : Nat) : State :=
  let f := flexAt n s
  if f.role = .source ∧ f.contract.isSome ∧ f.rev3 then
    (if f.trans.isSome ∨ f.swap.isSome ∨ f.awaiting then mapFlex n (fun f => { f with alertDue := true }) s
     else emit (.pd n (.alert 0x20000000)) s)
  else s

/-- The warning changes (R362): Alerts, and PD.PFAIL at once in RUN and DOZE, after the wake in SLEEP. -/
def setPfail (on : Bool) (s : State) : State :=
  let s := (List.range 4).foldl alertPort { s with rails := { s.rails with pfail := on } }
  if awake s then post 0o151101 [w18 (bit on)] s else { s with rails := { s.rails with pfailSleep := some on } }

/-- PFAIL_WARN_ASSERT (R361): VIN_SNS falls below PFAIL_TH. -/
def execPfailWarnAssert (vin : BitVec 12) (s : State) : Result :=
  effect (fun s =>
    if pfailTh s ≠ 0 ∧ vin.toNat < pfailTh s ∧ s.pwr.state ≠ .hibernate ∧ s.rails.pfail = false then setPfail true s else s) s

/-- PFAIL_WARN_RELEASE (R361): VIN_SNS, as the last sample set read it (DESIGN CHOICE, log 46), has stayed above the threshold and its
hysteresis of 20 mV (R55) for 100 ms. -/
def execPfailWarnRelease (s : State) : Result :=
  effect (fun s =>
    if s.rails.pfail = true ∧ s.pwr.state ≠ .hibernate ∧ (pfailTh s = 0 ∨ 1200 * pfailTh s + 20 * 4096 < 1200 * s.rails.vin) then
      setPfail false s
    else s) s

end Sys2Proof.Machine
end

