-- ==== Sys2Proof/Machine/Pd.lean ====
section
/-!
DEFINITION. Type-C and Power Delivery (15): attach and detach (R313, R316, R319 to R321, R323), Requests and contracts (R326, R329),
renegotiation and resets (R324, R328), VCONN (R333 to R335), the alive-loop mode (R336 to R339), the other messages (R341), the loss
of upstream B's partner (R321), and the PD commands (R342).
-/

namespace Sys2Proof.Machine

open Sys2Proof

/-! ## Attach and detach -/

/-- PD.ATTACH (R342). -/
def postAttach (n role : Nat) (cc2 : Bool) (s : State) : State := post 0o150102 [w18 (n + 1), w18 (bit cc2 * 8 + role)] s

/-- The port waits for a partner, presenting a termination. -/
def waiting (n : Nat) (cc : CcState) (s : State) : Bool :=
  let f := flexAt n s
  flexRuns s && ccAllowed n s && f.role == .unattached && f.cc == cc

/-- VCONN may be supplied by the port (R126, R333). -/
def vconnPort (n : Nat) (s : State) : Bool := bitOf (boardParam 7 0o17 s) n

/-- CC_ATTACH (R319): Rd on one CC line for tCCDebounce. -/
def execCcAttach (n : FlexPort) (cc2 ra pd : Bool) (s : State) : Result :=
  effect (fun s =>
    if waiting n.val .rp s && flexRole n.val s != 2 then
      let v := ra && vconnPort n.val s
      let s := mapFlex n.val (fun f =>
        { f.rampUp with role := .source, trySince := none, cc2 := cc2, pd := pd, vconn := v, rp := rpLevel f.alloc, steadyFrom := none }) s
      postAttach n.val 1 cc2 s
    else s) s

/-- Try.SRC runs: less than tDRPTry, 100 ms, has passed since it began (R316, R318). -/
def trying (n : Nat) (s : State) : Bool :=
  match (flexAt n s).trySince with | some t => decide (since t s < 100 * Config.tkPerMs) | none => false

/-- Try.SRC is enabled on a DRP port, and has not been run on the partner that the port meets (R315, R316). -/
def triesSource (n : Nat) (s : State) : Bool :=
  flexRole n s == 1 && bitOf (param 320 7 0 s) n && (flexAt n s).trySince.isNone

/-- DRP_TOGGLE (R316): the port changes between Rp and Rd; not during Try.SRC, after which it presents Rd again. -/
def execDrpToggle (n : FlexPort) (s : State) : Result :=
  effect (fun s =>
    if flexRuns s && ccAllowed n.val s && flexRole n.val s == 1 && (flexAt n.val s).role == .unattached && !trying n.val s then
      mapFlex n.val (fun f =>
        if f.cc = .rp then { f with cc := .rd } else { f with cc := .rp, trySince := none }) s
    else s) s

/-- SINK_ATTACH (R316, R323): on upstream B, or on a DRP port, which is refused; with Try.SRC enabled, a DRP port presents Rp for
tDRPTry first. -/
def execSinkAttach (n : FlexPort) (cc2 pd : Bool) (s : State) : Result :=
  effect (fun s =>
    if waiting n.val .rd s && triesSource n.val s then
      mapFlex n.val (fun f => { f with cc := .rp, trySince := some s.clk.tick }) s
    else if waiting n.val .rd s then
      let b := flexRole n.val s == 2
      let s := mapFlex n.val (fun f => { f with role := if b then .sinkB else .sinkRefused, trySince := none, cc2 := cc2, pd := pd }) s
      postAttach n.val (if b then 2 else 3) cc2 s
    else s) s

/-- ACCESSORY_REFUSED (R313): neither VBUS nor VCONN. -/
def execAccessoryRefused (n : FlexPort) (s : State) : Result :=
  effect (fun s =>
    let f := flexAt n.val s
    if flexRuns s && ccAllowed n.val s && f.role == .unattached then
      postAttach n.val 4 false (mapFlex n.val (fun f => { f with role := .accessory }) s)
    else s) s

/-- A transition has begun and is not over (R329, R332). -/
def inTransition (f : Flex) : Bool := match f.trans with | some t => t.begun && !t.same | none => false

/-- CC_DETACH (R320); R332 replaces it during a transition. -/
def execCcDetach (n : FlexPort) (s : State) : Result :=
  effect (fun s =>
    let f := flexAt n.val s
    if flexRuns s && (f.role == .source || f.role == .accessory) && !inTransition f && f.removed.isNone then sourceDetach n.val s
    else s) s

/-- REMOVAL_DURING_TRANSITION (R332): gates down and VCONN off at once; the rest follows when VBUS is below 0.8 V. -/
def execRemovalDuringTransition (n : FlexPort) (s : State) : Result :=
  effect (fun s =>
    let f := flexAt n.val s
    if flexRuns s && inTransition f && f.removed.isNone then
      mapFlex n.val (fun f => { f.unpower with vconn := false, removed := some (flexPower f, rampMj f.ramp) }) s
    else s) s

/-! ## Requests and contracts -/

/-- The partner has spoken: its first message fixes the revision (R314). -/
def hear (n : Nat) (rev2 : Bool) (s : State) : State :=
  mapFlex n (fun f => if f.spoken then f else { f with spoken := true, rev3 := !rev2 }) s

/-- The partner speaks PD and is heard. -/
def heard (n : Nat) (s : State) : Bool :=
  let f := flexAt n s
  flexRuns s && f.pd && (f.role == .source || f.role == .sinkB || f.role == .sinkRefused) && f.removed.isNone

/-- SOURCE_CAPABILITIES_REPEAT (R319): within vSafe5V, before a contract, at most nCapsCount times. -/
def execSourceCapabilitiesRepeat (n : FlexPort) (goodCrc : Bool) (s : State) : Result :=
  effect (fun s =>
    let f := flexAt n.val s
    if flexRuns s && f.role == .source && f.ramp.isNone && f.gate5 == .full && f.contract.isNone && f.trans.isNone
        && !f.awaiting && f.hardFrom.isNone && decide (f.capsCount < 50) then
      sendCaps n.val f.reason (goodCrc && f.pd) s
    else s) s

/-- The offered PDO that a Request names and may take (R326). -/
def acceptable (f : Flex) (r : PdRequest) : Option Nat :=
  if r.objPos = 0 then none
  else match f.offered[r.objPos - 1]? with
    | some (v, i) => if r.maxCur ≤ i then some v else none
    | none => none

/-- Voltage in force: the contract's, or 5 V. -/
def voltNow (f : Flex) : Nat := match f.contract with | some c => c.volt | none => 5

/-- A Request is answered (R326, R329): Wait during a transition, Accept within the offer, else Reject. -/
def takeRequest (n : Nat) (r : PdRequest) (s : State) : State :=
  let f := flexAt n s
  if f.trans.isSome then emit (.pd n .wait) s
  else
    match acceptable f r with
    | some v =>
      let t : Trans :=
        { dst := ⟨v, r.maxCur, r.mismatch⟩, reason := if f.awaiting || f.contract.isNone then f.reason else 1
          begun := false, same := v == voltNow f }
      emit (.pd n .accept) (mapFlex n (fun f => { f with trans := some t, awaiting := false }) s)
    | none => emit (.pd n .reject) s

/-- PD_REQUEST (R326). -/
def execPdRequest (n : FlexPort) (r : PdRequest) (s : State) : Result :=
  effect (fun s =>
    let f := flexAt n.val s
    if heard n.val s && f.role == .source && f.hardFrom.isNone && !f.offered.isEmpty then takeRequest n.val r (hear n.val r.rev2 s) else s) s

/-- VOLTAGE_TRANSITION (R329 step 1): the gates begin the ramp to the new voltage. -/
def execVoltageTransition (n : FlexPort) (s : State) : Result :=
  effect (fun s =>
    let f := flexAt n.val s
    match f.trans with
    | some t =>
      if flexRuns s && !t.begun && !t.same then
        mapFlex n.val (fun f =>
          { f with trans := some { t with begun := true }
                   gateH := .linear
                   gate5 := if 5 < t.dst.volt then .blocking else .off
                   ramp := some { start := f.vbus, target := 1000 * t.dst.volt, sets := 0, energy := 0, fbEnergy := 0 } }) s
      else s
    | none => s) s

/-- What the port deferred until the sequence in progress ended (R340, R341): Alert, then its own VCONN_Swap. -/
def startDeferred (n : Nat) (s : State) : State :=
  let f := flexAt n s
  if f.alertDue then emit (.pd n (.alert 0x20000000)) (mapFlex n (fun f => { f with alertDue := false }) s)
  else if f.swap.isSome then emit (.pd n .vconnSwap) s
  else s

/-- PS_RDY may be sent: the transition's hand-over is over, or the voltage stays (R329). -/
def psReady (t : Trans) : Bool := t.same || (match t.hand with | some k => decide (100 ≤ k) | none => false)

/-- PD_CONTRACT (R329): PS_RDY, the new contract and its limits, PD.CONTRACT, and discovery after the first contract (R336). -/
def execPdContract (n : FlexPort) (s : State) : Result :=
  effect (fun s =>
    let f := flexAt n.val s
    match f.trans with
    | some t =>
      if flexRuns s && psReady t && f.removed.isNone then
        let auto := f.contract.isNone && bitOf (param 321 12 0o17 s) n.val
        let s := emit (.pd n.val .psRdy) s
        let s := mapFlex n.val (fun f =>
          { f with contract := some t.dst, trans := none, hardResets := 0, reason := 1, rp := if f.rev3 then 2 else f.rp
                   discover := f.discover || auto }) s
        let s := post 0o150304 [w18 (n.val + 1), w18 t.dst.volt, w18 t.dst.cur, w18 (bit t.dst.mismatch * 8 + t.reason)] s
        startDeferred n.val (pdDoneIf n.val 5 stOk s)
      else s
    | none => s) s

/-! ## The budget (R328) -/

/-- PRIO of a flex port (R327). -/
def prioOf (n : Nat) (s : State) : Nat := param 321 (n + 1) 0 s

/-- The allocation is below the contract power, and no sequence runs. -/
def fallsShort (n : Nat) (s : State) : Bool :=
  let f := flexAt n s
  f.role == .source && f.contract.isSome && f.trans.isNone && !f.awaiting && decide (f.alloc < contractPower f)

/-- The allocation allows more than was offered to a port that would take it, once a second (R328). -/
def mayRise (n : Nat) (s : State) : Bool :=
  let f := flexAt n s
  let more := pdosOf n s != f.offered && decide ((f.offered.map (·.2)).sum < ((pdosOf n s).map (·.2)).sum)
  let wants := (match f.contract with | some c => c.mismatch | none => false) || f.offered.any (fun o => decide (o.2 < 300))
  f.role == .source && f.contract.isSome && f.trans.isNone && !f.awaiting && more && wants
    && decide (Config.tkPerS ≤ since f.capsTick s)

/-- Ports ahead of a port when allocations fall: lower PRIO, then the higher port number (R328). -/
def aheadDown (n m : Nat) (s : State) : Bool := decide (prioOf m s < prioOf n s) || (prioOf m s == prioOf n s && decide (n < m))

/-- The port's turn to renegotiate has come (R328). -/
def renegotiates (n : Nat) (s : State) : Bool :=
  let down := (List.range 4).filter (fun m => fallsShort m s)
  let up := (List.range 4).filter (fun m => mayRise m s)
  if fallsShort n s then down.all (fun m => m == n || !aheadDown n m s)
  else down.isEmpty && mayRise n s && up.all (fun m => decide (prioOf m s ≤ prioOf n s))

/-- BUDGET_RENEGOTIATION (R328): Rp shows SinkTxNG while the device runs its sequence (R322). -/
def execBudgetRenegotiation (n : FlexPort) (s : State) : Result :=
  effect (fun s =>
    if awake s && fwRuns s && renegotiates n.val s then
      sendCaps n.val 2 true (mapFlex n.val (fun f => { f with rp := if f.rev3 then 1 else f.rp }) s)
    else s) s

/-! ## Resets (R324) -/

/-- SENDER_RESPONSE_TIMEOUT (R328): no valid Request, so Hard_Reset, at most nHardResetCount times. -/
def execSenderResponseTimeout (n : FlexPort) (s : State) : Result :=
  effect (fun s =>
    let f := flexAt n.val s
    if flexRuns s && f.role == .source && f.awaiting && decide (f.hardResets < 2) then hardReset n.val true s else s) s

/-- HARD_RESET_RECEIVED (R324). -/
def execHardResetReceived (n : FlexPort) (s : State) : Result :=
  effect (fun s => if heard n.val s then hardReset n.val false s else s) s

/-- ERROR_RECOVERY (R324): after nHardResetCount Hard_Resets the partner still fails to respond. -/
def execErrorRecovery (n : FlexPort) (s : State) : Result :=
  effect (fun s =>
    let f := flexAt n.val s
    if flexRuns s && f.role == .source && f.awaiting && decide (2 ≤ f.hardResets) then
      let t := s.clk.tick
      let s := post 0o150602 [w18 (n.val + 1), 3] s
      mapFlex n.val (fun f => { f.unpower.leave .open with errorFrom := some t }) s
    else s) s

/-! ## Sink ports (R321, R323) -/

/-- A Sink's partner is gone (R321): the contract ends, VCONN is removed, and PD.DETACH is posted. -/
def sinkLeaves (n : Nat) (s : State) : State :=
  let f := flexAt n s
  let s := postDetach n (flexPower f) 0 (pdGone n s)
  settleCc n (mapFlex n (fun f => f.leave .open) s)

/-! ## VCONN (R333 to R335) -/

/-- PD.VCONN (R342). -/
def postVconn (n : Nat) (merged oc : Bool) (s : State) : State :=
  post 0o150402 [w18 (n + 1), w18 (bit oc * 4 + bit merged * 2 + bit (flexAt n s).vconn)] s

/-- A partner's request that turns VCONN over is allowed (R333, R334). -/
def swapAllowed (n : Nat) (s : State) : Bool :=
  let f := flexAt n s
  if f.vconn then true
  else vconnPort n s && !f.vconnTrip && (!f.vconnWasSink || bitOf (param 321 10 0o17 s) n)

/-- VCONN changes hands; a swap away ends with the partner's PS_RDY, or with a Hard_Reset (R334). -/
def turnVconn (n : Nat) (psRdy : Bool) (s : State) : State × Bool :=
  if (flexAt n s).vconn then
    (if psRdy then (mapFlex n (fun f => { f with vconn := false, vconnWasSink := true }) s, true) else (hardReset n true s, false))
  else (emit (.pd n .psRdy) (mapFlex n (fun f => { f with vconn := true }) s), true)

/-- The partner's VCONN_Swap (R333 to R335), merging with the device's own pending request. -/
def partnerSwap (n : Nat) (psRdy : Bool) (s : State) : State :=
  let f := flexAt n s
  if s.pwr.state = .sleep ∨ f.trans.isSome then emit (.pd n .wait) s
  else
    let own := f.swap
    let s := mapFlex n (fun f => { f with swap := none, swapWaits := 0 }) s
    let (s, turned) := if swapAllowed n s then turnVconn n psRdy (emit (.pd n .accept) s) else (emit (.pd n .reject) s, false)
    match own with
    | some dst =>
      let s := postVconn n true false s
      pdDoneIf n 3 (if (flexAt n s).vconn = dst then stOk else stState) s
    | none => if turned then postVconn n false false s else s

/-- The partner's answer to the device's own VCONN_Swap (R334, R342). -/
def ownSwap (n : Nat) (answer : Answer) (psRdy : Bool) (s : State) : State :=
  let f := flexAt n s
  let ends := fun (s : State) => mapFlex n (fun f => { f with swap := none, swapWaits := 0 }) s
  match answer with
  | .ack =>
    let (s, turned) := turnVconn n psRdy (ends s)
    if turned then pdDoneIf n 3 stOk (postVconn n false false s) else pdDoneIf n 3 stTimeout s
  | .nak => pdDoneIf n 3 stState (ends s)
  | .none => pdDoneIf n 3 stTimeout (ends s)
  | .wait =>
    if 3 ≤ f.swapWaits + 1 then pdDoneIf n 3 stTimeout (ends s)
    else emit (.pd n .vconnSwap) (mapFlex n (fun f => { f with swapWaits := f.swapWaits + 1 }) s)

/-- VCONN_SWAP (R334). -/
def execVconnSwap (n : FlexPort) (own : Bool) (answer : Answer) (psRdy : Bool) (s : State) : Result :=
  effect (fun s =>
    let f := flexAt n.val s
    if !heard n.val s then s
    else if own then (if f.swap.isSome && f.trans.isNone then ownSwap n.val answer psRdy s else s)
    else partnerSwap n.val psRdy s) s

/-- VCONN_OVER_CURRENT (R333): the switch opens, and VCONN stays off until detach. -/
def execVconnOverCurrent (n : FlexPort) (s : State) : Result :=
  effect (fun s =>
    if s.pwr.state ≠ .hibernate ∧ (flexAt n.val s).vconn then
      let s := mapFlex n.val (fun f => { f with vconn := false, vconnTrip := true }) s
      postVconn n.val false true (raiseFault 0o4040 s)
    else s) s

/-! ## Messages (R341) -/

/-- Modelled FET temperature in degC, 0 below 0 (R341). -/
def statusTemp (n : Nat) (s : State) : Nat := (junction n (flexAt n s) s / 256).toNat

/-- GET_STATUS (R341). -/
def execGetStatus (n : FlexPort) (s : State) : Result :=
  effect (fun s =>
    let f := flexAt n.val s
    if !heard n.val s then s
    else if f.role = .source ∧ f.rev3 then emit (.pd n.val (.status (!s.rails.pfail) (statusTemp n.val s))) s
    else emit (.pd n.val (refusal f)) s) s

/-- A structured VDM that the device does not serve: BUSY in SLEEP, else NAK to the same command (R333, R337). -/
def vdmRefusal (svid : Nat) (command : Nat) (s : State) : PdOut :=
  if s.pwr.state = .sleep then .vdmBusy else .vdm (BitVec.ofNat 32 (svid * 65536 + 0xA080 + command % 32)) []

/-- A message to a Source port (R341). -/
def sourceMessage (n : Nat) (m : PdMsg) (s : State) : State :=
  let f := flexAt n s
  match m with
  | .getSourceCap => if f.trans.isSome then s else sendCaps n 1 true s
  | .getSinkCap => emit (.pd n (refusal f)) s
  | .prSwap => emit (.pd n (refusal f)) s
  | .drSwap => emit (.pd n (refusal f)) s
  | .frSwap => emit (.pd n (refusal f)) s
  | .getRevision => emit (.pd n .revision) s
  | .bistCarrier => emit (.pd n .bist) s
  | .bistTest => emit (.pd n .bist) s
  | .softReset =>
    let s := if f.swap.isSome then pdDoneIf n 3 stTimeout s else s
    let s := mapFlex n (fun f => { f with awaiting := false, trans := if inTransition f then f.trans else none, swap := none }) s
    let s := emit (.pd n .accept) s
    if inTransition f then s else sendCaps n 3 true s
  | .vdm svid header _ => emit (.pd n (vdmRefusal svid.toNat header.toNat s)) s
  | .other => emit (.pd n (refusal f)) s
  | .alert => s
  | .status => s
  | .goodCrc => s
  | .sourceCaps => s
  | .accept => s
  | .reject => s
  | .wait => s
  | .psRdy => s
  | .notSupported => s

/-- A message to a Sink port (R323, R341). -/
def sinkMessage (n : Nat) (m : PdMsg) (s : State) : State :=
  let f := flexAt n s
  match m with
  | .sourceCaps => emit (.pd n (.request 0x1300280A)) s
  | .getSinkCap => emit (.pd n (.sinkCapabilities 0x0C01900A)) s
  | .getSourceCap => emit (.pd n (refusal f)) s
  | .prSwap => emit (.pd n (refusal f)) s
  | .drSwap => emit (.pd n (refusal f)) s
  | .frSwap => emit (.pd n (refusal f)) s
  | .status => emit (.pd n (refusal f)) s
  | .getRevision => emit (.pd n .revision) s
  | .bistCarrier => emit (.pd n .bist) s
  | .bistTest => emit (.pd n .bist) s
  | .softReset =>
    let s := if f.swap.isSome then pdDoneIf n 3 stTimeout s else s
    emit (.pd n .accept) (mapFlex n (fun f => { f with swap := none }) s)
  | .psRdy => pdDoneIf n 5 stOk (mapFlex n (fun f => { f with contract := some ⟨5, 10, false⟩, hardResets := 0 }) s)
  | .vdm svid header _ => emit (.pd n (vdmRefusal svid.toNat header.toNat s)) s
  | .other => emit (.pd n (refusal f)) s
  | .alert => s
  | .goodCrc => s
  | .accept => s
  | .reject => s
  | .wait => s
  | .notSupported => s

/-- PD_MESSAGE (R341). -/
def execPdMessage (n : FlexPort) (rev2 : Bool) (m : PdMsg) (s : State) : Result :=
  effect (fun s =>
    if !heard n.val s then s
    else
      let s := hear n.val rev2 s
      if (flexAt n.val s).hardFrom.isSome then s
      else if (flexAt n.val s).role = .source then sourceMessage n.val m s
      else sinkMessage n.val m s) s

/-- DISCOVER_IDENTITY (R337): a structured VDM on upstream B. -/
def execDiscoverIdentity (svid : BitVec 16) (command : BitVec 5) (s : State) : Result :=
  effect (fun s =>
    match upstreamB s with
    | some n =>
      if heard n s && (flexAt n s).role == .sinkB then
        (if s.pwr.state ≠ .sleep ∧ svid = 0xFF00 ∧ command = 1 then emit (.pd n (.vdm 0xFF00A041 [0x48002F5A, 0, 0x18130420])) s
         else emit (.pd n (vdmRefusal svid.toNat command.toNat s)) s)
      else s
    | none => s) s

/-! ## Alive-loop mode (R336 to R339) -/

/-- ALT_SVID (R327). -/
def altSvid (s : State) : Nat := param 321 11 12122 s

/-- The VDMs that discovery sends, up to the step that fails: their headers, and the status of the command (R336, R337). -/
def discovery (a : AltAnswers) (svid : Nat) : List (BitVec 32) × Nat :=
  let h := fun (sv low : Nat) => BitVec.ofNat 32 (sv * 65536 + low)
  let fail := fun (x : Answer) => if x = .none then stTimeout else stBadParam
  let m1 := [h 0xFF00 0xA001]
  let m2 := m1 ++ [h 0xFF00 0xA002]
  let m3 := m2 ++ [h svid 0xA003]
  let m4 := m3 ++ [h svid 0xA104]
  if a.identity ≠ .ack then (m1, fail a.identity)
  else if a.svids ≠ .ack then (m2, fail a.svids)
  else if !a.hasSvid then (m2, stBadParam)
  else if a.modes ≠ .ack then (m3, fail a.modes)
  else if a.modeVdo ≠ 1 then (m3, stBadParam)
  else if a.enter ≠ .ack then (m4, fail a.enter)
  else (m4, stOk)

/-- PD.ALT_MODE (R342). -/
def postAlt (n state : Nat) (s : State) : State := post 0o150502 [w18 (n + 1), w18 state] s

/-- ALT_MODE_LOOP_START (R336, R338): discovery runs, and after the GoodCRC of the Enter Mode ACK SBU switches to the loop. -/
def execAltModeLoopStart (n : FlexPort) (a : AltAnswers) (s : State) : Result :=
  effect (fun s =>
    let f := flexAt n.val s
    if heard n.val s && awake s && f.role == .source && f.contract.isSome && f.trans.isNone && f.discover then
      let (sent, st) := discovery a (altSvid s)
      let s := sent.foldl (fun s h => emit (.pd n.val (.vdm h [])) s) s
      let ok := st == stOk
      let s := mapFlex n.val (fun f => { f with discover := false, altMode := f.altMode || ok, loop := f.loop || ok }) s
      pdDoneIf n.val 4 st (postAlt n.val (if ok then 1 else 2) s)
    else s) s

/-- FAULT_RETURN_ASSERTED (R338): the pin low for 2 ms, or an Attention with fault active. -/
def execFaultReturnAsserted (n : FlexPort) (attention : Bool) (s : State) : Result :=
  effect (fun s =>
    let f := flexAt n.val s
    if flexRuns s && f.altMode && (f.loop || attention) && !f.faultRet then
      let s := mapFlex n.val (fun f => { f with faultRet := true }) s
      raiseFault 0o4041 (postAlt n.val 3 s)
    else s) s

/-- FAULT_RETURN_RELEASED (R338): the pin high for 2 ms, or an Attention with fault clear. -/
def execFaultReturnReleased (n : FlexPort) (attention : Bool) (s : State) : Result :=
  effect (fun s =>
    let f := flexAt n.val s
    if flexRuns s && f.altMode && (f.loop || attention) && f.faultRet then
      postAlt n.val 4 (mapFlex n.val (fun f => { f with faultRet := false }) s)
    else s) s

/-- Fn_SBU1 carries the alive wave (R338, R339): low under a missing kick or in safe state with SBU_STOP_EN. -/
def sbuWave (n : Nat) (s : State) : Bool :=
  let f := flexAt n s
  f.loop && fwRuns s && s.boot.aliveOk && decide (since s.boot.lastKick s < 10 * Config.tkPerMs)
    && !(s.aon.safeActive && sbuStopEn s) && decide (s.clk.tick.toNat % 48 < 24)

/-! ## PD commands (R342) -/

/-- The port parameter of a PD command. -/
def pdPort (c : Command) : Nat := c.p 1 - 1

/-- The port is outside 1 to 4 or declared absent. -/
def pdBadPort (c : Command) (s : State) : Bool := decide (c.p 1 < 1) || decide (4 < c.p 1) || !fitted (pdPort c) s

/-- Code of a role as PD.STATUS shows it. -/
def roleCode : PdRole → Nat
  | .unattached => 0
  | .source => 1
  | .sinkB => 2
  | .sinkRefused => 3
  | .accessory => 4

/-- Results of PD.STATUS. -/
def pdStatusWords (f : Flex) : List Word :=
  let (v, i) := match f.contract with | some c => (c.volt, c.cur) | none => (0, 0)
  [w18 (roleCode f.role * 32768 + bit (f.pd && f.rev3) * 16384 + bit f.vconn * 8192 + bit f.altMode * 4096 + bit f.faultRet * 2048),
   w18 v, w18 i, w18 (f.alloc / 10), w18 f.offered.length]

/-- PD.STATUS (R342). -/
def execPdStatus (s : State) : Result :=
  effect (immediateCommand 0o1501 anyVariant noAuth (fun c s => if pdBadPort c s then stBadParam else stOk)
    (fun c s => (pdStatusWords (flexAt (pdPort c) s), s))) s

/-- The change that PD.SET_LIMIT records; 0 records nothing. -/
def limitCoding (c : Command) : List Change := if c.p 2 = 0 then [] else [⟨321, 4 + c.p 1, w18 (c.p 2)⟩]

/-- Status of PD.SET_LIMIT. -/
def checkLimit (c : Command) (s : State) : Nat :=
  firstStatus ((pdBadPort c s || (c.p 2 != 0 && (decide (c.p 2 < 25) || decide (450 < c.p 2))), stBadParam)
    :: persistChecks (bitOf (c.p 3) 0) (if (limitCoding c).all (changeFits s.cfg.live) then some (limitCoding c) else none) s)

/-- PD.SET_LIMIT (R342): R328 follows at the governor's next decision. -/
def execPdSetLimit (s : State) : Result :=
  effect (immediateCommand 0o1502 anyVariant noAuth checkLimit (fun c s =>
    let s := persist (bitOf (c.p 3) 0) (some (limitCoding c)) s
    let s := mapFlex (pdPort c) (fun f => { f with pmax := if c.p 2 = 0 then none else some (c.p 2) }) s
    ([w18 (pmaxOf (pdPort c) s)], s))) s

/-- A long PD command starts on its port. -/
def startPd (n code : Nat) (s : State) : State := mapFlex n (fun f => { f with cmd := some code }) s

/-- PD.VCONN_SWAP (R342): sent at once, or after the sequence in progress (R340). -/
def execPdVconnSwap (s : State) : Result :=
  effect (longCommand 0o1503 anyVariant noAuth
    (fun c s =>
      let f := flexAt (pdPort c) s
      firstStatus [(pdBadPort c s || decide (1 < c.p 2), stBadParam),
        (f.contract.isNone || (c.p 2 == 1 && !f.vconn && (!vconnPort (pdPort c) s || f.vconnTrip)), stState)])
    (fun c s =>
      let n := pdPort c
      let f := flexAt n s
      let s := startPd n 3 s
      if f.vconn = (c.p 2 == 1) then pdDone n stOk s
      else
        let s := mapFlex n (fun f => { f with swap := some (c.p 2 == 1), swapWaits := 0 }) s
        if f.trans.isSome then s else emit (.pd n .vconnSwap) s)) s

/-- Status of PD.ALT_MODE. -/
def checkAlt (c : Command) (s : State) : Nat :=
  let f := flexAt (pdPort c) s
  firstStatus [(pdBadPort c s || decide (1 < c.p 2), stBadParam), (f.role != .source || f.contract.isNone, stState)]

/-- PD.ALT_MODE with OP 1 (R336, R342). -/
def execPdAltModeEnter (s : State) : Result :=
  effect (longCommand 0o1504 (fun c => c.p 2 != 0) noAuth checkAlt (fun c s =>
    let n := pdPort c
    let s := startPd n 4 s
    if (flexAt n s).altMode then pdDone n stOk s else mapFlex n (fun f => { f with discover := true }) s)) s

/-- PD.ALT_MODE with OP 0 (R339, R342). -/
def execPdAltModeExit (s : State) : Result :=
  effect (longCommand 0o1504 (fun c => c.p 2 == 0) noAuth checkAlt (fun c s =>
    let n := pdPort c
    let s := startPd n 4 s
    if (flexAt n s).altMode then
      let s := emit (.pd n (.vdm (BitVec.ofNat 32 (altSvid s * 65536 + 0xA105)) [])) s
      pdDone n stOk (postAlt n 0 (mapFlex n Flex.endMode s))
    else pdDone n stOk (mapFlex n Flex.endMode s))) s

/-- PD.HARD_RESET (R342). -/
def execPdHardReset (s : State) : Result :=
  effect (longCommand 0o1505 anyVariant noAuth
    (fun c s => firstStatus [(pdBadPort c s, stBadParam),
      (carriesFace (pdPort c) s || (flexAt (pdPort c) s).role == .unattached || (flexAt (pdPort c) s).role == .accessory, stState)])
    (fun c s => hardReset (pdPort c) true (startPd (pdPort c) 5 s))) s

end Sys2Proof.Machine
end

