-- ==== Sys2Proof/Machine/Face.lean ====
section
/-!
DEFINITION. The upstream face: connect and disconnect (R143, R144), bus reset (R165, R166), the place of the function (R142), and Galliard
failover (R296 to R312): host presence, availability, loss, the choice of a face, and the switch-over.
-/

namespace Sys2Proof.Machine

open Sys2Proof

/-! ## Ports and sides -/

/-- Both sides of a port return to their Powered-off state. -/
def DownPortState.sidesOff (p : DownPortState) : DownPortState := { p with usb2 := {}, usb3 := {} }

/-- Power of port k + 1 goes off (R156, R157): a flex port as ClearPortFeature(PORT_POWER), an HS port with Hn_PWREN low. -/
def cutPower (k : Nat) (s : State) : State :=
  let s := flushPort k (mapPort k (fun p => { p.sidesOff.detach with powered := false }) s)
  if k < 4 then flexOff k s else s

/-- Power of port k + 1 returns under its owner (R156, R157): a flex port returns to its role, an HS port drives Hn_PWREN high. -/
def restorePower (k : Nat) (s : State) : State :=
  if isUpstreamB k s then settleCc k s
  else if !(fitted k s && s.cfg.active.isSome && powerAllowed k s) then s
  else if k < 4 then settleCc k s
  else if (portOf k s).powered then s
  else
    let t := s.clk.tick
    mapPort k (fun p => { p with powered := true, powerTick := t }) s

/-- A PORT.RESET_DEVICE on a port ends: for a place, or for whatever it names (R194). -/
def endReset (k : Nat) (place : Option Nat) (s : State) : State :=
  match s.own.resetCmd with
  | some (k', h) =>
    if k' = k ∧ (place = none ∨ h = place) then groupDone 3 stOk { s with own := { s.own with resetCmd := none } } else s
  | none => s

/-- The owned tree of a port is gone with its owner (R131, R169). -/
def disown (s : State) (k : Nat) : State :=
  if (portOf k s).owned then
    endReset k none <| mapPort k (fun p => { p with owned := false, change := .none, enumDone := true, reserved := 0 }) (forgetTree k 0 s)
  else s

/-- OWN of port k + 1 in a set of tables (R170). -/
def ownBit (ts : List Table) (k : Nat) : Bool := bitOf (((tableIn ts 576).getD []).getD 0 0).toNat (6 + k)

/-- A flex port whose ROLE is another than in the tables before starts anew under it (R315, R316); as upstream B it is not owned, and
its OWN bit is ignored (R169). -/
def followRole (old : List Table) (s : State) (n : Nat) : State :=
  if paramIn old 320 (n + 1) 0 = flexRole n s then s
  else
    let s := mapFlex n (fun f => f.unpower.leave .open) (pdGone n s)
    let s := if isUpstreamB n s then
        (let s := disown s n
         mapPort n (fun p => { p.sidesOff.detach with ownIgnored := ownBit s.cfg.live n, hostPower := false }) (flushPort n s))
      else s
    settleCc n s

/-- The port ends a change of ownership toward the host early (R174): PORT.OWNER_CHANGED, and the command ends with OK. -/
def endOwnerChange (k : Nat) (s : State) : State :=
  let owned := (portOf k s).owned
  let s := mapPort k (fun p => { p with change := .none, enumDone := true }) s
  let s := post 0o030302 [w18 (k + 1), w18 (bit owned)] s
  if s.own.ownerCmd = some k then groupDone 3 stOk { s with own := { s.own with ownerCmd := none } } else s

/-- A pass-through port enters Powered-off (R165, R306), and a change to pass-through ends early (R174). -/
def portOff (s : State) (k : Nat) : State :=
  let p := portOf k s
  if p.owned ∨ isUpstreamB k s = true then s
  else
    let s := cutPower k (mapPort k (fun p => { p with hostPower := false, repower := false }) s)
    if p.change = .toPass then endOwnerChange k s else s

/-! ## Hub state -/

/-- Hubs and function return to their default state, endpoint buffers and TTs are emptied, and a wake request is cancelled (R165,
R166). -/
def hubDefaults (s : State) : State :=
  { s with
    hub := { s.hub with
      hub2 := {}, hub3 := {}, function := {}, port11 := {}, altPlay := 0, altCap := 0, altHub := 0, playRing := []
      playRunning := false, capRing := [], ram := {}, wakePending := false, wakeReport := false, suspended := false, l1 := false
      functionUsb3 := onUsb3 s.hub.ssLink }
    ports := s.ports.map (fun p => { p with ttPeriodic := 0, ttNonPeriodic := 0, ttStopped := false }) }

/-- The queues of the upstream face and of port 11 are flushed (R202). -/
def flushUpstream (s : State) : State := flush false 11 (flushLink false 0 s)

/-- What an upstream bus reset resets (R165); the carrying face reads host-present (R299). -/
def busReset (s : State) : State :=
  let s := { s with hub := { s.hub with
    absentA := s.hub.absentA && s.hub.face != some .a, absentB := s.hub.absentB && s.hub.face != some .b } }
  let s := cutUsbMailbox (hubDefaults (flushUpstream s))
  setGuard .usb {} ((List.range 10).foldl portOff s)

/-- Close the USB path's session because its face is lost (R112, R424). -/
def closeUsbSession (s : State) : State :=
  match s.sec.sessU with
  | some x => post 0o130203 [0, w18 (bit x.provisioning * 2), 2] { s with sec := { s.sec with sessU := none } }
  | none => s

/-- An upstream disconnect (R144): terminations off, and the state of a bus reset. -/
def upstreamOff (s : State) : State :=
  let s := { s with hub := { s.hub with connected := false, face := none, ssLink := .disabled, highSpeed := false } }
  closeUsbSession (busReset s)

/-- Terminations appear on a face, and its link comes up (R143, R306 steps 3 and 4). -/
def presentFace (f : Face) (superSpeed highSpeed : Bool) (s : State) : State :=
  hubDefaults { s with hub := { s.hub with
    face := some f, connected := true, ssLink := if superSpeed then .u0 else .disabled, highSpeed := highSpeed
    feedback := 0x00060000, hostMicro := 0, waitFace := false, fromRecord := false
    availA := s.hub.availA && f != .a, availB := s.hub.availB && f != .b
    availSince := if f = .b ∧ s.hub.availA = true then some (s.hub.availSince.getD s.clk.tick) else none } }

/-- FACE codes of R311. -/
def faceCode : Option Face → Nat
  | some .a => 0
  | some .b => 1
  | none => 3

/-- SYS.UPSTREAM_CHANGED (R312). -/
def postFace (old new : Option Face) (reason : Nat) (s : State) : State :=
  post 0o010504 [w18 (faceCode old), w18 (faceCode new), w18 reason, w18 (match upstreamB s with | some n => n + 1 | none => 0)] s

/-- The device may connect upstream (R143): a CTI is active or it runs unconfigured; with upstream B configured only outside SLEEP
(R305). -/
def mayConnect (s : State) : Bool :=
  s.boot.phase == .running && (s.cfg.active.isSome || s.cfg.unconfigured) && s.pwr.state != .hibernate && s.cfg.next.isNone
    && (awake s || (upstreamB s).isNone)

/-- USA_VBUS_DET at a voltage in mV: high above 2.00 V, low below 1.60 V, else as it was (R54). -/
def vbusDet (mv : Nat) (was : Bool) : Bool := if 2000 < mv then true else if mv < 1600 then false else was

/-! ## Presence and availability (R299, R302) -/

/-- The face carries the upstream. -/
def carries (f : Face) (s : State) : Bool := s.hub.connected && s.hub.face == some f

/-- A face is available, the carrying one counted as such (R302). -/
def available (f : Face) (s : State) : Bool := carries f s || (match f with | .a => s.hub.availA | .b => s.hub.availB)

/-- Set a face's availability, with the tick at which it began (R302, R310). -/
def setAvail (f : Face) (on : Bool) (s : State) : State :=
  match f with
  | .a =>
    let from' := if s.hub.availA then s.hub.sinceA else s.clk.tick
    let timer := if on then (if s.hub.availA then s.hub.availSince.getD s.clk.tick else s.clk.tick) else s.clk.tick
    { s with hub := { s.hub with availA := on, sinceA := from', availSince := if on then some timer else none } }
  | .b => { s with hub := { s.hub with availB := on, sinceB := if s.hub.availB then s.hub.sinceB else s.clk.tick } }

/-- HS packets arrive on the face: the one that carries a High-Speed upstream, unless its bus is idle (R299). -/
def hsTraffic (f : Face) (s : State) : Bool := carries f s && s.hub.highSpeed && !s.hub.suspended

/-- The face is host-absent (R299). -/
def hostAbsent (f : Face) (s : State) : Bool := (match f with | .a => s.hub.absentA | .b => s.hub.absentB) && !hsTraffic f s

/-- HOST_ABSENT (R299): found by the probe on a face that carries no HS traffic; a host-absent face is not available. -/
def execHostAbsent (f : Face) (absent : Bool) (s : State) : Result :=
  effect (fun s =>
    if !flexRuns s then s
    else
      let now := absent && !hsTraffic f s
      let s := match f with
        | .a => { s with hub := { s.hub with absentA := now } }
        | .b => { s with hub := { s.hub with absentB := now } }
      if now && !carries f s then setAvail f false s else s) s

/-- What R302 asks of a face: for A, USA_VBUS_DET; for B, a source attached and VBUS of at least 4.40 V; and a host on D-. -/
def facePresent (f : Face) (s : State) : Bool :=
  !hostAbsent f s && (match f with
    | .a => s.hub.vbus
    | .b => match upstreamB s with
      | some n => (flexAt n s).role == .sinkB && decide (4400 ≤ (flexAt n s).vbus)
      | none => false)

/-- FACE_AVAILABLE (R302): evaluated for a face that carries no upstream, with upstream B configured (R303). -/
def execFaceAvailable (f : Face) (ok : Bool) (s : State) : Result :=
  effect (fun s =>
    if awake s && fwRuns s && (upstreamB s).isSome && !carries f s then setAvail f (ok && facePresent f s) s else s) s

/-- A face that no longer meets R302 is not available, at each block boundary (R302). -/
def checkFaces (s : State) : State :=
  let check := fun (f : Face) (s : State) => if carries f s || facePresent f s then s else setAvail f false s
  check .b (check .a s)

/-- B became available at an earlier block boundary than A (R303). -/
def firstIsB (s : State) : Bool := decide ((s.hub.sinceB.toNat + 15) / 16 < (s.hub.sinceA.toNat + 15) / 16)

/-- The face to connect on: A, else B, when available, and for a device that ran headless the first to become so; without upstream B,
A as soon as VBUS is there (R303); the recorded face first after a warm chip reset (R304). -/
def chosenFace (s : State) : Option Face :=
  if (upstreamB s).isNone then (if s.hub.vbus then some .a else none)
  else if s.hub.fromRecord ∧ s.hub.recorded = some .a ∧ s.hub.availA then some .a
  else if s.hub.fromRecord ∧ s.hub.recorded = some .b ∧ s.hub.availB then some .b
  else if s.hub.waitFace = false ∧ s.hub.availA = true ∧ s.hub.availB = true ∧ firstIsB s = true then some .b
  else if s.hub.availA then some .a
  else if s.hub.availB then some .b
  else none

/-! ## Connect, disconnect and reset rows -/

/-- USA_VBUS_DET as now read; A without VBUS is not available (R54, R302). -/
def readVbus (mv : Nat) (s : State) : State :=
  let on := vbusDet mv s.hub.vbus
  let s := { s with hub := { s.hub with vbus := on } }
  if on then s else setAvail .a false s

/-- UPSTREAM_CONNECT (R143, R303): a connect on B, and the first face to become available, are reported. -/
def execUpstreamConnect (mv : Nat) (superSpeed highSpeed : Bool) (s : State) : Result :=
  effect (fun s =>
    let s := readVbus mv s
    if mayConnect s && !s.hub.connected && s.hub.swTo.isNone then
      match chosenFace s with
      | some f =>
        let report := f == .b || !s.hub.waitFace
        let s := presentFace f superSpeed highSpeed s
        if report && (upstreamB s).isSome then postFace none (some f) 4 s else s
      | none => { s with hub := { s.hub with waitFace := false, fromRecord := false } }
    else s) s

/-- UPSTREAM_BUS_RESET (R165). -/
def execUpstreamBusReset (s : State) : Result := effect (fun s => if s.hub.connected then busReset s else s) s

/-- FUNCTION_HUB_MOVE (R142): the SuperSpeed link enters SS.Disabled or SS.Inactive while USB 2.0 stays connected. -/
def execFunctionHubMove (dst : LinkState) (s : State) : Result :=
  effect (fun s =>
    if s.hub.connected && s.hub.functionUsb3 && (dst == .disabled || dst == .inactive) then linkDown 0 dst s else s) s

/-! ## Loss of a face (R300, R306, R308, R309) -/

/-- Steps 1 and 2 of the switch-over: the old face is left (R306). -/
def leaveFace (s : State) : State := setGuard .usb {} (upstreamOff s)

/-- The command of the switch-over ends: OK at step 4, STATE when step 4 is not taken (log 24). -/
def endSwitch (status : Nat) (s : State) : State :=
  if s.hub.swCmd then groupDone 1 status { s with hub := { s.hub with swCmd := false } } else s

/-- The face that carries the upstream is lost (R300): the old face is left, and the other is taken when available (R308). -/
def loseFace (s : State) : State :=
  match s.hub.face with
  | none => s
  | some old =>
    let other : Face := match old with | .a => .b | .b => .a
    let reason := match old with | .a => 0 | .b => 1
    let same := s.hub.swTo.isNone
    let s := setAvail old false (leaveFace s)
    let dst := if available other s then some other else none
    let s := { s with hub := { s.hub with
      autoArmed := true, swFrom := s.clk.tick, swTo := dst.map (fun f => (some old, some f, reason)) } }
    if same then endSwitch stOk s else if dst.isNone then endSwitch stState s else s

/-- Loss is detected: upstream B is configured, and the device is awake (R296, R305). -/
def watchesLoss (s : State) : Bool := awake s && fwRuns s && (upstreamB s).isSome && s.hub.connected

/-- A criterion of R300 holds on the face that carries the upstream: VBUS is gone, or the SuperSpeed link is in neither U0 nor Recovery
and the USB 2.0 side is host-absent. -/
def lossCriterion (s : State) : Bool :=
  match s.hub.face with
  | none => false
  | some f =>
    let link := s.hub.ssLink != .u0 && s.hub.ssLink != .recovery && hostAbsent f s
    let power := match f with
      | .a => !s.hub.vbus
      | .b => match upstreamB s with | some n => decide ((flexAt n s).vbus < 3670) | none => true
    link || power

/-- FACE_LOSS (R300): the time of a criterion that holds is complete. -/
def execFaceLoss (s : State) : Result := effect (fun s => if watchesLoss s && lossCriterion s then loseFace s else s) s

/-- UPSTREAM_VBUS_LOSS (R144): USA_VBUS_DET has read low, a level below 1.60 V (R54), for 1 ms: an upstream disconnect, and with upstream B configured the loss of A,
which the device does not detect in SLEEP (R305). -/
def execUpstreamVbusLoss (s : State) : Result :=
  effect (fun s =>
    let s := readVbus 0 s
    if carries .a s then
      (if watchesLoss s then loseFace s else if (upstreamB s).isNone then upstreamOff s else s)
    else s) s

/-- SINK_DETACH (R321): the contract ends; on upstream B carrying the face it is also loss of B (R300). -/
def execSinkDetach (n : FlexPort) (s : State) : Result :=
  effect (fun s =>
    let f := flexAt n.val s
    if flexRuns s && (f.role == .sinkB || f.role == .sinkRefused) then
      let lost := carriesFace n.val s
      let s := sinkLeaves n.val s
      let s := if f.role == .sinkB then setAvail .b false s else s
      if lost && watchesLoss s then loseFace s else s
    else s) s

/-! ## The switch-over (R306, R312) -/

/-- The old face is still connected when a commanded switch-over or an automatic return begins. -/
def beginSwitch (s : State) : State := if s.hub.connected then leaveFace s else s

/-- Steps 1 to 4: the new face is taken when it is still available, else the other one, else the device is headless (R308). -/
def switchFace (superSpeed highSpeed : Bool) (s : State) : State :=
  match s.hub.swTo with
  | some (old, some dst, reason) =>
    let ready := available dst s
    let s := beginSwitch s
    let s := { s with hub := { s.hub with swTo := none } }
    if ready then
      let s := presentFace dst superSpeed highSpeed s
      let s := { s with hub := { s.hub with autoArmed := if reason = 2 then s.hub.autoArmed && dst != .b else s.hub.autoArmed } }
      endSwitch stOk (postFace old (some dst) reason s)
    else
      match chosenFace s with
      | some f => endSwitch stState (postFace old (some f) reason (presentFace f superSpeed highSpeed s))
      | none => endSwitch stState s
  | _ => s

/-- SWITCH_OVER (R306): for a command or an automatic return at a block boundary, for a loss at once. -/
def execSwitchOver (superSpeed highSpeed : Bool) (s : State) : Result :=
  effect (fun s =>
    match s.hub.swTo with
    | some (_, _, reason) =>
      if awake s = false then s
      else if reason ≤ 1 ∨ (atBlock s = true ∧ s.hub.swFrom.toNat ≤ s.clk.tick.toNat) then switchFace superSpeed highSpeed s else s
    | none => s) s

/-- The face that was carrying resumes with the return from SLEEP when it is available; otherwise it is left and a face is chosen
anew (R305). -/
def wakeFace (s : State) : State :=
  match s.hub.face with
  | some f =>
    if (upstreamB s).isNone ∨ s.hub.connected = false ∨ facePresent f s = true then s
    else
      let s := setAvail f false (leaveFace s)
      { s with hub := { s.hub with waitFace := true } }
  | none => s

/-- AUTO_RETURN (R310): A has stayed available for RETURN_TIME while B carries the face. -/
def execAutoReturn (s : State) : Result :=
  effect (fun s =>
    match s.hub.availSince with
    | some t =>
      if watchesLoss s && carries .b s && s.hub.availA && param 448 2 0 s == 1 && s.hub.autoArmed && s.hub.swTo.isNone
          && decide (param 448 3 60 s * Config.tkPerS ≤ since t s) then
        { s with hub := { s.hub with swTo := some (some .b, some .a, 3), swFrom := s.clk.tick } }
      else s
    | none => s) s

/-- The face that SYS.UPSTREAM_SELECT names. -/
def namedFace (c : Command) : Face := if c.p 1 = 0 then .a else .b

/-- SYS.UPSTREAM_SELECT (R312). -/
def execSysUpstreamSelect (s : State) : Result :=
  effect (longCommand 0o0106 anyVariant noAuth
    (fun c s => firstStatus [(decide (1 < c.p 1), stBadParam),
      (c.p 1 == 1 && (upstreamB s).isNone, stState), (!available (namedFace c) s, stState), (s.hub.swTo.isSome, stBusy)])
    (fun c s =>
      let s := { s with hub := { s.hub with swCmd := true } }
      if carries (namedFace c) s then s
      else { s with hub := { s.hub with
        swTo := some (s.hub.face, some (namedFace c), 2), swFrom := s.clk.tick + BitVec.ofNat 54 (5 * Config.tkPerMs) } })) s

/-- SYS.UPSTREAM_SELECT of the face that already carries ends at the next block boundary (R312). -/
def settleSelect (s : State) : State := if s.hub.swTo.isNone then endSwitch stOk s else s

end Sys2Proof.Machine
end

