-- ==== Sys2Proof/Machine/HubPorts.lean ====
section
/-!
DEFINITION. The hubs' downstream ports as the upstream host sees them (R141, R155, R156), HS port power and over-current (R157,
R158), PORT.POWER (R159), TTs (R160), and suspend, resume and remote wake (R162 to R164, R202).
-/

namespace Sys2Proof.Machine

open Sys2Proof

/-! ## Port status (R155) -/

/-- The speed of the embedded function (R142, R150): SuperSpeed, High-Speed or Full-Speed. -/
def functionSpeed (s : State) : Speed := if s.hub.functionUsb3 then .ss else if s.hub.highSpeed then .hs else .fs

/-- A flex port whose eFuse is in backoff or latched off, or an HS port whose Hn_OC_N stays low (R156, R158). -/
def overCurrentNow (k : Nat) (s : State) : Bool :=
  if k < 4 then 6 ≤ flexPower (flexAt k s) else (portOf k s).ocLow

/-- wPortChange of a port on a hub (log 25): connection, over-current and reset stand alike on both. -/
def changeBits (usb3 : Bool) (x : Side) : Nat :=
  let both := bit x.cConnection + bit x.cOverCurrent * 8 + bit x.cReset * 16
  if usb3 then both + bit x.cBhReset * 32 + bit x.cLinkState * 64
  else both + bit x.cEnable * 2 + bit x.cSuspend * 4 + bit x.cL1 * 32

/-- wPortStatus of a USB 2 hub port (log 25). -/
def status2 (x : Side) (power oc : Bool) : Nat :=
  bit x.connection + bit x.enable * 2 + bit x.suspend * 4 + bit oc * 8 + bit x.l1 * 32 + bit power * 256
    + (match x.speed with | some .ls => 512 | some .hs => 1024 | _ => 0) + bit (x.test != 0) * 2048

/-- wPortStatus of a USB 3 hub port (log 25). -/
def status3 (x : Side) (power oc : Bool) : Nat :=
  bit x.connection + bit x.enable * 2 + bit oc * 8 + x.linkReq % 16 * 32 + bit power * 512

/-- wPortStatus and wPortChange of a port. -/
def portStatus (usb3 : Bool) (k : Nat) (s : State) : Nat × Nat :=
  let p := portOf k s
  let word := fun (x : Side) (power oc : Bool) => if usb3 then status3 x power oc else status2 x power oc
  let oc := overCurrentNow k s
  let none_ := fun (power : Bool) =>
    (word { sideOf usb3 p with connection := false, enable := false, suspend := false } power (oc && decide (k < 4)),
      changeBits usb3 (sideOf usb3 p))
  match situation usb3 k s with
  | .internal =>
    let here := s.hub.functionUsb3 == usb3
    let x := { s.hub.port11 with
      connection := here, enable := here && s.hub.port11.enable, speed := if here then some (functionSpeed s) else none }
    (word x true false, changeBits usb3 s.hub.port11)
  | .noPort => (word {} true false, 0)
  | .absent => (word {} false false, 0)
  | .forced => none_ false
  | .owned => none_ true
  | .pass => (word (sideOf usb3 p) p.hostPower oc, changeBits usb3 (sideOf usb3 p))

/-- A hub answers requests: the face is connected and awake, and the hub is on a link that runs. -/
def hubAnswers (usb3 : Bool) (s : State) : Bool := usbReach s && (!usb3 || onUsb3 s.hub.ssLink)

/-- A port request names a port of the hub: number n, 1 to 11. -/
def onPort (usb3 : Bool) (n : Nat) (f : Nat → State → State) (s : State) : State :=
  if !hubAnswers usb3 s then s
  else if n = 0 then emit (.handshake .stall) s
  else f (n - 1) s

/-- GET_PORT_STATUS (R155). -/
def execGetPortStatus (usb3 : Bool) (n : Fin 12) (s : State) : Result :=
  effect (onPort usb3 n.val (fun k s =>
    let (a, b) := portStatus usb3 k s
    emit (.usbData (toBytesLE 2 a ++ toBytesLE 2 b)) s)) s

/-- The host powers a pass-through port off (R156, R157). -/
def hostPowerOff (usb3 : Bool) (k : Nat) (s : State) : State :=
  if situation usb3 k s = .pass then cutPower k (mapPort k (fun p => { p with hostPower := false }) s) else s

/-- The host powers a pass-through port (R156, R157). -/
def hostPowerOn (usb3 : Bool) (k : Nat) (s : State) : State :=
  if situation usb3 k s = .pass then restorePower k (mapPort k (fun p => { p with hostPower := true }) s) else s

/-- CLEAR_PORT_POWER (R156). -/
def execClearPortPower (usb3 : Bool) (n : Fin 12) (s : State) : Result :=
  effect (onPort usb3 n.val (fun k s => emit (.handshake .ack) (hostPowerOff usb3 k s))) s

/-- SET_PORT_POWER (R156). -/
def execSetPortPower (usb3 : Bool) (n : Fin 12) (s : State) : Result :=
  effect (onPort usb3 n.val (fun k s => emit (.handshake .ack) (hostPowerOn usb3 k s))) s

/-! ## Feature requests (R155, R162) -/

/-- What a standard feature request does to a side; port power apart. -/
def featureSide (usb3 set : Bool) (f : PortFeature) (value : Nat) (x : Side) : Side :=
  match f, set with
  | .reset, true =>
    if x.connection then { x with enable := true, suspend := false, l1 := false, linkReq := 0, cReset := true } else x
  | .suspend, true => if x.enable then { x with suspend := true } else x
  | .suspend, false => if x.suspend then { x with suspend := false, cSuspend := true } else x
  | .enable, false => if usb3 then x else { x with enable := false }
  | .l1, true => if x.enable ∧ usb3 = false then { x with l1 := true, cL1 := true } else x
  | .l1, false => if x.l1 then { x with l1 := false, cL1 := true } else x
  | .test, true => if usb3 then x else { x with test := value }
  | .bhReset, true =>
    if usb3 then { x with enable := x.connection, suspend := false, linkReq := 0, cReset := true, cBhReset := true } else x
  | .u1Timeout, true => { x with u1Timeout := value }
  | .u2Timeout, true => { x with u2Timeout := value }
  | .linkState, true =>
    { x with linkReq := value % 16, suspend := value % 16 == 3, enable := x.enable && value % 16 != 4
             connection := x.connection && value % 16 != 4, cLinkState := x.cLinkState || (x.suspend && value % 16 == 0) }
  | .remoteWakeMask, true => { x with wakeMask := value % 8 }
  | .cConnection, false => { x with cConnection := false }
  | .cEnable, false => { x with cEnable := false }
  | .cOverCurrent, false => { x with cOverCurrent := false }
  | .cReset, false => { x with cReset := false }
  | .cSuspend, false => { x with cSuspend := false }
  | .cL1, false => { x with cL1 := false }
  | .cLinkState, false => { x with cLinkState := false }
  | .cBhReset, false => { x with cBhReset := false }
  | _, _ => x

/-- A reset of port 11 returns the function to its default state. -/
def resetFunction (s : State) : State :=
  { s with hub := { s.hub with function := {}, altPlay := 0, altCap := 0, playRing := [], playRunning := false, capRing := [] } }

/-- A feature request reaches a port (R155). -/
def featureRequest (usb3 set : Bool) (f : PortFeature) (value k : Nat) (s : State) : State :=
  match situation usb3 k s with
  | .internal =>
    let here := s.hub.functionUsb3 == usb3
    if f = .power ∨ !here then s
    else
      let x := featureSide usb3 set f value { s.hub.port11 with connection := true }
      let s := { s with hub := { s.hub with port11 := x } }
      if f = .reset ∧ set then resetFunction s else s
  | .pass =>
    if f = .power then (if set then hostPowerOn usb3 k s else hostPowerOff usb3 k s)
    else if (portOf k s).hostPower then
      let was := sideOf usb3 (portOf k s)
      let s := mapSide usb3 k (featureSide usb3 set f value) s
      if (f = .reset ∨ (f = .bhReset ∧ usb3 = true)) ∧ set ∧ was.connection then emit (.portReset (k + 1) (f == .bhReset)) s
      else if (f = .suspend ∧ !set ∧ was.suspend) ∨ (f = .l1 ∧ !set ∧ was.l1)
          ∨ (f = .linkState ∧ set ∧ was.suspend ∧ value % 16 = 0) then emit (.portResume (k + 1)) s
      else if f = .linkState ∧ set ∧ value % 16 = 4 then flushPort k s
      else s
    else mapSide usb3 k (fun x => if set then x else featureSide usb3 false f value x) s
  | _ => s

/-- HUB_FEATURE_REQUEST (R155): accepted without error where it has no effect. -/
def execHubFeatureRequest (usb3 : Bool) (n : Fin 12) (set : Bool) (f : PortFeature) (value : Byte) (s : State) : Result :=
  effect (onPort usb3 n.val (fun k s => emit (.handshake .ack) (featureRequest usb3 set f value.toNat k s))) s

/-- TT_REQUEST (R160): with the hub interface at alternate 0 the ten TTs act as one. -/
def execTtRequest (p : DownPort) (r : TtRequest) (s : State) : Result :=
  effect (fun s =>
    if !hubAnswers false s then s
    else
      let hit := fun (k : Nat) => !(portOf k s).owned && (s.hub.altHub == 0 || k == p.val)
      let each := fun (f : Nat → State → State) =>
        emit (.handshake .ack) ((List.range 10).foldl (fun s k => if hit k then f k s else s) s)
      match r with
      | .getState => emit (.handshake .stall) s
      | .clearBuffer => each (fun k s => ttDrop false k s)
      | .reset => each (fun k s => mapPort k (fun x => { x with ttStopped := false }) (ttDrop true k (ttDrop false k s)))
      | .stop => each (fun k s => mapPort k (fun x => { x with ttStopped := true }) s)) s

/-! ## Suspend, resume and remote wake (R162 to R164) -/

/-- LPM_TRANSACTION (R162): with ACK the upstream link enters L1, which the host's resume ends. -/
def execLpmTransaction (s : State) : Result :=
  effect (fun s =>
    if !usbReach s then s
    else if streamsIdle s then emit (.handshake .ack) { s with hub := { s.hub with l1 := true } }
    else emit (.handshake .nyet) s) s

/-- UPSTREAM_SUSPEND (R162): hubs, function and pass-through trees only. -/
def execUpstreamSuspend (s : State) : Result :=
  effect (fun s =>
    if s.hub.connected && !s.hub.suspended then
      { s with hub := { s.hub with
          suspended := true, l1 := false, ssLink := if onUsb3 s.hub.ssLink then .u3 else s.hub.ssLink } }
    else s) s

/-- The resume of a suspended face ends (R164): PORT.REMOTE_WAKE follows when a wake had been requested. -/
def resumeFace (collides : Bool) (s : State) : State :=
  let asked := s.hub.wakeReport
  let hit := asked && collides
  let s := { s with hub := { s.hub with
    suspended := false, l1 := false, wakePending := false, wakeReport := false
    absentA := s.hub.absentA && s.hub.face != some .a, absentB := s.hub.absentB && s.hub.face != some .b
    ssLink := if s.hub.ssLink = .u3 then .u0 else s.hub.ssLink } }
  let s := if hit then { s with aon := { s.aon with wakeCause := s.aon.wakeCause ||| 0x30 } } else s
  if asked then post 0o030201 [w18 (s.aon.wakeCause.toNat + bit hit * 256)] s else s

/-- HOST_RESUME (R164). -/
def execHostResume (collides : Bool) (s : State) : Result :=
  effect (fun s => if s.hub.connected && (s.hub.suspended || s.hub.l1) && awake s then resumeFace collides s else s) s

/-- A hub has remote wake enabled. -/
def hubWake (s : State) : Bool := s.hub.hub2.remoteWake || s.hub.hub3.remoteWake

/-- REMOTE_WAKE (R163): on the side of the port where the event occurred. -/
def execRemoteWake (x : PortSide) (e : WakeEvent) (s : State) : Result := effect (wakeOnPort x.usb3 x.port.val e) s

/-- Power on a pass-through port stands, so that a device can connect (R156). -/
def portLive (k : Nat) (s : State) : Bool :=
  if k < 4 then
    let f := flexAt k s
    f.role == .source && f.ramp.isNone && (f.gate5 == .full || f.gateH == .full)
  else (portOf k s).powered

/-- PASS_THROUGH_CONNECT_CHANGE (R156, R163, R202). -/
def connectChange (k : Nat) (connected : Bool) (speed : Speed) (s : State) : State :=
  let usb3 := speed == .ss
  if situation usb3 k s ≠ .pass then s
  else if connected then
    if portLive k s then
      let s := linkOf k usb3 .u0 (mapPort k (DownPortState.attach speed) s)
      let s := mapSide usb3 k (fun x =>
        { x with connection := true, enable := x.enable || usb3, speed := some speed, cConnection := true }) s
      wakeOnPort usb3 k .connect s
    else s
  else if (sideOf usb3 (portOf k s)).connection then
    let s := mapSide usb3 k (fun x => { x with connection := false, enable := false, suspend := false, l1 := false, speed := none, cConnection := true }) s
    let s := linkOf k usb3 .rxDetect (mapPort k (DownPortState.detachSide usb3) s)
    wakeOnPort usb3 k .disconnect (flushPort k s)
  else s

/-- PASS_THROUGH_CONNECT_CHANGE (R202). -/
def execPassThroughConnectChange (p : DownPort) (connected : Bool) (speed : Speed) (s : State) : Result :=
  effect (connectChange p.val connected speed) s

/-! ## HS over-current (R158) -/

/-- An over-current on HS port k + 1. -/
def hsOverCurrent (k : Nat) (s : State) : State :=
  let p := portOf k s
  let recent := s.clk.tick :: p.ocTimes.filter (fun t => decide (since t s ≤ 60 * Config.tkPerS))
  let left := p.owned && decide (3 ≤ recent.length)
  let s := mapPort k (fun p => { p with
    powered := false, ocLow := true, ocTimes := recent, ocLatch := left, repower := p.owned && !left }) s
  let s := if p.owned then s
    else
      let s := flushPort k s
      mapPort k (fun p =>
        { p.sidesOff.detach with hostPower := false, usb2 := { cOverCurrent := true } }) s
  let s := post 0o030102 [w18 (k + 1), w18 (bit left * 4 + bit p.owned)] (raiseFault (BitVec.ofNat 12 (0o4240 + (k - 4))) s)
  if p.owned then s else wakeOnPort false k .overCurrent s

/-- HS_OVER_CURRENT (R158): ignored in the first 20 ms after Hn_PWREN rises. -/
def execHsOverCurrent (p : HsPort) (s : State) : Result :=
  effect (fun s =>
    let k := p.val + 4
    if fwRuns s && (portOf k s).powered && decide (20 * Config.tkPerMs ≤ since (portOf k s).powerTick s) then hsOverCurrent k s
    else s) s

/-- OWNED_PORT_REPOWER (R158): 1 s after the over-current. -/
def execOwnedPortRepower (p : HsPort) (s : State) : Result :=
  effect (fun s =>
    let k := p.val + 4
    let q := portOf k s
    if fwRuns s && q.owned && q.repower && !q.ocLatch && !q.forceOff
        && (match q.ocTimes.head? with | some t => decide (Config.tkPerS ≤ since t s) | none => false) then
      restorePower k (mapPort k (fun q => { q with repower := false }) s)
    else s) s

/-! ## PORT.POWER (R159) -/

/-- FORCE_OFF is applied to port k + 1; power and CC of upstream B follow chapters 14 and 15 alone (R155). -/
def forceOff (k : Nat) (s : State) : State :=
  let s := mapPort k (fun p => { p with forceOff := true, repower := false }) s
  if isUpstreamB k s then s else cutPower k s

/-- ALLOW: power goes back to the host or the owner, and the latch of R158 clears. -/
def allowPower (k : Nat) (s : State) : State :=
  restorePower k (mapPort k (fun p => { p with forceOff := false, cycleEnd := none, ocLatch := false, ocTimes := [] }) s)

/-- Status of PORT.POWER. -/
def checkPower (c : Command) (s : State) : Nat :=
  let k := c.p 1 - 1
  let time := if c.p 2 = 2 then decide (100 ≤ c.p 3) && decide (c.p 3 ≤ 10000) else c.p 3 == 0
  firstStatus [(decide (c.p 1 < 1) || decide (10 < c.p 1) || !fitted k s || decide (2 < c.p 2) || !time, stBadParam),
    (decide (k < 4) && carriesFace k s, stState)]

/-- The result word of PORT.POWER. -/
def powerWord (k : Nat) (s : State) : Word :=
  let p := portOf k s
  let on := if k < 4 then flexPower (flexAt k s) != 0 && decide (flexPower (flexAt k s) < 6) else p.powered
  w18 (bit p.forceOff * 4 + bit p.hostPower * 2 + bit on)

/-- One mode of PORT.POWER. -/
def portPower (variant : Command → Bool) (run : Command → Nat → State → State) (s : State) : State :=
  immediateCommand 0o0305 variant noAuth checkPower (fun c s =>
    let s := run c (c.p 1 - 1) s
    ([powerWord (c.p 1 - 1) s], s)) s

/-- PORT.POWER with MODE 0 (R159); a MODE that is not defined is refused here. -/
def execPortPowerAllow (s : State) : Result :=
  effect (portPower (fun c => c.p 2 != 1 && c.p 2 != 2) (fun _ k s => allowPower k s)) s

/-- PORT.POWER with MODE 1 (R159). -/
def execPortPowerForceOff (s : State) : Result :=
  effect (portPower (fun c => c.p 2 == 1) (fun _ k s => mapPort k (fun p => { p with cycleEnd := none }) (forceOff k s))) s

/-- PORT.POWER with MODE 2 (R159): FORCE_OFF for TIME; it also ends an eFuse latch (R357). -/
def execPortPowerCycle (s : State) : Result :=
  effect (portPower (fun c => c.p 2 == 2) (fun c k s =>
    let t := s.clk.tick + BitVec.ofNat 54 (c.p 3 * Config.tkPerMs)
    let s := mapPort k (fun p => { p with cycleEnd := some t }) (forceOff k s)
    if k < 4 then endLatch k s else s)) s

/-- PORT_POWER_CYCLE_END (R159): TIME has passed. -/
def execPortPowerCycleEnd (p : DownPort) (s : State) : Result :=
  effect (fun s =>
    match (portOf p.val s).cycleEnd with
    | some t => if fwRuns s ∧ t.toNat ≤ s.clk.tick.toNat then allowPower p.val s else s
    | none => s) s

end Sys2Proof.Machine
end

