-- ==== Sys2Proof/Machine/Function.lean ====
section
/-!
DEFINITION. The descriptors and standard requests of the two hubs and the embedded function (R145 to R150), and the function's streams:
playback, capture and feedback (R151 to R154).
-/

namespace Sys2Proof.Machine

open Sys2Proof

/-! ## Descriptors -/

/-- The device descriptor of a target (R145). -/
def deviceDescriptor (t : UsbTarget) (s : State) : List Byte :=
  let ss := functionSpeed s == .ss
  let (bcd, cls, sub, proto, mps, product) := match t with
    | .hub2 => (0x0210, 9, 0, (if s.hub.highSpeed then 2 else 0), 0x40, 0x1812)
    | .hub3 => (0x0320, 9, 0, 3, 9, 0x1813)
    | .function => ((if ss then 0x0320 else 0x0210), 0xEF, 2, 1, (if ss then 9 else 0x40), 0x1814)
  [0x12, 0x01] ++ toBytesLE 2 bcd ++ [cls, sub, proto, mps].map (BitVec.ofNat 8) ++ toBytesLE 2 Config.vendorId
    ++ toBytesLE 2 product ++ toBytesLE 2 0x0420 ++ [1, 2, 3, 1]

/-- A configuration descriptor around its parts: interfaces counted, bmAttributes 0xE0, bMaxPower 0. -/
def configuration (interfaces : Nat) (body : List Byte) : List Byte :=
  [0x09, 0x02] ++ toBytesLE 2 (9 + body.length) ++ [BitVec.ofNat 8 interfaces, 1, 0, 0xE0, 0] ++ body

/-- An interface descriptor. -/
def interfaceDesc (num alt eps cls sub proto : Nat) : List Byte :=
  [0x09, 0x04] ++ [num, alt, eps, cls, sub, proto, 0].map (BitVec.ofNat 8)

/-- An endpoint descriptor. -/
def endpointDesc (addr attrs mps interval : Nat) : List Byte :=
  [0x07, 0x05] ++ [addr, attrs].map (BitVec.ofNat 8) ++ toBytesLE 2 mps ++ [BitVec.ofNat 8 interval]

/-- A SuperSpeed endpoint companion, only at SuperSpeed. -/
def companion (ss : Bool) (burst bytes : Nat) : List Byte :=
  if ss then [0x06, 0x30, BitVec.ofNat 8 burst, 0] ++ toBytesLE 2 bytes else []

/-- The configuration of the USB 2 hub (R146). -/
def hub2Config (s : State) : List Byte :=
  if s.hub.highSpeed then
    configuration 1 (interfaceDesc 0 0 1 9 0 1 ++ endpointDesc 0x81 3 2 0x0C ++ interfaceDesc 0 1 1 9 0 2 ++ endpointDesc 0x81 3 2 0x0C)
  else configuration 1 (interfaceDesc 0 0 1 9 0 0 ++ endpointDesc 0x81 3 2 0xFF)

/-- The configuration of the USB 3 hub (R146). -/
def hub3Config : List Byte := configuration 1 (interfaceDesc 0 0 1 9 0 0 ++ endpointDesc 0x81 3 2 0x0C ++ companion true 0 2)

/-- An input terminal entity (R149). -/
def inputTerminal (id typ : Nat) : List Byte :=
  [0x11, 0x24, 0x02, BitVec.ofNat 8 id] ++ toBytesLE 2 typ ++ [0, 0x10, 96, 0, 0, 0, 0, 0, 0, 0, 0]

/-- An output terminal entity (R149). -/
def outputTerminal (id typ src : Nat) : List Byte :=
  [0x0C, 0x24, 0x03, BitVec.ofNat 8 id] ++ toBytesLE 2 typ ++ [0, BitVec.ofNat 8 src, 0x10, 0, 0, 0]

/-- The entities of the audio control interface (R149). -/
def controlEntities : List Byte :=
  [0x08, 0x24, 0x0A, 0x10, 0x01, 0x05, 0, 0] ++ inputTerminal 1 0x0101 ++ outputTerminal 2 0x0602 1 ++ inputTerminal 3 0x0602
    ++ outputTerminal 4 0x0101 3

/-- The class-specific part of a streaming alternate setting: terminal link, format type I PCM, 96 channels, 3-byte subslots of 18
bits (R149). -/
def streamFormat (link : Nat) : List Byte :=
  [0x10, 0x24, 0x01, BitVec.ofNat 8 link, 0, 1, 1, 0, 0, 0, 96, 0, 0, 0, 0, 0, 0x06, 0x24, 0x02, 1, 3, 18]

/-- A streaming data endpoint with its class-specific descriptor (R150). -/
def streamEndpoint (addr : Nat) (ss : Bool) : List Byte :=
  endpointDesc addr 5 (if ss then 0x0400 else 0x0BF0) 1 ++ companion ss 1 2016 ++ [0x08, 0x25, 1, 0, 0, 0, 0, 0]

/-- The configuration of the embedded function (R149, R150). -/
def functionConfig (s : State) : List Byte :=
  let sp := functionSpeed s
  let ss := sp == .ss
  let bulk := match sp with | .ss => 0x0400 | .hs => 0x0200 | _ => 0x0040
  let audio := [0x09, 0x24, 0x01, 0x00, 0x02, 0x08] ++ toBytesLE 2 (9 + controlEntities.length) ++ [0] ++ controlEntities
  let play := if sp = .fs then [] else interfaceDesc 1 1 2 1 2 0x20 ++ streamFormat 1 ++ streamEndpoint 0x01 ss
    ++ endpointDesc 0x81 0x11 4 4 ++ companion ss 0 4
  let capture := if sp = .fs then [] else interfaceDesc 2 1 1 1 2 0x20 ++ streamFormat 4 ++ streamEndpoint 0x82 ss
  let ep := fun (a : Nat) => endpointDesc a 2 bulk 0 ++ companion ss 0 0
  configuration 4
    ([0x08, 0x0B, 0, 3, 1, 0, 0x20, 0] ++ interfaceDesc 0 0 0 1 1 0x20 ++ audio ++ interfaceDesc 1 0 0 1 2 0x20 ++ play
      ++ interfaceDesc 2 0 0 1 2 0x20 ++ capture ++ interfaceDesc 3 0 3 0xFF 0 0 ++ ep 0x03 ++ ep 0x83 ++ ep 0x84)

/-- The Container ID, the same in all three devices (R148). -/
def containerId (s : State) : List Byte := [0x2F, 0x5A, 0x18, 0x12, 0, 0, 0, 0, 0] ++ toBytesBE 7 s.sec.otp.die.toNat

/-- The BOS descriptor of a target (R148). -/
def bosDescriptor (t : UsbTarget) (s : State) : List Byte :=
  let ss : Bool := match t with | .hub2 => false | .hub3 => true | .function => functionSpeed s == .ss
  let caps := [0x07, 0x10, 0x02, 0x1E, 0x62, 0x00, 0x00]
    ++ (if ss then [0x0A, 0x10, 0x03, 0x00, 0x0E, 0x00, 0x01, 0x0A, 0xF4, 0x01] else [])
    ++ [0x14, 0x10, 0x04, 0x00] ++ containerId s
  [0x05, 0x0F] ++ toBytesLE 2 (5 + caps.length) ++ [if ss then 3 else 2] ++ caps

/-- A string descriptor in UTF-16LE. -/
def stringDesc (bs : List Byte) : List Byte := [BitVec.ofNat 8 (2 + 2 * bs.length), 0x03] ++ bs.flatMap (fun b => [b, 0])

/-- The die number as 18 octal digits (R145). -/
def serialDigits (s : State) : List Byte :=
  (List.range 18).map (fun k => BitVec.ofNat 8 (48 + s.sec.otp.die.toNat / 8 ^ (17 - k) % 8))

/-- A string of a target by its index (R145). -/
def stringOf (t : UsbTarget) (i : Nat) (s : State) : Option (List Byte) :=
  match i with
  | 0 => some [0x04, 0x03, 0x09, 0x04]
  | 1 => some (stringDesc (ascii "Aelbular"))
  | 2 => some (stringDesc (ascii (match t with | .function => "Darac DH1812 Audio" | _ => "Darac DH1812 Hub")))
  | 3 => some (stringDesc (serialDigits s))
  | _ => none

/-- A descriptor by type and index. -/
def descriptorOf (t : UsbTarget) (typ i : Nat) (s : State) : Option (List Byte) :=
  match typ with
  | 1 => if i = 0 then some (deviceDescriptor t s) else none
  | 2 => if i = 0 then some (match t with | .hub2 => hub2Config s | .hub3 => hub3Config | .function => functionConfig s) else none
  | 3 => stringOf t i s
  | 15 => if i = 0 then some (bosDescriptor t s) else none
  | _ => none

/-- The hub class descriptors (R147). -/
def hubClassDescriptor (usb3 : Bool) : List Byte :=
  if usb3 then [0x0C, 0x2A, 0x0B, 0x0D, 0x00, 0x0A, 0x00, 0x00, 0x20, 0x03, 0x00, 0x08]
  else [0x0B, 0x29, 0x0B, 0x0D, 0x00, 0x0A, 0x00, 0x00, 0x08, 0xFF, 0xFF]

/-! ## Alternate settings (R146, R149, R152, R153, R160) -/

/-- An alternate setting is offered at the speed in force. -/
def altOffered (iface alt : Nat) (s : State) : Bool :=
  match iface with
  | 1 => alt == 0 || (alt == 1 && functionSpeed s != .fs)
  | 2 => alt == 0 || (alt == 1 && functionSpeed s != .fs)
  | 4 => alt == 0 || (alt == 1 && s.hub.highSpeed)
  | _ => alt == 0

/-- An alternate setting is selected: the ring of its stream is emptied, also on a reselection (R152, R153). -/
def selectAlt (iface alt : Nat) (s : State) : State :=
  match iface with
  | 1 => { s with hub := { s.hub with altPlay := alt, playRing := [], playRunning := false } }
  | 2 => { s with hub := { s.hub with altCap := alt, capRing := [] } }
  | 4 => { s with hub := { s.hub with altHub := alt } }
  | _ => s

/-- SET_INTERFACE on the function, or on the USB 2 hub for interface 4. -/
def setInterface (iface alt : Nat) (s : State) : State :=
  let ready := if iface = 4 then s.hub.hub2.configured else s.hub.function.configured
  if !usbReach s then s
  else if ready && altOffered iface alt s then emit (.handshake .ack) (selectAlt iface alt s)
  else emit (.handshake .stall) s

/-- SET_INTERFACE (R152). -/
def execSetInterface (iface alt : Fin 5) (s : State) : Result := effect (setInterface iface.val alt.val) s

/-! ## Standard requests (R145) -/

/-- USB state of a target. -/
def usbDevOf (t : UsbTarget) (s : State) : UsbDev :=
  match t with | .hub2 => s.hub.hub2 | .hub3 => s.hub.hub3 | .function => s.hub.function

/-- Replace the USB state of a target. -/
def setUsbDev (t : UsbTarget) (d : UsbDev) (s : State) : State :=
  match t with
  | .hub2 => { s with hub := { s.hub with hub2 := d } }
  | .hub3 => { s with hub := { s.hub with hub3 := d } }
  | .function => { s with hub := { s.hub with function := d } }

/-- A data stage of at most wLength bytes, through the buffer of endpoint 0 (R151). -/
def answerData (u : Setup) (bs : List Byte) (s : State) : State :=
  emit (.usbData (bs.take u.wLength.toNat)) (fillControl (bs.take u.wLength.toNat) s)

/-- SET_CONFIGURATION: every alternate setting of the target returns to 0. -/
def setConfiguration (t : UsbTarget) (v : Nat) (s : State) : State :=
  let s := setUsbDev t { usbDevOf t s with configured := v == 1 } s
  emit (.handshake .ack) (match t with
    | .hub2 => selectAlt 4 0 s
    | .hub3 => s
    | .function => selectAlt 1 0 (selectAlt 2 0 s))

/-- The clock source's answers (R149): CUR and RANGE of frequency and validity. -/
def clockAnswer (u : Setup) : Option (List Byte) :=
  let freq := toBytesLE 4 48000
  if u.wIndex ≠ 0x1000 then none
  else match u.bRequest.toNat, u.wValue.toNat with
    | 1, 0x0100 => some freq
    | 1, 0x0200 => some [1]
    | 2, 0x0100 => some ([1, 0] ++ freq ++ freq ++ [0, 0, 0, 0])
    | _, _ => none

/-- A request to a target's default control pipe; what the descriptors do not offer is answered with STALL. -/
def controlRequest (t : UsbTarget) (u : Setup) (s : State) : State :=
  let d := usbDevOf t s
  let v := u.wValue.toNat
  let stall := emit (.handshake .stall) s
  let data := fun (bs : List Byte) => answerData u bs s
  match u.bmRequestType.toNat, u.bRequest.toNat with
  | 0x80, 0 => data [BitVec.ofNat 8 (1 + 2 * bit d.remoteWake), 0]
  | 0x80, 6 => match descriptorOf t (v / 256) (v % 256) s with | some bs => data bs | none => stall
  | 0x80, 8 => data [BitVec.ofNat 8 (bit d.configured)]
  | 0x00, 5 => emit (.handshake .ack) (setUsbDev t { d with address := v % 128 } s)
  | 0x00, 9 => if v ≤ 1 then setConfiguration t v s else stall
  | 0x00, 3 => if v = 1 then emit (.handshake .ack) (setUsbDev t { d with remoteWake := true } s) else stall
  | 0x00, 1 => if v = 1 then emit (.handshake .ack) (setUsbDev t { d with remoteWake := false } s) else stall
  | 0x01, 11 => match t with
    | .hub2 => if u.wIndex = 0 then setInterface 4 v s else stall
    | .hub3 => if u.wIndex = 0 ∧ v = 0 then emit (.handshake .ack) s else stall
    | .function => if u.wIndex.toNat ≤ 3 then setInterface u.wIndex.toNat v s else stall
  | 0x81, 10 => match t, u.wIndex.toNat with
    | .hub2, 0 => data [BitVec.ofNat 8 s.hub.altHub]
    | .function, 1 => data [BitVec.ofNat 8 s.hub.altPlay]
    | .function, 2 => data [BitVec.ofNat 8 s.hub.altCap]
    | _, _ => data [0]
  | 0xA0, 6 => match t with
    | .hub2 => if v / 256 = 0x29 then data (hubClassDescriptor false) else stall
    | .hub3 => if v / 256 = 0x2A then data (hubClassDescriptor true) else stall
    | .function => stall
  | 0xA0, 0 => match t with | .function => stall | _ => data [0, 0, 0, 0]
  | 0xA1, _ => match t with
    | .function => match clockAnswer u with | some bs => data bs | none => stall
    | _ => stall
  | _, _ => stall

/-- STANDARD_DEVICE_REQUEST (R145). -/
def execStandardDeviceRequest (t : UsbTarget) (u : Setup) (s : State) : Result :=
  effect (fun s =>
    match t with
    | .hub2 => if usbReach s then controlRequest t u s else s
    | .hub3 => if hubAnswers true s then controlRequest t u s else s
    | .function => if usbReach s && !s.hub.port11.suspend then overCore .ctrl true 1 (controlRequest t u) s else s) s

/-! ## Streams of the function (R150 to R154) -/

/-- A 3-byte subslot, least significant byte first. -/
def subslots : List Byte → List (BitVec 24)
  | a :: b :: c :: rest => (c ++ b ++ a) :: subslots rest
  | _ => []

/-- The sample of a subslot: bits [23:6]. -/
def subslotSample (x : BitVec 24) : Word := BitVec.ofNat 18 (x.toNat / 64)

/-- n sample frames of 96 channels. -/
def playFrames : Nat → List Word → List (List Word)
  | 0, _ => []
  | n + 1, ws => ws.take 96 :: playFrames n (ws.drop 96)

/-- PLAYBACK_PACKET (R152): stored whole, or dropped and counted. -/
def playback (bytes : List Byte) (s : State) : State :=
  if usbUp s ∧ s.hub.altPlay = 1 then
    let n := bytes.length / 288
    if bytes.length % 288 ≠ 0 ∨ 56 < s.hub.playRing.length + n then
      countStream playbackStream.1 playbackStream.2.1 playbackStream.2.2 0 1 0 s
    else
      let (ok, s) := crossIso 0 0x800 (cellCount bytes.length) playbackStream s
      if ok then { s with hub := { s.hub with playRing := s.hub.playRing ++ playFrames n ((subslots bytes).map subslotSample) } } else s
  else s

/-- PLAYBACK_PACKET (R152). -/
def execPlaybackPacket (bytes : List Byte) (s : State) : Result := effect (playback bytes) s

/-- A sample as its 3-byte subslot: the sample in [23:6], zeros in [5:0] (R150). -/
def sampleBytes (w : Word) : List Byte := toBytesLE 3 (w.toNat * 64)

/-- The bytes of sample frames on endpoint 0x82 (R150). -/
def frameBytes (frames : List (List Word)) : List Byte := frames.flatMap (fun f => f.flatMap sampleBytes)

/-- CAPTURE_IN_TOKEN (R153): up to 7 complete frames. -/
def execCaptureInToken (s : State) : Result :=
  effect (fun s =>
    if usbUp s ∧ s.hub.altCap = 1 then
      let bs := frameBytes (s.hub.capRing.take 7)
      let (ok, s) := crossIso 11 1 (cellCount bs.length) captureStream { s with hub := { s.hub with capRing := s.hub.capRing.drop 7 } }
      if ok then emit (.capturePacket bs) s else s
    else s) s

/-- The nominal feedback value, 6 samples per microframe (R154). -/
def nominalFeedback : Nat := 0x00060000

/-- The feedback value of a count of fabric cycles over 128 microframes (R154). -/
def feedbackOf (cycles : Nat) : Nat := (roundDiv ((cycles : Int) * 65536) 640000).toNat

/-- FEEDBACK_REFRESH (R154): every 8 host microframes; nominal in the first 128, and when a boundary was missed. The value is what
endpoint 0x81 of alternate 1 sends in that interval: 4 bytes, least significant first. -/
def execFeedbackRefresh (cycles : Nat) (missed : Bool) (s : State) : Result :=
  effect (fun s =>
    if usbReach s then
      let m := s.hub.hostMicro + 8
      let v := if missed ∨ m < 128 then nominalFeedback else feedbackOf cycles
      let bs := toBytesLE 4 v
      let s := { s with hub := { s.hub with hostMicro := m, feedback := v, ram := { s.hub.ram with feedback := bs } } }
      if s.hub.function.configured && s.hub.altPlay == 1 then emit (.feedback bs) s else s
    else s) s

end Sys2Proof.Machine
end

