-- ==== Sys2Proof/Machine/Owned.lean ====
section
/-!
DEFINITION. Owned ports (08): ownership and its changes (R167 to R175), LE1's enumeration and refusals (R176 to R184), console
keys (R185), external hubs (R186), detach (R187), resumption (R189, R190), and the PORT commands (R191 to R194).
-/

namespace Sys2Proof.Machine

open Sys2Proof

/-! ## Matching streams to formats (R181 to R183) -/

/-- Sample frames per packet of an endpoint (R183); none when its bInterval is not allowed on the link. -/
def framesPerPacket (speed : Speed) (interval : Nat) : Option Nat :=
  match speed with
  | .ls => none
  | .fs => if interval = 1 then some 48 else none
  | _ => if 1 ≤ interval ∧ interval ≤ 4 then some (6 * 2 ^ (interval - 1)) else none

/-- bSubslotSize of a resolution (R181). -/
def subslotBytes (res : Nat) : Nat := if res = 16 then 2 else 3

/-- RES and TAG of a FORMAT entry (R123). -/
def fmtRes (e : List Word) : Nat := (e.getD 1 0).bits 17 13
/-- TAG of a FORMAT entry. -/
def fmtTag (e : List Word) : Bool := (e.getD 1 0).bit 12

/-- An alternate setting matches a TYPE 0 entry, its occupation apart (R181, R183). -/
def altFits (d : UsbDevice) (tagAware : Bool) (x : StreamIf) (a : AltSetting) (e : List Word) : Bool :=
  let (t, dir, ch, _) := fmtHead e
  let res := fmtRes e
  t == 0 && a.pcmTypeI && a.channels == ch && a.bits == res && a.subslot == subslotBytes res && a.dirOut == (dir == 1)
    && (a.sync == .synchronous || a.sync == .adaptive) && x.rate48k
    && (match framesPerPacket d.speed a.interval with | some n => decide (n * ch * a.subslot ≤ a.maxPacket) | none => false)
    && idsMatch e d.vendor.toNat d.product.toNat && (!fmtTag e || (tagAware && res == 24))

/-- The alternate setting with the lowest number. -/
def lowestAlt : List AltSetting → Option AltSetting
  | [] => none
  | a :: rest => match lowestAlt rest with
    | some b => if b.number < a.number then some b else some a
    | none => some a

/-- A stream of an interface through an alternate setting and an entry. -/
def streamFor (d : UsbDevice) (port hubPort addr : Nat) (x : StreamIf) (a : AltSetting) (k : Nat) (e : List Word) : Stream :=
  let (_, _, ch, first) := fmtHead e
  { port := port, hubPort := hubPort, addr := addr, iface := x.iface, ep := a.ep.toNat
    alt := a.number, entry := k, dirOut := a.dirOut, ch := ch
    first := first, res := fmtRes e, interval := a.interval, maxPacket := a.maxPacket, fullSpeed := d.speed == .fs, ctx := none
    tagEntry := fmtTag e, speed := d.speed, running := false, begun := false, fifo := [], fifoTick := 0, got := [] }

/-- The stream that an interface takes: the first entry in table order that no stream occupies and that it matches. -/
def matchInterface (d : UsbDevice) (tagAware : Bool) (port hubPort addr : Nat) (x : StreamIf) (taken : List Nat) (ws : List Word) :
    Option Stream :=
  ((List.range (fmtCount ws)).findSome? (fun k =>
    if taken.contains k then none
    else
      let e := fmtEntry ws k
      (lowestAlt (x.alts.filter (fun a => altFits d tagAware x a e))).map (fun a => streamFor d port hubPort addr x a k e)))

/-- The streams of a device's interfaces, in order. -/
def matchStreams (d : UsbDevice) (tagAware : Bool) (port hubPort addr : Nat) (s : State) : List Stream :=
  d.audio.flatten.foldl (fun (acc : List Stream) x =>
    match matchInterface d tagAware port hubPort addr x ((s.own.streams ++ acc).map (·.entry)) (formatWords s) with
    | some st => acc ++ [st]
    | none => acc) []

/-- The BOS platform capability that makes a device tag-aware (R180). -/
def isTagAware (d : UsbDevice) : Bool :=
  let uuid : List Byte := [0xE2, 0x91, 0x0C, 0x5A, 0x7D, 0x4F, 0x3A, 0x4B, 0x9E, 0x61, 0x2D, 0x8C, 0x05, 0xB1, 0x7A, 0x44]
  let c := d.platformCap
  decide (0x0201 ≤ d.bcdUsb.toNat) && decide (0x15 ≤ (c.getD 0 0).toNat) && c.getD 2 0 == 0x05 && (c.drop 4).take 16 == uuid
    && c.getD 20 0 == 0x01

/-! ## Admission (R182, R184) -/

/-- Assign contexts to the streams of a tag-aware device, lowest free first; a stream of a TAG entry without one is refused. -/
def giveCtx (tagAware : Bool) : List Stream → List Nat → List Stream × Bool
  | [], _ => ([], false)
  | x :: xs, free =>
    if tagAware ∧ x.res = 24 then
      match free with
      | c :: rest => let (l, no) := giveCtx tagAware xs rest; ({ x with ctx := some c } :: l, no)
      | [] => let (l, no) := giveCtx tagAware xs []; if x.tagEntry then (l, true) else (x :: l, no)
    else let (l, no) := giveCtx tagAware xs free; (x :: l, no)

/-- The free contexts, lowest first. -/
def freeCtxs (s : State) : List Nat := (List.range 64).filter (fun c => (ctxOf c s).isNone)

/-- Bus time of a FullSpeed or LowSpeed transaction of n bytes, in 0.01 ns, by the formulas of USB 2.0 section 5.11.3 (R184; log 25). -/
def busTime (speed : Speed) (iso out : Bool) (n : Nat) : Nat :=
  let stuffed := (31670 + 93336 * n) / 10000
  if speed = .ls then 6406000 + 2 * Config.hubLsSetup + 67667 * stuffed + Config.hostDelay
  else (if iso then (if out then 626500 else 726800) else 910700) + 8354 * stuffed + Config.hostDelay

/-- Status endpoint bytes of a hub. -/
def hubStatusBytes (ports : Nat) : Nat := ports / 8 + 1

/-- Bus time of a served device's endpoints in a FullSpeed frame. -/
def devTime (d : OwnedDev) (s : State) : Nat :=
  ((streamsOf d s).map (fun x => busTime d.speed true x.dirOut x.maxPacket)).sum
    + (d.hids.map (fun h => busTime d.speed false false h.packet)).sum
    + (if d.hub then busTime d.speed false false (hubStatusBytes d.hubPorts) else 0)

/-- The HighSpeed hub on an owned port, through whose TTs its FullSpeed devices run. -/
def hsHub (k : Nat) (s : State) : Option OwnedDev := (devsAt k 0 s).find? (fun d => d.hub && d.speed == .hs && d.reason == 0)

/-- Devices that share a FullSpeed link or a TT with a place (R184). -/
def ttPeers (k hubPort : Nat) (s : State) : List OwnedDev :=
  s.own.devs.filter (fun d => d.port == k && (d.speed == .fs || d.speed == .ls) && d.reason == 0
    && (match hsHub k s with | some h => !h.multiTt || d.hubPort == hubPort | none => true))

/-- Admission of endpoints in progress: payload of the link, bus time of the frame, what was admitted, and whether any did not fit. -/
structure Plan where
  used : Nat
  time : Nat
  streams : List Stream := []
  hids : List HidIf := []
  bytes : Nat := 0
  short : Bool := false
  deriving DecidableEq, Repr

/-- An endpoint of n bytes fits its link (R184). -/
def Plan.fits (p : Plan) (speed : Speed) (n t : Nat) : Bool :=
  match speed with
  | .hs => decide (p.used + n ≤ 6000)
  | .ss => decide (p.used + n ≤ 56250)
  | _ => decide (p.time + t ≤ 90000000)

/-- Reserve an endpoint. -/
def Plan.take (p : Plan) (n t : Nat) : Plan := { p with used := p.used + n, time := p.time + t, bytes := p.bytes + n }

/-- Admit the streams, then the HID endpoints, then the hub status endpoint of a device. -/
def admitStreams (d : UsbDevice) (streams : List Stream) (start : Plan) : Plan :=
  let p := streams.foldl (fun (p : Plan) x =>
    let t := busTime d.speed true x.dirOut x.maxPacket
    if p.fits d.speed x.maxPacket t then { (p.take x.maxPacket t) with streams := p.streams ++ [x] } else { p with short := true }) start
  let p := d.hid.foldl (fun (p : Plan) h =>
    let t := busTime d.speed false false h.packet
    if p.fits d.speed h.packet t then { (p.take h.packet t) with hids := p.hids ++ [h] } else { p with short := true }) p
  match d.hubPorts with
  | none => p
  | some n =>
    let b := hubStatusBytes n
    let t := busTime d.speed false false b
    if p.fits d.speed b t then p.take b t else { p with short := true }

/-- What is reserved on the link of a place before an admission. -/
def startPlan (k hubPort : Nat) (speed : Speed) (s : State) : Plan :=
  { used := ((s.own.devs.filter (fun d => d.port == k && (d.speed == .ss) == (speed == .ss))).map (·.payload)).sum
    time := ((ttPeers k hubPort s).map (fun d => devTime d s)).sum }

/-! ## The decision on a device (R178 to R186) -/

/-- Devices that LE1 serves. -/
def servedDevs (s : State) : List OwnedDev := s.own.devs.filter (fun d => d.reason == 0)

/-- What LE1 decides about a device: its reason, streams and record. -/
structure Decision where
  reason : Nat
  streams : List Stream
  dev : OwnedDev
  /-- UAC2 functions of a served device that are refused for want of a matching format (R181). -/
  unmatched : Nat := 0
  deriving DecidableEq, Repr

/-- The lowest free USB address across all owned ports (R176); 0 when none is free. -/
def freeAddr (s : State) : Nat :=
  (((List.range 127).map (· + 1)).find? (fun a => !(s.own.devs.any (fun d => d.addr == a)))).getD 0

/-- A HID interface beyond the limits of R185. -/
def hidTooBig (h : HidIf) : Bool := decide (1024 < h.descLen) || decide (64 < h.reportLen)

/-- The record of a device, as refused for a reason or served with nothing yet. -/
def baseDev (d : UsbDevice) (k hubPort addr reason : Nat) : OwnedDev :=
  { port := k, hubPort := hubPort, addr := addr, speed := d.speed, vendor := d.vendor.toNat, product := d.product.toNat
    reason := reason, hub := d.hubPorts.isSome, hubPorts := min 15 (d.hubPorts.getD 0), multiTt := d.multiTt && d.speed == .hs
    tagAware := isTagAware d, remoteWake := d.remoteWake, endpoints := 0, hids := [], buttons := [], asleep := false, cached := false, conn := 0, payload := 0 }

/-- UAC2 functions of a device none of whose streaming interfaces has a stream (R181). -/
def unmatched (d : UsbDevice) (found : List Stream) : Nat :=
  (d.audio.filter (fun f => !(f.any (fun x => found.any (fun st => st.iface == x.iface))))).length

/-- LE1's decision on an enumerated device, the refusal reasons in the order of the checks (R178 to R186). -/
def decideDevice (d : UsbDevice) (k hubPort : Nat) (s : State) : Decision :=
  let addr := freeAddr s
  let no := fun (r : Nat) => Decision.mk r [] (baseDev d k hubPort addr r) 0
  if hubPort ≠ 0 ∧ d.hubPorts.isSome then no 6
  else if d.audio = [] ∧ d.hid = [] ∧ d.hubPorts.isNone then no 1
  else if 32 ≤ (servedDevs s).length ∨ addr = 0 then no 2
  else if d.hid.any hidTooBig then no 9
  else
    let dev := baseDev d k hubPort addr 0
    let found := matchStreams d dev.tagAware k hubPort addr s
    let keys := d.hid != [] && boundKeys dev (s.own.devs ++ [dev]) (s.own.streams ++ found) s != []
    let (given, noCtx) := giveCtx dev.tagAware found (freeCtxs s)
    let p := admitStreams d given (startPlan k hubPort d.speed s)
    let streams := (giveCtx dev.tagAware (p.streams.map (fun x => { x with ctx := none })) (freeCtxs s)).1
    let behindTt := (d.speed == .fs || d.speed == .ls) && (hsHub k s).isSome && hubPort != 0
    let dev := { dev with
      endpoints := 1 + p.streams.length + p.hids.length + bit dev.hub, hids := p.hids, payload := if behindTt then 0 else p.bytes }
    if d.audio ≠ [] ∧ found = [] ∧ keys = false then no 5
    else if noCtx ∧ given = [] ∧ keys = false then no 8
    else if p.short ∧ p.streams = [] ∧ (keys = false ∨ p.hids = []) then no 4
    else if 128 < ((servedDevs s).map (·.endpoints)).sum + dev.endpoints then no 3
    else ⟨0, streams, dev, if keys then 0 else unmatched d found⟩

/-! ## Requests that LE1 issues -/

/-- A request with a data stage to a device. -/
def sendData (k addr : Nat) (typ req : Byte) (value index : Nat) (data : List Byte) (s : State) : State :=
  emit (.control (k + 1) addr ⟨typ, req, BitVec.ofNat 16 value, BitVec.ofNat 16 index, BitVec.ofNat 16 data.length⟩ data) s

/-- A request to a device, without a data stage. -/
def sendControl (k addr : Nat) (typ req : Byte) (value index : Nat) (s : State) : State := sendData k addr typ req value index [] s

/-- The hub that serves a hub port: the SuperSpeed half for a SuperSpeed device (R186). -/
def hubFor (k : Nat) (super : Bool) (s : State) : Option OwnedDev :=
  (devsAt k 0 s).find? (fun d => d.hub && d.reason == 0 && (d.speed == .ss) == super)

/-- Reset of a place: the owned port itself, with Warm Reset at SuperSpeed, or SetPortFeature(PORT_RESET) to the external hub (R176). -/
def resetPlace (k hubPort : Nat) (speed : Speed) (s : State) : State :=
  if hubPort = 0 then emit (.portReset (k + 1) (speed == .ss)) s
  else match hubFor k (speed == .ss) s with
    | some h => sendControl k h.addr 0x23 3 4 hubPort s
    | none => s

/-- The requests of one selected streaming interface (R181, R261): SET CUR, the tag-mode request, SET_INTERFACE. -/
def selectStream (d : UsbDevice) (tagAware : Bool) (x : Stream) (s : State) : State :=
  let clock := (d.audio.flatten.find? (fun i => i.iface == x.iface)).map (fun i => (i.programmable, i.clock))
  let s := match clock with
    | some (true, w) => sendData x.port x.addr 0x21 1 0x0100 w.toNat (toBytesLE 4 48000) s
    | _ => s
  let s := if tagAware then sendControl x.port x.addr 0x41 0x54 (bit x.ctx.isSome) x.iface s else s
  sendControl x.port x.addr 0x01 11 x.alt x.iface s

/-- SET_CONFIGURATION and what follows for a served device (R178, R181, R185, R186, R261). -/
def configureDevice (d : UsbDevice) (c : Decision) (s : State) : State :=
  let k := c.dev.port
  let s := sendControl k c.dev.addr 0x00 9 d.config.toNat 0 s
  let s := c.streams.foldl (fun s x => selectStream d c.dev.tagAware x s) s
  let s := c.dev.hids.foldl (fun s h => sendControl k c.dev.addr 0x21 10 0 h.iface s) s
  if c.dev.hub then
    let s := if c.dev.multiTt then sendControl k c.dev.addr 0x01 11 1 0 s else s
    (List.range c.dev.hubPorts).foldl (fun s i => sendControl k c.dev.addr 0x23 3 8 (i + 1) s) s
  else s

/-! ## The end of an enumeration -/

/-- Enumeration of a port's tree has ended: a change to owned ends (R172 step 6), and a PORT.RESET_DEVICE of the tree (R194). -/
def endTree (k : Nat) (s : State) : State :=
  let s := mapPort k (fun p => { p with enumDone := true }) s
  let s := if (portOf k s).change = .toOwned then endOwnerChange k s else s
  endReset k none s

/-- Enumeration of one place has ended: the tree's, when it has no external hub. -/
def endPlace (k hubPort : Nat) (s : State) : State :=
  let s := endReset k (some hubPort) s
  if hubPort = 0 ∧ !((devsAt k 0 s).any (fun d => d.hub && d.reason == 0)) then endTree k s else s

/-- Take a served or refused device into the records, with its contexts, and report it (R176, R193, R268). -/
def takeDevice (c : Decision) (s : State) : State :=
  let ctx : Stream → Ctx := fun x =>
    { port := x.port + 1, addr := x.addr, ep := x.ep, dirOut := x.dirOut, ch := x.ch, first := x.first, loc := devLoc c.dev }
  let s := c.streams.foldl (fun s x => match x.ctx with | some n => setCtx n (some (ctx x)) s | none => s) s
  let s := { s with own := { s.own with devs := s.own.devs ++ [c.dev], streams := s.own.streams ++ c.streams, cacheOk := true } }
  let s := settleReserved c.dev.port s
  let ws := [w18 (c.dev.port + 1), w18 (devLoc c.dev), w18 c.dev.vendor, w18 c.dev.product]
  if c.reason = 0 then
    (List.range c.unmatched).foldl (fun s _ => post 0o030505 (ws ++ [5]) s) (post 0o030404 ws s)
  else post 0o030505 (ws ++ [w18 c.reason]) s

/-- A place has no device of the side, so that one can be enumerated (R176, R186). -/
def placeFree (k hubPort : Nat) (super : Bool) (s : State) : Bool :=
  (devsAt k hubPort s).all (fun d => hubPort == 0 && d.hub && (d.speed == .ss) != super)

/-- LE1 runs and the port is its own (R167, R189). -/
def leRuns (k : Nat) (s : State) : Bool :=
  awake s && fwRuns s && (portOf k s).owned && !(portOf k s).forceOff

/-- Ticks from the reference to the start of enumeration in a change to owned (R172 step 5). -/
def enumStart (s : State) : Nat := (if stdEnum s then 61 else 21) * Config.tkPerMs

/-- A port of an external hub is the next to be enumerated: connected, and every connected port before it has its device (R176). -/
def hubTurn (h : OwnedDev) (hubPort : Nat) (s : State) : Bool :=
  decide (hubPort ≤ h.hubPorts) && bitOf h.conn.toNat hubPort
    && (List.range hubPort).all (fun i => i == 0 || !bitOf h.conn.toNat i || !(devsAt h.port i s).isEmpty)

/-- The 1 s after a first failed attempt at a place has passed (R177). -/
def retryDue (k hubPort : Nat) (s : State) : Bool :=
  match ((portOf k s).failures.find? (fun f => f.1 == hubPort)) with
  | some f => decide (Config.tkPerS ≤ since f.2 s)
  | none => true

/-- Enumeration can begin at a place. -/
def canEnumerate (k hubPort : Nat) (speed : Speed) (s : State) : Bool :=
  leRuns k s && placeFree k hubPort (speed == .ss) s && retryDue k hubPort s
    && (if hubPort = 0 then
          portLive k s && ((portOf k s).change != .toOwned || decide (enumStart s ≤ since (portOf k s).changeRef s))
        else match hubFor k (speed == .ss) s with | some h => hubTurn h hubPort s | none => false)

/-- Step 2 of an attempt (R176): the place is reset, but for a port whose change to owned has reset it (R172). -/
def attemptReset (k hubPort : Nat) (speed : Speed) (s : State) : State :=
  let s := if hubPort = 0 then linkOf k (speed == .ss) .u0 (mapPort k (DownPortState.attach speed) s) else s
  if hubPort = 0 ∧ (portOf k s).ownReset = true then mapPort k (fun p => { p with ownReset := false }) s
  else resetPlace k hubPort speed s

/-- A place's device answers through steps 1 to 7 (R176). -/
def enumerate (k hubPort : Nat) (d : UsbDevice) (s : State) : State :=
  let s := attemptReset k hubPort d.speed s
  let c := decideDevice d k hubPort s
  let s := sendControl k 0 0x00 5 c.dev.addr 0 s
  let s := if c.reason = 0 then configureDevice d c s
    else if c.reason = 6 then (match hubFor k (d.speed == .ss) s with
      | some h => sendControl k h.addr 0x23 1 8 hubPort s
      | none => s)
    else s
  let s := mapPort k (fun p => { p with failures := eraseKey p.failures hubPort }) s
  endPlace k hubPort (takeDevice c s)

/-- ENUMERATION (R176 to R186): the times of steps 1 to 5 have passed when it comes. -/
def execEnumeration (p : DownPort) (h : HubPort) (d : UsbDevice) (s : State) : Result :=
  effect (fun s => if canEnumerate p.val h.val d.speed s then enumerate p.val h.val d s else s) s

/-- A control transfer of an enumeration fails: the attempt, which began with its reset, is made again 1 s later, or the device is refused
with reason 7 (R177). -/
def enumFails (k hubPort : Nat) (speed : Speed) (ids : Option (BitVec 16 × BitVec 16)) (s : State) : State :=
  let s := attemptReset k hubPort speed s
  if !((portOf k s).failures.any (fun f => f.1 == hubPort)) then
    let t := s.clk.tick
    mapPort k (fun p => { p with failures := insertKey p.failures hubPort t }) s
  else
    let dev : OwnedDev :=
      { port := k, hubPort := hubPort, addr := 0, speed := speed, vendor := (ids.map (·.1.toNat)).getD 0
        product := (ids.map (·.2.toNat)).getD 0, reason := 7, hub := false, hubPorts := 0, multiTt := false, tagAware := false
        remoteWake := false, endpoints := 0, hids := [], buttons := [], asleep := false, cached := false, conn := 0, payload := 0 }
    endPlace k hubPort (takeDevice ⟨7, [], dev, 0⟩ (mapPort k (fun p => { p with failures := eraseKey p.failures hubPort }) s))

/-- CONTROL_TRANSFER_FAILURE (R177). -/
def execControlTransferFailure (p : DownPort) (h : HubPort) (speed : Speed) (_how : XferEnd)
    (ids : Option (BitVec 16 × BitVec 16)) (s : State) : Result :=
  effect (fun s => if canEnumerate p.val h.val speed s then enumFails p.val h.val speed ids s else s) s

/-! ## Detach, keys, hubs and resumption -/

/-- A place loses its device (R187). -/
def detachPlace (k hubPort : Nat) (s : State) : State :=
  let s := detachTree k hubPort true s
  if hubPort = 0 then endTree k (mapPort k DownPortState.detach s) else endPlace k hubPort s

/-- A place of an owned tree has something that a detach ends: an attached device, a record, or a PORT.RESET_DEVICE that waits for it. -/
def placeHolds (k hubPort : Nat) (s : State) : Bool :=
  hubPort == 0 && (portOf k s).attached || !(devsAt k hubPort s).isEmpty || s.own.resetCmd == some (k, some hubPort)

/-- DEVICE_DETACH (R174, R187): under FORCE_OFF too; during a change to pass-through the new owner sees an empty port. -/
def execDeviceDetach (p : DownPort) (h : HubPort) (s : State) : Result :=
  effect (fun s =>
    if !(awake s && fwRuns s) then s
    else if (portOf p.val s).owned then (if placeHolds p.val h.val s then detachPlace p.val h.val s else s)
    else if h.val = 0 ∧ (portOf p.val s).change = .toPass then mapPort p.val DownPortState.detach s
    else s) s

/-- Buttons after a report of an interface and report ID; the other reports stand (R185). -/
def newButtons (d : OwnedDev) (iface id : Nat) (usages : List Nat) : List (Nat × Nat × Nat) :=
  d.buttons.filter (fun b => !(b.1 == iface && b.2.1 == id)) ++ usages.map (fun u => (iface, id, u))

/-- One binding after a report: an assertion or a release when its usage changed (R185). -/
def keyChange (d : OwnedDev) (now : List (Nat × Nat × Nat)) (s : State) (b : KeyBinding) : State :=
  let was := d.buttons.any (fun x => x.2.2 == b.usage)
  let is := now.any (fun x => x.2.2 == b.usage)
  if was = is then s
  else
    let keys := s.own.keys.filter (fun x => x != (b.number, d.addr))
    zoneOcc 4 b.number (if is then 0 else 1) none
      { s with own := { s.own with keys := if is then keys ++ [(b.number, d.addr)] else keys } }

/-- HID_REPORT (R185): from a served interface of a console; usages of other pages never stand in the list. -/
def execHidReport (p : DownPort) (addr : BitVec 7) (r : HidReport) (s : State) : Result :=
  effect (fun s =>
    match devByAddr p.val addr.toNat s with
    | some d =>
      if leRuns p.val s && d.reason == 0 && !d.asleep && d.hids.any (fun h => h.iface == r.iface) then
        let now := newButtons d r.iface r.id.toNat (r.usages.map (·.toNat))
        let s := (boundKeys d s.own.devs s.own.streams s).foldl (keyChange d now) s
        mapDevs (fun x => x.port == d.port && x.addr == d.addr) (fun x => { x with buttons := now }) s
      else s
    | none => s) s

/-- HUB_STATUS_POLL (R186, R187): a changed port lost its device; when every connected port has one, the tree is enumerated. -/
def hubPoll (k : Nat) (changed connected : BitVec 16) (s : State) : State :=
  let ports := (List.range 15).map (· + 1)
  let s := mapDevs (fun d => d.port == k && d.hubPort == 0 && d.hub) (fun d => { d with conn := connected }) s
  let s := ports.foldl (fun s i =>
    if bitOf changed.toNat i && (!(devsAt k i s).isEmpty || (!bitOf connected.toNat i && placeHolds k i s)) then detachPlace k i s
    else s) s
  if ports.all (fun i => !bitOf connected.toNat i || !(devsAt k i s).isEmpty) then endTree k s else s

/-- HUB_STATUS_POLL (R186). -/
def execHubStatusPoll (p : DownPort) (changed connected : BitVec 16) (s : State) : Result :=
  effect (fun s =>
    if leRuns p.val s && (devsAt p.val 0 s).any (fun d => d.hub && d.reason == 0 && !d.asleep) then hubPoll p.val changed connected s
    else s) s

/-- A sleeping device resumes its transfers; from the cache with SET_IDLE on its HID interfaces (R189), from retained state with no
request (R190). -/
def wakeDevice (s : State) (d : OwnedDev) : State :=
  let s := if d.cached then d.hids.foldl (fun s h => sendControl d.port d.addr 0x21 10 0 h.iface s) s else s
  mapDevs (fun x => x == d) (fun x => { x with asleep := false, cached := false }) s

/-- The resume of 20 ms and the wait of 10 ms after a return from SLEEP are over (R190). -/
def resumed (s : State) : Bool :=
  match s.own.wokeAt with
  | some t => decide (30 * Config.tkPerMs ≤ since t s)
  | none => true

/-- A place is reset and enumerated anew (R189, R194). -/
def renewPlace (k hubPort : Nat) (s : State) : State :=
  let speed := match (devsAt k hubPort s).head? with | some d => d.speed | none => (portOf k s).speed.getD .hs
  let s := resetPlace k hubPort speed (mapPort k (fun p => { p with enumDone := p.enumDone && hubPort != 0 }) (forgetTree k hubPort s))
  if hubPort = 0 then (match (portOf k s).speedOn (speed != .ss) with | some y => resetPlace k 0 y s | none => s) else s

/-- OWNED_TREE_RESUME (R189, R190): after a warm chip reset a device resumes when the cache verified and it answers with the cached
descriptor; after SLEEP when it answers. -/
def execOwnedTreeResume (p : DownPort) (h : HubPort) (same : Bool) (s : State) : Result :=
  effect (fun s =>
    let sleepers := (devsAt p.val h.val s).filter (·.asleep)
    if leRuns p.val s && resumed s && !sleepers.isEmpty then
      (if same && sleepers.all (fun d => !d.cached || s.own.cacheOk) then sleepers.foldl wakeDevice s else renewPlace p.val h.val s)
    else s) s

/-! ## Ownership (R169 to R175, R192) -/

/-- A port cannot be owned now (R169). -/
def cannotOwn (k : Nat) (s : State) : Bool :=
  !fitted k s || isUpstreamB k s || (portOf k s).forceOff || s.cfg.unconfigured

/-- Matrix sources and destinations that a port carries. -/
def carriedOn (k : Nat) (out : Bool) (s : State) : List Nat :=
  (s.own.streams.filter (fun x => x.port == k && x.dirOut == out)).flatMap (fun x => (List.range x.ch).map (fun i => x.first + i))

/-- A zone at or above LOAD_BLOCK_LEVEL whose membership or current route uses a channel of the port (R192). -/
def zoneHoldsPort (k : Nat) (s : State) : Bool :=
  let outs := carriedOn k true s
  let ins := carriedOn k false s
  s.zon.zones.any (fun z =>
    decide (loadBlockLevel s ≤ zoneLevel z s) &&
      (let mine := ((entriesOf s.cfg.live 256 2).filter (fun e => e.a.bits 13 8 == z.num)).map entryDest
       let route := if z.source ≠ 0 then [z.source] else mine.flatMap (fun n => (destOf n s).base.map (·.src))
       mine.any (fun n => outs.contains n) || route.any (fun n => ins.contains n)))

/-- The OWN value of table 576 with the port's bit as commanded, as a change to word 0 (R168, R175). -/
def ownCoding (c : Command) (s : State) : Option (List Change) :=
  match tableIn s.cfg.live 576 with
  | none => none
  | some ws =>
    let w := ws.getD 0 0
    let m : Word := 1#18 <<< (6 + (c.p 1 - 1))
    some [⟨576, 0, if c.p 2 = 1 then w ||| m else w &&& ~~~m⟩]

/-- Status of PORT.SET_OWNER. -/
def checkSetOwner (c : Command) (s : State) : Nat :=
  let k := c.p 1 - 1
  firstStatus ([(decide (c.p 1 < 1) || decide (10 < c.p 1) || !fitted k s || decide (1 < c.p 2) || decide (1 < c.p 3), stBadParam),
    (cannotOwn k s || zoneHoldsPort k s, stState)] ++ persistChecks (bitOf (c.p 3) 0) (ownCoding c s) s)

/-- PORT.SET_OWNER (R192): the change is taken at the next block boundary; the owner that the port already has changes nothing. -/
def execPortSetOwner (s : State) : Result :=
  effect (longCommand 0o0302 anyVariant noAuth checkSetOwner (fun c s =>
    let k := c.p 1 - 1
    let owned := c.p 2 == 1
    let same := (portOf k s).owned == owned
    let s := persist (bitOf (c.p 3) 0) (ownCoding c s) { s with own := { s.own with ownerCmd := some k, ownerSame := same } }
    if same then s
    else mapPort k (fun p => { p with change := .requested owned, ownIgnored := false }) s)) s

/-- A PORT.SET_OWNER of the owner that the port already has ends at the next block boundary (R192). -/
def settleOwner (s : State) : State :=
  match s.own.ownerCmd with
  | some _ =>
    if s.own.ownerSame then groupDone 3 stOk { s with own := { s.own with ownerCmd := none, ownerSame := false } } else s
  | none => s

/-- Steps 1 and 2 of a change to owned (R172). -/
def beginOwned (k : Nat) (s : State) : State :=
  let t := s.clk.tick
  let was := (portOf k s).powered || (decide (k < 4) && portLive k s)
  let s := flushPort k (mapPort k (fun p => { p with
    owned := true, change := .toOwned, changeRef := t, enumDone := false, ownReset := false, failures := [], ttPeriodic := 0
    ttNonPeriodic := 0
    usb2 := { cConnection := true }, usb3 := { cConnection := true } }) s)
  if !was then restorePower k s
  else if (portOf k s).attached then s
  else endTree k s

/-- A change to owned that the port can no longer take is not made (R159, R169): its command ends with STATE. -/
def refuseOwned (k : Nat) (s : State) : State :=
  let s := mapPort k (fun p => { p with change := .none, ownIgnored := s.own.ownerCmd != some k }) s
  if s.own.ownerCmd = some k then groupDone 3 stState { s with own := { s.own with ownerCmd := none } } else s

/-- Step 3 of a change to owned (R172): LE1 drives reset on each side where a device is attached, 1 ms after the reference. -/
def driveReset (k : Nat) (s : State) : State :=
  let p := portOf k s
  if p.ownReset || decide (since p.changeRef s < Config.tkPerMs) then s
  else
    let s := if (p.speedOn true).isSome then emit (.portReset (k + 1) true) s else s
    let s := if (p.speedOn false).isSome then emit (.portReset (k + 1) false) s else s
    mapPort k (fun p => { p with ownReset := true }) s

/-- Steps 1 and 2 of a change to pass-through (R173): what the block in progress received is not taken any more. -/
def beginPass (k : Nat) (s : State) : State :=
  let t := s.clk.tick
  let was := portOf k s
  let s := endReset k none (detachTree k 0 false s)
  let s := { s with own := { s.own with ending := s.own.ending.filter (fun x => x.port != k) } }
  let s := flushPort k (mapPort k (fun p => { p with
    owned := false, change := .toPass, changeRef := t, enumDone := true, hostPower := true, usb2 := {}, usb3 := {}, reserved := 0 }) s)
  let s := if (was.speedOn true).isSome then emit (.portReset (k + 1) true) s else s
  if (was.speedOn true).isSome && (was.speedOn false).isNone then s else emit (.portReset (k + 1) false) s

/-- A side of a port shows the device that is attached to it (R173 step 4). -/
def showSide (usb3 : Bool) (k : Nat) (s : State) : State :=
  match (portOf k s).speedOn usb3 with
  | some x => wakeOnPort usb3 k .connect
      (mapSide usb3 k (fun y => { y with connection := true, speed := some x, enable := false, cConnection := true }) s)
  | none => s

/-- Step 4 of a change to pass-through (R173), on the hub that matches the device's speed; a USB 3 hub shows on both. -/
def finishPass (k : Nat) (s : State) : State := endOwnerChange k (showSide false k (showSide true k s))

/-- OWNERSHIP_TO_OWNED (R171, R172): the reference is a block boundary; with no device found, the change ends, else step 3 follows. -/
def execOwnershipToOwned (p : DownPort) (s : State) : Result :=
  effect (fun s =>
    let k := p.val
    match (portOf k s).change with
    | .requested true =>
      if !(atBlock s && fwRuns s && awake s) then s
      else if cannotOwn k s then refuseOwned k s
      else beginOwned k s
    | .toOwned =>
      if !(fwRuns s && awake s) then s
      else if !(portOf k s).attached || (portOf k s).enumDone then endTree k s
      else driveReset k s
    | _ => s) s

/-- OWNERSHIP_TO_PASS_THROUGH (R171, R173): the reference is a block boundary, and the reset ends 10 ms after it. -/
def execOwnershipToPassThrough (p : DownPort) (s : State) : Result :=
  effect (fun s =>
    let k := p.val
    match (portOf k s).change with
    | .requested false => if atBlock s && fwRuns s && awake s then beginPass k s else s
    | .toPass =>
      if fwRuns s && awake s && decide (10 * Config.tkPerMs ≤ since (portOf k s).changeRef s) then finishPass k s else s
    | _ => s) s

/-- OWNER_CHANGE_TIMEOUT (R192): enumeration has not ended 2 s after the reference. -/
def execOwnerChangeTimeout (s : State) : Result :=
  effect (fun s =>
    match s.own.ownerCmd with
    | some k =>
      if (portOf k s).change == .toOwned && decide (2 * Config.tkPerS ≤ since (portOf k s).changeRef s) then
        groupDone 3 stOk { s with own := { s.own with ownerCmd := none } }
      else s
    | none => s) s

/-! ## PORT.STATUS, PORT.DEVICES, PORT.RESET_DEVICE (R191, R193, R194) -/

/-- ROLE of PORT.STATUS. -/
def roleOf (k : Nat) (s : State) : Nat :=
  let p := portOf k s
  if s.cfg.unconfigured ∨ fitted k s = false then 5
  else if p.forceOff then 6
  else if k < 4 ∧ carriesFace k s = true then 4
  else match p.change with
    | .toOwned => 2
    | .toPass => 3
    | _ => if p.owned then 1 else if p.ownIgnored then 7 else 0

/-- Results of PORT.STATUS. -/
def statusOf (k : Nat) (s : State) : List Word :=
  let p := portOf k s
  let speed := if p.attached then (match p.speed with | some x => speedCode x | none => 0) else 0
  let mine := s.own.devs.filter (fun d => d.port == k)
  let served := mine.filter (fun d => d.reason == 0)
  let own := bitOf ((formatWords s).getD 0 0).toNat (6 + k)
  let head := w18 (bit (stdEnum s) * 128 + bit own * 64 + speed * 8 + roleOf k s)
  if p.owned then
    [head, w18 ((served.map (·.endpoints)).sum * 64 + served.length), w18 p.reserved, w18 (mine.length - served.length)]
  else [head, 0, 0, 0]

/-- PORT.STATUS (R191). -/
def execPortStatus (s : State) : Result :=
  effect (immediateCommand 0o0301 anyVariant noAuth
    (fun c _ => firstStatus [(decide (c.p 1 < 1) || decide (10 < c.p 1), stBadParam)])
    (fun c s => (statusOf (c.p 1 - 1) s, s))) s

/-- The four words of a device (R193). -/
def deviceWords (d : OwnedDev) (s : State) : List Word :=
  let xs := streamsOf d s
  let keys := d.reason == 0 && !d.hids.isEmpty && boundKeys d s.own.devs s.own.streams s != []
  let fmt := match xs.head? with | some x => x.entry | none => 63
  [w18 (devLoc d), w18 d.vendor, w18 d.product,
   w18 (bit (!xs.isEmpty) * 8192 + bit d.hub * 4096 + bit keys * 2048 + bit d.tagAware * 1024 + d.reason * 64 + fmt)]

/-- PORT.DEVICES (R193). -/
def execPortDevices (s : State) : Result :=
  effect (immediateCommand 0o0303 anyVariant noAuth
    (fun c s => firstStatus [(decide (c.p 1 < 1) || decide (10 < c.p 1), stBadParam), (!(portOf (c.p 1 - 1) s).owned, stState)])
    (fun c s => ((lostDevices (c.p 1 - 1) 0 s).flatMap (fun d => deviceWords d s), s))) s

/-- The device that a location word names. -/
def devByLoc (k w : Nat) (s : State) : Option OwnedDev := s.own.devs.find? (fun d => d.port == k && devLoc d == w)

/-- PORT.RESET_DEVICE (R194). -/
def execPortResetDevice (s : State) : Result :=
  effect (longCommand 0o0304 anyVariant noAuth
    (fun c s =>
      let k := c.p 1 - 1
      firstStatus [(decide (c.p 1 < 1) || decide (10 < c.p 1) || (c.p 2 != 0 && (devByLoc k (c.p 2) s).isNone), stBadParam),
        (!(portOf k s).owned, stState)])
    (fun c s =>
      let k := c.p 1 - 1
      let place := if c.p 2 = 0 then none else (devByLoc k (c.p 2) s).map (·.hubPort)
      let s := { s with own := { s.own with resetCmd := some (k, if place = some 0 then none else place) } }
      let s := renewPlace k (place.getD 0) s
      if (portOf k s).attached then s else endTree k s)) s

end Sys2Proof.Machine
end

