-- ==== Sys2Proof/Machine/Time.lean ====
section
/-!
DEFINITION. Clock faults and the return of the reference (R71, R72), the retrim of the RC oscillator (R63), and the frame timers of
owned ports (R66).
-/

namespace Sys2Proof.Machine

open Sys2Proof

/-- CLOCK_MONITOR_FAULT (R71, R72): the source of the check. With the reference the SuperSpeed PLL loses lock and AON goes over to the RC
oscillator, while every clock of the root runs on. DESIGN CHOICE (log 42): the manual gives a failed check of the root PLL with the
reference present its fault alone, so its clocks run on; and it does not say when a SuperSpeed PLL whose own check fails locks again. -/
def execClockMonitorFault (check : Fin 5) (s : State) : Result :=
  effect (fun s =>
    if awake s && s.clk.rootLocked then
      let s := match check.val with
        | 0 => { s with clk := { s.clk with refOk := false, ssLocked := false, slowRc := true, relock := false } }
        | 2 => { s with clk := { s.clk with ssLocked := false } }
        | _ => s
      raiseFault (BitVec.ofNat 12 (0o5100 + check.val)) s
    else s) s

/-- REFERENCE_RESTORED (R72): after 10 ms within tolerance the collector requests a warm chip reset, whatever the severity, in which the
root PLL relocks; a root PLL that has not locked yet locks on it without one. -/
def execReferenceRestored (s : State) : Result :=
  effect (fun s =>
    if s.clk.refOk then s
    else if s.clk.rootLocked then requestWarm .fault { s with clk := { s.clk with refOk := true, relock := true } }
    else { s with clk := { s.clk with refOk := true } }) s

/-- RC_RETRIM (R63): once per second in SLEEP, against the crystal. -/
def execRcRetrim (s : State) : Result :=
  effect (fun s => if s.pwr.state = .sleep then { s with clk := { s.clk with rcTrims := s.clk.rcTrims + 1 } } else s) s

/-- Frame and microframe numbers of a tick (R66). -/
def frameOf (t : Nat) : Nat := t / 48 % 2048
/-- Microframe within the frame. -/
def microOf (t : Nat) : Nat := t / 6 % 8

/-- The frame timer of a port runs: owned, powered, not suspended, and past the reset of a change to owned (R66, R172, R189, R190). -/
def frameTimerRuns (k : Nat) (s : State) : Bool :=
  let p := portOf k s
  let resetEnd := (if stdEnum s then 51 else 11) * Config.tkPerMs
  let resuming := match s.own.wokeAt with | some t => decide (since t s < 20 * Config.tkPerMs) | none => false
  p.owned && portLive k s && awake s && !resuming && s.clk.rootLocked && (p.change != .toOwned || decide (resetEnd ≤ since p.changeRef s))

/-- The packet that a port's frame timer issues at a microframe: SOF, once a frame at FullSpeed, or a timestamp at SuperSpeed.
DESIGN CHOICE (log 46): R66 names HighSpeed and SuperSpeed ports; a port without a device sends SOF every microframe, and one with a
FullSpeed or LowSpeed device once a frame. -/
def framePacket (s : State) (k : Nat) : State :=
  let t := s.clk.tick.toNat
  if !frameTimerRuns k s then s
  else
    let p := portOf k s
    let s := if (p.speedOn true).isSome then emit (.timestamp (k + 1) (frameOf t) (microOf t)) s else s
    match p.speedOn false with
    | some .fs => if microOf t = 0 then emit (.sof (k + 1) (frameOf t) 0) s else s
    | some .ls => if microOf t = 0 then emit (.sof (k + 1) (frameOf t) 0) s else s
    | some _ => emit (.sof (k + 1) (frameOf t) (microOf t)) s
    | none => if p.attached then s else emit (.sof (k + 1) (frameOf t) (microOf t)) s

/-- MICROFRAME_START (R66): at every tick that is a multiple of 6. -/
def execMicroframeStart (s : State) : Result :=
  effect (fun s => if s.clk.tick.toNat % 6 = 0 then (List.range 10).foldl framePacket s else s) s

end Sys2Proof.Machine
end

