-- ==== Sys2Proof/Machine/Tags.lean ====
section
/-!
DEFINITION. Stream tags and check-value units (12): tags of owned streams (R257 to R265, R268), conversion of owned samples (R182),
the TDM-300 frames and their trailers (R269 to R271), the passing of an audio tick (R58, R67), and PORT.TAG_STATUS (R264, R273).
-/

namespace Sys2Proof.Machine

open Sys2Proof

/-! ## Sample conversion (R182) -/

/-- A subslot into the matrix. -/
def sampleIn (res : Nat) (x : BitVec 24) : Int :=
  if res = 16 then signedField x.toNat 16 * 4
  else if res = 20 then saturate (roundDiv (signedField (x.toNat / 16) 20) 4)
  else signedField (x.toNat / 64) 18

/-- A sample out of the matrix, the tag bits zero. -/
def sampleOut (res : Nat) (v : Int) : BitVec 24 :=
  if res = 16 then BitVec.ofNat 24 ((clampInt (-32768) 32767 (roundDiv v 4)) % 65536).toNat
  else if res = 20 then BitVec.ofInt 24 (v * 4 * 16)
  else BitVec.ofInt 24 (v * 64)

/-! ## Tag groups (R258 to R260) -/

/-- The CRC of a group: channel, counter and four samples (R259). -/
def tagCrc (chan ctr : Nat) (samples : List (BitVec 18)) : Nat :=
  crc16 (msbBits 8 chan ++ msbBits 8 ctr ++ samples.flatMap (fun x => msbBits 18 x.toNat))

/-- The counter of the group that holds a frame tick (R260). -/
def tagCounter (frameTick : Nat) : Nat := frameTick / 4 % 256

/-- The 24 tag bits of a group. -/
def tagBits (chan ctr : Nat) (samples : List (BitVec 18)) : Nat := ctr * 65536 + tagCrc chan ctr samples

/-- The sample bits of a subslot. -/
def subslotTop (x : BitVec 24) : BitVec 18 := BitVec.ofNat 18 (x.toNat / 64)

/-- A group's subslots of one channel with their tag bits (R258). -/
def tagGroup (chan frameTick : Nat) (xs : List (BitVec 24)) : List (BitVec 24) :=
  let t := tagBits chan (tagCounter frameTick) (xs.map subslotTop)
  (xs.zipIdx).map (fun x => BitVec.ofNat 24 (x.1.toNat / 64 * 64 + t / 64 ^ (3 - x.2) % 64))

/-- Frames with the tags of every channel, four frames at a time from a group boundary on (R262). -/
def tagFrames (ch frameTick : Nat) : List (List (BitVec 24)) → List (List (BitVec 24))
  | f0 :: f1 :: f2 :: f3 :: rest =>
    let cols := (List.range ch).map (fun c =>
      tagGroup (c + 1) frameTick [f0.getD c 0, f1.getD c 0, f2.getD c 0, f3.getD c 0])
    (List.range 4).map (fun i => cols.map (fun col => col.getD i 0)) ++ tagFrames ch (frameTick + 4) rest
  | part => part

/-- Outcomes of a check (R263). -/
inductive Check where
  | good | counterError | crcError | failMark
  deriving DecidableEq, Repr

/-- The outcome by the table of R263: expected counter, received counter, received and correct CRC, and the CRC's mask. -/
def checkOutcome (expected ctr crc want mask : Nat) : Check :=
  if ctr = expected ∧ crc = want then .good
  else if ctr = expected ∧ crc = want ^^^ mask then .failMark
  else if crc = want then .counterError
  else .crcError

/-- The samples of a group are delivered (R263). -/
def Check.delivers : Check → Bool
  | .good => true
  | .failMark => true
  | .counterError => false
  | .crcError => false

/-- Count an outcome in a context; each count saturates at 262 143 (R268). -/
def Ctx.count (x : Ctx) (o : Check) : Ctx :=
  let up := fun (n : Nat) => min 262143 (n + 1)
  match o with
  | .good => { x with good := up x.good }
  | .counterError => { x with counter := up x.counter, blkCounter := true, seenBad := true }
  | .crcError => { x with crc := up x.crc, blkCrc := true, seenBad := true }
  | .failMark => { x with fail := up x.fail, blkFail := true, seenBad := true }

/-- The outcome of one channel of a complete group. -/
def groupOutcome (chan frameTick : Nat) (xs : List (BitVec 24)) : Check :=
  let t := xs.foldl (fun acc x => acc * 64 + x.toNat % 64) 0
  let ctr := t / 65536
  checkOutcome (tagCounter frameTick) ctr (t % 65536) (tagCrc chan ctr (xs.map subslotTop)) 0xFFFF

/-! ## Owned IN streams (R183, R263, R265) -/

/-- Sample frames per packet of a stream. -/
def Stream.perPacket (x : Stream) : Nat := (framesPerPacket x.speed x.interval).getD 6

/-- The tick whose block takes a frame of an IN stream: its packet, and for a tagged stream its group, has arrived by then (log 21). -/
def Stream.due (x : Stream) (frameTick : Nat) : Nat := frameTick + x.perPacket + (if x.ctx.isSome then 4 else 0)

/-- Deliver a frame's samples. -/
def Stream.deliver (x : Stream) (frameTick : Nat) (ws : List Word) : Stream :=
  { x with got := insertKey x.got (x.due frameTick) ws }

/-- A complete group of a context: each channel is checked, and its four frames are delivered, failed channels as zero. -/
def checkGroup (x : Stream) (c : Ctx) : Stream × Ctx :=
  let start := match c.group with | g :: _ => g.1 | [] => 0
  let runs := c.checkIn == some 0
  let col := fun (i : Nat) => c.group.map (fun g => g.2.getD i 0)
  let outs := (List.range x.ch).map (fun i => groupOutcome (i + 1) start (col i))
  let pass := outs.map (fun o => runs && o.delivers)
  let frame := fun (g : Nat × List (BitVec 24)) => (List.range x.ch).map (fun i =>
    if pass.getD i false then w18 ((subslotTop (g.2.getD i 0)).toNat) else 0)
  let x := c.group.foldl (fun (x : Stream) g => x.deliver g.1 (frame g)) x
  (x, if runs then outs.foldl Ctx.count { c with group := [] } else { c with group := [] })

/-- A frame of a tagged IN stream: a group starts at a frame tick that is a multiple of 4, and is checked with its fourth frame. -/
def taggedFrame (xc : Stream × Ctx) (f : Nat × List (BitVec 24)) : Stream × Ctx :=
  let (x, c) := xc
  let next := f.1 % 4 == c.group.length && (match c.group with | g :: _ => g.1 + c.group.length == f.1 | [] => true)
  let group := if f.1 % 4 = 0 then [f] else if next then c.group ++ [f] else []
  let c := { c with group := group }
  if group.length = 4 then checkGroup x c else (x, c)

/-- A packet of an owned IN stream whose service interval began at a frame tick. -/
def streamPacket (x : Stream) (start : Nat) (frames : List (List (BitVec 24))) (s : State) : State :=
  let n := x.perPacket
  let s := countStream (x.port + 1) (locWord x.speed x.hubPort x.addr) x.first 0 0 (frames.length - n) s
  let fs := ((frames.take n).zipIdx).map (fun f => (start + f.2, f.1))
  let keep := fun (y : Stream) => y.port == x.port && y.addr == x.addr && y.iface == x.iface
  match x.ctx.bind (fun k => (ctxOf k s).map (fun c => (k, c))) with
  | some (k, c) =>
    let c := if c.checkIn.isNone then { c with checkIn := some 2 } else c
    let (y, c) := fs.foldl taggedFrame ({ x with begun := true }, c)
    mapStreams keep (fun _ => y) (setCtx k (some c) s)
  | none =>
    let y := fs.foldl (fun (y : Stream) f =>
      y.deliver f.1 ((List.range x.ch).map (fun i => w18i (sampleIn x.res (f.2.getD i 0))))) { x with begun := true }
    mapStreams keep (fun _ => y) s

/-- An owned IN stream runs: LE1 serves its port, and its device is awake. -/
def streamRuns (x : Stream) (s : State) : Bool :=
  leRuns x.port s && x.running && !x.dirOut && (match devByAddr x.port x.addr s with | some d => !d.asleep | none => false)

/-- Subslot i of bytes. -/
def subslotAt (size : Nat) (bs : List Byte) (i : Nat) : BitVec 24 := BitVec.ofNat 24 (ofBytesLE ((bs.drop (size * i)).take size))

/-- The frames that a packet's bytes hold: n subslots each. -/
def bytesToFrames (size n : Nat) (bs : List Byte) : List (List (BitVec 24)) :=
  (List.range (bs.length / (size * max 1 n))).map (fun f => (List.range n).map (fun i => subslotAt size bs (f * n + i)))

/-- Cells of one block of a TDM port's slots in 3-byte containers (R196). -/
def tdmBlockCells : Nat := cellCount (16 * 16 * 3)

/-- What the DSP cluster takes from a packet's cells (R25, R208): a packet of an owned IN stream, checked under R263, or a TDM port's
slots of a block. -/
def dspTakes (pkt : IngressPacket) (s : State) : State :=
  if bitOf pkt.dest.toNat 12 = false then s
  else if pkt.src.val = 13 ∨ pkt.src.val = 14 then
    let slots := fun (f : List (BitVec 24)) => f.map subslotSample
    let fs := ((bytesToFrames 3 16 pkt.payload).take 16).zipIdx.map (fun f => (16 * pkt.block + f.2, slots f.1))
    { s with own := { s.own with
        tdm := listModify s.own.tdm (pkt.src.val - 13) (fun u => { u with got := fs.foldl (fun l f => insertKey l f.1 f.2) u.got }) } }
  else
    match s.own.streams.find? (fun x => x.port + 1 == pkt.src.val && x.addr == pkt.addr.toNat && x.ep == pkt.ep.toNat && streamRuns x s) with
    | some x => streamPacket x (s.clk.tick.toNat + pkt.interval.val - x.perPacket) (bytesToFrames (subslotBytes x.res) x.ch pkt.payload) s
    | none => s

/-- CELL_INGRESS (R198, R199): packets whose cells are ready at once, as the write port takes them. -/
def execCellIngress (pkts : List IngressPacket) (s : State) : Result :=
  if pkts.all (fun p => decide (p.payload.length ≤ 1024) && p.dest != 0) then effect (writePort dspTakes pkts.length pkts) s
  else .fault (.illFormed "CELL_INGRESS of a packet above 1024 bytes or without a destination")

/-- OWNED_STREAM_PACKET (R183, R263): the packet of the service interval that runs, whose cells cross the core to the DSP cluster. -/
def execOwnedStreamPacket (p : DownPort) (addr : BitVec 7) (iface : Nat) (frames : List (List (BitVec 24))) (s : State) : Result :=
  effect (fun s =>
    match s.own.streams.find? (fun x => x.port == p.val && x.addr == addr.toNat && x.iface == iface && !x.dirOut) with
    | some x =>
      if streamRuns x s then
        let n := cellCount (frames.length * x.ch * subslotBytes x.res)
        let (ok, s) := crossIso (p.val + 1) dspDest n (x.port + 1, locWord x.speed x.hubPort x.addr, x.first) s
        if ok then streamPacket x (s.clk.tick.toNat - s.clk.tick.toNat % x.perPacket) frames s else s
      else s
    | none => s) s

/-- Samples of the block that ends at a boundary, by source: 16 for each channel of each running IN stream, zero where a frame is
missing, and the frames missing are counted (R27, R183, R208, R210). -/
def takeOwned (t : Nat) (s : State) : List (Nat × List Int) × State :=
  let ending := s.own.ending
  let s := { s with own := { s.own with ending := [] } }
  (s.own.streams ++ ending).foldl (fun (acc : List (Nat × List Int) × State) x =>
    if x.dirOut ∨ x.running = false then acc
    else
      let frames := (List.range 16).map (fun i => (x.got.find? (fun g => g.1 == t + i)).map (·.2))
      let gone := if x.begun then (frames.filter (·.isNone)).length else 0
      let chans := (List.range x.ch).map (fun c => (x.first + c, frames.map (fun f => match f with
        | some ws => (ws.getD c 0).signed
        | none => 0)))
      let same := fun (y : Stream) => y.port == x.port && y.addr == x.addr && y.iface == x.iface
      let s := mapStreams same (fun y => { y with got := y.got.filter (fun g => decide (t + 16 ≤ g.1)) }) acc.2
      (acc.1 ++ chans, countStream (x.port + 1) (locWord x.speed x.hubPort x.addr) x.first gone 0 0 s)) ([], s)

/-! ## Owned OUT streams (R183, R262) -/

/-- The offset k of R262: the frames of a packet that starts in a block are all known when the block begins. -/
def Stream.offset (x : Stream) : Nat := 2 + (x.perPacket + 14) / 16

/-- Bytes of subslots in a packet. -/
def subslotsToBytes (res : Nat) (xs : List (BitVec 24)) : List Byte := xs.flatMap (fun x => toBytesLE (subslotBytes res) x.toNat)

/-- Send the complete packets of an OUT stream into the switch core, with a bound on their number. -/
def sendPackets : Nat → Stream → State → Stream × State
  | 0, x, s => (x, s)
  | k + 1, x, s =>
    let n := x.perPacket
    let off := (n - x.fifoTick % n) % n
    let x := { x with fifo := x.fifo.drop off, fifoTick := x.fifoTick + min off x.fifo.length }
    if x.fifo.length < n ∨ x.fifoTick % n ≠ 0 then (x, s)
    else
      let s := ingress dspTakes
        { src := 12, dest := BitVec.ofNat 18 (2 ^ (x.port + 1)), cls := .iso
          interval := Fin.ofNat 1025 (min 1024 (x.fifoTick + n - s.clk.tick.toNat)), addr := BitVec.ofNat 7 x.addr
          ep := BitVec.ofNat 4 x.ep, dirIn := false, ctx := x.ctx.map (Fin.ofNat 64), block := 0, ss := false, frames := n
          payload := subslotsToBytes x.res ((x.fifo.take n).flatten) } s
      sendPackets k { x with fifo := x.fifo.drop n, fifoTick := x.fifoTick + n } s

/-- The block's output frames of an OUT stream, tagged when it has a context. -/
def outFrames (x : Stream) (start : Nat) (out : List (Nat × List Int)) : List (List (BitVec 24)) :=
  let fs := (List.range 16).map (fun i => (List.range x.ch).map (fun c => sampleOut x.res ((lookupD out (x.first + c) []).getD i 0)))
  if x.ctx.isSome then tagFrames x.ch start fs else fs

/-- Every running OUT stream takes the output block that is due and sends its packets. -/
def feedOwned (t : Nat) (out : List (Nat × List Int)) (s : State) : State :=
  s.own.streams.foldl (fun (s : State) x0 =>
    if x0.dirOut ∧ x0.running then
      let start := t + 16 * (x0.offset - 2)
      let x := { x0 with fifo := x0.fifo ++ outFrames x0 start out, fifoTick := if x0.fifo = [] then start else x0.fifoTick }
      let (x, s) := sendPackets 8 x s
      mapStreams (fun y => y.port == x0.port && y.addr == x0.addr && y.iface == x0.iface) (fun _ => x) s
    else s) s

/-- Streams of awake devices start at a block boundary (R172 step 6, R189). -/
def startStreams (s : State) : State :=
  mapStreams (fun x => !x.running) (fun x => { x with
    running := s.own.devs.any (fun d => d.port == x.port && d.addr == x.addr && !d.asleep) }) s

/-! ## TDM-300 frames (R269 to R271) -/

/-- Matrix channel of a slot, when an entry names it: slots of a mask take the channels from FIRST on in order. -/
def slotChannel (es : List (Nat × Nat)) (slot : Nat) : Option Nat :=
  (es.find? (fun e => bitOf e.1 slot)).map (fun e => e.2 + popBits slot e.1)

/-- CRC-8 of a frame's slots in transmission order (R269). -/
def tdmCrc (slots : List Word) : Nat := crcBits 8 0x2F 0xFF (slots.flatMap (fun w => msbBits 18 w.toNat))

/-- The frame that a TDM port sends at the current tick (R270). -/
def tdmOut (port : Nat) (s : State) : Out :=
  let t := s.clk.tick.toNat
  let fresh := match s.clk.lastBlock with | some b => b.toNat / 16 == t / 16 | none => false
  let es := tdmEntries port 1 s
  let slots := (List.range 16).map (fun k =>
    match slotChannel es k with
    | some c => if fresh && !s.aud.tdmSafe && !(s.own.tdm.getD port {}).outLost then w18i ((lookupD s.aud.out c []).getD (t % 16) 0) else 0
    | none => 0)
  let crc := tdmCrc slots ^^^ (if s.aud.tdmSafe then 0xFF else 0)
  .tdmFrame port slots (BitVec.ofNat 12 (crc * 16 + t % 16))

/-- One audio tick passes (R58, R67): two slow-clock edges fall in every three ticks, by the root or by the RC oscillator (R62, R72). -/
def tickPasses (s : State) : State :=
  let acc := (s.clk.slowAcc + 1) % 3
  let s := { s with clk := { s.clk with tick := s.clk.tick + 1, slowAcc := acc } }
  let s := if acc = 1 then s else slowEdge s
  updateAlive { s with aud := { s.aud with tdmSafe := s.aon.safeActive && tdmZeroEn s } }

/-- TDM_FRAME_OUT (R270): both ports send the frame of the tick, which passes. TDM balls are low until the firmware runs (R38). -/
def execTdmFrameOut (s : State) : Result :=
  effect (fun s =>
    if s.clk.rootLocked && awake s then
      let s := if s.boot.phase = .running then emit (tdmOut 1 s) (emit (tdmOut 0 s) s) else s
      tickPasses s
    else s) s

/-- The outcome of an input frame (R271). -/
def tdmOutcome (u : TdmUnit) (slots : List Word) (trailer : Nat) : Check :=
  let want := tdmCrc slots
  let crc := trailer / 16
  let ctr := trailer % 16
  match u.lastCtr with
  | some last => checkOutcome ((last + u.since + 1) % 16) ctr crc want 0xFF
  | none => if crc = want then .good else if crc = want ^^^ 0xFF then .failMark else .crcError

/-- A trailer unit takes a frame of a tick. -/
def tdmTake (u : TdmUnit) (t : Nat) (slots : List Word) (trailer : Nat) : TdmUnit :=
  if u.checkIn = some 0 then
    let o := tdmOutcome u slots trailer
    let known := decide (trailer / 16 = tdmCrc slots ∨ trailer / 16 = tdmCrc slots ^^^ 0xFF)
    { u with
      lastCtr := if known then some (trailer % 16) else u.lastCtr
      since := if known then 0 else u.since + 1
      counts := u.counts.count o
      got := insertKey u.got t (if o.delivers then slots else List.replicate 16 0) }
  else { u with got := insertKey u.got t (List.replicate 16 0) }

/-- TDM_FRAME_IN (R271): on a port with an input entry. -/
def execTdmFrameIn (port : Fin 2) (slots : List Word) (trailer : BitVec 12) (s : State) : Result :=
  if slots.length = 16 then
    effect (fun s =>
      if s.boot.phase == .running && awake s && !(tdmEntries port.val 0 s).isEmpty then
        { s with own := { s.own with
            tdm := listModify s.own.tdm port.val (fun u => tdmTake u s.clk.tick.toNat slots trailer.toNat) } }
      else s) s
  else .fault (.illFormed "TDM_FRAME_IN of a frame that has not 16 slots")

/-- Samples of the block that begins at a tick from a TDM port, its missing frames counted once checking runs (R210). -/
def takeTdm (t port : Nat) (s : State) : List (Nat × List Int) × State :=
  let es := tdmEntries port 0 s
  let u := s.own.tdm.getD port {}
  let (ok, s) := if es = [] then (true, s) else crossIso (13 + port) dspDest tdmBlockCells (tdmStream port 0 s) s
  let frames := (List.range 16).map (fun i => if ok then (u.got.find? (fun g => g.1 == t + i)).map (·.2) else none)
  let chans := (List.range 16).filterMap (fun k => (slotChannel es k).map (fun c =>
    (c, frames.map (fun f => match f with | some ws => (ws.getD k 0).signed | none => 0))))
  let gone := if es ≠ [] ∧ u.checkIn = some 0 then (frames.filter (·.isNone)).length else 0
  let first := match es with | e :: _ => e.2 | [] => 0
  let s := { s with own := { s.own with
    tdm := listModify s.own.tdm port (fun u => { u with got := u.got.filter (fun g => decide (t + 16 ≤ g.1)) }) } }
  (chans, countStream (12 + port) 0 first gone 0 0 s)

/-! ## Block boundary: faults and PORT.TAG_STATUS (R264, R265, R273) -/

/-- The faults of a unit whose causes begin at a source, by the errors of the running block. -/
def tagFaults (base : Nat) (counter crc fail : Bool) (s : State) : State :=
  let s := if counter then raiseFault (BitVec.ofNat 12 base) s else s
  let s := if crc then raiseFault (BitVec.ofNat 12 (base + 1)) s else s
  if fail then raiseFault (BitVec.ofNat 12 (base + 2)) s else s

/-- A context or unit at a boundary: one boundary fewer before checking begins, and the errors of the block forgotten. -/
def stepCheck (n : Option Nat) : Option Nat := n.map (fun k => k - 1)

/-- The report of a context is due (R273). -/
def Ctx.reportDue (x : Ctx) (s : State) : Bool :=
  decide (0 < x.counter + x.crc + x.fail) && (match x.lastPost with | some t => decide (Config.tkPerS ≤ since t s) | none => true)

/-- PORT.TAG_STATUS of a context, with its counts cleared. -/
def reportCtx (port loc first : Nat) (x : Ctx) (s : State) : Ctx × State :=
  if x.reportDue s then
    ({ x with counter := 0, crc := 0, fail := 0, lastPost := some s.clk.tick },
      post 0o031106 [w18 port, w18 loc, w18 first, w18 x.counter, w18 x.crc, w18 x.fail] s)
  else (x, s)

/-- The check-value unit at a block boundary. -/
def tagBoundary (s : State) : State :=
  let cs := s.own.ctxs.filterMap id
  let e := s.own.endErr
  let s := { s with own := { s.own with endErr := (false, false, false) } }
  let s := tagFaults 0o3060 (e.1 || cs.any (·.blkCounter)) (e.2.1 || cs.any (·.blkCrc)) (e.2.2 || cs.any (·.blkFail)) s
  let s := (List.range 2).foldl (fun (s : State) p =>
    let u := (s.own.tdm.getD p {}).counts
    tagFaults (0o3063 + 3 * p) u.blkCounter u.blkCrc u.blkFail s) s
  let clear := fun (x : Ctx) => { x with blkCounter := false, blkCrc := false, blkFail := false }
  let s := (List.range 64).foldl (fun (s : State) c =>
    match ctxOf c s with
    | none => s
    | some x =>
      let (x, s) := reportCtx x.port x.loc x.first { clear x with checkIn := stepCheck x.checkIn } s
      setCtx c (some x) s) s
  (List.range 2).foldl (fun (s : State) p =>
    let u := s.own.tdm.getD p {}
    let first := match tdmEntries p 0 s with | e :: _ => e.2 | [] => 0
    let (x, s) := reportCtx (12 + p) 0 first (clear u.counts) s
    { s with own := { s.own with tdm := listModify s.own.tdm p (fun u => { u with checkIn := stepCheck u.checkIn, counts := x }) } }) s

end Sys2Proof.Machine
end

