-- ==== Sys2Proof/Machine/Governor.lean ====
section
/-!
DEFINITION. The budget governor (R380 to R383), the classes and costs of destinations (R231, R232), and the performance levels and
their changes (R363 to R367).
-/

namespace Sys2Proof.Machine

open Sys2Proof

/-! ## Levels (R363, R364) -/

/-- Commanded voltage of a level in mV: VNOM and its ageing offset (R363). -/
def levelVoltage (l : Nat) (s : State) : Nat := param 64 (l + 1) (vnomDefault l) s + 10 * s.pwr.ageOfs.getD l 0

/-- E_MAC of a level, pJ (R364). -/
def eMac (l : Nat) (s : State) : Nat := param 64 (5 + l) ([52, 46, 40, 31].getD l 31) s

/-- Capacity of a level, MAC/tk (R363). -/
def levelCap (l : Nat) : Nat := [240000, 192000, 160000, 80000].getD l 0

/-- A level is available: PL3 always, the others by LEVELS, and PL0 until it is retired (R363). -/
def levelAvailable (l : Nat) (s : State) : Bool :=
  l == 3 || (bitOf (param 64 10 15 s) l && !(l == 0 && s.pwr.pl0Retired))

/-! ## Classes and costs (R231, R232, R234) -/

/-- Class of a destination: 0, 1 or 2 (R232). -/
def destClass (n : Nat) (s : State) : Nat :=
  if destProtected n s then 0
  else match zoneOf n s with
    | some z => if 1 ≤ zoneLevel z s then 1 else 2
    | none => 2

/-- Cost of a destination in a variant, MAC/tk (R231, R234). -/
def variantCost (n v : Nat) (s : State) : Nat :=
  if v = 4 then 0
  else
    let d := destOf n s
    let eq := ((d.sections.zipIdx).filter (fun q => !q.1.bypass && eqRuns v q.2)).length
    let dyn := match d.dyn with | some y => if y.on ∧ v ≤ 2 then 6 else 0 | none => 0
    let delay := match d.delay with | some l => if l.format = 0 then 1 else 4 | none => 0
    (effectiveMix n s).length + 1 + 7 * eq + dyn + delay

/-- Active destinations of a class. -/
def destsOfClass (c : Nat) (s : State) : List Nat := (servedDests s).filter (fun n => destClass n s == c)

/-- Voices with a message that has EMERGENCY set, or has not, by number. -/
def voicesOf (emergency : Bool) (s : State) : List Nat :=
  (List.range 16).filter (fun v => match voiceOf v s with | some x => x.msg.emergency == emergency | none => false)

/-- Voices whose decoding is C1 (R231). -/
def c1Voices (s : State) : List Nat := voicesOf false s

/-- Steps of a Pavane run that have no result yet, in order (R410). -/
def stepsLeft (r : PavRun) : List Nat :=
  (List.range 11).filter (fun k => bitOf r.mask k && !bitOf r.cur.passed k && !bitOf r.cur.failed k)

/-- Steps to take next: step 10 while some of its levels are open. -/
def nextSteps (r : PavRun) : List Nat := if 0 < r.levels then [10] else stepsLeft r

/-- Cost of the known-answer tests, Pavane step 1 (R231, R410): up to 20 000 MAC/tk, an open value (log 26). -/
def katLoad (s : State) : Nat :=
  match s.pav.run with
  | some r => if (nextSteps r).head? = some 1 then min 20000 Config.katCost else 0
  | none => 0

/-- Cost of ambient measurements, of the meters of all sources and destinations, and of known-answer tests (R231, R235). -/
def c3Cost (s : State) : Nat := 3 * (s.aud.dests.filter (fun d => d.ambient.isSome)).length + 2 * 384 + katLoad s

/-! ## Admission (R381) -/

/-- What is left for admission: power in pW, room in sixths of a MAC/tk, and whether a job was refused for room. -/
structure Purse where
  power : Int
  room : Int
  refused : Bool := false
  deriving DecidableEq, Repr

/-- Power of work at an energy per MAC, pW. -/
def workPower (e w : Nat) : Int := (w * 48000 * e : Nat)

/-- Work fits both. -/
def Purse.fits (p : Purse) (e w : Nat) : Bool := decide (workPower e w ≤ p.power) && decide ((6 * w : Nat) ≤ p.room)

/-- Work is charged. -/
def Purse.charge (p : Purse) (e w : Nat) : Purse := { p with power := p.power - workPower e w, room := p.room - (6 * w : Nat) }

/-- Work is refused: for room when it exceeds that. -/
def Purse.refuse (p : Purse) (w : Nat) : Purse := { p with refused := p.refused || decide (p.room < (6 * w : Nat)) }

/-- One C1 destination: in full, else in the cheapest variant that serves it, else in V4 (R234; log 26). -/
def admitC1 (e : Nat) (s : State) (acc : Purse × List (Nat × Nat)) (n : Nat) : Purse × List (Nat × Nat) :=
  let (p, vs) := acc
  let w := variantCost n 0 s
  if p.fits e w then (p.charge e w, vs ++ [(n, 0)])
  else
    let p := p.refuse w
    let w3 := variantCost n 3 s
    if p.fits e w3 then (p.charge e w3, vs ++ [(n, 3)]) else (p, vs ++ [(n, 4)])

/-- C1 voices in number order: the purse, and the voices refused. -/
def admitVoices (e : Nat) : List Nat → Purse → Purse × List Nat
  | [], p => (p, [])
  | v :: vs, p =>
    if p.fits e 14 then admitVoices e vs (p.charge e 14)
    else
      let (p, no) := admitVoices e vs (p.refuse 14)
      (p, v :: no)

/-- Total cost of destinations in a variant. -/
def totalCost (ns : List Nat) (v : Nat) (s : State) : Nat := (ns.map (fun n => variantCost n v s)).sum

/-- How many of the lowest-numbered destinations fit at V3: those above go to V4. -/
def fitV3 (p : Purse) (e : Nat) (ns : List Nat) (s : State) : Nat → List Nat
  | 0 => []
  | k + 1 => if p.fits e (totalCost (ns.take (k + 1)) 3 s) then ns.take (k + 1) else fitV3 p e ns s k

/-- C2 destinations at the richest common variant: the purse, the variant, and the variant of each. -/
def admitC2 (p : Purse) (e : Nat) (ns : List Nat) (s : State) : Purse × Nat × List (Nat × Nat) :=
  match (List.range 4).find? (fun v => p.fits e (totalCost ns v s)) with
  | some v =>
    let p := if v = 0 then p else p.refuse (totalCost ns 0 s)
    (p.charge e (totalCost ns v s), v, ns.map (fun n => (n, v)))
  | none =>
    let p := p.refuse (totalCost ns 0 s)
    let kept := fitV3 p e ns s ns.length
    (p.charge e (totalCost kept 3 s), 3, ns.map (fun n => (n, if kept.contains n then 3 else 4)))

/-- Attached Source ports by descending PRIO, the lower port first among equals (R380, R381). -/
def sourcePorts (s : State) : List Nat :=
  sortBy (fun a b => decide (param 321 (b + 1) 0 s < param 321 (a + 1) 0 s))
    ((List.range 4).filter (fun n => (flexAt n s).role == .source))

/-- Floor of each attached Source port, mW (R381). -/
def pdFloor : Nat := 2500

/-- Grant power to ports in order up to a want of each in mW: grants are in pW by port. -/
def grantPd (want : Nat → Nat) : List Nat → Int × List (Nat × Int) → Int × List (Nat × Int)
  | [], acc => acc
  | n :: ns, (left, got) =>
    let had := lookupD got n 0
    let need : Int := max 0 ((want n : Int) * 10 ^ 9 - had)
    let g := min need (max 0 left)
    grantPd want ns (left - g, insertKey got n (had + g))

/-- What the governor found for a level. -/
structure Decided where
  level : Nat
  budget : Int
  short : Bool
  variants : List (Nat × Nat)
  /-- C1 voices whose decoding is refused. -/
  muted : List Nat
  c2 : Nat
  c3 : Bool
  grants : List (Nat × Int)
  load : Nat
  refused : Bool
  deriving DecidableEq, Repr

/-- Thermal limits T_WARN and T_C0ONLY in 0.125 degC (R380). -/
def tWarn (s : State) : Int := 8 * (param 65 3 105 s : Nat)
/-- T_C0ONLY in 0.125 degC. -/
def tC0 (s : State) : Int := 8 * (param 65 4 120 s : Nat)

/-- Input power in mW (R380). -/
def inputPower (s : State) : Nat :=
  let cap := boardParam 3 60 s * 100
  if s.rails.pfail then cap * param 65 2 50 s / 100 else cap

/-- The decision for one level (R381). -/
def decideAt (pFix : Nat) (s : State) (l : Nat) : Decided :=
  let c0 := liveReserve s
  let em := eMac l s
  let ports := sourcePorts s
  let e : Int := ((inputPower s : Int) - (param 65 1 0 s * 100 : Nat) - pFix - (pdFloor * ports.length : Nat)) * 10 ^ 9
    - workPower em (2 * c0)
  let span := tC0 s - tWarn s
  let num := clampInt 0 span (tC0 s - s.pwr.tp)
  let b := max e 0 * num / span
  let p : Purse := { power := b, room := (5 * levelCap l : Nat) - (12 * c0 : Nat) }
  let (p, v1) := (destsOfClass 1 s).foldl (admitC1 em s) (p, [])
  let (p, muted) := admitVoices em (c1Voices s) p
  let (p, c2, v2) := admitC2 p em (destsOfClass 2 s) s
  let (left, got) := grantPd (fun n => contractPower (flexAt n s) - pdFloor) ports (p.power, [])
  let p := { p with power := left }
  let want := decide (s.pwr.tp < tWarn s) && s.pwr.state == .run
  let c3 := want && p.fits em (c3Cost s)
  let p := if c3 then p.charge em (c3Cost s) else if want then p.refuse (c3Cost s) else p
  let (_, got) := grantPd (fun n => pmaxOf n s * 100 - pdFloor) ports (p.power, got)
  let load := 2 * c0 + ((v1 ++ v2).map (fun x => variantCost x.1 x.2 s)).sum + 14 * ((c1Voices s).length - muted.length) + (if c3 then c3Cost s else 0)
  { level := l, budget := b, short := decide (e < 0), variants := v1 ++ v2, muted := muted, c2 := c2, c3 := c3, grants := got, load := load
    refused := p.refused }

/-- The governor's choice: the slowest level at which nothing is refused for room, else the fastest available (R381). -/
def decideLevel (pFix : Nat) (s : State) : Decided :=
  let ls := [3, 2, 1, 0].filter (fun l => levelAvailable l s)
  match ls.find? (fun l => !(decideAt pFix s l).refused) with
  | some l => decideAt pFix s l
  | none => decideAt pFix s (ls.getLast?.getD 3)

/-! ## The governor at a block boundary (R380 to R383) -/

/-- Temperatures, forecast and averages of a boundary, with the faults of the sensors (R380, R383, R388). -/
def takeSensors (inp : BlockInputs) (s : State) : State :=
  let tau := param 65 6 60 s
  let t := inp.temps.foldl max (inp.temps.headD 0)
  let lo := inp.temps.foldl min (inp.temps.headD 0)
  let slow := ((s.pwr.pSlow : Int) + roundDiv ((inp.pLast * 65536 : Nat) - (s.pwr.pSlow : Int)) (3000 * tau)).toNat
  let above := inp.pLast * 65536 - slow
  let tp := t + roundDiv (param 65 5 200 s * above * 8 : Nat) (100000 * 65536)
  let s := { s with pwr := { s.pwr with temps := inp.temps, pFix := inp.pFix, pLast := inp.pLast, pSlow := slow, tp := tp } }
  let s := if 1000 ≤ t then raiseFault 0o5120 s else s
  if 80 < t - lo then raiseFault 0o5121 s else s

/-- The governor's state (R383). -/
def governorState (d : Decided) (s : State) : Nat :=
  if s.rails.pfail then 4
  else if d.short then 3
  else if tC0 s ≤ s.pwr.tp then 2
  else if tWarn s < s.pwr.tp then 1
  else 0

/-- PWR.GOVERNOR when the state changed, at most once per second (R383). -/
def postGovernor (s : State) : State :=
  let due : Bool := match s.pwr.govPosted with | some t => decide (Config.tkPerS ≤ since t s) | none => true
  if s.pwr.govState ≠ s.pwr.govShown ∧ due then
    let t := s.pwr.temps.foldl max (s.pwr.temps.headD 0)
    let s := post 0o100203 [w18 s.pwr.govState, w18 (s.pwr.budget / 10), w18i t] s
    { s with pwr := { s.pwr with govShown := s.pwr.govState, govPosted := some s.clk.tick } }
  else s

/-- PROC.DEGRADED of a destination whose variant differs from the one posted, at most once per second (R234). -/
def postVariant (s : State) (x : Nat × Nat) : State :=
  let d := destOf x.1 s
  let due : Bool := match d.posted with | some t => decide (Config.tkPerS ≤ since t s) | none => true
  if d.postedVariant ≠ x.2 ∧ due then
    let t := s.clk.tick
    post 0o060103 [w18 x.1, w18 x.2, w18 (destClass x.1 s)] (setDest { d with posted := some t, postedVariant := x.2 } s)
  else s

/-- A level change is decided (R365, R366, R382). -/
def beginMove (l : Nat) (s : State) : State := { s with pwr := { s.pwr with moving := true, target := l, downCount := 0 } }

/-- The level rule (R382): a faster level at once, a slower one after DOWN_BLOCKS boundaries; an ageing offset alone moves the voltage. -/
def chooseLevel (l : Nat) (s : State) : State :=
  if s.pwr.moving then s
  else if l < s.pwr.pl then beginMove l s
  else if s.pwr.pl < l then
    (if param 65 7 3 s ≤ s.pwr.downCount + 1 then beginMove l s
     else { s with pwr := { s.pwr with downCount := s.pwr.downCount + 1 } })
  else if s.pwr.vcore ≠ levelVoltage l s then beginMove l s
  else { s with pwr := { s.pwr with downCount := 0 } }

/-- Allocations of the ports (R325, R381). -/
def setAllocations (d : Decided) (s : State) : State :=
  (List.range 4).foldl (fun (s : State) n =>
    mapFlex n (fun f => { f with alloc := if f.role = .source then pdFloor + ((lookupD d.grants n 0) / 10 ^ 9).toNat else pdFloor }) s) s

/-- The governor's work at a block boundary: the variants of the block, and the voices that it does not admit. -/
def governor (inp : BlockInputs) (s : State) : List (Nat × Nat) × List Nat × State :=
  let s := takeSensors inp s
  let d := decideLevel inp.pFix s
  let s := setAllocations d (chooseLevel d.level s)
  let s := { s with
    aud := { s.aud with c3 := d.c3 }
    pwr := { s.pwr with
      budget := (d.budget / 10 ^ 9).toNat, govState := governorState d s, load := d.load, c2Variant := d.c2
      v4 := (d.variants.filter (fun x => x.2 == 4 && destClass x.1 s == 2)).length } }
  let s := d.variants.foldl postVariant s
  (d.variants, d.muted, postGovernor s)

/-! ## Level changes (R365 to R367) -/

/-- Set-points of the VOUT_COMMAND steps from one voltage to another: two when they differ by more than 180 mV (R366). -/
def voutSteps (u v : Nat) : List Nat := if 180 < max u v - min u v then [Config.midVoltage u v, v] else [v]

/-- A VOUT_COMMAND to the regulator's address of table 0, with Packet Error Checking (R50, R126). -/
def voutCommand (mv : Nat) (s : State) : Out := .vout (boardParam 5 64 s) mv true

/-- Carry out VOUT_COMMAND steps (R367): the voltage confirmed last, and whether all succeeded. -/
def runSteps : List Nat → List VoutResult → State → Bool × State
  | [], _, s => (true, s)
  | v :: vs, r :: rs, s =>
    let s := emit (voutCommand v s) s
    let s := if 1 ≤ r.failures then emit (voutCommand v s) s else s
    if 2 ≤ r.failures then (false, raiseFault 0o5160 s)
    else if 3 * v < 100 * (max r.settled v - min r.settled v) then (false, raiseFault 0o5140 s)
    else runSteps vs rs { s with pwr := { s.pwr with vcore := v } }
  | _ :: _, [], s => (false, s)

/-- A change of level in progress is carried out: a faster level waits for its voltage, a slower one switches first (R365, R367). -/
def levelChange (results : List VoutResult) (s : State) : State :=
  let l := s.pwr.target
  let steps := voutSteps s.pwr.vcore (levelVoltage l s)
  if s.pwr.pl < l then
    let s := { s with pwr := { s.pwr with pl := l } }
    let (_, s) := runSteps steps results s
    { s with pwr := { s.pwr with moving := false } }
  else
    let (ok, s) := runSteps steps results s
    { s with pwr := { s.pwr with moving := false, pl := if ok then l else s.pwr.pl } }

/-- LEVEL_CHANGE (R365): at a block boundary, while a change is in progress. -/
def execLevelChange (results : List VoutResult) (s : State) : Result :=
  effect (fun s =>
    if s.pwr.moving && atBlock s && awake s && decide ((voutSteps s.pwr.vcore (levelVoltage s.pwr.target s)).length ≤ results.length) then
      levelChange results s
    else s) s

/-- PMB_ALERT (R50): the PMBus controller's fault. -/
def execPmbAlert (s : State) : Result := effect (raiseFault 0o5161) s

/-- SUPPLY_OUT_OF_RANGE (R454): in every power state. -/
def execSupplyOutOfRange (s : State) : Result := effect (raiseFault 0o5141) s

end Sys2Proof.Machine
end

