-- ==== Sys2Proof/Machine/Power.lean ====
section
/-!
DEFINITION. Power states (R369 to R379): PWR commands, SLEEP and HIBERNATE entry and their collisions, wake sources, the wake from SLEEP
with its retention checks (R445), the wake from HIBERNATE, and Stash bank power.
-/

namespace Sys2Proof.Machine

open Sys2Proof

/-! ## Domains (R378, R379, R399) -/

/-- FLT_OFF words that powered domains and Stash banks give: DSP, LINK, SUP, FAB and PORT blocks of an off domain, and off banks. -/
def offWords (s : State) : List (BitVec 18) :=
  let all := fun (c : Nat) => 2 ^ (lastBlock c + 1) - 1
  let dom := fun (b c : Nat) => if bitOf s.pwr.domains.toNat b then 0 else all c
  let banks := ((List.range 8).map (fun k => if bitOf s.mem.bankOn.toNat k then 0 else 2 ^ (5 + k))).sum
  [BitVec.ofNat 18 (dom 1 0), BitVec.ofNat 18 (dom 2 1), BitVec.ofNat 18 (dom 3 2),
   if bitOf s.pwr.domains.toNat 4 then BitVec.ofNat 18 banks else BitVec.ofNat 18 (all 3), BitVec.ofNat 18 (dom 5 4), 0]

/-- FLT_OFF follows the powered domains. -/
def syncOff (s : State) : State := { s with flt := { s.flt with off := offWords s } }

/-- STASH_BANK_POWER_UP (R378): the first access to a bank that is off. -/
def execStashBankPowerUp (bank : Fin 8) (s : State) : Result :=
  effect (fun s => if awake s then syncOff (powerBank bank.val s) else s) s

/-! ## PWR.STATUS and PWR.SET_RETAIN (R384, R386) -/

/-- Results of PWR.STATUS. -/
def powerWords (s : State) : List Word :=
  let p := s.pwr
  let t := p.temps.foldl max (p.temps.headD 0)
  let pd := (((List.range 4).map (fun n => contractPower (flexAt n s))).sum + 50) / 100
  [w18 (powerCode p.state % 4 * 65536 + p.pl % 4 * 16384 + bit p.moving * 8192 + bit p.pl0Retired * 4096 + p.govState * 512),
   w18 (p.budget / 10), w18 p.pLast, w18 pd, w18i t, w18i p.tp, w18 p.load, w18 (p.v4 * 8 + p.c2Variant)]

/-- PWR.STATUS (R384). -/
def execPwrStatus (s : State) : Result :=
  effect (immediateCommand 0o1001 anyVariant noAuth (fun _ _ => stOk) (fun _ s => (powerWords s, s))) s

/-- PWR.SET_RETAIN (R386). -/
def execPwrSetRetain (s : State) : Result :=
  effect (immediateCommand 0o1003 anyVariant noAuth
    (fun c s => firstStatus [(decide (255 < c.p 1), stBadParam), (entering s, stState)])
    (fun c s =>
      let v := BitVec.ofNat 8 (c.p 1 / 2 * 2)
      ([w18 (v.toNat + 1)], { s with pwr := { s.pwr with retain := v } }))) s

/-! ## PWR.ENTER (R370, R385) -/

/-- A zone is at LEVEL 1 or above. -/
def zoneRaised (s : State) : Bool := s.zon.zones.any (fun z => decide (1 ≤ zoneLevel z s))

/-- A message voice plays. -/
def voicePlays (s : State) : Bool := s.msg.voices.any (·.isSome)

/-- An enabled wake pin is at its active level. -/
def wakePinActive (s : State) : Bool :=
  (List.range 4).any (fun k => bitOf s.aon.wakeEn.toNat k && (s.zon.inputs.getD k {}).sample)

/-- SLEEP and HIBERNATE are refused (R370). -/
def lowPowerBlocked (s : State) : Bool :=
  s.aon.safeActive || zoneRaised s || voicePlays s || s.pav.run.isSome || s.mbx.long.any (fun l => l.group != 8) || wakePinActive s

/-- Authentication is needed for SLEEP and HIBERNATE (R113). -/
def enterNeedsAuth (c : Command) (_ : State) : Bool := c.p 1 == 2 || c.p 1 == 3

/-- Status of PWR.ENTER. -/
def checkEnter (c : Command) (s : State) : Nat :=
  let low := c.p 1 == 2 || c.p 1 == 3
  firstStatus [(decide (3 < c.p 1) || (if c.p 1 = 2 then decide (60000 < c.p 2) else c.p 2 != 0) || decide (1 < c.p 3)
      || (c.p 3 == 1 && !low), stBadParam),
    (low && lowPowerBlocked s, stState)]

/-- One row of PWR.ENTER. -/
def pwrEnter (variant : Command → Bool) (run : Command → State → State) (s : State) : State :=
  longCommand 0o1002 variant enterNeedsAuth checkEnter run s

/-- PWR.ENTER for RUN, in force from the next block boundary; an undefined STATE is refused here (R385). -/
def execPwrEnterRun (s : State) : Result :=
  effect (pwrEnter (fun c => c.p 1 == 0 || decide (3 < c.p 1)) (fun _ s => { s with pwr := { s.pwr with request := some .run } })) s

/-- PWR.ENTER for DOZE (R371, R385). -/
def execPwrEnterDoze (s : State) : Result :=
  effect (pwrEnter (opIs 1) (fun _ s => { s with pwr := { s.pwr with request := some .doze } })) s

/-- RUN or DOZE takes effect at a block boundary, and PWR.ENTER ends (R385). A Pavane run from DOZE keeps RUN until its end (R371). -/
def settleRequest (s : State) : State :=
  match s.pwr.request with
  | some st =>
    let s := match s.pav.run with
      | some r => { s with pav := { s.pav with run := some { r with fromDoze := st == PowerState.doze } } }
      | none => { s with pwr := { s.pwr with state := st } }
    groupDone 8 stOk { s with pwr := { s.pwr with request := none } }
  | none => s

/-- PWR.ENTER for SLEEP (R372, R385). -/
def execPwrEnterSleep (s : State) : Result :=
  effect (pwrEnter (opIs 2) (fun c s =>
    { s with pwr := { s.pwr with
      entry := .waitSleep (s.clk.tick + BitVec.ofNat 54 (c.p 2 * Config.tkPerMs)), reenter := if c.p 3 = 1 then some .sleep else none
      wokeBy := 0 } })) s

/-- The upstream face is suspended, or none is connected. -/
def faceQuiet (s : State) : Bool := s.hub.suspended || !s.hub.connected

/-- SLEEP_WAIT_TIMEOUT (R372): WAIT ms have passed with the face not suspended. -/
def execSleepWaitTimeout (s : State) : Result :=
  effect (fun s =>
    match s.pwr.entry with
    | .waitSleep till =>
      if till.toNat ≤ s.clk.tick.toNat ∧ faceQuiet s = false then
        groupDone 8 stTimeout { s with pwr := { s.pwr with entry := .none, reenter := none } }
      else s
    | _ => s) s

/-! ## Step 1 of an entry (R372, R190) -/

/-- Voices stop, with no event. -/
def stopVoices (s : State) : State :=
  { s with
    msg := { s.msg with voices := List.replicate 16 none }
    zon := { s.zon with zones := s.zon.zones.map (fun z => { z with voice := none }) } }

/-- Owned streams stop and owned trees are suspended, with remote wake set where a device offers it (R190). -/
def suspendTrees (s : State) : State :=
  let s := (s.own.devs.filter (fun d => d.remoteWake && d.reason == 0)).foldl
    (fun s d => sendControl d.port d.addr 0x00 3 1 0 s) s
  let s := mapDevs (fun d => d.reason == 0) (fun d => { d with asleep := true, cached := false }) s
  let s := (List.range 10).foldl (fun s k =>
    let p := portOf k s
    if !(p.owned && p.attached) then s
    else
      let s := if (p.speedOn true).isSome then emit (.portSuspend (k + 1) true) s else s
      if (p.speedOn false).isSome then emit (.portSuspend (k + 1) false) s else s) s
  mapStreams (fun _ => true) (fun x => { x with running := false, begun := false, fifo := [], got := [] }) s

/-- Step 1: zones freeze, voices and owned streams stop. -/
def quiesce (s : State) : State := suspendTrees (stopVoices s)

/-- The event PWR.WAKE (R386). -/
def postWake (faulty abandoned : Bool) (left : PowerState) (secs : Nat) (s : State) : State :=
  post 0o100103 [w18 (s.aon.wakeCause.toNat + 256 * bit faulty + 512 * bit abandoned), w18 (powerCode left), w18 (min 262143 secs)] s

/-- A SLEEP entry is abandoned: the steps done are undone (R376). -/
def abandonEntry (s : State) : State :=
  let s := { s with pwr := { s.pwr with entry := .none, reenter := none }, zon := { s.zon with resample := true } }
  let s := mapDevs (fun _ => true) (fun d => { d with asleep := false }) s
  postWake false true .sleep 0 (groupDone 8 stState s)

/-- Safe state or a raised zone during an entry abandons it (R376). -/
def entryBroken (s : State) : Bool := entering s && (s.aon.safeActive || zoneRaised s)

/-! ## SLEEP (R372) -/

/-- Banks kept in SLEEP: bank 0 and those of PWR_RETAIN. -/
def retainedBanks (s : State) : BitVec 8 := s.pwr.retain ||| 1#8

/-- The contents of banks that a mask names are lost. -/
def loseBanks (mask : BitVec 8) (s : State) : State :=
  (List.range 8).foldl (fun (s : State) k =>
    if bitOf mask.toNat k then
      let s := stashClear (stashAddr k 0) (9 * 65536) s
      { s with mem := { s.mem with stashErr := s.mem.stashErr.filter (fun x => x.1 / 65536 != k) } }
    else s) s

/-- The slow clock passes to the trimmed RC oscillator and the PLLs stop (R63). The entry has lasted longer than two slow-clock periods,
so every posted write has been applied (R86, log 41). -/
def stopClocks (s : State) : State :=
  let s := drainPosted s
  { s with
    clk := { s.clk with rcTrims := s.clk.rcTrims + 1, slowRc := true, rootLocked := false, ssLocked := false, slowOdd := false }
    pwr := { s.pwr with asleep := 0 } }

/-- LINK is off in SLEEP but for the suspend state of the hubs and the function (R17): the endpoint buffers, the TT buffers and the
measured feedback value are gone. -/
def dropLink (s : State) : State :=
  { s with
    hub := { s.hub with playRing := [], playRunning := false, capRing := [], ram := {}, feedback := 0x00060000, hostMicro := 0 }
    ports := s.ports.map (fun p => { p with ttPeriodic := 0, ttNonPeriodic := 0 }) }

/-- The end of SLEEP entry: domains off, VDD_CORE at 0.55 V, PLL stopped (R372 steps 3 to 6). -/
def finishSleep (s : State) : State :=
  let kept := retainedBanks s
  let s := dropLink (stopClocks (loseBanks (~~~kept) s))
  syncOff { s with
    mem := { s.mem with bankOn := kept }
    pwr := { s.pwr with state := .sleep, left := .sleep, entry := .none, domains := 0x33, vcore := 550, waking := false, faultWake := false }
    clk := { s.clk with mclk := 0 } }

/-- SLEEP_ENTRY (R372): step 1 at the first boundary with the face quiet and no level change in progress; the rest after it. -/
def execSleepEntry (s : State) : Result :=
  effect (fun s =>
    if !awake s then s
    else match s.pwr.entry with
      | .waitSleep _ =>
        if atBlock s && faceQuiet s && !s.pwr.moving then
          quiesce { s with pwr := { s.pwr with entry := .sleeping s.clk.tick } }
        else s
      | .sleeping _ => if entryBroken s then abandonEntry s else finishSleep s
      | _ => s) s

/-! ## HIBERNATE (R375) -/

/-- HIBERNATE entry: terminations off, port power off, every domain except AON off. At its end every ball of an off domain is in its reset
state: DISCH low after it has discharged VBUS, GPIO outputs inputs again (R37); the power-fail comparator is off (R55). -/
def enterHibernate (s : State) : State :=
  let s := upstreamOff (quiesce s)
  let s := (List.range 4).foldl (fun (s : State) n =>
    let cc := if flexRole n s = 2 then CcState.rd else .rp
    let s := pdGone n s
    if fitted n s then mapFlex n (fun f => f.unpower.leave cc) s else s) s
  let s := { s with
    ports := s.ports.map (fun p => { p with powered := false, attached := false })
    flex := s.flex.map (fun f => { f with disch := false, dischSets := 0 })
    zon := { s.zon with gpioOut := List.replicate 8 none }
    rails := { s.rails with pfail := false } }
  let s := stopClocks s
  let cmd := longOf 8 s
  syncOff { s with
    clk := { s.clk with xtalOn := false }
    mem := { s.mem with bankOn := 0, stash := [], stashErr := [] }
    pwr := { s.pwr with state := .hibernate, left := .hibernate, entry := .none, entryCmd := cmd, domains := 1, vcore := 550
                        waking := false, faultWake := false } }

/-- PWR.ENTER for HIBERNATE (R375, R376): entry begins once no level change is in progress. -/
def execPwrEnterHibernate (s : State) : Result :=
  effect (pwrEnter (opIs 3) (fun c s =>
    let s := { s with pwr := { s.pwr with reenter := if c.p 3 = 1 then some .hibernate else none, wokeBy := 0 } }
    if s.pwr.moving then { s with pwr := { s.pwr with entry := .toHibernate } } else enterHibernate s)) s

/-- A HIBERNATE entry that waited for a level change begins at a block boundary, unless safe state or a raised zone ends it. -/
def settleHibernate (s : State) : State :=
  if s.pwr.entry = .toHibernate then
    if s.aon.safeActive || zoneRaised s then
      postWake false true .hibernate 0 (groupDone 8 stState { s with pwr := { s.pwr with entry := .none, reenter := none } })
    else if s.pwr.moving then s
    else enterHibernate s
  else s

/-! ## Wake sources (R373, R376) -/

/-- The source exists in the state the device is in or entering. -/
def sourceListens (k : Nat) (s : State) : Bool :=
  if s.pwr.state = .hibernate then k != 4 && k != 5 else s.pwr.state == .sleep || entering s

/-- WAKE_SOURCE (R373): its WAKE_CAUSE bit is set, and an enabled source wakes the device or ends a SLEEP entry (R376). A posted write to
WAKE_CAUSE that is applied at the same slow-clock edge comes before it, so the bit stays set (R88). -/
def execWakeSource (source : After (Fin 8)) (s : State) : Result :=
  effect (fun s =>
    let k := source.event.val
    let s := sleepTime source.periods s
    if sourceListens k s then
      let b : BitVec 8 := 1#8 <<< k
      let s := { s with aon := { s.aon with wakeCause := w1c s.aon.wakeCause 0 b } }
      if bitOf s.aon.wakeEn.toNat k then
        let s := { s with pwr := { s.pwr with wokeBy := s.pwr.wokeBy ||| b } }
        if entering s then abandonEntry s else { s with pwr := { s.pwr with waking := true } }
      else s
    else s) s

/-- A fault recorded by an AON collector: in SLEEP one of severity 1 or above wakes the device, in HIBERNATE it goes into the history
only (R373). -/
def aonFault (source : BitVec 12) (s : State) : State :=
  let sev := (sevEntry source.toNat s).vote.toNat % 8
  if s.pwr.state = .hibernate then (if 1 ≤ sev then addHistory source (sourceClass source.toNat) sev false s else s)
  else
    let s' := raiseFault source s
    if s.pwr.state = .sleep ∧ 1 ≤ sev then { s' with pwr := { s'.pwr with waking := true, faultWake := true } } else s'

/-- FAULT_WAKE (R373): an AON collector records a fault in SLEEP or HIBERNATE. -/
def execFaultWake (source : After (BitVec 12)) (s : State) : Result :=
  effect (fun s =>
    if source.event.toNat / 512 = 5 ∧ (sourceDef source.event.toNat).isSome ∧ asleep s then
      aonFault source.event (asleepTime source.periods s)
    else s) s

/-! ## The wake from SLEEP (R374, R445) -/

/-- Chain states start from zero on the return from SLEEP (R236). -/
def clearChains (s : State) : State :=
  { s with aud := { s.aud with
      next := [], out := [], srcMeters := [], destMeters := []
      dests := s.aud.dests.map (fun d => { d with
        lastMix := [], lastGain := 65536, active := false, sections := d.sections.map Section.clear
        dyn := d.dyn.map (fun y => { y with g := 0, coef := 65536 })
        ambient := d.ambient.map (fun a => { a with
          secs := [], gated := 0, sumSq := 0, since := s.clk.tick, gain := 0, target := 0, wait := 0 }) }) } }

/-- Extents of a lost bank of 1 to 6 are rewritten as cleared rows (R445). -/
def clearBankExtents (mask : BitVec 8) (s : State) : State :=
  s.aud.dests.foldl (fun (s : State) d =>
    match d.delay with
    | some l => clearExtents l.format (l.extents.filter (fun e => bitOf mask.toNat (e / 1024 + 1))) s
    | none => s) s

/-- What a lost bank 7 takes with it (R445, R440). -/
def loseBank7 (s : State) : State :=
  { s with
    msg := { s.msg with cache := [] }
    flt := { s.flt with counts := [] }
    pav := { s.pav with margins := [[], [], [], []], gain := [15, 15, 15, 15] } }

/-- What a lost bank 0 takes with it: the CTI and overlay are reloaded, and every zone starts in INIT (R445). -/
def loseBank0 (s : State) : State :=
  { s with cfg := { s.cfg with reloading := true }, zon := { s.zon with recordOk := false } }

/-- The retention checks, in bank order (R445). -/
def checkRetention (lost : BitVec 8) (s : State) : State :=
  let kept := retainedBanks s
  let lost := lost &&& kept
  let gone := lost ||| ~~~kept
  let s := loseBanks lost s
  let s := (List.range 8).foldl (fun (s : State) k =>
    if bitOf lost.toNat k then raiseFault (BitVec.ofNat 12 (0o3122 + 0o20 * k)) s else s) s
  let s := clearBankExtents gone s
  let s := if bitOf gone.toNat 7 then loseBank7 s else s
  let s := if bitOf lost.toNat 0 then loseBank0 s else s
  post 0o011002 [w18 kept.toNat, w18 lost.toNat] s

/-- The re-entry that PWR.ENTER armed survives only a wake by RTC_ALARM alone (R377). -/
def keepReenter (s : State) : State :=
  if s.pwr.wokeBy = 0x80 ∧ s.pwr.faultWake = false then s else { s with pwr := { s.pwr with reenter := none } }

/-- A wake from SLEEP (R374). -/
def wakeFromSleep (periods : Nat) (lost : BitVec 8) (s : State) : State :=
  let faulty := s.pwr.faultWake
  let s := tickReturns (asleepTime periods s)
  let s := { s with
    clk := { s.clk with rootLocked := true, ssLocked := s.clk.refOk, slowRc := false, mclk := if s.cfg.active.isSome then mclkOf s else 0 }
    pwr := { s.pwr with state := .run, pl := 3, moving := false, downCount := 0, vcore := levelVoltage 3 s, domains := 0x3F }
    mem := { s.mem with bankOn := 0xFF } }
  let s := checkRetention lost (clearChains (syncOff (trimBanks s)))
  let s := { s with zon := { s.zon with resample := true }, clk := { s.clk with lastBlock := none } }
  let s := (List.range 10).foldl (fun (s : State) k =>
    if (portOf k s).owned && (portOf k s).attached then emit (.portResume (k + 1)) s else s) s
  let s := { s with own := { s.own with wokeAt := some s.clk.tick } }
  let s := wakeFace (keepReenter { s with pwr := { s.pwr with waking := false } })
  let s := postWake faulty false .sleep (s.pwr.asleep / Config.slowPerS) { s with pwr := { s.pwr with faultWake := false } }
  groupDone 8 stOk s

/-- WAKE_FROM_SLEEP (R374): after an enabled wake source or an AON fault. -/
def execWakeFromSleep (periods : Nat) (lost : BitVec 8) (s : State) : Result :=
  effect (fun s => if s.pwr.state == .sleep && s.pwr.waking then wakeFromSleep periods lost s else s) s

/-! ## The wake from HIBERNATE (R375, R440) -/

/-- What HIBERNATE keeps: the AON domain and the vault, OTP and flash, the port energy counters, and the shadows, which last until the
next cold reset (R69); the cold start-up follows. -/
def wakeFromHibernate (periods : Nat) (s : State) : State :=
  let s := asleepTime periods s
  let aon := { s.aon with rstCause := w1c s.aon.rstCause 0 0x40 }
  { State.reset with
    pending := s.pending, out := s.out, free := s.free
    clk := { tick := s.clk.tick, estimated := true, refOk := s.clk.refOk, rcTrims := s.clk.rcTrims, slowOdd := s.clk.slowOdd
             relock := s.clk.relock }
    boot := { straps := s.boot.straps, startRef := s.clk.tick, resetOut := false, fromHibernate := true
              asleepS := s.pwr.asleep / Config.slowPerS }
    aon := aon
    win := { copy := { s.win.copy with rstCause := aon.rstCause }, shadowSup := s.win.shadowSup, shadowMspi := s.win.shadowMspi
             shadowUsb := s.win.shadowUsb }
    snap := keepEnergy s.snap
    flt := { hold := s.flt.hold, exits := s.flt.exits, entrySource := s.flt.entrySource
             enteredDue := if s.aon.safeActive then some 4 else none }
    mem := { flash := s.mem.flash }
    hub := { recorded := s.hub.recorded }
    flex := s.flex.map (fun f => { energy := f.energy, residue := f.residue })
    pwr := { entryCmd := s.pwr.entryCmd, left := .hibernate, wokeBy := s.pwr.wokeBy
             reenter := if s.pwr.wokeBy = 0x80 then s.pwr.reenter else none }
    sec := { s.sec with sessU := none, debug := 0, op := none } }

/-- WAKE_FROM_HIBERNATE (R375). -/
def execWakeFromHibernate (periods : Nat) (s : State) : Result :=
  effect (fun s => if s.pwr.state == .hibernate && s.pwr.waking then wakeFromHibernate periods s else s) s

/-! ## Re-entry (R377) -/

/-- REENTER_AFTER_PAVANE (R377): the run that an RTC alarm started has ended, and the checks of R370 hold. -/
def execReenterAfterPavane (s : State) : Result :=
  effect (fun s =>
    match s.pwr.reenter with
    | some st =>
      if s.pwr.state == .run && s.boot.phase == .running && s.pav.run.isNone && s.pwr.entry == .none && s.pwr.wokeBy == 0x80 then
        if lowPowerBlocked s then { s with pwr := { s.pwr with reenter := none } }
        else if st = .hibernate then enterHibernate { s with pwr := { s.pwr with wokeBy := 0 } }
        else { s with pwr := { s.pwr with entry := .waitSleep s.clk.tick, wokeBy := 0 } }
      else s
    | none => s) s

end Sys2Proof.Machine
end

