-- ==== Sys2Proof/Machine/Pavane.lean ====
section
/-!
DEFINITION. The Pavane nightly test and ageing (R407 to R419): its schedule, its runs and their steps, the abort, the margin re-plan, and
the TEST commands. What a step's checks find is the outside's report; what follows from it is here.
-/

namespace Sys2Proof.Machine

open Sys2Proof

/-! ## Schedule (R407) -/

/-- ENABLE. -/
def pavEnabled (s : State) : Bool := param 512 1 1 s == 1
/-- START, seconds of the day. -/
def pavStart (s : State) : Nat := param 512 2 10800 s
/-- WINDOW in seconds. -/
def pavWindow (s : State) : Nat := 60 * param 512 3 120 s
/-- RETRY in seconds. -/
def pavRetry (s : State) : Nat := 60 * param 512 4 5 s
/-- STEPS. -/
def pavSteps (s : State) : Nat := param 512 5 0o3777 s
/-- MARGIN_MIN in 0.1 %. -/
def marginMin (s : State) : Nat := param 512 6 50 s
/-- AGE_MAX (R364). -/
def ageMax (s : State) : Nat := param 64 9 6 s

/-- Seconds since the latest START. -/
def sinceStart (s : State) : Nat := (s.aon.rtcSec.toNat + 86400 - pavStart s % 86400) % 86400

/-- End of the window that the RTC stands in. -/
def windowEnd (s : State) : Nat := s.aon.rtcSec.toNat - sinceStart s + pavWindow s

/-- The RTC stands in a window. -/
def inWindow (s : State) : Bool := decide (sinceStart s ≤ pavWindow s)

/-- An attempt of this window has been made. -/
def attempted (s : State) : Bool := s.pav.windowEnd == some (windowEnd s)

/-- A scheduled attempt is due: the first of a window, or one at a retry instant within it (R407, R408). -/
def attemptDue (s : State) : Bool :=
  pavEnabled s && inWindow s && (!attempted s || decide (s.pav.nextTry ≤ s.aon.rtcSec.toNat))

/-- The instant that RTC_ALM keeps: the next retry instant in an open window, else the next START (R407). -/
def alarmTime (s : State) : Nat :=
  if inWindow s ∧ attempted s ∧ s.aon.rtcSec.toNat < s.pav.nextTry ∧ s.pav.nextTry ≤ windowEnd s then s.pav.nextTry
  else s.aon.rtcSec.toNat - sinceStart s + 86400

/-- The firmware keeps RTC_ALM (R407), by posted writes (R86). -/
def keepAlarm (s : State) : State :=
  let want := BitVec.ofNat 36 (alarmTime s)
  if pavEnabled s && s.aon.rtcAlm != want && s.win.posted.all (fun w => w.addr < 0o2006) then
    postAon .sup 0o2012 0 (w18 (want.toNat / 2 ^ 18)) (postAon .sup 0o2011 0 (w18 want.toNat) s)
  else s

/-! ## Starting a run (R408) -/

/-- The conditions under which a run starts, a run in progress apart. -/
def pavaneReady (s : State) : Bool :=
  awake s && !entering s && !zoneRaised s && !voicePlays s && !s.aon.safeActive && decide (s.pwr.tp < tWarn s)

/-- The observation of step 9 begins when the step is the next: good groups count from 0 (R268, R415). -/
def observe (r : PavRun) (s : State) : State :=
  if (nextSteps r).head? = some 9 then
    { s with own := { s.own with ctxs := s.own.ctxs.map (fun c => c.map (fun x => { x with good := 0, seenBad := false })) } }
  else s

/-- Start a run of the steps of a mask, with results kept; DOZE gives way to RUN (R371). -/
def startRun (mask : Nat) (byCommand : Bool) (cur : PavResult) (s : State) : State :=
  let r : PavRun := ⟨s.clk.tick, mask, byCommand, s.pwr.state == .doze, cur, 0⟩
  observe r { s with
    pav := { s.pav with run := some r, resume := none, abortReq := false, trigger := false, doneDue := false }
    pwr := { s.pwr with state := .run } }

/-- A result with nothing run yet, at the RTC second of the start. -/
def emptyResult (s : State) : PavResult := { rtc := s.aon.rtcSec }

/-- A scheduled attempt (R408): it starts a run, or resumes the aborted one with the results of its completed steps. -/
def attempt (s : State) : State :=
  let due := { s with pav := { s.pav with windowEnd := some (windowEnd s), nextTry := s.aon.rtcSec.toNat + pavRetry s } }
  if pavaneReady s then
    match s.pav.resume with
    | some mask => startRun mask false { s.pav.result with notRun := 0, reason := 7 } due
    | none => startRun (pavSteps s) false (emptyResult s) due
  else due

/-- PAVANE_ATTEMPT (R408): at a block boundary at START or at a retry instant. -/
def execPavaneAttempt (s : State) : Result :=
  effect (fun s => if s.boot.phase == .running && atBlock s && attemptDue s && s.pav.run.isNone then attempt s else s) s

/-! ## Steps (R410) -/

/-- Blocks whose cause 15 the failures of a step raise, as cluster and block. -/
def stepBlocks (k : Nat) : List (Nat × Nat) :=
  match k with
  | 0 => [(0, 0)]
  | 1 => (List.range 9).map (fun b => (1, b))
  | 2 => (List.range 8).map (fun b => (3, b + 5)) ++ [(3, 1), (0, 2), (3, 3)]
  | 3 => [(5, 8)]
  | 4 => [(5, 4)]
  | 5 => (List.range 4).map (fun b => (4, b + 4))
  | 6 => (List.range 8).map (fun b => (3, b + 5))
  | 7 => [(0, 9)]
  | 10 => [(5, 0)]
  | _ => []

/-- The source that a failed check raises: cause 15 of its own block when the step names that, else of the step's first block. -/
def failSource (k : Nat) (src : BitVec 12) : Option (BitVec 12) :=
  let own := (src.toNat / 512, src.toNat / 16 % 32)
  match stepBlocks k with
  | [] => none
  | b :: bs =>
    let (c, n) := if (b :: bs).contains own then own else b
    some (BitVec.ofNat 12 (512 * c + 16 * n + 15))

/-- Raise the failure of a check. -/
def raiseFail (k : Nat) (s : State) (src : BitVec 12) : State :=
  match failSource k src with
  | some f => raiseFault f s
  | none => s

/-- Set a bit of a mask. -/
def setBit (m k : Nat) : Nat := m ||| 2 ^ k

/-- Record a step's result: pass or fail, the failed sources, at most 32, and whether a part of it was not run. -/
def recordStep (k : Nat) (fails : List (BitVec 12 × Bool)) (failed part : Bool) (r : PavRun) : PavRun :=
  { r with
    levels := 0
    cur := { r.cur with
      passed := if failed then r.cur.passed else setBit r.cur.passed k
      failed := if failed then setBit r.cur.failed k else r.cur.failed
      notRun := if part then setBit r.cur.notRun k else r.cur.notRun
      sources := (r.cur.sources ++ fails).take 32 } }

/-- Duration of a run in units of 10 ms, holding at its 15 bits. -/
def runUnits (r : PavRun) (s : State) : Nat := min 32767 (since r.start s / 480)

/-- The run is over: its result stands, TEST.DONE is due, and DOZE returns (R371). -/
def closeRun (r : PavRun) (reason : Nat) (s : State) : State :=
  let left := (stepsLeft r).foldl setBit 0
  { s with
    pav := { s.pav with
      run := none, doneDue := true, abortReq := false, trigger := false
      result := { r.cur with reason := reason, notRun := r.cur.notRun ||| left, duration := runUnits r s } }
    pwr := { s.pwr with state := if r.fromDoze then .doze else s.pwr.state } }

/-- Keep the margins of a complete run, the last 30 by level (R418). -/
def keepMargins (r : PavRun) (s : State) : State :=
  if bitOf r.mask 10 then
    { s with pav := { s.pav with
        margins := (List.range 4).map (fun l =>
          let old := s.pav.margins.getD l []
          if s.pav.notMeasured.getD l true then old else (s.pav.margin.getD l 0 :: old).take 30) } }
  else s

/-- A run is complete: every enabled step has passed or failed (R409); its window sees no further attempt. -/
def completeRun (r : PavRun) (s : State) : State :=
  let s := keepMargins r (closeRun r 7 s)
  { s with pav := { s.pav with
      lastComplete := s.clk.tick, overdueH := 0, resume := none
      windowEnd := if inWindow s then some (windowEnd s) else s.pav.windowEnd
      nextTry := windowEnd s + 1 } }

/-! ## Ageing (R416 to R418) -/

/-- Sums of least squares over values by position: of x, y, xx and xy. -/
def sumsFrom : Nat → List Nat → Int × Int × Int × Int
  | _, [] => (0, 0, 0, 0)
  | x, y :: ys =>
    let (a, b, c, d) := sumsFrom (x + 1) ys
    (a + x, b + y, c + x * x, d + x * y)

/-- DRIFT of a level in 0.001 % per month: the slope of the kept margins, a fall counted positive, at 30 runs a month (R418; log 28). -/
def drift (l : Nat) (s : State) : Int :=
  let ys := (s.pav.margins.getD l []).reverse
  let n : Int := ys.length
  let (sx, sy, sxx, sxy) := sumsFrom 0 ys
  let den := n * sxx - sx * sx
  if den ≤ 0 then 0 else roundDiv (-(n * sxy - sx * sy) * 3000) den.toNat

/-- Months of margin left, 262 143 when unknown (R418). -/
def monthsLeft (l : Nat) (s : State) : Nat :=
  let d := drift l s
  if (s.pav.margins.getD l []).length < 7 ∨ d ≤ 0 then 262143
  else
    let left := ((ageMax s : Int) - (s.pwr.ageOfs.getD l 0 : Nat)) * s.pav.gain.getD l 15
      + ((s.pav.margin.getD l 0 : Nat) - (marginMin s : Nat))
    min 262142 (left * 100 / d).toNat

/-- TEST.REPLAN (R418). -/
def postReplan (l : Nat) (s : State) : State :=
  post 0o120204 [w18 l, w18 (s.pwr.ageOfs.getD l 0), w18 (bit s.pwr.pl0Retired), w18 (monthsLeft l s)] s

/-- A margin has been measured. -/
def setMargin (l m : Nat) (s : State) : State := { s with pav := { s.pav with margin := listSet s.pav.margin l m } }

/-- Raise a level's offset by one step, provisionally, and measure again: GAIN is the change of the margin. -/
def raiseOffset (l old m : Nat) (s : State) : State :=
  postReplan l (setMargin l m { s with
    pwr := { s.pwr with ageOfs := listModify s.pwr.ageOfs l (· + 1) }
    pav := { s.pav with
      provisional := listModify s.pav.provisional l (· + 1)
      gain := listSet s.pav.gain l ((m : Int) - old) } })

/-- Retire PL0: its fuse is burned, and the governor never selects it again. -/
def retirePl0 (s : State) : State :=
  postReplan 0 { s with
    sec := { s.sec with otp := s.sec.otp.burnPl0 }
    pwr := { s.pwr with pl0Retired := true } }

/-- The re-plan of a level from the margins measured at successive offsets (R417): the state after it and whether the level failed; none
where a margin is wanting. -/
def replan (l : Nat) : List Nat → State → Option (State × Bool)
  | [], _ => none
  | m :: ms, s =>
    let s := setMargin l m s
    if m < marginMin s then
      if s.pwr.ageOfs.getD l 0 < ageMax s then
        match ms with
        | [] => none
        | m' :: _ => replan l ms (raiseOffset l m m' s)
      else if l = 0 then some (retirePl0 s, false)
      else some (s, true)
    else some (s, false)

/-- A level is measured only when the current load at it leaves no job refused for room (R416). -/
def levelMeasured (l : Nat) (s : State) : Bool := levelAvailable l s && !(decideAt s.pwr.pFix s l).refused

/-- Measure one level, slowest first, and re-plan it; a level not measured is reported so. -/
def measureLevel (l : Nat) (rep : StepReport) (s : State) : Option (State × Bool) :=
  if levelMeasured l s then
    replan l (rep.margins.getD l []) { s with pav := { s.pav with
      notMeasured := listSet s.pav.notMeasured l false
      ratios := listSet s.pav.ratios l (rep.ratios.getD l 0) } }
  else some ({ s with pav := { s.pav with notMeasured := listSet s.pav.notMeasured l true } }, false)

/-- Burn the provisional offsets; burned offsets never decrease (R417). -/
def burnOffsets (s : State) : State :=
  { s with
    sec := { s.sec with otp := s.sec.otp.burnAge s.pwr.ageOfs }
    pav := { s.pav with provisional := [0, 0, 0, 0] } }

/-- Revert provisional offsets to the burned values (R413, R417). -/
def revertOffsets (s : State) : State :=
  { s with
    pwr := { s.pwr with ageOfs := s.sec.otp.ageOfs }
    pav := { s.pav with provisional := [0, 0, 0, 0] } }

/-- Replace the run in progress. -/
def setRun (r : PavRun) (s : State) : State := { s with pav := { s.pav with run := some r } }

/-- A step has its result; the last one completes the run. -/
def stepDone (r : PavRun) (s : State) : State :=
  if stepsLeft r = [] then completeRun r s else observe r (setRun r s)

/-- One level of step 10 (R416, R417): the levels are taken slowest first, and the last of them ends the step and burns the offsets. -/
def ageingStep (r : PavRun) (rep : StepReport) (s : State) : State :=
  let l := 3 - r.levels
  match measureLevel l rep s with
  | none => s
  | some (s, bad) =>
    let fails := if bad then rep.failed ++ [(0o5017, false)] else rep.failed
    let s := (rep.failed.map (·.1)).foldl (raiseFail 10) s
    let s := if bad then raiseFault 0o5017 s else s
    let r := { r with
      levels := r.levels + 1
      cur := { r.cur with
        sources := (r.cur.sources ++ fails).take 32
        failed := if fails = [] then r.cur.failed else setBit r.cur.failed 10 } }
    if 4 ≤ r.levels then stepDone (recordStep 10 [] (bitOf r.cur.failed 10) false r) (burnOffsets s) else setRun r s

/-- Partner failures of step 8: ports in alive-loop mode that were not skipped (R414). -/
def partner8 (rep : StepReport) (s : State) : Nat :=
  ((List.range 4).map (fun n =>
    if bitOf rep.partner8.toNat n && (flexAt n s).altMode && !bitOf rep.skipped.toNat n then 2 ^ n else 0)).sum

/-- Ports that step 8 does not run on. -/
def loopMissing (rep : StepReport) (s : State) : Bool :=
  (List.range 4).any (fun n => !(flexAt n s).altMode || bitOf rep.skipped.toNat n)

/-- The observed tagged IN streams of flex port n, or of every other port, fail: no good group, or an error or a FAIL mark (R415). -/
def observedBad (ports : Nat → Bool) (s : State) : Bool :=
  (s.own.ctxs.filterMap id).any (fun x => !x.dirOut && ports x.port && (x.good == 0 || x.seenBad))

/-- Partner failures of step 9 (R415): by observation, or by the probe where PARTNER_FAIL asks for it and the mode is entered. -/
def partner9 (rep : StepReport) (s : State) : Nat :=
  ((List.range 4).map (fun n =>
    let probed := bitOf (param 512 7 0 s) n && (flexAt n s).altMode && bitOf rep.partner9.toNat n
    if probed || observedBad (fun p => p == n + 1) s then 2 ^ n else 0)).sum

/-- Any other step (R410): its failures are raised and recorded, and its result stands. -/
def otherStep (k : Nat) (r : PavRun) (rep : StepReport) (s : State) : State :=
  if k = 8 then
    let p := partner8 rep s
    let r := { r with cur := { r.cur with partner := r.cur.partner / 16 * 16 + p } }
    stepDone (recordStep 8 [] (p != 0) (loopMissing rep s) r) s
  else if k = 9 then
    let p := partner9 rep s
    let r := { r with cur := { r.cur with partner := r.cur.partner % 16 + 16 * p } }
    stepDone (recordStep 9 [] (p != 0 || observedBad (fun p => decide (4 < p)) s) false r) s
  else
    let bad := if k = 7 then rep.badMessages else []
    let fails := rep.failed ++ bad.map (fun _ => (0o0237, false))
    let s := bad.foldl (fun s n => failMessage n s) s
    let s := (fails.map (·.1)).foldl (raiseFail k) s
    stepDone (recordStep k fails (decide (fails ≠ [])) (k == 5 && rep.skipped != 0) r) s

/-- PAVANE_STEP (R410): the first enabled step without a result; it pauses while its work is not admitted. -/
def execPavaneStep (rep : StepReport) (s : State) : Result :=
  effect (fun s =>
    match s.pav.run with
    | none => s
    | some r =>
      if s.boot.phase == .running && rep.admitted then
        match nextSteps r with
        | [] => completeRun r s
        | k :: _ => if k = 10 then ageingStep r rep s else otherStep k r rep s
      else s) s

/-! ## Abort (R413) -/

/-- The run has lasted 90 s. -/
def runTooLong (s : State) : Bool :=
  match s.pav.run with
  | some r => decide (90 * Config.tkPerS ≤ since r.start s)
  | none => false

/-- An occurrence that aborts a run: an assertion of a trigger input, a console key binding or ZONE.TRIGGER (R244, R413). -/
def assertion (o : Occ) : Bool := [0, 1, 2, 4].contains o.src && o.edge == 0

/-- A reason's condition holds, or has held since the run started. -/
def abortHolds (reason : Nat) (s : State) : Bool :=
  match reason with
  | 0 => s.pav.trigger || s.zon.occs.any assertion
  | 1 => zoneRaised s || voicePlays s
  | 2 => s.aon.safeActive
  | 3 => s.pav.abortReq
  | 4 => decide (tWarn s ≤ s.pwr.tp)
  | _ => runTooLong s

/-- PAVANE_ABORT (R413): at a block boundary; the step in progress is discarded, and provisional offsets are reverted. -/
def execPavaneAbort (reason : Fin 6) (s : State) : Result :=
  effect (fun s =>
    match s.pav.run with
    | some r =>
      if atBlock s && abortHolds reason.val s then
        let r := if 0 < r.levels then { r with cur := { r.cur with failed := r.cur.failed % 1024 } } else r
        let s := closeRun r reason.val (revertOffsets s)
        { s with pav := { s.pav with resume := some r.mask } }
      else s
    | none => s) s

/-- TEST_DONE (R409, R419): the event, and the end of TEST.RUN. -/
def execTestDone (s : State) : Result :=
  effect (fun s =>
    if s.pav.doneDue then
      let r := s.pav.result
      let s := post 0o120105 [w18 r.passed, w18 r.failed, w18 r.notRun, w18 r.reason, w18 r.partner] s
      groupDone 10 (if r.reason = 7 then stOk else stState) { s with pav := { s.pav with doneDue := false } }
    else s) s

/-- Whole hours since the last complete run. -/
def hoursSince (s : State) : Nat := since s.pav.lastComplete s / (3600 * Config.tkPerS)

/-- TEST_OVERDUE (R409): after 24 h and every further hour. -/
def execTestOverdue (s : State) : Result :=
  effect (fun s =>
    let h := hoursSince s
    if s.boot.phase == .running && decide (24 ≤ h) && decide (s.pav.overdueH < h) then
      post 0o120301 [w18 (min 262143 h)] { s with pav := { s.pav with overdueH := h } }
    else s) s

/-! ## TEST commands (R419) -/

/-- TEST.RUN. -/
def execTestRun (s : State) : Result :=
  effect (longCommand 0o1201 anyVariant noAuth
    (fun c s => firstStatus [(decide (0o3777 < c.p 1), stBadParam), (!pavaneReady s, stState), (s.pav.run.isSome, stBusy)])
    (fun c s => startRun (if c.p 1 = 0 then pavSteps s else c.p 1) true (emptyResult s) s)) s

/-- TEST.ABORT. -/
def execTestAbort (s : State) : Result :=
  effect (immediateCommand 0o1202 anyVariant noAuth (fun _ s => firstStatus [(s.pav.run.isNone, stState)])
    (fun _ s => ([], { s with pav := { s.pav with abortReq := true } }))) s

/-- Results of TEST.RESULT. -/
def resultWords (r : PavResult) : List Word :=
  [w18 r.passed, w18 r.failed, w18 r.notRun, w18 (r.reason * 32768 + r.duration), w18 r.rtc.toNat, w18 (r.rtc.toNat / 2 ^ 18),
   w18 r.partner, w18 r.sources.length] ++ r.sources.map (fun x => w18 (x.1.toNat + 131072 * bit x.2))

/-- TEST.RESULT. -/
def execTestResult (s : State) : Result :=
  effect (immediateCommand 0o1203 anyVariant noAuth (fun _ _ => stOk) (fun _ s => (resultWords s.pav.result, s))) s

/-- Results of TEST.AGEING for a level. -/
def ageingWords (l : Nat) (s : State) : List Word :=
  let p := s.pav
  [w18 (s.sec.otp.ageOfs.getD l 0 % 8 * 32768 + s.pwr.ageOfs.getD l 0 % 8 * 4096 + bit s.pwr.pl0Retired * 2048
      + bit (p.notMeasured.getD l true) * 1024 + min 1023 (p.margin.getD l 0)),
   w18 (p.ratios.getD l 0), w18i (p.gain.getD l 15), w18i (drift l s), w18 (monthsLeft l s)]

/-- TEST.AGEING. -/
def execTestAgeing (s : State) : Result :=
  effect (immediateCommand 0o1204 anyVariant noAuth (fun c _ => firstStatus [(decide (3 < c.p 1), stBadParam)])
    (fun c s => (ageingWords (c.p 1) s, s))) s

end Sys2Proof.Machine
end

