-- ==== Sys2Proof/Machine/Sys.lean ====
section
/-!
DEFINITION. The SYS commands (R311, R448 to R451): identity, completion records, the heartbeat, the commanded reset and the clock.
-/

namespace Sys2Proof.Machine

open Sys2Proof

/-- The 16 words of a 256-bit hash, two bytes a word (R111, R448). -/
def hashWords (v : BitVec 256) : List Word := pairWords (otpBytes v)

/-- SYS.INFO page 0 (R448). -/
def infoPage0 (s : State) : List Word :=
  let fw := s.boot.fw.getD ⟨0, 0, 0, 0⟩
  [w18 Config.part, 0o020000, s.win.idFw] ++ wordsOf s.sec.otp.die.toNat 3 ++
    [otpStatWord s, w18 (bit s.sec.otp.exhausted * 16 + bit s.sec.otp.csigReq * 8 + (strapWord s).toNat),
     w18 s.boot.causeAtStart.toNat, w18 (s.cfg.active.getD 3)] ++ wordsOf s.cfg.gen 2 ++
    [w18 (fw.rollback * 4096 + fw.source)]

/-- The results of a page of SYS.INFO (R448). -/
def infoPage (page : Nat) (s : State) : List Word :=
  match page with
  | 0 => infoPage0 s
  | 1 => hashWords s.sec.otp.vendorHash
  | p => hashWords ((s.sec.otp.intHash.getD (p - 2) none).getD 0)

/-- SYS.INFO (R448). -/
def execSysInfo (s : State) : Result :=
  effect (immediateCommand 0o0101 anyVariant noAuth (fun c _ => firstStatus [(decide (5 < c.p 1), stBadParam)])
    (fun c s => (infoPage (c.p 1) s, readOtp s))) s

/-- The results of SYS.STATUS for a path and a sequence number (R449). -/
def recordWords (b : Box) (seq : Nat) (s : State) : List Word :=
  match (records b s).find? (fun r => r.seq.toNat == seq) with
  | some r => [w18 (4 + 2 * bit r.inProgress + bit r.long), r.word0, r.status]
  | none => [0, 0, 0]

/-- SYS.STATUS (R449). -/
def execSysStatus (s : State) : Result :=
  effect (immediateCommand 0o0102 anyVariant noAuth (fun c _ => firstStatus [(decide (1 < c.p 2), stBadParam)])
    (fun c s => (recordWords (if c.p 2 = 0 then .u else .s) (c.p 1) s, s))) s

/-- The result of SYS.HEARTBEAT (R311). -/
def heartbeatWord (s : State) : Word :=
  let face := match s.hub.face with | some .a => 0 | some .b => 1 | none => 3
  w18 (face * 16 + bit (available .a s) * 8 + bit (available .b s) * 4
    + bit (s.hub.autoArmed && param 448 2 0 s == 1) * 2 + bit s.zon.hbLost)

/-- SYS.HEARTBEAT (R311): the timer restarts from the arrival tick, unless the mailbox did that when the packet completed. -/
def execSysHeartbeat (s : State) : Result :=
  effect (immediateCommand 0o0103 anyVariant noAuth (fun _ _ => stOk)
    (fun c s => ([heartbeatWord s], if c.word0 = 0o010320 then s else restartHeartbeat c.arrival s))) s

/-- A zone is at LOAD_BLOCK_LEVEL or above (R126, R135). -/
def loadBlocked (s : State) : Bool := s.zon.zones.any (fun z => decide (loadBlockLevel s ≤ zoneLevel z s))

/-- SYS.RESET (R450): the reset follows at the first block boundary 5 ms on (WARM_CHIP_RESET). -/
def execSysReset (s : State) : Result :=
  effect (longCommand 0o0104 anyVariant noAuth
    (fun c s => firstStatus [(c.p 1 != 0, stBadParam), (loadBlocked s || s.pwr.entry != .none, stState)])
    (fun _ s => { s with boot := { s.boot with resetAt := some s.clk.tick } })) s

/-- SYS.TIME_SET (R451): RTC_SEC and RTC_SUB are posted; the window that the new time leaves ends. -/
def execSysTimeSet (s : State) : Result :=
  effect (immediateCommand 0o0105 anyVariant noAuth (fun _ _ => stOk)
    (fun c s =>
      let old := wordsOf s.aon.rtcSec.toNat 2
      let s := postAon .sup 0o2010 0 (w18 (c.p 2)) (postAon .sup 0o2007 0 (w18 (c.p 1)) (postAon .sup 0o2006 0 0 s))
      (old, s))) s

end Sys2Proof.Machine
end

