-- ==== Sys2Proof/Machine/Cfg.lean ====
section
/-!
DEFINITION. Configuration at run time (R127, R133 to R140): table changes and their effects, the overlay commit, the choice and load of
an image, writes to CTI slots, and writes to firmware slots (R430).
-/

namespace Sys2Proof.Machine

open Sys2Proof

/-! ## The views (R139) -/

/-- The tables with the committed overlay. -/
def committedTables (s : State) : List Table := applyChanges s.cfg.signed s.cfg.overlay

/-- The tables with every pending change as well, table 0 among them (R134). -/
def configuredTables (s : State) : List Table := applyChanges (committedTables s) s.cfg.pending

/-- The words of a table or of the header in a view. -/
def viewWords (tid view : Nat) (s : State) : Option (List Word) :=
  if tid = 4095 then (if s.cfg.unconfigured then none else some s.cfg.header)
  else
    match view with
    | 0 => tableIn s.cfg.live tid
    | 1 => tableIn (committedTables s) tid
    | _ => tableIn s.cfg.signed tid

/-- The range of a CFG.READ lies within the table or header. -/
def readInside (c : Command) (s : State) : Bool :=
  match viewWords (c.p 1) (c.p 4) s with
  | some ws => decide (c.p 2 + c.p 3 ≤ ws.length)
  | none => false

/-- CFG.READ (R139). -/
def execCfgRead (s : State) : Result :=
  effect (immediateCommand 0o0201 anyVariant needsAuth
    (fun c s => firstStatus [(decide (c.p 3 < 1) || decide (252 < c.p 3) || decide (2 < c.p 4), stBadParam),
      (!s.cfg.unconfigured && !readInside c s, stBadParam), (s.cfg.unconfigured, stState)])
    (fun c s => ((((viewWords (c.p 1) (c.p 4) s).getD []).drop (c.p 2)).take (c.p 3), s))) s

/-! ## Effects of a change (R130, R134, R237, R389) -/

/-- The severity entry that a word of table 384 gives its source (R405). -/
def putSevWord (w : Word) (s : State) : State :=
  { s with flt := { s.flt with sev := insertKey s.flt.sev (w.bits 15 4) (Trip.of (BitVec.ofNat 4 (w.bits 3 0))) } }

/-- A source returns to its default (R388). -/
def dropSev (src : Nat) (s : State) : State := { s with flt := { s.flt with sev := eraseKey s.flt.sev src } }

/-- The whole severity map as the activation writes it (R389). -/
def loadSeverity (s : State) : State :=
  (sevEntries ((tableIn s.cfg.live 384).getD [])).foldl (fun s w => putSevWord w s) { s with flt := { s.flt with sev := [] } }

/-- Changed entry words of table 384 act on the collectors (R389). -/
def changeSeverity (old : List Table) (cs : List Change) (s : State) : State :=
  let before := (tableIn old 384).getD []
  let after := (tableIn s.cfg.live 384).getD []
  (cs.filter (fun c => c.tid == 384 && decide (5 ≤ c.offset))).foldl (fun s c =>
    let src := (before.getD c.offset 0).bits 15 4
    let s := if (sevEntries after).any (fun w => w.bits 15 4 == src) then s else dropSev src s
    putSevWord c.value s) s

/-- QUIET_TIME, RECOVERY_LIMIT and RECOVERY_WINDOW in force after a change to table 384: the later of it and SAFE.SET_QUIET stands. -/
def changeQuiet (cs : List Change) (s : State) : State :=
  match s.flt.quietSet with
  | none => s
  | some (q, l, w) =>
    let at' := fun (p d : Nat) => match cs.find? (fun c => c.tid == 384 && c.offset == p) with | some c => c.value.toNat | none => d
    { s with flt := { s.flt with quietSet := some (at' 1 q, at' 2 l, at' 3 w) } }

/-- Put changes of table words into force, with what the chapters give for a change; table 0 waits for the next activation (R134). -/
def takeChanges (cs : List Change) (s : State) : State :=
  let old := s.cfg.live
  let cs := cs.filter (fun c => c.tid != 0)
  let s := { s with cfg := { s.cfg with live := applyChanges old cs } }
  let touched := fun (tid : Nat) => cs.any (fun c => c.tid == tid)
  let s := if touched 160 then applyRouteTable old s.cfg.live ((cs.filter (fun c => c.tid == 160)).map (·.offset)) s else s
  let s := if touched 256 then loadOutputs (syncZones old true s) else s
  let s := if touched 384 then changeQuiet cs (changeSeverity old cs s) else s
  let s := if touched 320 then (List.range 4).foldl (followRole old) s else s
  if cs.any (fun c => c.tid == 448 && (c.offset == 2 || c.offset == 3)) then
    { s with hub := { s.hub with availSince := s.hub.availSince.map (fun _ => s.clk.tick) } }
  else s

/-! ## CFG.WRITE (R133 to R135) -/

/-- The changes of a CFG.WRITE. -/
def writeChanges (c : Command) : List Change :=
  ((c.params.drop 3).zipIdx).map (fun w => ⟨c.p 1, c.p 2 + w.2, w.1⟩)

/-- TYPE 1 and 2 entries of table 256 with their places. -/
def zonePlaces (ts : List Table) : List (Nat × MapEntry) := (placedIn ts 256).filter (fun e => e.2.typ == 1 || e.2.typ == 2)

/-- The changes act on a STATE table or on MAP TYPE 1 or 2 (R135). -/
def touchesMachines (cs : List Change) (ts : List Table) (s : State) : Bool :=
  cs.any (fun c => kindOf c.tid == some 2)
    || (cs.any (fun c => c.tid == 256) &&
      (decide (zonePlaces ts ≠ zonePlaces s.cfg.live) ||
        (zonePlaces s.cfg.live).any (fun e => cs.any (fun c => c.tid == 256 && (c.offset == e.1 || c.offset == e.1 + 1)))))

/-- The live settings that the changes would leave keep the C0 reserve and find their extents (R134, R225, R233). -/
def settingsFit (cs : List Change) (s : State) : Bool :=
  let s' := takeChanges cs { s with mem := { s.mem with stash := [] } }
  reserveFits s' s && routeTableFits s.cfg.live s'.cfg.live ((cs.filter (fun c => c.tid == 160)).map (·.offset)) s

/-- Status of a CFG.WRITE. -/
def checkWrite (c : Command) (s : State) : Nat :=
  let cs := writeChanges c
  if c.p 3 < 1 ∨ 240 < c.p 3 then stBadParam
  else if s.cfg.unconfigured then stState
  else if !cs.all (changeFits s.cfg.signed) then stBadParam
  else
    let ts := applyChanges (configuredTables s) cs
    firstStatus [(!check11Other ts, stBadParam), (loadBlocked s && touchesMachines cs ts s, stState),
      (decide (40000 < c0ReserveOf ts) || decide (6144 < delayNeed ts) || !settingsFit cs s || !overlayRoom cs s, stResource)]

/-- CFG.WRITE: in force at the next block boundary, before its reply. -/
def execCfgWrite (s : State) : Result := effect (boundaryCommand 0o0202 anyVariant needsAuth checkWrite) s

/-- The effect of CFG.WRITE at its boundary. -/
def runCfgWrite (c : Command) (s : State) : List Word × State :=
  let cs := writeChanges c
  let s := takeChanges cs s
  ([], { s with cfg := { s.cfg with pending := addChanges s.cfg.pending cs } })

/-! ## CFG.DISCARD (R136) -/

/-- STATE while the device runs unconfigured (R131). -/
def configuredOnly (_ : Command) (s : State) : Nat := if s.cfg.unconfigured then stState else stOk

/-- CFG.DISCARD: at the next block boundary every changed word returns to its committed value. -/
def execCfgDiscard (s : State) : Result := effect (boundaryCommand 0o0204 anyVariant needsAuth configuredOnly) s

/-- The changes that return the pending words to their committed values. -/
def committedValues (s : State) : List Change :=
  let ts := committedTables s
  s.cfg.pending.map (fun c => { c with value := ((tableIn ts c.tid).getD []).getD c.offset 0 })

/-- The effect of CFG.DISCARD at its boundary. -/
def runCfgDiscard (s : State) : List Word × State :=
  let s := takeChanges (committedValues s) s
  ([], { s with cfg := { s.cfg with pending := [] } })

/-! ## CFG.COMMIT (R138) -/

/-- The copy that a commit writes: the one not in force. -/
def commitCopy (s : State) : Nat := match s.cfg.overlayCopy with | some k => 1 - k | none => 0

/-- CFG.COMMIT: takes the pending set as it stands. -/
def execCfgCommit (s : State) : Result :=
  effect (longCommand 0o0203 anyVariant needsAuth configuredOnly
    (fun _ s => { s with cfg := { s.cfg with
        commit := some ⟨commitCopy s, (s.cfg.overlaySeq + 1) % 262144, s.cfg.pending, s.clk.tick⟩ } })) s

/-- First Stash byte of the overlay region of bank 0 (R129). -/
def overlayRegion : Nat := stashAddr 0 32768

/-- Write the overlay region from the bytes of a copy. -/
def writeOverlayRegion (bs : List Byte) (s : State) : State :=
  loaderWrite overlayRegion (9 * 8192) bs s

/-- The changes that bring the words of a commit into force where they are not: those of a CFG.DISCARD while the commit ran (R138). A
later pending value of the word stands before the committed one. -/
def commitChanges (op : CommitOp) (s : State) : List Change :=
  let value := fun (c : Change) => match s.cfg.pending.find? (fun p => p.tid == c.tid && p.offset == c.offset) with
    | some p => p | none => c
  (op.taken.map value).filter (fun c => ((tableIn s.cfg.live c.tid).getD []).getD c.offset 0 != c.value)

/-- CFG_COMMIT_DONE (R138): both writes are complete, and the overlay as written is in force. -/
def commitDone (op : CommitOp) (s : State) : State :=
  match regionOf 3 op.copy s with
  | none => s
  | some e =>
    let ov := mergeOverlay s.cfg.overlay op.taken
    let bs := overlayBytes op.seq s.cfg.gen s.cfg.crc ov s
    let s := writeOverlayRegion bs (flashWrite e.offset bs (flashErase e.offset Config.overlaySize s))
    let s := takeChanges (commitChanges op s) s
    groupDone 2 stOk { s with cfg := { s.cfg with
      overlay := ov, overlaySeq := op.seq, overlayCopy := some op.copy, commit := none
      pending := s.cfg.pending.filter (fun c => !op.taken.contains c) } }

/-- CFG_COMMIT_DONE, within 2 s of the acceptance. -/
def execCfgCommitDone (s : State) : Result :=
  effect (fun s =>
    match s.cfg.commit with
    | some op => if since op.start s < 2 * Config.tkPerS then commitDone op s else s
    | none => s) s

/-- CFG_COMMIT_TIMEOUT (R138): the older overlay stays in force and the changes stay pending. -/
def execCfgCommitTimeout (s : State) : Result :=
  effect (fun s =>
    match s.cfg.commit with
    | some op =>
      if 2 * Config.tkPerS ≤ since op.start s then groupDone 2 stTimeout { s with cfg := { s.cfg with commit := none } } else s
    | none => s) s

/-! ## Choosing an image (R127, R128) -/

/-- An image fails its checks: the event and the configuration-integrity fault (R128). -/
def rejectImage (slot reason : Nat) (s : State) : State :=
  let s := if reason = 11 then flashReadFault false s else s
  raiseFault 0o0222 (post 0o020202 [w18 slot, w18 reason] s)

/-- Check the slots of a list: the images that pass, and the state after the rejections. -/
def checkSlots (readA readB : Bool) : List Nat → State → List Image × State
  | [], s => ([], s)
  | k :: ks, s =>
    match checkSlot k (if k = 0 then readA else readB) s with
    | .inl reason => checkSlots readA readB ks (rejectImage k reason s)
    | .inr img =>
      let (is, s) := checkSlots readA readB ks s
      (img :: is, s)

/-- The image with the higher GEN, the first among equals (R127). -/
def newestImage : List Image → Option Image
  | [] => none
  | i :: is => match newestImage is with
    | some j => some (if i.gen < j.gen then j else i)
    | none => some i

/-! ## CFG.LOAD (R135, R139, R140) -/

/-- The slot under a BEGIN that no passing END has followed. -/
def slotOpen (s : State) : Option Nat := match s.cfg.slotWrite with | some w => if w.closed then none else some w.slot | none => none

/-- Slots that a SOURCE names. -/
def loadSlots (source : Nat) (s : State) : List Nat :=
  match source with
  | 0 => [0, 1].filter (fun k => slotOpen s != some k)
  | n => [n - 1]

/-- The image of a slot fails check 11, and its C0 reserve alone is the cause (R233). -/
def reserveRefused (readOk : Bool) (slot : Nat) (s : State) : Bool :=
  match checkSlot slot readOk s, regionOf 2 slot s with
  | .inl 10, some e =>
    let bs := flashBytes e.offset Config.ctiSlotSize s
    let ts := tablesOf bs ((imageWord bs 3).bits 8 0)
    check11Other ts && decide (40000 < c0ReserveOf ts)
  | _, _ => false

/-- Status of a CFG.LOAD for which no image passes: RESOURCE where an image's C0 reserve exceeds 40 000 (R233), else BAD_PARAM (R139). -/
def loadRefusal (readA readB : Bool) (slots : List Nat) (s : State) : Nat :=
  if slots.any (fun k => reserveRefused (if k = 0 then readA else readB) k s) then stResource else stBadParam

/-- CFG.LOAD: the slots are read and checked; the image that passes takes effect at the next block boundary (CTI_ACTIVATION). -/
def execCfgLoad (readA readB : Bool) (s : State) : Result :=
  effect (longCommand 0o0205 anyVariant needsAuth
    (fun c s => firstStatus [(decide (2 < c.p 1), stBadParam),
      (loadBlocked s || (decide (1 ≤ c.p 1) && slotOpen s == some (c.p 1 - 1)), stState)])
    (fun c s =>
      let slots := loadSlots (c.p 1) s
      let refusal := loadRefusal readA readB slots s
      let (is, s) := checkSlots readA readB slots s
      match newestImage is with
      | some img => { s with cfg := { s.cfg with next := some img, nextIsLoad := true } }
      | none => groupDone 2 refusal s)) s

/-! ## CFG.FLASH_WRITE (R140) -/

/-- The slot that a BEGIN names, or the inactive one. -/
def beginSlot (c : Command) (s : State) : Nat :=
  if 2 ≤ c.params.length then c.p 2 else match s.cfg.active with | some k => 1 - k | none => 0

/-- CFG.FLASH_WRITE BEGIN; an undefined OP is refused here. -/
def execCfgFlashWriteBegin (s : State) : Result :=
  effect (longCommand 0o0206 (fun c => opIs 0 c || decide (2 < c.p 1)) needsAuth
    (fun c s => firstStatus [(decide (2 < c.p 1) || decide (1 < beginSlot c s), stBadParam),
      (s.cfg.active == some (beginSlot c s) || (regionOf 2 (beginSlot c s) s).isNone, stState)])
    (fun c s => { s with cfg := { s.cfg with op := some (.ctiBegin (beginSlot c s)), slotWrite := some ⟨beginSlot c s, [], false⟩ } })) s

/-- Some row of a range has been written since the BEGIN. -/
def rowsWritten (c : Command) (s : State) : Bool :=
  match s.cfg.slotWrite with
  | some w => w.closed || wasWritten w.rows (c.p 2) ((c.params.length - 2) / 4)
  | none => true

/-- CFG.FLASH_WRITE DATA. -/
def execCfgFlashWriteData (s : State) : Result :=
  effect (longCommand 0o0206 (opIs 1) needsAuth
    (fun c s =>
      let n := c.params.length - 2
      firstStatus [(n % 4 != 0 || decide (29120 < c.p 2 + n / 4), stBadParam), (rowsWritten c s, stState)])
    (fun c s => { s with cfg := { s.cfg with op := some (.ctiData (c.p 2) (c.params.drop 2)) } })) s

/-- CFG.FLASH_WRITE END. -/
def execCfgFlashWriteEnd (s : State) : Result :=
  effect (longCommand 0o0206 (opIs 2) needsAuth (fun _ s => if (slotOpen s).isNone then stState else stOk)
    (fun _ s => { s with cfg := { s.cfg with op := some .ctiEnd } })) s

/-! ## CFG.FIRMWARE_WRITE (R430) -/

/-- The slot holds the running bundle. -/
def runsFrom (slot : Nat) (s : State) : Bool := match s.boot.fw with | some f => f.source == slot | none => false

/-- CFG.FIRMWARE_WRITE BEGIN; an undefined OP is refused here. -/
def execCfgFirmwareWriteBegin (s : State) : Result :=
  effect (longCommand 0o0207 (fun c => opIs 0 c || decide (3 < c.p 1)) needsAuth
    (fun c s => firstStatus [(decide (3 < c.p 1) || decide (1 < c.p 2), stBadParam),
      (runsFrom (c.p 2) s || s.cfg.fwWrite.isSome || (regionOf 1 (c.p 2) s).isNone, stState)])
    (fun c s => { s with cfg := { s.cfg with op := some (.fwBegin (c.p 2)), fwWrite := some ⟨c.p 2, []⟩ } })) s

/-- CFG.FIRMWARE_WRITE DATA. -/
def execCfgFirmwareWriteData (s : State) : Result :=
  effect (longCommand 0o0207 (opIs 1) needsAuth
    (fun c s =>
      let n := dataCount c
      firstStatus [(decide (n < 1) || decide (480 < n) || decide (Config.fwLimit < dataOffset c + n), stBadParam),
        ((match s.cfg.fwWrite with | some w => wasWritten w.ranges (dataOffset c) n | none => true), stState)])
    (fun c s => { s with cfg := { s.cfg with op := some (.fwData (dataOffset c) (dataBytes c)) } })) s

/-- CFG.FIRMWARE_WRITE END. -/
def execCfgFirmwareWriteEnd (s : State) : Result :=
  effect (longCommand 0o0207 (opIs 2) needsAuth (fun _ s => if s.cfg.fwWrite.isNone then stState else stOk)
    (fun _ s => { s with cfg := { s.cfg with op := some .fwEnd } })) s

/-- CFG.FIRMWARE_WRITE ABORT. -/
def execCfgFirmwareWriteAbort (s : State) : Result :=
  effect (longCommand 0o0207 (opIs 3) needsAuth (fun _ s => if s.cfg.fwWrite.isNone then stState else stOk)
    (fun _ s => { s with cfg := { s.cfg with op := some .fwAbort } })) s

/-! ## The flash operations end (R140, R430) -/

/-- The flash offset of a region, 0 where the directory has lost it. -/
def regionBase (typ index : Nat) (s : State) : Nat := match regionOf typ index s with | some e => e.offset | none => 0

/-- END of a slot write: checks 1 to 11 without activation. -/
def ctiEnds (w : SlotWrite) (ok : Bool) (s : State) : State :=
  match checkSlot w.slot ok s with
  | .inl reason => groupDone 2 stBadParam (rejectImage w.slot reason s)
  | .inr _ => groupDone 2 stOk { s with cfg := { s.cfg with slotWrite := some { w with closed := true } } }

/-- END of a firmware write: the checks of R428; a bundle that fails is erased. -/
def fwEnds (w : FwWrite) (ok : Bool) (s : State) : State :=
  let s := flashReadFault ok { s with cfg := { s.cfg with fwWrite := none } }
  if (slotFirmware w.slot ok s).isSome then groupDone 2 stOk s
  else groupDone 2 stAuthFail (flashErase (regionBase 1 w.slot s) Config.fwLimit s)

/-- A flash-backed CFG operation ends; a failed erase or program ends with TIMEOUT (log 19). -/
def cfgCompletes (ok : Bool) (s : State) : State :=
  match s.cfg.op with
  | none => s
  | some op =>
    let s := { s with cfg := { s.cfg with op := none } }
    match op, s.cfg.slotWrite, s.cfg.fwWrite with
    | .ctiEnd, some w, _ => ctiEnds w ok s
    | .fwEnd, _, some w => fwEnds w ok s
    | .ctiBegin k, _, _ =>
      if ok then groupDone 2 stOk (flashErase (regionBase 2 k s) Config.ctiSlotSize s) else groupDone 2 stTimeout s
    | .ctiData row ws, some w, _ =>
      if ok then
        groupDone 2 stOk (flashWrite (regionBase 2 w.slot s + 9 * row) (wordsToRows ws)
          { s with cfg := { s.cfg with slotWrite := some { w with rows := (row, ws.length / 4) :: w.rows } } })
      else groupDone 2 stTimeout s
    | .fwBegin k, _, _ =>
      if ok then groupDone 2 stOk (flashErase (regionBase 1 k s) Config.fwLimit s) else groupDone 2 stTimeout s
    | .fwData off bs, _, some w =>
      if ok then
        groupDone 2 stOk (flashWrite (regionBase 1 w.slot s + off) bs
          { s with cfg := { s.cfg with fwWrite := some { w with ranges := (off, bs.length) :: w.ranges } } })
      else groupDone 2 stTimeout s
    | .fwAbort, _, some w =>
      if ok then
        groupDone 2 stOk (w.ranges.foldl (fun s r => flashErase (regionBase 1 w.slot s + r.1) r.2 s)
          { s with cfg := { s.cfg with fwWrite := none } })
      else groupDone 2 stTimeout s
    | _, _, _ => groupDone 2 stState s

end Sys2Proof.Machine
end

