-- ==== Sys2Proof/Machine/Security.lean ====
section
/-!
DEFINITION. Security and the Kaolin vault (R420 to R436): host sessions, provisioning, debug unlock, tamper sources and their actions,
vault faults and the anti-rollback fuses.
-/

namespace Sys2Proof.Machine

open Sys2Proof

/-! ## Sessions (R112, R425, R426) -/

/-- SEC.SESSION. -/
def postSession (b : Box) (scope opened : Bool) (reason : Nat) (s : State) : State :=
  post 0o130203 [w18 (boxCode b), w18 (bit scope * 2 + bit opened), w18 reason] s

/-- Close a path's session, if one is open, for a reason of SEC.SESSION. -/
def closeSession (b : Box) (reason : Nat) (s : State) : State :=
  match sessionOf b s with
  | some ss => postSession b ss.provisioning false reason (setSession b none s)
  | none => s

/-- SESSION_COUNTER_EXHAUSTED (R112): the session has accepted counter 262 143. -/
def execSessionCounterExhausted (b : Box) (s : State) : Result :=
  effect (fun s =>
    match sessionOf b s with
    | some ss => if 262143 ≤ ss.counter then closeSession b 4 s else s
    | none => s) s

/-- SCOPE of a SEC.OPEN: 1 provisioning. -/
def openScope (c : Command) : Bool := bitOf (c.p 1) 0

/-- Bytes that words of the packet carry, from word w on, n words (R111). -/
def packetBytes (c : Command) (w n : Nat) : List Byte := pairBytes ((c.words.drop w).take n)

/-- Host ephemeral key and nonce. -/
def hostKey (c : Command) : List Byte := packetBytes c 3 32
/-- Host nonce Nh. -/
def hostNonce (c : Command) : List Byte := packetBytes c 35 8

/-- The request's own authorisation (R425). -/
def openAuthorised (c : Command) (s : State) : Bool :=
  if openScope c then
    let key := packetBytes c 43 32
    let blank := s.sec.otp.intHash.all (·.isNone)
    (blank || keyInSlot key (c.p 1 / 2 % 4) s)
      && ecdsaVerify key (sha256 (authMessage c.box (c.words.take 75))) (packetBytes c 75 16) (packetBytes c 91 16)
  else
    match s.sec.hak with
    | some k => packetBytes c 43 8 == (hmac k (authMessage c.box (c.words.take 43))).take 16
    | none => false

/-- Status of a SEC.OPEN: an ephemeral key that is no point of the curve is refused (log 30). -/
def checkOpen (c : Command) (s : State) : Nat :=
  firstStatus [((pointOf (hostKey c)).isNone, stBadParam), (!openScope c && s.sec.hak.isNone, stState),
    (!openAuthorised c s, stAuthFail)]

/-- Open the session (R426): the results and the state. -/
def openSession (c : Command) (s : State) : List Word × State :=
  let (n, s) := drawBits 128 s
  let nd := beBytes 16 n.toNat
  let z := ecdhX (identityKey s) (hostKey c)
  let salt := hostNonce c ++ nd
  let key := hkdf32 salt z (ascii "DAR-SESS" ++ [pathByte c.box])
  let enc := hkdf32 salt z (ascii "DAR-ENC")
  let s := setSession c.box (some ⟨key, enc, 0, openScope c⟩) (closeSession c.box 3 s)
  (pairWords nd ++ pairWords (publicOf (identityKey s)) ++ [w18 s.sec.otp.epoch]
      ++ pairWords ((hmac key (ascii "DAR-CONF")).take 16),
    postSession c.box (openScope c) true 0 s)

/-- SEC.OPEN (R425): an authorisation that fails counts toward the AUTH_FAIL source. -/
def secOpen (s : State) : State :=
  match takesThis 0o1301 anyVariant s with
  | none => s
  | some (b, k, p, c) =>
    let s := takePacket b k p s
    let (st, s) := authCheck false true c s
    if st = stOk then
      let st := checkOpen c s
      if st = stOk then
        let (rs, s) := openSession c s
        answer c stOk rs false false s
      else if st = stAuthFail then answer c st [] false false (authFailure s)
      else answer c st [] false false s
    else answer c st [] false false s

/-- SEC.OPEN. -/
def execSecOpen (s : State) : Result := effect secOpen s

/-- SEC.CLOSE (R436). -/
def execSecClose (s : State) : Result :=
  effect (immediateCommand 0o1302 anyVariant needsAuth (fun _ _ => stOk) (fun c s => ([], closeSession c.box 0 s))) s

/-! ## SEC.PROVISION (R436) -/

/-- The packet's session is a provisioning one. -/
def inProvisioning (c : Command) (s : State) : Bool :=
  match sessionOf c.box s with
  | some ss => ss.provisioning
  | none => false

/-- Items 0 to 2 are refused: an operational session on an unprovisioned device, or EXHAUSTED (R434). -/
def itemRefused (c : Command) (s : State) : Bool := (!inProvisioning c s && s.sec.hak.isNone) || s.sec.otp.exhausted

/-- Status of SEC.PROVISION. -/
def checkProvision (c : Command) (s : State) : Nat :=
  match c.p 1 with
  | 0 => firstStatus [(itemRefused c s, stState)]
  | 1 => firstStatus [((c.params.drop 1).any (fun w => decide (2 < w.toNat)), stBadParam), (itemRefused c s, stState)]
  | 2 => firstStatus [(decide (c.p 2 < 2) || decide (64 < c.p 2), stBadParam), (itemRefused c s, stState)]
  | 3 => firstStatus [(decide (3 < c.p 2), stBadParam),
      (!inProvisioning c s || (s.sec.otp.intHash.getD (c.p 2) none).isSome, stState)]
  | 4 => firstStatus [(!inProvisioning c s, stState)]
  | _ => stBadParam

/-- The HAK of ITEM 0, decrypted under K_ENC (R436). -/
def sentHak (c : Command) (s : State) : List Byte :=
  match sessionOf c.box s with
  | some ss => aesCtr ss.enc 3 (beNat (beBytes 3 c.seq.toNat ++ List.replicate 13 0)) (packetBytes c 3 16)
  | none => []

/-- One row of SEC.PROVISION: its work runs until the flash operation ends. -/
def provision (variant : Command → Bool) (op : Command → State → SecOp) (s : State) : State :=
  longCommand 0o1303 variant needsAuth checkProvision (fun c s => { s with sec := { s.sec with op := some (op c s) } }) s

/-- SEC.PROVISION ITEM 0; an undefined ITEM is refused here. -/
def execSecProvisionHak (s : State) : Result :=
  effect (provision (fun c => opIs 0 c || decide (4 < c.p 1)) (fun c s => .hak (sentHak c s))) s

/-- SEC.PROVISION ITEM 1. -/
def execSecProvisionTamperActions (s : State) : Result :=
  effect (provision (opIs 1) (fun c _ => .actions ((c.params.drop 1).map (·.toNat)))) s

/-- SEC.PROVISION ITEM 2. -/
def execSecProvisionAuthLimit (s : State) : Result := effect (provision (opIs 2) (fun c _ => .authLimit (c.p 2))) s

/-- SEC.PROVISION ITEM 3. -/
def execSecProvisionIntHash (s : State) : Result :=
  effect (provision (opIs 3) (fun c _ => .intHash (c.p 2) (BitVec.ofNat 256 (beNat (packetBytes c 4 16))))) s

/-- SEC.PROVISION ITEM 4. -/
def execSecProvisionCsigReq (s : State) : Result := effect (provision (opIs 4) (fun _ _ => .csig)) s

/-- ITEM of an operation. -/
def SecOp.item : SecOp → Nat
  | .hak _ => 0
  | .actions _ => 1
  | .authLimit _ => 2
  | .intHash _ _ => 3
  | .csig => 4

/-- An item takes its value: in the vault, or in the fuses. -/
def placeItem (op : SecOp) (s : State) : State :=
  match op with
  | .hak k => { s with sec := { s.sec with hak := some k } }
  | .actions l => { s with sec := { s.sec with actions := l } }
  | .authLimit n => { s with sec := { s.sec with authLimit := n } }
  | .intHash k h => { s with sec := { s.sec with otp := { s.sec.otp with intHash := listSet s.sec.otp.intHash k (some h) } } }
  | .csig => { s with sec := { s.sec with otp := s.sec.otp.burnCsig } }

/-- SEC.PROVISION ends: both blob copies are rewritten, and SEC.PROVISIONED is posted; a failed rewrite ends with TIMEOUT (log 19). -/
def secCompletes (ok : Bool) (s : State) : State :=
  match s.sec.op with
  | none => s
  | some op =>
    let s := { s with sec := { s.sec with op := none } }
    if ok then
      let s := rewriteBlobs (placeItem op s)
      groupDone 11 stOk (post 0o130302 [w18 op.item, w18 s.sec.otp.epoch] s)
    else groupDone 11 stTimeout s

/-- FLASH_OPERATION_COMPLETE (R140, R294, R430, R436). -/
def execFlashOperationComplete (group : FlashGroup) (ok : Bool) (s : State) : Result :=
  effect (match group with
    | .cfg => cfgCompletes ok
    | .msg => msgCompletes ok
    | .sec => secCompletes ok) s

/-! ## SEC.TAMPER_CLEAR (R435, R436) -/

/-- SEC.TAMPER_CLEAR, with the pins that are asserted now. -/
def execSecTamperClear (pins : BitVec 2) (s : State) : Result :=
  effect (immediateCommand 0o1304 anyVariant needsAuth
    (fun c _ => firstStatus [(decide (15 < c.p 1), stBadParam), (decide ((c.p 1 % 4) &&& pins.toNat ≠ 0), stState)])
    (fun c s =>
      ([], { s with
        aon := { s.aon with tampStat := s.aon.tampStat &&& ~~~(BitVec.ofNat 4 (c.p 1)) }
        sec := { s.sec with authFails := [], authHigh := false } }))) s

/-! ## Debug (R431) -/

/-- SEC.DEBUG_CHALLENGE (R431). -/
def execSecDebugChallenge (s : State) : Result :=
  effect (immediateCommand 0o1305 anyVariant needsAuth
    (fun c _ => firstStatus [(decide (c.p 1 < 1) || decide (2 < c.p 1), stBadParam)])
    (fun c s =>
      let (n, s) := drawBits 128 s
      let nonce := beBytes 16 n.toNat
      (pairWords nonce, { s with sec := { s.sec with challenge := some ⟨nonce, c.p 1, s.clk.tick⟩ } }))) s

/-- What A1 does (R433): both sessions closed, their keys and the debug challenge erased. -/
def alarmA1 (s : State) : State :=
  let s := closeSession .s 1 (closeSession .u 1 s)
  { s with sec := { s.sec with challenge := none } }

/-- The key may answer a challenge of a scope. -/
def debugKey (pubkey : List Byte) (scope : Nat) (s : State) : Bool :=
  if scope = 1 then [0, 1, 2, 3].any (fun k => keyInSlot pubkey k s) else sha256 pubkey == otpBytes s.sec.otp.vendorHash

/-- The message that a response signs: nonce, die number as 7 bytes, scope (log 31). -/
def debugMessage (ch : Challenge) (s : State) : List Byte :=
  ch.nonce ++ beBytes 7 s.sec.otp.die.toNat ++ [BitVec.ofNat 8 ch.scope]

/-- The challenge ends as a failed debug unlock. -/
def debugFail (s : State) : State :=
  { s with sec := { s.sec with challenge := none, tamperDue := s.sec.tamperDue ||| 4 } }

/-- DBG_RESP (R431): the one response to an open challenge. -/
def execDbgResp (pubkey sig : List Byte) (s : State) : Result :=
  effect (fun s =>
    match s.sec.challenge with
    | none => s
    | some ch =>
      if since ch.start s < 60 * Config.tkPerS ∧ debugKey pubkey ch.scope s
          ∧ ecdsaVerify pubkey (sha256 (debugMessage ch s)) (sig.take 32) (sig.drop 32) then
        let s := if ch.scope = 2 then alarmA1 s else s
        { s with sec := { s.sec with challenge := none, debug := ch.scope } }
      else debugFail s) s

/-- DEBUG_CHALLENGE_TIMEOUT (R431): no response within 60 s. -/
def execDebugChallengeTimeout (s : State) : Result :=
  effect (fun s =>
    match s.sec.challenge with
    | some ch => if 60 * Config.tkPerS ≤ since ch.start s then debugFail s else s
    | none => s) s

/-! ## Tamper (R432 to R435) -/

/-- The next EPOCH fuse is burned; with fuse 7 burned already, both blob copies are erased and EXHAUSTED is burned (R434). -/
def burnEpoch (s : State) : State :=
  if 7 ≤ s.sec.otp.epoch then
    let s := [0, 1].foldl (fun s k => match blobAddr k s with | some a => flashErase a 80 s | none => s) s
    { s with sec := { s.sec with otp := s.sec.otp.burnExhausted } }
  else { s with sec := { s.sec with otp := s.sec.otp.burnEpoch } }

/-- What A2 does (R433, R435): A1, the vault erased, the fuse, and a SEC.PROVISION in progress aborted with STATE. -/
def alarmA2 (s : State) : State :=
  let s := burnEpoch (alarmA1 s)
  let s := { s with sec := { s.sec with hak := none, actions := [2, 1, 1, 1], authLimit := 8 } }
  if s.sec.op.isSome then groupDone 11 stState { s with sec := { s.sec with op := none } } else s

/-- The action of a tamper source. -/
def takeAction (a : Nat) (s : State) : State :=
  match a with
  | 0 => s
  | 1 => alarmA1 s
  | _ => alarmA2 s

/-- A tamper source asserts (R432): latched, faulted, acted on and posted, except that HIBERNATE posts nothing. -/
def assertTamper (cause : Nat) (s : State) : State :=
  let a := s.sec.actions.getD cause 0
  let s := { s with
    aon := { s.aon with tampStat := s.aon.tampStat ||| (1#4 <<< cause) }
    sec := { s.sec with tamperDue := s.sec.tamperDue &&& ~~~(1#4 <<< cause) } }
  let s := takeAction a (aonFault (BitVec.ofNat 12 (0o5060 + cause)) s)
  if s.pwr.state = .hibernate then s else post 0o130103 [w18 cause, w18 a, w18 s.sec.otp.epoch] s

/-- TAMPER (R432): a pin found asserted, or a failed debug unlock or repeated authentication failures that are due. -/
def execTamper (cause : After (Fin 4)) (s : State) : Result :=
  effect (fun s =>
    let s := sleepTime cause.periods s
    let k := cause.event.val
    if k < 2 ∨ bitOf s.sec.tamperDue.toNat k then assertTamper k s else s) s

/-- VAULT_FAULT (R424): both sessions close, and the items are reloaded from the blob. -/
def execVaultFault (authentication : Bool) (s : State) : Result :=
  effect (fun s =>
    let s := raiseFault (if authentication then 0o0061 else 0o0060) s
    loadVault { s with sec := { s.sec with sessU := none, sessS := none } }) s

/-! ## Anti-rollback (R429, R447) -/

/-- ANTIROLL_BURN (R429): never for a bundle from the loader. -/
def execAntirollBurn (s : State) : Result :=
  effect (fun s =>
    match s.boot.fw with
    | some f =>
      if s.boot.phase == .running && f.source != 2 && decide (s.sec.otp.antiroll < f.rollback) && s.cfg.active.isSome && awake s
          && !s.aon.safeActive && decide (60 * Config.tkPerS ≤ since s.sec.stableFrom s) then
        { s with sec := { s.sec with otp := s.sec.otp.burnAntiroll f.rollback } }
      else s
    | none => s) s

end Sys2Proof.Machine
end

