-- ==== Sys2Proof/Machine/Boot.lean ====
section
/-!
DEFINITION. Resets and start-up (R40 to R45, R437 to R447): power-on reset and RESET_N, the boot ROM and the recovery loader, the start of
the firmware, the activation of a CTI (R130), its reload (R132), and the warm chip reset (R443).
-/

namespace Sys2Proof.Machine

open Sys2Proof

/-! ## Power-on reset and RESET_N (R437, R440, R454) -/

/-- What every chip-level reset leaves as it is: flash and OTP, the levels of pins outside, and the model's own queue and free values. -/
def outsideKept (straps : Straps) (s : State) : State :=
  { State.reset with
    pending := s.pending, free := s.free
    clk := { refOk := s.clk.refOk }
    boot := { straps := straps }
    mem := { flash := s.mem.flash }
    hub := { vbus := s.hub.vbus }
    sec := { otp := s.sec.otp } }

/-- VDD_33 or VDD_CORE has fallen below its power-on threshold for long enough (R454). -/
def powerFails (vdd33 vddCore dipNs : Nat) : Bool := (decide (vdd33 < 2650) || decide (vddCore < 470)) && decide (2000 ≤ dipNs)

/-- POWER_ON_RESET (R437, R454). -/
def execPowerOnReset (vdd33 vddCore dipNs : Nat) (straps : Straps) (s : State) : Result :=
  effect (fun s => if powerFails vdd33 vddCore dipNs then outsideKept straps s else s) s

/-- The AON registers that RESET_N keeps, with its own RST_CAUSE bit (R437, R440). -/
def resetAon (a : Aon) : Aon :=
  { tampStat := a.tampStat, rstCause := a.rstCause ||| 2, rtcSub := a.rtcSub, rtcSec := a.rtcSec, safeActive := a.safeActive
    safeLatched := a.safeLatched, recov := a.recov, hist := a.hist }

/-- What RESET_N does: the AON persistent set survives (R437), and the RTC goes on over the slow-clock periods that no tick tells of
(R64). -/
def resetByPin (periods : Nat) (straps : Straps) (s : State) : State :=
  let s := aonTime periods s
  let aon := resetAon s.aon
  { outsideKept straps s with
    aon := aon
    win := { copy := aon }
    flt := { hold := s.flt.hold, entrySource := s.flt.entrySource, enteredDue := if s.aon.safeActive then some 4 else none } }

/-- RESET_N (R437): below 100 ns ignored, from 1 microsecond on recognised, between them open. -/
def execResetN (width : After Nat) (straps : Straps) (s : State) : Result :=
  effect (fun s =>
    if width.event < 100 then s
    else if 1000 ≤ width.event then resetByPin width.periods straps s
    else
      let (v, s) := drawBits 1 s
      if v = 1 then resetByPin width.periods straps s else s) s

/-! ## The boot ROM (R42 to R45, R59, R428) -/

/-- The boot ROM runs under the sampled straps, and pulses XSPI_RESET_N (R42 to R45). -/
def runBootRom (s : State) : State :=
  let b := s.boot.straps
  if b.testEn then { s with boot := { s.boot with phase := .factory } }
  else
    let s := emit .xspiReset s
    if b.boot1 && b.boot0 then
      { s with boot := { s.boot with phase := .halted }, aon := { s.aon with rstCause := s.aon.rstCause ||| 0x20 } }
    else if b.boot1 then { s with boot := { s.boot with phase := .loader } }
    else { s with boot := { s.boot with phase := .bootRom } }

/-- Slow-clock periods of the RC oscillator pass until the root PLL locks (R59, R64): after HIBERNATE the tick counter advances over them
too, and returns to the root (R68). -/
def timeToLock (periods : Nat) (s : State) : State :=
  if s.boot.fromHibernate then tickReturns (asleepTime periods s) else slowTime periods s

/-- ROOT_PLL_LOCK (R59): the root PLL locks on the reference after a free number of periods, and the boot ROM starts. -/
def execRootPllLock (s : State) : Result :=
  effect (fun s =>
    if s.boot.phase = .oscillator ∧ s.clk.refOk = true then
      let (periods, s) := drawBits 9 s
      let s := timeToLock periods.toNat s
      runBootRom { s with clk := { s.clk with rootLocked := true, ssLocked := true, slowRc := false, relock := false } }
    else s) s

/-- BOOT_ROM_START (R428): the accepted bundle with the higher ROLLBACK, then release, then slot A; with none the boot ROM halts. -/
def execBootRomStart (readA readB : Bool) (s : State) : Result :=
  effect (fun s =>
    if s.boot.phase = .bootRom then
      match selectFirmware readA readB s with
      | some fw => { s with boot := { s.boot with phase := .verified, fw := some fw } }
      | none => { s with boot := { s.boot with phase := .halted } }
    else s) s

/-! ## The recovery loader (R447) -/

/-- First Stash byte of the staging area, banks 1 to 6. -/
def stagingBase : Nat := stashAddr 1 0

/-- The byte offset and the count of a LOADER.DATA packet. -/
def stageOffset (c : Command) : Nat := c.p 1 + 2 ^ 18 * c.p 2

/-- LOADER_DATA (R447). -/
def execLoaderData (s : State) : Result :=
  effect (fun s =>
    match loaderTakes 0o7701 s with
    | none => s
    | some (k, c) =>
      let s := takeLoader k s
      let n := c.p 3
      if n < 1 ∨ 480 < n ∨ Config.fwLimit < stageOffset c + n then postReply c stBadParam [] s
      else postReply c stOk [] (stashWrite (stagingBase + stageOffset c) ((pairBytes (c.params.drop 3)).take n) s)) s

/-- LOADER_RUN (R447): the staged bundle is verified under R428 and runs, or the staging area is cleared. -/
def execLoaderRun (s : State) : Result :=
  effect (fun s =>
    match loaderTakes 0o7702 s with
    | none => s
    | some (k, c) =>
      let s := takeLoader k s
      let len := stageOffset c
      let b := stashBytes stagingBase (min len Config.fwLimit) s
      if acceptFirmware b s.sec.otp.antiroll s && decide (bundleLen b ≤ len) then
        postReply c stOk [] { s with boot := { s.boot with phase := .verified, fw := some (fwInfoOf 2 b) } }
      else postReply c stAuthFail [] (stashClear stagingBase (9 * 6 * 65536) s)) s

/-- DIRECTORY_REBUILT (R276): by a firmware started through the loader that finds neither copy correct. -/
def execDirectoryRebuilt (s : State) : Result :=
  effect (fun s =>
    match s.boot.fw with
    | some fw =>
      if s.boot.phase == .verified && fw.source == 2 && (directory s).isNone && !s.boot.rebuilt then
        let s := rebuildDirectory s
        { s with boot := { s.boot with rebuilt := true } }
      else s
    | none => s) s

/-! ## The start concludes (R444) -/

/-- SYS.STARTED, then the events held since the start began, each with its tick (R444); after HIBERNATE the wake is reported and its
command ends (R375, R385). -/
def finishStart (outcome : Nat) (s : State) : State :=
  let held := s.boot.held
  let ms := min 262143 (since s.boot.startRef s / Config.tkPerMs)
  let s := { s with boot := { s.boot with started := true, held := [], warmBusy := false, resetFault := none } }
  let s := postAt 0o010703 [w18 s.boot.causeAtStart.toNat, w18 outcome, w18 ms] s.clk.tick s
  let s := held.foldl (fun s e => postAt e.word0 e.params e.tick s) s
  if s.boot.fromHibernate then
    let s := postWake false false .hibernate s.boot.asleepS { s with boot := { s.boot with fromHibernate := false } }
    match s.pwr.entryCmd with
    | some l => cmdDone l stOk { s with pwr := { s.pwr with entryCmd := none } }
    | none => s
  else s

/-- The device runs unconfigured (R131): no port is owned or powered, and no table or destination is in force. -/
def runUnconfigured (s : State) : State :=
  let s := (List.range 10).foldl (fun s k => cutPower k (disown s k)) s
  let s := { s with
    cfg := { s.cfg with
      unconfigured := true, active := none, gen := 0, crc := 0, header := [], signed := [], live := [], overlay := [], overlaySeq := 0
      overlayCopy := none, pending := [], next := none, nextIsLoad := false, reloading := false }
    zon := { s.zon with zones := [], occs := [] }
    aud := {} }
  finishStart 2 { s with boot := { s.boot with phase := .running }, hub := { s.hub with waitFace := true } }

/-! ## The firmware starts (R441 steps 6 to 8, R443 steps 3 and 4) -/

/-- A row of the protected or overlay region does not decode (R132). -/
def bank0Wrong (s : State) : Bool := s.mem.stashErr.any (fun x => decide (x.1 < 40960) && decide (2 ≤ x.2))

/-- The image in bank 0, when it and the overlay region verify at a warm chip reset (R132). -/
def keptImage (s : State) : Option Image :=
  match s.cfg.active with
  | none => none
  | some k =>
    if bank0Wrong s then none
    else match checkImage k true (stashBytes (stashAddr 0 0) (9 * 32768) s) s with
      | .inl _ => none
      | .inr img =>
        match s.cfg.overlayCopy, readOverlay (stashBytes overlayRegion (9 * 8192) s) img s with
        | none, _ => some img
        | some _, some (true, _, _) => some img
        | some _, _ => none

/-- The TYPE 5 entries of the directory: a load that a reset interrupted is discarded at start-up (R295). -/
def discardLoads (s : State) : State :=
  let es := dirEntries s
  if es.any (fun e => e.typ == 5) then writeDirectory (es.filter (fun e => e.typ != 5)) s else s

/-- What the firmware does before it looks for a CTI: the watchdog is armed, ID_FW is set, the blob is unwrapped and the ageing fuses are
loaded; LOG.FAULT of the fault that caused a warm chip reset is held for the start (R438, R390, R423, R441, R444). -/
def startFirmware (s : State) : State :=
  let s := readOtp s
  let fw := s.boot.fw.getD ⟨0, 0, 0, 0⟩
  let s := { s with
    win := { s.win with idFw := w18 (fw.major * 4096 + fw.minor * 64) }
    pwr := { s.pwr with ageOfs := s.sec.otp.ageOfs, pl0Retired := s.sec.otp.pl0Retired }
    boot := { s.boot with
      wdArmed := true, lastKick := s.clk.tick, kickMissed := false, causeAtStart := s.aon.rstCause
      held := s.boot.held ++ (match s.boot.resetFault with | some e => [e] | none => []) } }
  discardLoads (if s.boot.warmBusy then s else loadVault s)

/-- The firmware has an image to activate, or runs unconfigured. -/
def chooseCti (readA readB : Bool) (s : State) : State :=
  match (if s.boot.warmBusy then keptImage s else none) with
  | some img => { s with boot := { s.boot with ctiKept := true, phase := .starting }, cfg := { s.cfg with next := some img } }
  | none =>
    let (is, s) := checkSlots readA readB [0, 1] s
    let s := { s with boot := { s.boot with ctiKept := false } }
    match newestImage is with
    | some img => { s with boot := { s.boot with phase := .starting }, cfg := { s.cfg with next := some img } }
    | none => runUnconfigured s

/-- FIRMWARE_START (R441, R443). -/
def execFirmwareStart (readA readB : Bool) (s : State) : Result :=
  effect (fun s =>
    if s.boot.phase == .verified && ((directory s).isSome || s.boot.rebuilt) then chooseCti readA readB (startFirmware s) else s) s

/-! ## Activation (R130) -/

/-- How a CTI comes into force: at a cold start, kept or loaded at a warm start, by CFG.LOAD, or reloaded during operation. -/
inductive Activation where
  | cold | kept | warmLoad | load | reload
  deriving DecidableEq, Repr

/-- The activation that is due. -/
def activationOf (s : State) : Activation :=
  if s.boot.phase = .starting then
    if !s.boot.warmBusy then .cold else if s.boot.ctiKept then .kept else .warmLoad
  else if s.cfg.nextIsLoad then .load
  else .reload

/-- The activation concludes a start. -/
def Activation.starts : Activation → Bool
  | .cold => true
  | .kept => true
  | .warmLoad => true
  | .load => false
  | .reload => false

/-- The overlay copy's bytes as the overlay region takes them. -/
def copyBytes (k : Nat) (s : State) : List Byte :=
  match regionOf 3 k s with
  | some e =>
    let bs := flashBytes e.offset (9 * 8192) s
    bs.take (9 * (5 + ((imageWord bs 2).toNat + 3) / 4))
  | none => []

/-- The overlay in force with an image: the one in bank 0 when it was kept, else the newer usable copy; a bound copy that is not usable
raises the configuration-integrity fault (R137). -/
def takeOverlay (a : Activation) (img : Image) (s : State) : Option (Nat × Nat × List Change) × State :=
  if a = .kept then (s.cfg.overlayCopy.map (fun k => (k, s.cfg.overlaySeq, s.cfg.overlay)), s)
  else
    let (use, bad) := chooseOverlay img s
    let s := (List.range bad).foldl (fun s _ => raiseFault 0o0222 s) s
    let s := loaderWrite (stashAddr 0 0) (9 * 32768) img.bytes s
    (use, loaderWrite overlayRegion (9 * 8192) (match use with | some (k, _, _) => copyBytes k s | none => []) s)

/-- What becomes of a CFG.COMMIT in progress when an image takes effect (R138): for a reload of the same image it goes on, with the
copy that the reload did not take; with another image it cannot be completed, and ends as one whose write does not complete. -/
def settleCommit (same : Bool) (s : State) : State :=
  match s.cfg.commit with
  | none => s
  | some op =>
    if same then
      { s with cfg := { s.cfg with commit := some { op with copy := commitCopy s, seq := (s.cfg.overlaySeq + 1) % 262144 } } }
    else groupDone 2 stTimeout { s with cfg := { s.cfg with commit := none } }

/-- The image and the overlay come into force. The pending set is emptied, but for a reload of the same image (R132, R136). -/
def takeImage (a : Activation) (img : Image) (s : State) : State :=
  let (use, s) := takeOverlay a img s
  let (copy, seq, ov) := match use with | some (k, q, l) => (some k, q, l) | none => (none, 0, [])
  let same := a == .reload && s.cfg.active == some img.slot && s.cfg.gen == img.gen && s.cfg.crc == img.crc
  let pending := if same then s.cfg.pending else []
  settleCommit same { s with cfg := { s.cfg with
      unconfigured := false, active := some img.slot, gen := img.gen, crc := img.crc, header := img.header, signed := img.tables
      live := applyChanges (applyChanges img.tables ov) (pending.filter (fun c => c.tid != 0))
      overlay := ov, overlaySeq := seq, overlayCopy := copy, pending := pending, next := none, nextIsLoad := false, reloading := false } }

/-- Zones after an activation (R130, R247, R254, R255): while the device runs, a zone keeps its state with its STATE table and its events
queue; at a warm start the record decides; else every zone starts in INIT. -/
def activateZones (a : Activation) (old : List Table) (s : State) : State :=
  let lost := { s with zon := { s.zon with hbLost := true, hbReturn := false } }
  let first := { lost with zon := { lost.zon with firstSample := true } }
  let init := syncZones [] false
    { (s.zon.zones.foldl (fun s z => leaveVoice z.num s) first) with zon := { first.zon with zones := [], occs := [] } }
  match a with
  | .kept =>
    if s.zon.recordOk then
      let s := syncZones old true { lost with zon := { lost.zon with occs := [], resample := true } }
      { s with zon := { s.zon with zones := s.zon.zones.map (resumeZone s) } }
    else init
  | .load => syncZones old false first
  | .reload => syncZones old false first
  | .cold => init
  | .warmLoad => init

/-- Destinations before the entries of a changed table 160 are applied: base layer empty, and every setting without an entry gone (R237,
R238). A delay line stays only where its entry asks for the same line. -/
def clearDest (s : State) (d0 : Dest) : State :=
  let n := d0.num
  let has := fun (typ : Nat) => (entriesOf s.cfg.live 160 typ).find? (fun e => entryDest e == n)
  let section4 := fun (i : Nat) => (entriesOf s.cfg.live 160 4).any (fun e => entryDest e == n && e.a.bits 11 8 == i)
  let sameLine : Bool := match d0.delay, has 5 with
    | some l, some e => l.format == e.a.bits 17 16 && l.request == e.b.toNat && l.delay == e.b.toNat
    | none, some _ => true
    | none, none => true
    | some _, none => false
  let s := if sameLine then s else allocate n 0 0 0 s
  let d := destOf n s
  setDest { d with
    base := []
    sections := d.sections.zipIdx.map (fun q => if section4 q.2 then q.1 else {})
    dyn := if (has 6).isSome then d.dyn else none
    ambient := if (has 7).isSome then d.ambient else none } s

/-- Live audio settings after an activation: untouched where table 160 is unchanged, else those of its entries (R237, R238). -/
def activateAudio (a : Activation) (old : List Table) (s : State) : State :=
  if !a.starts ∧ tableIn old 160 = tableIn s.cfg.live 160 then s
  else
    let s := s.aud.dests.foldl clearDest s
    (placedIn s.cfg.live 160).foldl (fun s e => applyEntry e.2 s) s

/-- The firmware assigns C0 jobs to DSP pairs anew: an open choice, kept until the configuration changes (R235). -/
def assignPairs (s : State) : State := { s with free := s.free + 1, aud := { s.aud with assignment := s.free } }

/-- Checking on a TDM port starts after a start, and after an activation that changes its TYPE 1 entries (R271). -/
def activateTdm (a : Activation) (old : List Table) (s : State) : State :=
  let was := { s with cfg := { s.cfg with live := old } }
  (List.range 2).foldl (fun (s : State) p =>
    let changed := decide (tdmEntries p 0 was ≠ tdmEntries p 0 s) || decide (tdmEntries p 1 was ≠ tdmEntries p 1 s)
    if (tdmEntries p 0 s).isEmpty then
      { s with own := { s.own with tdm := listModify s.own.tdm p (fun u => { u with checkIn := none, got := [] }) } }
    else if a.starts || changed then
      { s with own := { s.own with
          tdm := listModify s.own.tdm p (fun u => { u with checkIn := some 3, lastCtr := none, since := 0, got := [] }) } }
    else s) s

/-- Owner of port k after an activation (R168 to R170). -/
def activateOwner (first : Bool) (old : List Table) (s : State) (k : Nat) : State :=
  let want := ownBit (committedTables s) k
  let no := cannotOwn k s
  let s := if no && (!fitted k s || isUpstreamB k s) then disown s k else s
  if first then mapPort k (fun p => { p with owned := want && !no, ownIgnored := want && no, change := .none, enumDone := true }) s
  else if ownBit old k = want then (if no then mapPort k (fun p => { p with ownIgnored := want && !p.owned }) s else s)
  else if want ∧ no = true then mapPort k (fun p => { p with ownIgnored := true }) s
  else
    mapPort k (fun p => { p with
      ownIgnored := false, change := if p.owned = want then p.change else .requested want }) s

/-- Power and terminations of port k after an activation: absent ports are unpowered, a flex port whose role changed starts anew, and
owned ports are powered (R131, R156, R157, R315). -/
def activatePort (old : List Table) (s : State) (k : Nat) : State :=
  if !fitted k s then cutPower k s
  else
    let s := if k < 4 then settleCc k (followRole old s k) else s
    if (portOf k s).owned then restorePower k s else s

/-- At a warm start every attached PD port sends Soft_Reset, and a Source its capabilities after it (R324, R443). -/
def softReset (s : State) (n : Nat) : State :=
  let f := flexAt n s
  if f.pd && f.role != .unattached then
    let s := emit (.pd n .softReset) s
    if f.role = .source then sendCaps n 3 true s else s
  else s

/-- Owned trees at a warm start: with the cache lost, every owned port is reset and enumerated anew (R189). -/
def warmTrees (s : State) : State :=
  if s.own.cacheOk then s
  else (List.range 10).foldl (fun s k =>
    if (portOf k s).owned && (portOf k s).attached then renewPlace k 0 s else s) { s with own := { s.own with cacheOk := true } }

/-- Ports and trees after an activation. `first`: no CTI has been active since a cold start (R170). -/
def activatePorts (a : Activation) (first : Bool) (own old : List Table) (s : State) : State :=
  let s := (List.range 10).foldl (activateOwner first own) s
  let s := (List.range 10).foldl (activatePort (if first then [] else old)) s
  if a = .kept ∨ a = .warmLoad then warmTrees ((List.range 4).foldl softReset s) else s

/-- The parts of an activation that conclude a start: safe state that was active returns, and the upstream face is chosen (R303, R304,
R396). -/
def concludeStart (a : Activation) (s : State) : State :=
  if !a.starts then
    (if s.boot.ctiUp then s else { s with hub := { s.hub with waitFace := !s.hub.connected } })
  else
    let warm := a == .kept || a == .warmLoad
    let s := { s with
      pav := { s.pav with lastComplete := s.clk.tick }
      hub := { s.hub with waitFace := true, fromRecord := warm }
      clk := { s.clk with lastBlock := none }
      boot := { s.boot with phase := .running } }
    if s.aon.safeActive then restartQuiet { s with flt := { s.flt with enteredDue := some 4 } } else s

/-- CFG.ACTIVATED and the end of what led to the activation: the start, or CFG.LOAD. -/
def reportActivation (a : Activation) (s : State) : State :=
  let s := post 0o020103 ([w18 (s.cfg.active.getD 0)] ++ wordsOf s.cfg.gen 2) s
  match a with
  | .kept => finishStart 0 s
  | .cold => finishStart 1 s
  | .warmLoad => finishStart 1 s
  | .load => groupDone 2 stOk s
  | .reload => s

/-- A change of parameters 2 or 3 of table 448 restarts the wait of the automatic return (R298). -/
def activateReturn (old : List Table) (s : State) : State :=
  if paramIn old 448 2 0 = param 448 2 0 s ∧ paramIn old 448 3 60 = param 448 3 60 s then s
  else { s with hub := { s.hub with availSince := s.hub.availSince.map (fun _ => s.clk.tick) } }

/-- Status of a command that waits for the boundary, under the tables now in force. -/
def waitingStatus (c : Command) (s : State) : Nat :=
  match cmdCode c.word0 with
  | 0o0202 => checkWrite c s
  | 0o0401 => checkRouteSet c s
  | 0o0403 => checkRouteClear c s
  | 0o0501 => checkZone c s
  | 0o0502 => checkZone c s
  | 0o0504 => checkZone c s
  | 0o0601 => checkSetEq c s
  | 0o0602 => checkSetDelay c s
  | 0o0603 => checkSetDynamics c s
  | 0o0605 => checkDelayFormat c s
  | _ => stOk

/-- A command accepted under the old image and due at the boundary of an activation is checked against the new one (R134). -/
def recheckWaiting (s : State) : State :=
  match s.mbx.waits with
  | none => s
  | some c =>
    if waitingStatus c s = stOk then s
    else answer c (waitingStatus c s) [] false false { s with mbx := { s.mbx with waits := none } }

/-- An image takes effect at a block boundary (R130). -/
def activate (img : Image) (s : State) : State :=
  let a := activationOf s
  let old := s.cfg.live
  let own := committedTables s
  let first := s.cfg.active.isNone
  let s := takeImage a img s
  let s := loadSeverity { s with flt := { s.flt with quietSet := none } }
  let s := loadOutputs (activateZones a old s)
  let s := activateReturn old (activateTdm a old (assignPairs (activateAudio a old s)))
  let s := concludeStart a (activatePorts a first own old s)
  let s := { s with boot := { s.boot with ctiUp := true }, clk := { s.clk with mclk := mclkOf s }, sec := { s.sec with stableFrom := s.clk.tick } }
  recheckWaiting (reportActivation a (syncOff (trimBanks s)))

/-- An activation can take place: at a block boundary that is still to be processed, with an image that passed its checks. -/
def activates (s : State) : Bool :=
  fwRuns s && awake s && !entering s && atBlock s && (s.boot.phase == .starting || s.clk.lastBlock != some s.clk.tick)

/-- CTI_ACTIVATION (R130). -/
def execCtiActivation (s : State) : Result :=
  effect (fun s =>
    match s.cfg.next with
    | some img => if activates s then activate img s else s
    | none => s) s

/-- CTI_RELOAD (R132): image and overlay are read from flash again; the image that passes is activated at the next block boundary. -/
def execCtiReload (readA readB : Bool) (s : State) : Result :=
  effect (fun s =>
    if s.cfg.reloading && s.cfg.next.isNone && s.boot.phase == .running && awake s then
      let (is, s) := checkSlots readA readB (loadSlots 0 s) s
      { s with cfg := { s.cfg with next := newestImage is, nextIsLoad := false } }
    else s) s

/-! ## Warm chip reset (R437 to R440, R443) -/

/-- A warm chip reset is due: requested by a reaction or the watchdog, or by SYS.RESET at least 5 ms ago at a block boundary (R450). -/
def commandReset (s : State) : Bool :=
  match s.boot.resetAt with
  | some t => atBlock s && decide (5 * Config.tkPerMs ≤ since t s)
  | none => false

/-- A warm chip reset begins now. -/
def warmDue (s : State) : Bool := fwRuns s && awake s && (!s.boot.warmReq.isEmpty || commandReset s)

/-- RST_CAUSE with the bits of the reset's causes (R437, R439). -/
def warmCauses (s : State) : BitVec 7 :=
  let c := s.boot.warmReq.foldl (fun (m : BitVec 7) c => m ||| (1#7 <<< warmBit c)) s.aon.rstCause
  if commandReset s then c ||| 0x10 else c

/-- Owned trees over the reset: devices keep address and configuration and wait for their resumption; contexts start anew (R189, R268). A
port in a change belongs to its new owner, whose table starts from step 1 (R174). -/
def warmOwned (s : State) : State :=
  let changing := (List.range 10).filter (fun k => (portOf k s).change == .toOwned || (portOf k s).change == .toPass)
  let s := changing.foldl (fun (s : State) k =>
    let s := forgetTree k 0 s
    let p := portOf k s
    let s := if p.owned then s else showSide false k (showSide true k s)
    let s := if (p.speedOn true).isSome then emit (.portReset (k + 1) true) s else s
    if (p.speedOn true).isSome && (p.speedOn false).isNone then s else emit (.portReset (k + 1) false) s) s
  let streams := s.own.streams.map (fun x => { x with running := false, begun := false, fifo := [], fifoTick := 0, got := [] })
  let ctx := fun (x : Stream) => ({ port := x.port + 1, addr := x.addr, ep := x.ep, dirOut := x.dirOut, ch := x.ch, first := x.first
                                    loc := locWord x.speed x.hubPort x.addr } : Ctx)
  { s with own :=
      { devs := s.own.devs.map (fun d => { d with asleep := d.reason == 0, cached := d.reason == 0, buttons := [] })
        streams := streams
        ctxs := (List.range 64).map (fun c => (streams.find? (fun x => x.ctx == some c)).map ctx)
        cacheOk := s.own.cacheOk } }

/-- A port of the PORT cluster over the reset: power, owner and FORCE_OFF stay; no change is in progress (R174, R440). -/
def warmPort (p : DownPortState) : DownPortState :=
  { p with change := .none, enumDone := true, ownReset := false, ttPeriodic := 0, ttNonPeriodic := 0, ttStopped := false, failures := [] }

/-- A flex port over the reset: a running transition completes without PS_RDY, and the PD engine's own sequences end (R340, R359). -/
def warmFlex (f : Flex) : Flex :=
  { f with trans := none, cmd := none, awaiting := false, discover := false, swap := none, swapWaits := 0, alertDue := false
           contract := match f.trans with | some t => if t.begun then some t.dst else f.contract | none => f.contract }

/-- Messages over the reset: kept when the CRC-32 over bank 7's records verifies, else R281 is repeated (R282). -/
def warmMessages (s : State) : Messages :=
  if s.mem.bank7Ok then
    { s.msg with voices := List.replicate 16 none, load := none, op := none, front := [] }
  else {}

/-- Fault collection over the reset: status and firmware records are WARM; lines of PORT and AON stay; safe state stays with its holder and
its exits (R396, R398, R440). -/
def warmFaults (s : State) : Faults :=
  { lines := s.flt.lines.filter (fun l => decide (4 ≤ l.toNat / 512))
    hold := s.flt.hold, exits := s.flt.exits, entrySource := s.flt.entrySource
    enteredDue := if s.aon.safeActive then some 4 else none }

/-- Clocks over a warm chip reset (R59): they run on, but for a reference that has returned, on which the root PLL relocks; until it has,
AON runs on the RC oscillator and the tick counter holds (R72). A SuperSpeed PLL that had lost lock locks again with the reset (log 42). -/
def warmClock (c : Clock) : Clock :=
  if c.relock then { c with lastBlock := none, rootLocked := false, ssLocked := false, slowRc := true, mclk := 0 }
  else { c with lastBlock := none, ssLocked := c.refOk, mclk := 0 }

/-- PORT.LINK_HOLD of the holds that a warm chip reset ends by its flush (R202, R205), to be posted when events can be again. -/
def endedHolds (s : State) : List HeldEvent :=
  (List.range 5).filterMap (fun k =>
    if ((s.sw.links.getD k {}).down).isSome then some ⟨0o031003, [w18 k, 2, w18 (queueOf k 0 s).length], s.clk.tick⟩ else none)

/-- The state at step 1 of a warm chip reset (R440, R443). Posted AON writes are applied before it, so AON_WPEND takes its reset value
(log 41); the shadows stay until the next cold reset (R69), and of the PORTSTAT snapshot the energy counters (R11). -/
def warmState (s : State) : State :=
  let s := drainPosted s
  let aon := { s.aon with rstCause := warmCauses s, safeQuiet := false }
  let s := warmOwned s
  let face := if s.hub.connected then s.hub.face else s.hub.swTo.bind (·.2.1)
  { State.reset with
    pending := s.pending, out := s.out, free := s.free
    clk := warmClock s.clk
    boot := { straps := s.boot.straps, resetOut := s.boot.resetOut, outEdges := s.boot.outEdges, resetFault := s.boot.resetFault, causeAtStart := s.boot.causeAtStart
              held := endedHolds s, warmBusy := true, startRef := s.clk.tick }
    aon := aon
    win := { copy := { s.win.copy with rstCause := warmCauses s, safeQuiet := false }, shadowSup := s.win.shadowSup
             shadowMspi := s.win.shadowMspi, shadowUsb := s.win.shadowUsb }
    snap := keepEnergy s.snap
    flt := warmFaults s
    cfg := { active := s.cfg.active, gen := s.cfg.gen, crc := s.cfg.crc, header := s.cfg.header, signed := s.cfg.signed
             live := s.cfg.live, overlay := s.cfg.overlay, overlaySeq := s.cfg.overlaySeq, overlayCopy := s.cfg.overlayCopy }
    mem := { flash := s.mem.flash
             stash := s.mem.stash.filter (fun c => decide (c.1 < stashAddr 1 0) || decide (stashAddr 7 0 ≤ c.1))
             stashErr := s.mem.stashErr.filter (fun x => x.1 / 65536 == 0 || x.1 / 65536 == 7) }
    hub := { vbus := s.hub.vbus, recorded := face, absentA := s.hub.absentA, absentB := s.hub.absentB
             availA := available .a s, availB := available .b s, sinceA := s.hub.sinceA, sinceB := s.hub.sinceB
             availSince := if available .a s then some s.clk.tick else none }
    ports := s.ports.map warmPort
    own := s.own
    sw := { links := s.sw.links.map (fun l => { l with down := none }) }
    zon := { zones := s.zon.zones.map (fun z => { z with hostMute := false }), inputs := s.zon.inputs
             recordOk := s.zon.recordOk, recordSafe := s.zon.recordSafe }
    msg := warmMessages s
    flex := s.flex.map warmFlex
    rails := { s.rails with pfailSleep := none }
    sec := { s.sec with op := none, debug := 0, challenge := none } }

/-- WARM_CHIP_RESET (R437, R443): the decision to reset, then the boot ROM, which waits for the root PLL where that relocks (R72). -/
def execWarmChipReset (s : State) : Result :=
  effect (fun s => if warmDue s then (if s.clk.relock then warmState s else runBootRom (warmState s)) else s) s

end Sys2Proof.Machine
end

