-- ==== Sys2Proof/Machine/Block.lean ====
section
/-!
DEFINITION. The block boundary (R65): the command that waits for it (R106), zones and triggers (R244 to R250), the audio of a block (R208,
R213 to R235), the governor (R380), reports, the PORTSTAT snapshot (R89), upsets and the sweep of triplicated fields (R83).
-/

namespace Sys2Proof.Machine

open Sys2Proof

/-! ## The waiting command (R106) -/

/-- Results of a command whose effect comes at the boundary, and the state after it. -/
def boundaryEffect (c : Command) (s : State) : Option (List Word × State) :=
  match cmdCode c.word0 with
  | 0o0202 => some (runCfgWrite c s)
  | 0o0204 => some (runCfgDiscard s)
  | 0o0401 => some (runRouteSet c s)
  | 0o0403 => some (runRouteClear c s)
  | 0o0501 => some (runTrigger c s)
  | 0o0502 => some (runRelease c s)
  | 0o0504 => some (runMute c s)
  | 0o0601 => some (runSetEq c s)
  | 0o0602 => some (runSetDelay c s)
  | 0o0603 => some (runSetDynamics c s)
  | 0o0605 => some (runDelayFormat c s)
  | 0o0702 => some (runPlay c s)
  | 0o0703 => some (runStop c s)
  | _ => none

/-- The waiting command takes effect and is answered. -/
def runWaiting (s : State) : State :=
  match s.mbx.waits with
  | none => s
  | some c =>
    let s := { s with mbx := { s.mbx with waits := none } }
    if cmdCode c.word0 = 0o1103 then releaseAtBoundary c s
    else match boundaryEffect c s with
      | some (rs, s) => answer c stOk rs false false s
      | none => s

/-! ## Zones (R244 to R250) -/

/-- An assertion of a trigger input, a console key or ZONE.TRIGGER ends a Pavane run (R413). -/
def latchTrigger (s : State) : State :=
  if s.pav.run.isSome && s.zon.occs.any assertion then { s with pav := { s.pav with trigger := true } } else s

/-- Trigger inputs, the heartbeat, the machines and their actions, and the outputs of a boundary. -/
def zoneWork (inp : BlockInputs) (s : State) : State :=
  let s := latchTrigger (heartbeatReturn (sampleInputs inp s))
  driveOutputs (runZones (applyActs (deliverOccs s)))

/-- The zone record in bank 0, which stands still during a reload (R255). -/
def keepRecord (s : State) : State :=
  if s.cfg.reloading then s else { s with zon := { s.zon with recordOk := true, recordSafe := s.aon.safeActive } }

/-! ## Sources and sinks of a block (R27, R152, R153, R208) -/

/-- Host playback: 16 frames of the ring once it runs, the missing ones zero (R152). -/
def playSources (s : State) : List (Nat × List Int) × State :=
  let ring := s.hub.playRing
  if functionSuspended s then ([], s)
  else if s.hub.altPlay = 1 ∧ (s.hub.playRunning = true ∨ 24 ≤ ring.length) then
    let frames := ring.take 16
    let rest := ring.drop 16
    let srcs := (List.range 96).map (fun c =>
      (c + 1, (List.range 16).map (fun n => match frames[n]? with | some f => (f.getD c 0).signed | none => 0)))
    let s := { s with hub := { s.hub with playRing := rest, playRunning := !rest.isEmpty } }
    let (ok, s) := crossIso 11 dspDest (cellCount (288 * frames.length)) playbackStream s
    let here := if ok then frames.length else 0
    (if ok then srcs else [], countStream playbackStream.1 playbackStream.2.1 playbackStream.2.2 (16 - here) 0 0 s)
  else ([], s)

/-- Message voices: a voice holds at sample 0 until its first frame is decoded (R288). A C1 voice whose decoding is refused in a block
stays held, or outputs the block's samples as zeros and skips them (log 26). -/
def voiceSources (muted : List Nat) (s : State) : List (Nat × List Int) × State :=
  (List.range 16).foldl (fun (acc : List (Nat × List Int) × State) v =>
    match voiceOf v acc.2 with
    | none => acc
    | some x =>
      let no := muted.contains v
      if !x.started || (x.holding && (no || !voiceReady x acc.2)) then acc
      else
        let (ys, x', gone) := voiceBlock { x with holding := false } acc.2
        let (ys, gone) := if no then (List.replicate 16 0, max 16 gone) else (ys, gone)
        (acc.1 ++ [(voiceSource v, ys)], countStream 14 0 (voiceSource v) gone 0 0 (setVoice v (some x') acc.2))) ([], s)

/-- The source samples that arrived for the block that ended at this boundary. -/
def gatherSources (muted : List Nat) (s : State) : List (Nat × List Int) × State :=
  let t := s.clk.tick.toNat - 16
  let (a, s) := playSources s
  let (b, s) := takeTdm t 0 s
  let (c, s) := takeTdm t 1 s
  let (d, s) := takeOwned t s
  let (e, s) := voiceSources muted s
  (a ++ b ++ c ++ d ++ e, s)

/-- Destinations that have not enqueued their cells: zero samples and a deadline-class fault (R209), which V4 is not (R234). -/
def deadlineCheck (missed : List Nat) (s : State) : State :=
  let late := missed.filter (fun n => s.aud.out.any (fun o => o.1 == n) && (destOf n s).variant != 4)
  let s := { s with aud := { s.aud with
    out := s.aud.out.map (fun o => if late.contains o.1 then (o.1, List.replicate 16 0) else o) } }
  late.foldl (fun s _ => raiseFault 0o3000 s) s

/-- Host capture: 16 frames enter the ring, the oldest are discarded beyond its 56 (R151, R153); all while the function is suspended
(R162). -/
def feedCapture (s : State) : State :=
  if s.hub.altCap = 1 ∧ functionSuspended s = false then
    let frames := (List.range 16).map (fun n => (List.range 96).map (fun c => w18i ((lookupD s.aud.out (c + 1) []).getD n 0)))
    let (ok, s) := crossIso 12 0x800 (cellCount (288 * 16)) captureStream s
    let ring := s.hub.capRing ++ frames
    if ok then { s with hub := { s.hub with capRing := ring.drop (ring.length - 56) } } else s
  else s

/-- The block's slots of each TDM port cross the core in 3-byte containers (R25, R196). -/
def feedTdm (s : State) : State :=
  (List.range 2).foldl (fun (s : State) p =>
    if tdmEntries p 1 s = [] then s
    else
      let (ok, s) := crossIso 12 (BitVec.ofNat 18 (2 ^ (13 + p))) tdmBlockCells (tdmStream p 1 s) s
      { s with own := { s.own with tdm := listModify s.own.tdm p (fun u => { u with outLost := !ok }) } }) s

/-- A DSP pair has C0 work in this block: a destination's jobs or a voice, as the firmware has assigned them (R235). -/
def pairWorks (k : Nat) (s : State) : Bool :=
  (destsOfClass 0 s ++ (voicesOf true s).map (· + 193)).any (fun j => (Config.dspPair s.aud.assignment j).toNat == k)

/-- Pair comparators (R20, R235): a mismatch of a pair that computes C0 work. -/
def pairFaults (m : BitVec 4) (s : State) : State :=
  (List.range 4).foldl (fun (s : State) k =>
    if bitOf m.toNat k && pairWorks k s then raiseFault (BitVec.ofNat 12 (0o1200 + k)) s else s) s

/-- Before a contract, and without PD, a port advertises the Rp level that its allocation covers (R322). -/
def settleRp (s : State) : State :=
  { s with flex := s.flex.map (fun f =>
      if (f.role == .source || f.role == .unattached) && f.contract.isNone then { f with rp := rpLevel f.alloc } else f) }

/-- The audio of a boundary: the block processed before leaves, and the block that ended is processed (R208). -/
def audioWork (inp : BlockInputs) (s : State) : State :=
  let (variants, muted, s) := governor inp s
  let s := startStreams (settleRp s)
  let (srcs, s) := gatherSources muted s
  let s := deadlineCheck inp.missed { s with aud := { s.aud with out := s.aud.next } }
  let s := pairFaults inp.mismatch (processBlock srcs variants s)
  feedOwned s.clk.tick.toNat s.aud.out (feedTdm (feedCapture s))

/-! ## The PORTSTAT snapshot (R89) -/

/-- PS_Fn_STAT. -/
def flexStat (n : Nat) (s : State) : Word :=
  let f := flexAt n s
  w18 (bit (carriesFace n s) * 512 + bit (f.role != .unattached) * 256 + bit f.vconn * 128 + min f.shorts 3 * 32 + bit f.shortLast * 16
    + bit f.fallback * 8 + flexPower f)

/-- The snapshot of one flex port. -/
def flexSnap (n : Nat) (s : State) : PortSnap :=
  let f := flexAt n s
  { stat := flexStat n s, vbus := w18 (min f.vbus 32767), current := w18i f.iA, tmod := w18i (junction8 n f s), energy := f.energy
    contract := match f.contract with | some c => w18 (c.volt * 4096 + c.cur) | none => 0 }

/-- The snapshot at a block boundary. -/
def takeSnapshot (inp : BlockInputs) (s : State) : State :=
  let pwren := ((List.range 6).map (fun k => if (portOf (4 + k) s).powered then 2 ^ k else 0)).sum
  { s with
    snap := { seq := s.snap.seq + 1, hs := w18 (inp.hsOc.toNat * 64 + pwren), vin := w18 (min s.rails.vin 4095), vsrc5 := w18 (min s.rails.vsrc5 32767)
              vsrch := w18 (min s.rails.vsrch 32767), ports := (List.range 4).map (fun n => flexSnap n s) }
    ports := s.ports.zipIdx.map (fun p => if p.2 < 4 then p.1 else { p.1 with ocLow := bitOf inp.hsOc.toNat (p.2 - 4) }) }

/-! ## Upsets (R22, R83, R95) -/

/-- Flip bits of a stored mailbox word: 18 data bits, the end mark, the parity bit. -/
def flipWord (mask : BitVec 20) (w : MbxWord) : MbxWord :=
  { data := w.data ^^^ BitVec.ofNat 18 mask.toNat, endMark := w.endMark != bitOf mask.toNat 18, parity := w.parity != bitOf mask.toNat 19 }

/-- Flip bits of the first waiting word of an outbound queue. -/
def flipHead (mask : BitVec 20) : List OutPacket → List OutPacket
  | p :: ps => { p with words := listModify p.words 0 (flipWord mask) } :: ps
  | [] => []

/-- One copy of a triple-stored OTP field takes other bits. -/
def upsetFuse (f : Fin 6) (k : Fin 3) (v : BitVec 63) (o : Otp) : Otp :=
  match f with
  | 0 => { o with epochFuses := o.epochFuses.upset k (v.setWidth 8) }
  | 1 => { o with antirollFuses := o.antirollFuses.upset k v }
  | 2 => { o with csigFuse := o.csigFuse.upset k (v.setWidth 1) }
  | 3 => { o with exhaustedFuse := o.exhaustedFuse.upset k (v.setWidth 1) }
  | 4 => { o with ageFuses := o.ageFuses.upset k (v.setWidth 24) }
  | 5 => { o with pl0Fuse := o.pl0Fuse.upset k (v.setWidth 1) }

/-- One upset of a stored pattern. -/
def takeUpset (s : State) (u : Upset) : State :=
  match u with
  | .safectl k v => { s with win := { s.win with safectl := s.win.safectl.upset k v } }
  | .severity src k v =>
    if (sourceDef src.toNat).isNone then s
    else { s with flt := { s.flt with sev := insertKey s.flt.sev src.toNat ((sevEntry src.toNat s).upset k v) } }
  | .wakePol k v => { s with aon := { s.aon with wakePol := s.aon.wakePol.upset k v } }
  | .tampPol k v => { s with aon := { s.aon with tampPol := s.aon.tampPol.upset k v } }
  | .guard p k v => setGuard p { guardOf p s with unlocked := (guardOf p s).unlocked.upset k (if v then 1 else 0) } s
  | .otpFuse f k v => { s with sec := { s.sec with otp := upsetFuse f k v s.sec.otp } }
  | .otpGroup g n =>
    let (v, s) := drawBits 64 s
    { s with sec := { s.sec with otp := s.sec.otp.spoil g.val n v } }
  | .stashRow g n => if g < 524288 then { s with mem := { s.mem with stashErr := insertKey s.mem.stashErr g n } } else s
  | .cellWord i n => if i < 65536 then { s with sw := { s.sw with errs := insertKey s.sw.errs i n } } else s
  | .refCount i => { s with sw := { s.sw with cells := s.sw.cells.map (fun c => if c.1 == i then (c.1, { c.2 with refBad := true }) else c) } }
  | .leakCell i =>
    if i < 8192 ∧ cellAt i s = none ∧ s.sw.leaked.all (fun l => l.1 != i) = true then
      { s with sw := { s.sw with leaked := s.sw.leaked ++ [(i, false)] } }
    else s
  | .freeTwice i => if i < 8192 ∧ cellAt i s = none then { s with sw := { s.sw with twice := s.sw.twice ++ [i] } } else s
  | .zoneRecord => { s with zon := { s.zon with recordOk := false } }
  | .leCache => { s with own := { s.own with cacheOk := false } }
  | .bank7Record => { s with mem := { s.mem with bank7Ok := false } }
  | .mbxWord b k p w m =>
    let q := subQueue b k.val s
    setSubQueue b k.val { q with packets := listModify q.packets p (fun x => { x with words := listModify x.words w (flipWord m) }) } s
  | .outWord ev m =>
    if ev then { s with mbx := { s.mbx with event := flipHead m s.mbx.event } }
    else { s with mbx := { s.mbx with reply := flipHead m s.mbx.reply } }

/-! ## The rest of a boundary -/

/-- What was put off to the first block after a wake: PD.PFAIL (R362) and the message cache of a lost bank 7 (R445). -/
def afterWake (s : State) : State :=
  if s.clk.lastBlock.isSome then s
  else
    let s := match s.rails.pfailSleep with
      | some on => post 0o151101 [w18 (bit on)] { s with rails := { s.rails with pfailSleep := none } }
      | none => s
    let s := if s.msg.cache = [] then fillCache s else s
    { s with sec := { s.sec with stableFrom := s.clk.tick } }

/-- The commands that end at a boundary without an effect of their own, and the entries that meet safe state or a raised zone. -/
def settleCommands (s : State) : State :=
  let s := settleRequest (settleOwner (settleSelect s))
  let s := if entryBroken s then abandonEntry s else s
  if zoneRaised s then { s with pwr := { s.pwr with reenter := none } } else s

/-- The firmware's tasks of the block complete: it kicks the watchdog (R395); after an activation FAULT_ALIVE follows R395 (R40). -/
def kickWatchdog (done : Bool) (s : State) : State :=
  if done && s.boot.wdArmed then
    let s := kick s
    { s with boot := { s.boot with aliveOk := s.boot.aliveOk || s.boot.ctiUp } }
  else s

/-- Error lines that are no longer asserted (R391). -/
def releaseLines (l : List (BitVec 12)) (s : State) : State := settleStatus (l.foldl (fun s src => setLine src false s) s)

/-- Hn_OC_N of the HS ports: PORT_OVER_CURRENT ends when the pin is high again (R158). -/
def readOverCurrent (low : BitVec 6) (s : State) : State :=
  (List.range 6).foldl (fun s i => mapPort (i + 4) (fun p => { p with ocLow := p.ocLow && bitOf low.toNat i }) s) s

/-- Reports, records and sweeps that end a boundary. -/
def boundaryEnd (inp : BlockInputs) (s : State) : State :=
  let s := tagBoundary (postLost (postCounts s))
  let s := keepAlarm (settleCommands s)
  let s := releaseLines inp.released (keepRecord (takeSnapshot inp (readOverCurrent inp.hsOc (checkFaces s))))
  let s := kickWatchdog inp.tasksDone (sweepTrips (inp.upsets.foldl takeUpset s))
  if s.aon.safeActive then { s with sec := { s.sec with stableFrom := s.clk.tick } } else s

/-- The block that ended had its counting faults; those of the next are still to come (R404). -/
def newBlock (s : State) : State := { s with flt := { s.flt with releaseBroken := false } }

/-- The work of a boundary (R65). -/
def boundary (inp : BlockInputs) (s : State) : State :=
  let s := newBlock (runWaiting (announceSafe (afterWake s)))
  let s := if s.cfg.unconfigured || entering s then s else audioWork inp (zoneWork inp s)
  let s := boundaryEnd inp s
  settleHibernate { s with clk := { s.clk with lastBlock := some s.clk.tick } }

/-- A block begins: the root runs, the device is in RUN or DOZE, and this tick's boundary has not been taken (R65). -/
def blockBegins (s : State) : Bool := s.clk.rootLocked && awake s && atBlock s && s.clk.lastBlock != some s.clk.tick

/-- A block begins and the firmware runs with its configuration settled. -/
def blockDue (s : State) : Bool := s.boot.phase == .running && blockBegins s

/-- A block before the activation: the PORTSTAT snapshot (R89), the sweep of the triplicated fields (R83), and the kick of a firmware that
has started (R395, R438). -/
def startBlock (inp : BlockInputs) (s : State) : State :=
  let s := releaseLines inp.released (takeSnapshot inp (readOverCurrent inp.hsOc s))
  let s := kickWatchdog inp.tasksDone (sweepTrips (inp.upsets.foldl takeUpset s))
  { s with clk := { s.clk with lastBlock := some s.clk.tick } }

/-- BLOCK_BOUNDARY (R65). -/
def execBlockBoundary (inp : BlockInputs) (s : State) : Result :=
  effect (fun s => if blockDue s then boundary inp s else if blockBegins s then startBlock inp s else s) s

end Sys2Proof.Machine
end

