-- ==== Sys2Proof/Machine/Dispatch.lean ====
section
/-!
DEFINITION. The meaning of each command: one arm for each constructor of Instr, in the order of spec/opcode_table.json.
-/

namespace Sys2Proof.Machine

open Sys2Proof

/-- The effect of a command on everything but the queue of waiting commands. -/
def exec (i : Instr) (s : State) : Host.Outcome State Fault Refusal :=
  match i with
  | .powerOnReset vdd33 vddCore dipNs straps => Sys2Proof.Machine.execPowerOnReset vdd33 vddCore dipNs straps s
  | .resetN width straps => Sys2Proof.Machine.execResetN width straps s
  | .rootPllLock => Sys2Proof.Machine.execRootPllLock s
  | .bootRomStart readA readB => Sys2Proof.Machine.execBootRomStart readA readB s
  | .firmwareStart readA readB => Sys2Proof.Machine.execFirmwareStart readA readB s
  | .ctiActivation => Sys2Proof.Machine.execCtiActivation s
  | .ctiReload readA readB => Sys2Proof.Machine.execCtiReload readA readB s
  | .warmChipReset => Sys2Proof.Machine.execWarmChipReset s
  | .watchdogKickMissed => Sys2Proof.Machine.execWatchdogKickMissed s
  | .watchdogReset => Sys2Proof.Machine.execWatchdogReset s
  | .firstWatchdogKick => Sys2Proof.Machine.execFirstWatchdogKick s
  | .loaderData => Sys2Proof.Machine.execLoaderData s
  | .loaderRun => Sys2Proof.Machine.execLoaderRun s
  | .directoryRebuilt => Sys2Proof.Machine.execDirectoryRebuilt s
  | .blockBoundary inp => Sys2Proof.Machine.execBlockBoundary inp s
  | .ambientUpdate => Sys2Proof.Machine.execAmbientUpdate s
  | .heartbeatLoss => Sys2Proof.Machine.execHeartbeatLoss s
  | .microframeStart => Sys2Proof.Machine.execMicroframeStart s
  | .tdmFrameOut => Sys2Proof.Machine.execTdmFrameOut s
  | .tdmFrameIn port slots trailer => Sys2Proof.Machine.execTdmFrameIn port slots trailer s
  | .clockMonitorFault check => Sys2Proof.Machine.execClockMonitorFault check s
  | .referenceRestored => Sys2Proof.Machine.execReferenceRestored s
  | .rcRetrim => Sys2Proof.Machine.execRcRetrim s
  | .patrolScrub => Sys2Proof.Machine.execPatrolScrub s
  | .scrubPassLate mem => Sys2Proof.Machine.execScrubPassLate mem s
  | .freeListAudit => Sys2Proof.Machine.execFreeListAudit s
  | .cellIngress pkts => Sys2Proof.Machine.execCellIngress pkts s
  | .cellEgress ready => Sys2Proof.Machine.execCellEgress ready s
  | .queueFlush dest => Sys2Proof.Machine.execQueueFlush dest s
  | .linkDown link dst => Sys2Proof.Machine.execLinkDown link dst s
  | .linkHoldReturn link => Sys2Proof.Machine.execLinkHoldReturn link s
  | .linkHoldExpired link => Sys2Proof.Machine.execLinkHoldExpired link s
  | .mspiFrameError mosi => Sys2Proof.Machine.execMspiFrameError mosi s
  | .registerWrite path addr data => Sys2Proof.Machine.execRegisterWrite path addr data s
  | .aonPostedWrite => Sys2Proof.Machine.execAonPostedWrite s
  | .shadowLatchRead path addr => Sys2Proof.Machine.execShadowLatchRead path addr s
  | .unlock path data => Sys2Proof.Machine.execUnlock path data s
  | .guardUnlockExpiry path => Sys2Proof.Machine.execGuardUnlockExpiry path s
  | .guardedWrite path addr data => Sys2Proof.Machine.execGuardedWrite path addr data s
  | .faultAcknowledge path cluster write => Sys2Proof.Machine.execFaultAcknowledge path cluster write s
  | .mbxInData path data => Sys2Proof.Machine.execMbxInData path data s
  | .mbxInLast path data => Sys2Proof.Machine.execMbxInLast path data s
  | .mbxInFlush path data => Sys2Proof.Machine.execMbxInFlush path data s
  | .mbxOutData path => Sys2Proof.Machine.execMbxOutData path s
  | .registerVendorRead setup again => Sys2Proof.Machine.execRegisterVendorRead setup again s
  | .registerVendorWrite setup data completes => Sys2Proof.Machine.execRegisterVendorWrite setup data completes s
  | .bulkOutPacket bytes => Sys2Proof.Machine.execBulkOutPacket bytes s
  | .bulkInToken event => Sys2Proof.Machine.execBulkInToken event s
  | .packetComplete box sub data => Sys2Proof.Machine.execPacketComplete box sub data s
  | .eventsLost word0 params => Sys2Proof.Machine.execEventsLost word0 params s
  | .sessionCounterExhausted box => Sys2Proof.Machine.execSessionCounterExhausted box s
  | .sysInfo => Sys2Proof.Machine.execSysInfo s
  | .sysStatus => Sys2Proof.Machine.execSysStatus s
  | .sysHeartbeat => Sys2Proof.Machine.execSysHeartbeat s
  | .sysReset => Sys2Proof.Machine.execSysReset s
  | .sysTimeSet => Sys2Proof.Machine.execSysTimeSet s
  | .sysUpstreamSelect => Sys2Proof.Machine.execSysUpstreamSelect s
  | .cfgRead => Sys2Proof.Machine.execCfgRead s
  | .cfgWrite => Sys2Proof.Machine.execCfgWrite s
  | .cfgCommit => Sys2Proof.Machine.execCfgCommit s
  | .cfgCommitDone => Sys2Proof.Machine.execCfgCommitDone s
  | .cfgCommitTimeout => Sys2Proof.Machine.execCfgCommitTimeout s
  | .cfgDiscard => Sys2Proof.Machine.execCfgDiscard s
  | .cfgLoad readA readB => Sys2Proof.Machine.execCfgLoad readA readB s
  | .cfgFlashWriteBegin => Sys2Proof.Machine.execCfgFlashWriteBegin s
  | .cfgFlashWriteData => Sys2Proof.Machine.execCfgFlashWriteData s
  | .cfgFlashWriteEnd => Sys2Proof.Machine.execCfgFlashWriteEnd s
  | .cfgFirmwareWriteBegin => Sys2Proof.Machine.execCfgFirmwareWriteBegin s
  | .cfgFirmwareWriteData => Sys2Proof.Machine.execCfgFirmwareWriteData s
  | .cfgFirmwareWriteEnd => Sys2Proof.Machine.execCfgFirmwareWriteEnd s
  | .cfgFirmwareWriteAbort => Sys2Proof.Machine.execCfgFirmwareWriteAbort s
  | .portStatus => Sys2Proof.Machine.execPortStatus s
  | .portSetOwner => Sys2Proof.Machine.execPortSetOwner s
  | .ownershipToOwned port => Sys2Proof.Machine.execOwnershipToOwned port s
  | .ownershipToPassThrough port => Sys2Proof.Machine.execOwnershipToPassThrough port s
  | .ownerChangeTimeout => Sys2Proof.Machine.execOwnerChangeTimeout s
  | .portDevices => Sys2Proof.Machine.execPortDevices s
  | .portResetDevice => Sys2Proof.Machine.execPortResetDevice s
  | .portPowerAllow => Sys2Proof.Machine.execPortPowerAllow s
  | .portPowerForceOff => Sys2Proof.Machine.execPortPowerForceOff s
  | .portPowerCycle => Sys2Proof.Machine.execPortPowerCycle s
  | .portPowerCycleEnd port => Sys2Proof.Machine.execPortPowerCycleEnd port s
  | .portLinkMode => Sys2Proof.Machine.execPortLinkMode s
  | .routeSet => Sys2Proof.Machine.execRouteSet s
  | .routeGet => Sys2Proof.Machine.execRouteGet s
  | .routeClear => Sys2Proof.Machine.execRouteClear s
  | .zoneTrigger => Sys2Proof.Machine.execZoneTrigger s
  | .zoneRelease => Sys2Proof.Machine.execZoneRelease s
  | .zoneStatus => Sys2Proof.Machine.execZoneStatus s
  | .zoneMute => Sys2Proof.Machine.execZoneMute s
  | .procSetEqDesign => Sys2Proof.Machine.execProcSetEqDesign s
  | .procSetEqBypass => Sys2Proof.Machine.execProcSetEqBypass s
  | .procSetEqRaw => Sys2Proof.Machine.execProcSetEqRaw s
  | .procSetDelay => Sys2Proof.Machine.execProcSetDelay s
  | .procDelayFormat => Sys2Proof.Machine.execProcDelayFormat s
  | .procSetDynamics => Sys2Proof.Machine.execProcSetDynamics s
  | .procMeter => Sys2Proof.Machine.execProcMeter s
  | .msgList => Sys2Proof.Machine.execMsgList s
  | .msgPlay => Sys2Proof.Machine.execMsgPlay s
  | .msgStop => Sys2Proof.Machine.execMsgStop s
  | .msgPin => Sys2Proof.Machine.execMsgPin s
  | .msgPinTimeout => Sys2Proof.Machine.execMsgPinTimeout s
  | .msgLoadBegin => Sys2Proof.Machine.execMsgLoadBegin s
  | .msgLoadData => Sys2Proof.Machine.execMsgLoadData s
  | .msgLoadEnd => Sys2Proof.Machine.execMsgLoadEnd s
  | .msgLoadDelete => Sys2Proof.Machine.execMsgLoadDelete s
  | .msgLoadAbort => Sys2Proof.Machine.execMsgLoadAbort s
  | .libraryVerification index readOk => Sys2Proof.Machine.execLibraryVerification index readOk s
  | .messageVerification number readOk => Sys2Proof.Machine.execMessageVerification number readOk s
  | .voiceStart voice => Sys2Proof.Machine.execVoiceStart voice s
  | .voiceStartTimeout voice => Sys2Proof.Machine.execVoiceStartTimeout voice s
  | .marlFrameFetch voice readOk => Sys2Proof.Machine.execMarlFrameFetch voice readOk s
  | .voiceEnded voice => Sys2Proof.Machine.execVoiceEnded voice s
  | .pwrStatus => Sys2Proof.Machine.execPwrStatus s
  | .pwrEnterRun => Sys2Proof.Machine.execPwrEnterRun s
  | .pwrEnterDoze => Sys2Proof.Machine.execPwrEnterDoze s
  | .pwrEnterSleep => Sys2Proof.Machine.execPwrEnterSleep s
  | .sleepWaitTimeout => Sys2Proof.Machine.execSleepWaitTimeout s
  | .sleepEntry => Sys2Proof.Machine.execSleepEntry s
  | .pwrEnterHibernate => Sys2Proof.Machine.execPwrEnterHibernate s
  | .pwrSetRetain => Sys2Proof.Machine.execPwrSetRetain s
  | .wakeSource source => Sys2Proof.Machine.execWakeSource source s
  | .wakeFromSleep periods lostBanks => Sys2Proof.Machine.execWakeFromSleep periods lostBanks s
  | .wakeFromHibernate periods => Sys2Proof.Machine.execWakeFromHibernate periods s
  | .faultWake source => Sys2Proof.Machine.execFaultWake source s
  | .reenterAfterPavane => Sys2Proof.Machine.execReenterAfterPavane s
  | .stashBankPowerUp bank => Sys2Proof.Machine.execStashBankPowerUp bank s
  | .levelChange results => Sys2Proof.Machine.execLevelChange results s
  | .pmbAlert => Sys2Proof.Machine.execPmbAlert s
  | .supplyOutOfRange => Sys2Proof.Machine.execSupplyOutOfRange s
  | .faultLatch faults => Sys2Proof.Machine.execFaultLatch faults s
  | .autoAckExpiry source => Sys2Proof.Machine.execAutoAckExpiry source s
  | .quietPeriodExpiry => Sys2Proof.Machine.execQuietPeriodExpiry s
  | .collectorSelfFault => Sys2Proof.Machine.execCollectorSelfFault s
  | .safeStatus => Sys2Proof.Machine.execSafeStatus s
  | .safeEnter => Sys2Proof.Machine.execSafeEnter s
  | .safeRelease => Sys2Proof.Machine.execSafeRelease s
  | .safeSetQuiet => Sys2Proof.Machine.execSafeSetQuiet s
  | .logHistory => Sys2Proof.Machine.execLogHistory s
  | .logRead => Sys2Proof.Machine.execLogRead s
  | .pavaneAttempt => Sys2Proof.Machine.execPavaneAttempt s
  | .pavaneStep report => Sys2Proof.Machine.execPavaneStep report s
  | .pavaneAbort reason => Sys2Proof.Machine.execPavaneAbort reason s
  | .testDone => Sys2Proof.Machine.execTestDone s
  | .testOverdue => Sys2Proof.Machine.execTestOverdue s
  | .testRun => Sys2Proof.Machine.execTestRun s
  | .testAbort => Sys2Proof.Machine.execTestAbort s
  | .testResult => Sys2Proof.Machine.execTestResult s
  | .testAgeing => Sys2Proof.Machine.execTestAgeing s
  | .antirollBurn => Sys2Proof.Machine.execAntirollBurn s
  | .secOpen => Sys2Proof.Machine.execSecOpen s
  | .secClose => Sys2Proof.Machine.execSecClose s
  | .secProvisionHak => Sys2Proof.Machine.execSecProvisionHak s
  | .secProvisionTamperActions => Sys2Proof.Machine.execSecProvisionTamperActions s
  | .secProvisionAuthLimit => Sys2Proof.Machine.execSecProvisionAuthLimit s
  | .secProvisionIntHash => Sys2Proof.Machine.execSecProvisionIntHash s
  | .secProvisionCsigReq => Sys2Proof.Machine.execSecProvisionCsigReq s
  | .secTamperClear pins => Sys2Proof.Machine.execSecTamperClear pins s
  | .secDebugChallenge => Sys2Proof.Machine.execSecDebugChallenge s
  | .dbgResp pubkey sig => Sys2Proof.Machine.execDbgResp pubkey sig s
  | .debugChallengeTimeout => Sys2Proof.Machine.execDebugChallengeTimeout s
  | .tamper cause => Sys2Proof.Machine.execTamper cause s
  | .vaultFault authentication => Sys2Proof.Machine.execVaultFault authentication s
  | .pdStatus => Sys2Proof.Machine.execPdStatus s
  | .pdSetLimit => Sys2Proof.Machine.execPdSetLimit s
  | .pdVconnSwap => Sys2Proof.Machine.execPdVconnSwap s
  | .pdAltModeEnter => Sys2Proof.Machine.execPdAltModeEnter s
  | .pdAltModeExit => Sys2Proof.Machine.execPdAltModeExit s
  | .pdHardReset => Sys2Proof.Machine.execPdHardReset s
  | .ccAttach port cc2 ra pd => Sys2Proof.Machine.execCcAttach port cc2 ra pd s
  | .drpToggle port => Sys2Proof.Machine.execDrpToggle port s
  | .sinkAttach port cc2 pd => Sys2Proof.Machine.execSinkAttach port cc2 pd s
  | .accessoryRefused port => Sys2Proof.Machine.execAccessoryRefused port s
  | .ccDetach port => Sys2Proof.Machine.execCcDetach port s
  | .sinkDetach port => Sys2Proof.Machine.execSinkDetach port s
  | .sourceCapabilitiesRepeat port goodCrc => Sys2Proof.Machine.execSourceCapabilitiesRepeat port goodCrc s
  | .pdRequest port req => Sys2Proof.Machine.execPdRequest port req s
  | .pdContract port => Sys2Proof.Machine.execPdContract port s
  | .voltageTransition port => Sys2Proof.Machine.execVoltageTransition port s
  | .removalDuringTransition port => Sys2Proof.Machine.execRemovalDuringTransition port s
  | .budgetRenegotiation port => Sys2Proof.Machine.execBudgetRenegotiation port s
  | .senderResponseTimeout port => Sys2Proof.Machine.execSenderResponseTimeout port s
  | .hardResetReceived port => Sys2Proof.Machine.execHardResetReceived port s
  | .errorRecovery port => Sys2Proof.Machine.execErrorRecovery port s
  | .vconnSwap port own answer psRdy => Sys2Proof.Machine.execVconnSwap port own answer psRdy s
  | .vconnOverCurrent port => Sys2Proof.Machine.execVconnOverCurrent port s
  | .getStatus port => Sys2Proof.Machine.execGetStatus port s
  | .pdMessage port rev2 msg => Sys2Proof.Machine.execPdMessage port rev2 msg s
  | .discoverIdentity svid command => Sys2Proof.Machine.execDiscoverIdentity svid command s
  | .altModeLoopStart port answers => Sys2Proof.Machine.execAltModeLoopStart port answers s
  | .faultReturnAsserted port attention => Sys2Proof.Machine.execFaultReturnAsserted port attention s
  | .faultReturnReleased port attention => Sys2Proof.Machine.execFaultReturnReleased port attention s
  | .adcSampleSet adc => Sys2Proof.Machine.execAdcSampleSet adc s
  | .shortTrip port current => Sys2Proof.Machine.execShortTrip port current s
  | .backoffExpiry port => Sys2Proof.Machine.execBackoffExpiry port s
  | .latchProbe port rd => Sys2Proof.Machine.execLatchProbe port rd s
  | .consecClear port => Sys2Proof.Machine.execConsecClear port s
  | .pfailWarnAssert vin => Sys2Proof.Machine.execPfailWarnAssert vin s
  | .pfailWarnRelease => Sys2Proof.Machine.execPfailWarnRelease s
  | .upstreamConnect detMv superSpeed highSpeed => Sys2Proof.Machine.execUpstreamConnect detMv superSpeed highSpeed s
  | .upstreamVbusLoss => Sys2Proof.Machine.execUpstreamVbusLoss s
  | .functionHubMove dst => Sys2Proof.Machine.execFunctionHubMove dst s
  | .upstreamBusReset => Sys2Proof.Machine.execUpstreamBusReset s
  | .getPortStatus usb3 port => Sys2Proof.Machine.execGetPortStatus usb3 port s
  | .clearPortPower usb3 port => Sys2Proof.Machine.execClearPortPower usb3 port s
  | .setPortPower usb3 port => Sys2Proof.Machine.execSetPortPower usb3 port s
  | .hubFeatureRequest usb3 port set feature value => Sys2Proof.Machine.execHubFeatureRequest usb3 port set feature value s
  | .ttRequest port request => Sys2Proof.Machine.execTtRequest port request s
  | .setInterface iface alt => Sys2Proof.Machine.execSetInterface iface alt s
  | .playbackPacket bytes => Sys2Proof.Machine.execPlaybackPacket bytes s
  | .captureInToken => Sys2Proof.Machine.execCaptureInToken s
  | .feedbackRefresh cycles missed => Sys2Proof.Machine.execFeedbackRefresh cycles missed s
  | .lpmTransaction => Sys2Proof.Machine.execLpmTransaction s
  | .upstreamSuspend => Sys2Proof.Machine.execUpstreamSuspend s
  | .hostResume collides => Sys2Proof.Machine.execHostResume collides s
  | .remoteWake side event => Sys2Proof.Machine.execRemoteWake side event s
  | .hsOverCurrent port => Sys2Proof.Machine.execHsOverCurrent port s
  | .ownedPortRepower port => Sys2Proof.Machine.execOwnedPortRepower port s
  | .enumeration port hubPort dev => Sys2Proof.Machine.execEnumeration port hubPort dev s
  | .controlTransferFailure port hubPort speed how ids => Sys2Proof.Machine.execControlTransferFailure port hubPort speed how ids s
  | .deviceDetach port hubPort => Sys2Proof.Machine.execDeviceDetach port hubPort s
  | .hidReport port addr report => Sys2Proof.Machine.execHidReport port addr report s
  | .hubStatusPoll port changed connected => Sys2Proof.Machine.execHubStatusPoll port changed connected s
  | .ownedStreamPacket port addr iface frames => Sys2Proof.Machine.execOwnedStreamPacket port addr iface frames s
  | .ownedTreeResume port hubPort same => Sys2Proof.Machine.execOwnedTreeResume port hubPort same s
  | .hostAbsent face absent => Sys2Proof.Machine.execHostAbsent face absent s
  | .faceLoss => Sys2Proof.Machine.execFaceLoss s
  | .faceAvailable face ok => Sys2Proof.Machine.execFaceAvailable face ok s
  | .switchOver superSpeed highSpeed => Sys2Proof.Machine.execSwitchOver superSpeed highSpeed s
  | .autoReturn => Sys2Proof.Machine.execAutoReturn s
  | .passThroughConnectChange port connected speed => Sys2Proof.Machine.execPassThroughConnectChange port connected speed s
  | .standardDeviceRequest target setup => Sys2Proof.Machine.execStandardDeviceRequest target setup s
  | .flashOperationComplete group ok => Sys2Proof.Machine.execFlashOperationComplete group ok s
  | .badCmdPacket => Sys2Proof.Machine.execBadCmdPacket s

end Sys2Proof.Machine
end

