-- ==== Sys2Proof/Machine/Balls.lean ====
section
/-!
DEFINITION. The output balls as the state drives them (R36 to R38): every output with the state it has in each power and reset state.
Levels that only last inside a command (the xSPI, MSPI, PMBus and JTAG transactions) are over when the next command comes.
-/

namespace Sys2Proof.Machine

open Sys2Proof

/-- The level of an output ball. -/
inductive Level where
  | low | high | hiZ
  deriving DecidableEq, Repr

/-- The outputs of R36 and of the flex and HS ports (R31, R38). -/
structure Balls where
  /-- USA: SuperSpeed receiver terminations, and the D+ pull-up. -/
  usaTerminations : Bool
  usaPullUp : Bool
  /-- VCONN switches closed, and the charge pump of the gate drivers. -/
  vconn : List Bool
  pump : Bool
  xtal : Bool
  xspiClk : Level
  xspiCsN : Level
  xspiResetN : Level
  miso : Level
  /-- PMB_SCL and PMB_SDA are released. -/
  pmbReleased : Bool
  /-- BCLK, FS and DOUT of TDM0 and TDM1 run. -/
  tdm : Bool
  /-- Periods of MCLK_OUT in a tick, 0 while it is low. -/
  mclk : Nat
  gpio : List Level
  faultAlive : Level
  faultN : Level
  pfailWarnN : Level
  resetOutN : Level
  tdo : Level
  gate5 : List Bool
  gateH : List Bool
  disch : List Bool
  cc : List CcState
  sbuLoop : List Bool
  pwren : List Bool
  deriving DecidableEq, Repr

/-- Drive of an open-drain output. -/
def openDrain (asserted : Bool) : Level := if asserted then .low else .hiZ

/-- The PORT domain is powered and clocked by the root. -/
def portRuns (s : State) : Bool := awake s && s.clk.rootLocked

/-- The output balls (R36): outside HIBERNATE PORT holds port power, CC and discharge; MCLK_OUT and TDM run only with the root and the
firmware (R38, R58). -/
def balls (s : State) : Balls :=
  let on := s.pwr.state != .hibernate
  let up := on && s.boot.phase == .running
  let onA := s.hub.connected && s.hub.face == some .a
  { usaTerminations := onA && awake s && onUsb3 s.hub.ssLink
    usaPullUp := onA
    vconn := s.flex.map (fun f => on && f.vconn)
    pump := on && s.flex.any (fun f => f.gate5 != .off || f.gateH != .off)
    xtal := s.clk.xtalOn
    xspiClk := .low
    xspiCsN := .high
    xspiResetN := if on && s.boot.phase != .oscillator then .high else .low
    miso := .hiZ
    pmbReleased := true
    tdm := up && portRuns s
    mclk := if portRuns s then s.clk.mclk else 0
    gpio := s.zon.gpioOut.map (fun o => match o with | some true => .high | some false => .low | none => .hiZ)
    faultAlive := if faultAlive s then .high else .low
    faultN := openDrain (faultN s)
    pfailWarnN := openDrain s.rails.pfail
    resetOutN := openDrain s.boot.resetOut
    tdo := .hiZ
    gate5 := s.flex.map (fun f => on && f.gate5 != .off)
    gateH := s.flex.map (fun f => on && f.gateH != .off)
    disch := s.flex.map (fun f => on && f.disch)
    cc := s.flex.map (·.cc)
    sbuLoop := s.flex.map (fun f => up && f.loop)
    pwren := (s.ports.drop 4).map (fun p => on && p.powered) }

end Sys2Proof.Machine
end

