-- ==== Sys2Proof/Safety.lean ====
section
/-!
DEFINITION. The words in which claims are made: a safe run, the canonical form of the byte memories, frames over the groups
of the state, and the run-up of a command packet to its own effect.
-/

namespace Sys2Proof.Safety

open Sys2Proof
open Sys2Proof.Machine

/-- The step answers a next state. -/
def Continues (o : Host.Outcome State Fault Refusal) : Prop := ∃ t, o = .next t

/-- Stash and flash are in canonical form: rising addresses, no entry equal to what an unlisted address reads as. -/
def MemoryCanonical (s : State) : Prop :=
  Memory.wf stashErased s.mem.stash = true ∧ Memory.wf flashErased s.mem.flash = true

/-- The fixed numbers of ports, queues, links, voices, sub-queues, contexts and TDM ports, and the depths that R86, R109 and R401 give
the posted-write buffer, the completion records and the fault history. -/
def Shape (s : State) : Prop :=
  s.ports.length = 10 ∧ s.flex.length = 4 ∧ s.sw.queues.length = 54 ∧ s.sw.links.length = 5 ∧ s.msg.voices.length = 16 ∧
  s.mbx.inU.length = 4 ∧ s.mbx.inS.length = 4 ∧ s.own.ctxs.length = 64 ∧ s.own.tdm.length = 2 ∧
  s.win.posted.length ≤ 8 ∧ s.mbx.doneU.length ≤ 64 ∧ s.mbx.doneS.length ≤ 64 ∧ s.aon.hist.length ≤ 16

/-! ## Frames -/

/-- The groups of the state, one for each field of `State`. -/
inductive Group where
  | pending | out | free | clk | boot | aon | win | mbx | flt | cfg | mem | hub | ports | own | sw | aud | zon | msg | flex
  | rails | snap | pwr | pav | sec
  deriving DecidableEq, Repr

/-- One group of the state is the same in both states. -/
def same (s t : State) : Group → Prop
  | .pending => t.pending = s.pending
  | .out => t.out = s.out
  | .free => t.free = s.free
  | .clk => t.clk = s.clk
  | .boot => t.boot = s.boot
  | .aon => t.aon = s.aon
  | .win => t.win = s.win
  | .mbx => t.mbx = s.mbx
  | .flt => t.flt = s.flt
  | .cfg => t.cfg = s.cfg
  | .mem => t.mem = s.mem
  | .hub => t.hub = s.hub
  | .ports => t.ports = s.ports
  | .own => t.own = s.own
  | .sw => t.sw = s.sw
  | .aud => t.aud = s.aud
  | .zon => t.zon = s.zon
  | .msg => t.msg = s.msg
  | .flex => t.flex = s.flex
  | .rails => t.rails = s.rails
  | .snap => t.snap = s.snap
  | .pwr => t.pwr = s.pwr
  | .pav => t.pav = s.pav
  | .sec => t.sec = s.sec

/-- Every group but those named is unchanged. -/
def Frame (changed : List Group) (s t : State) : Prop := ∀ g, g ∉ changed → same s t g

/-! ## Access paths -/

/-- The register window serves this register on this path: the firmware runs awake, the MSPI slave serves and the recovery
loader leaves the register in reach, or the upstream host reaches the control pipe (R74, R76, R77, R447). -/
def Served (p : Path) (r : Nat) (s : State) : Prop :=
  match p with
  | .sup => fwRuns s = true ∧ awake s = true
  | .mspi => mspiMode s = .serving ∧ inReach r s = true
  | .usb => usbReach s = true

/-- What a path puts out with a value read: the value, an MSPI frame with the flags that stood before it, or three bytes. -/
def readOut (p : Path) (v : Word) (s : State) : List Out :=
  match p with
  | .sup => [.value v]
  | .mspi => [.miso (misoFrame false v s)]
  | .usb => [.usbData (toBytesLE 3 v.toNat)]

/-- What a path puts out with a write applied. -/
def writeOut (p : Path) (s : State) : List Out :=
  match p with
  | .sup => []
  | .mspi => [.miso (misoFrame false 0 s)]
  | .usb => [.handshake .ack]

/-- The window's own state after an access on a path, the registers apart: an MSPI frame clears the flags of the frame before. -/
def flagsShown (p : Path) (w : Window) : Window :=
  match p with
  | .mspi => { w with ferr := false, gdisc := false, wdrop := false }
  | _ => w

/-- The state in which a write on a path takes effect: outputs recorded, MSPI flags of the frame before shown and cleared. -/
def onPath (p : Path) (s : State) : State := { fresh s with win := flagsShown p s.win, out := writeOut p s }

/-- A sub-queue takes words: no discard in progress, not full, and its packet has room (R93). -/
def takesWords (q : SubQueue) : Prop := q.discard = false ∧ q.used < 512 ∧ q.part.length < 256

/-! ## Command packets -/

/-- The firmware takes this command next and every check that comes before the command's own passes (R92, R105, R108): `c` is
the command, `u` the state after its packet is taken and its authentication is accepted. -/
def Taken (code : Nat) (variant : Command → Bool) (needs : Command → State → Bool) (s : State) (c : Command) (u : State) : Prop :=
  ∃ b k p, takesThis code variant (fresh s) = some (b, k, p, c) ∧
    authCheck (needs c (takePacket b k p (fresh s))) (groupOf c.word0 == 0o13) c (takePacket b k p (fresh s)) = (stOk, u)

/-- The reply with status OK and these results, and its completion record, on the state `u` (R107, R109). -/
def replied (c : Command) (results : List Word) (u : State) : State := answer c stOk results false false u

/-- A long command's state when it is accepted (R106): replied with no results and in progress. -/
def accepted (c : Command) (u : State) : State :=
  let t := answer c stOk [] true true u
  { t with mbx := { t.mbx with long := t.mbx.long ++ [longCmd c] } }

/-- The rows whose command requires authentication (R113), with the command's code, the packets of the row, and whether it is a
long command; ROUTE and ZONE rows require it for a protected zone only and stand apart. -/
inductive Authenticated : Instr → Nat → (Command → Bool) → Bool → Prop where
  | cfgRead : Authenticated .cfgRead 0o0201 anyVariant false
  | cfgWrite : Authenticated .cfgWrite 0o0202 anyVariant false
  | cfgCommit : Authenticated .cfgCommit 0o0203 anyVariant true
  | cfgDiscard : Authenticated .cfgDiscard 0o0204 anyVariant false
  | cfgLoad (a b : Bool) : Authenticated (.cfgLoad a b) 0o0205 anyVariant true
  | cfgFlashWriteData : Authenticated .cfgFlashWriteData 0o0206 (opIs 1) true
  | cfgFlashWriteEnd : Authenticated .cfgFlashWriteEnd 0o0206 (opIs 2) true
  | cfgFirmwareWriteData : Authenticated .cfgFirmwareWriteData 0o0207 (opIs 1) true
  | cfgFirmwareWriteEnd : Authenticated .cfgFirmwareWriteEnd 0o0207 (opIs 2) true
  | cfgFirmwareWriteAbort : Authenticated .cfgFirmwareWriteAbort 0o0207 (opIs 3) true
  | pwrEnterSleep : Authenticated .pwrEnterSleep 0o1002 (opIs 2) true
  | pwrEnterHibernate : Authenticated .pwrEnterHibernate 0o1002 (opIs 3) true
  | safeStatus : Authenticated .safeStatus 0o1101 anyVariant false
  | safeEnter : Authenticated .safeEnter 0o1102 anyVariant false
  | safeRelease : Authenticated .safeRelease 0o1103 anyVariant false
  | safeSetQuiet : Authenticated .safeSetQuiet 0o1104 anyVariant false
  | secClose : Authenticated .secClose 0o1302 anyVariant false
  | secProvisionTamperActions : Authenticated .secProvisionTamperActions 0o1303 (opIs 1) true
  | secProvisionAuthLimit : Authenticated .secProvisionAuthLimit 0o1303 (opIs 2) true
  | secProvisionIntHash : Authenticated .secProvisionIntHash 0o1303 (opIs 3) true
  | secProvisionCsigReq : Authenticated .secProvisionCsigReq 0o1303 (opIs 4) true
  | secTamperClear (pins : BitVec 2) : Authenticated (.secTamperClear pins) 0o1304 anyVariant false
  | secDebugChallenge : Authenticated .secDebugChallenge 0o1305 anyVariant false

/-- A boundary command accepted: it waits for the next block boundary (R106). -/
def putOff (c : Command) (u : State) : State := { u with mbx := { u.mbx with waits := some c } }

end Sys2Proof.Safety
end

