-- ==== Sys2Proof/Certificates/Slice0/Obligations.lean ====
section
/-!
DEFINITION. The statements for the provers, family by family. `Taken` and `Frame` are those of Sys2Proof/Safety.lean.
-/

open Sys2Proof
open Sys2Proof.Machine
open Sys2Proof.Safety

/-! ## The step and the queue -/

/-- The command at the front of the queue runs on the state with the queue's rest; on an empty queue the block idles, which is
the model's own choice (log 1). -/
def Obligations.StepRunsFrontCommand : Prop :=
  (∀ (c : Instr) (rest : List Instr) (s : State), s.pending = c :: rest → step s = exec c { s with pending := rest }) ∧
  (∀ s : State, s.pending = [] → step s = .next s)

/-- No command touches the queue of waiting commands. -/
def Obligations.ExecKeepsQueue : Prop :=
  ∀ (c : Instr) (s t : State), exec c s = .next t → t.pending = s.pending

/-- Every step keeps Stash and flash in canonical form. -/
def Obligations.StepKeepsMemoryCanonical : Prop :=
  ∀ s t : State, MemoryCanonical s → step s = .next t → MemoryCanonical t

/-- Every step keeps the fixed numbers and the depths of `Shape`. -/
def Obligations.StepKeepsShape : Prop :=
  ∀ s t : State, Shape s → step s = .next t → Shape t

/-- At reset both memories are in canonical form with no byte listed, the numbers and depths of `Shape` hold, and the registers
whose reset value the spec gives hold it: RST_CAUSE shows POR, WAKE_EN 0o377, FLT_SAFECTL 0o17, VDD_CORE 800 mV, RESET_OUT_N
asserted. -/
def Obligations.ResetValues : Prop :=
  MemoryCanonical State.reset ∧ State.reset.mem.stash = [] ∧ State.reset.mem.flash = [] ∧ Shape State.reset ∧
  State.reset.pending = [] ∧ State.reset.boot.phase = .oscillator ∧ State.reset.boot.resetOut = true ∧ State.reset.clk.tick = 0 ∧
  State.reset.aon.rstCause = 1 ∧ State.reset.aon.wakeEn = 0xFF ∧ State.reset.aon.safeActive = false ∧ State.reset.aon.hist = [] ∧
  State.reset.win.safectl = Trip.of 0xF ∧ State.reset.pwr.vcore = 800 ∧ State.reset.pwr.pl = 0 ∧
  (∀ f ∈ State.reset.flex, f.role = .unattached ∧ f.cc = .open ∧ f.gate5 = .off ∧ f.gateH = .off) ∧
  (∀ p ∈ State.reset.ports, p.owned = false ∧ p.powered = false)

/-! ## Register window -/

/-- From R84: UNLOCK with its key opens the guard of the writing path for 10 ms; any other value sets KEY_ERR and locks it.
Nothing else changes; the other paths keep their guards. -/
def Obligations.UnlockOpensOnlyWithKey : Prop :=
  (∀ (p : Path) (d : Word) (s : State), Served p 0o1400 s → (guardOf p s).unlocked.agrees = true →
    (d = 0o525252 → exec (.unlock p d) s =
      .next (setGuard p { guardOf p s with unlocked := Trip.of 1, since := s.clk.tick } (onPath p s))) ∧
    (d ≠ 0o525252 → exec (.unlock p d) s =
      .next (setGuard p { guardOf p s with unlocked := {}, keyErr := true } (onPath p s)))) ∧
  (∀ (p : Path) (s : State),
    (480 ≤ since (guardOf p s).since s →
      exec (.guardUnlockExpiry p) s = .next (setGuard p { guardOf p s with unlocked := {} } (fresh s))) ∧
    (since (guardOf p s).since s < 480 → exec (.guardUnlockExpiry p) s = .next (fresh s)))

/-- From R85: the outcomes of a write to a register with an RWG field on a locked path, and on an unlocked path with value and
complement; FLT_SAFECTL and FLT_SEV take the value at once, WAKE_POL and TAMP_POL through the posted-write buffer (R86). -/
def Obligations.GuardedWriteOutcomes : Prop :=
  ∀ (p : Path) (a : BitVec 13) (d : Word) (s : State), Served p (regOf a) s → (guardOf p s).unlocked.agrees = true →
    s.win.posted.length < 8 →
    (isGuarded (regOf a) = true → guardOpen p s = false →
      ∃ t, exec (.guardedWrite p a d) s = .next t ∧ Frame [.out, .win] (fresh s) t ∧
        guardOf p t = { guardOf p s with unlocked := {}, lockedWr := true } ∧
        t.win.safectl = s.win.safectl ∧ t.win.posted = s.win.posted ∧ (p = .mspi → t.win.gdisc = true)) ∧
    (guardOpen p s = true → aliasOf a = 0 → d.bits 17 9 = 511 - d.bits 8 0 →
      (regOf a = 0o412 → s.win.safectl.agrees = true →
        ∃ t, exec (.guardedWrite p a d) s = .next t ∧ Frame [.out, .win] (fresh s) t ∧
          guardOf p t = { guardOf p s with unlocked := {} } ∧ t.win.safectl = Trip.of (BitVec.ofNat 4 (d.bits 8 0)) ∧
          t.win.posted = s.win.posted) ∧
      (regOf a = 0o415 → d.bits 8 0 % 8 < 6 → (sourceDef s.win.sevSel.toNat).isSome = true →
        fixedSource s.win.sevSel.toNat = false → (sevEntry s.win.sevSel.toNat s).agrees = true →
        ∃ t, exec (.guardedWrite p a d) s = .next t ∧ Frame [.out, .win, .flt] (fresh s) t ∧
          guardOf p t = { guardOf p s with unlocked := {} } ∧
          t.flt = { s.flt with sev := insertKey s.flt.sev s.win.sevSel.toNat (Trip.of (BitVec.ofNat 4 (d.bits 8 0))) }) ∧
      (regOf a = 0o1001 ∨ regOf a = 0o1003 →
        ∃ t, exec (.guardedWrite p a d) s = .next t ∧ Frame [.out, .win] (fresh s) t ∧
          guardOf p t = { guardOf p s with unlocked := {} } ∧
          t.win.posted = s.win.posted ++ [⟨regOf a, 0, w18 (d.toNat % 512), 0⟩])) ∧
    (isGuarded (regOf a) = true → guardOpen p s = true → (aliasOf a ≠ 0 ∨ d.bits 17 9 ≠ 511 - d.bits 8 0) →
      ∃ t, exec (.guardedWrite p a d) s = .next t ∧ Frame [.out, .boot, .aon, .win, .mbx, .flt, .hub, .zon] (fresh s) t ∧
        guardOf p t = { guardOf p s with unlocked := {}, badPair := true } ∧ t.win.safectl = s.win.safectl ∧
        t.win.posted = s.win.posted ∧ (p = .mspi → t.win.gdisc = true) ∧
        (blockOff 0o0221 s = false →
          lookupD t.flt.counts 0o0221 0 = min 262143 (lookupD s.flt.counts 0o0221 0 + 1)))

/-- From R81, R82, R89: a write through an alias acts on the register's own field and on nothing else; a register with no
writable field ignores it, but for the supervisor's own plain writes to fields that the firmware maintains, as ID_FW. From R69: a read of a LO word returns it and latches its companions in the path's own shadow, at
every alias; a companion word reads from that shadow, zero where there is none. The other paths' shadows stay. -/
def Obligations.RegisterReadsAndWrites : Prop :=
  (∀ (p : Path) (a : BitVec 13) (d : Word) (s : State), Served p (regOf a) s →
    (regOf a = 0o200 → exec (.registerWrite p a d) s = .next (setMbx p { mbxOf p s with
      prio := BitVec.ofNat 2 (applyAlias (aliasOf a) (mbxOf p s).prio.toNat d.toNat) } (onPath p s))) ∧
    (regOf a = 0o407 → exec (.registerWrite p a d) s = .next { onPath p s with win := { (onPath p s).win with
      csel := BitVec.ofNat 3 (applyAlias (aliasOf a) s.win.csel.toNat d.toNat) } }) ∧
    (regOf a = 0o414 → exec (.registerWrite p a d) s = .next { onPath p s with win := { (onPath p s).win with
      sevSel := BitVec.ofNat 12 (applyAlias (aliasOf a) s.win.sevSel.toNat d.toNat) } }) ∧
    (regOf a = 0o416 → exec (.registerWrite p a d) s = .next { onPath p s with win := { (onPath p s).win with
      histSel := BitVec.ofNat 4 (applyAlias (aliasOf a) s.win.histSel.toNat d.toNat) } }) ∧
    (regOf a = 0o605 → exec (.registerWrite p a d) s = .next { onPath p s with pwr := { s.pwr with
      retain := BitVec.ofNat 8 (applyAlias (aliasOf a) s.pwr.retain.toNat d.toNat) &&& 0xFE } }) ∧
    (regOf a = 0o213 → exec (.registerWrite p a d) s =
      .next (if aliasOf a = 0 then setMbx p { mbxOf p s with
        inOverrun := (mbxOf p s).inOverrun && !d.bit 1, outUnderrun := (mbxOf p s).outUnderrun && !d.bit 0 } (onPath p s)
        else onPath p s)) ∧
    (isAon (regOf a) = false → regOf a ∉ [0o200, 0o201, 0o202, 0o205, 0o206, 0o213, 0o401, 0o402, 0o403, 0o404, 0o405, 0o406,
        0o407, 0o412, 0o414, 0o415, 0o416, 0o605, 0o1400, 0o1401] → (p = .sup → isMaintained (regOf a) = true → aliasOf a ≠ 0) →
      exec (.registerWrite p a d) s = .next (onPath p s)) ∧
    (p = .sup → regOf a = 2 → aliasOf a = 0 →
      exec (.registerWrite p a d) s = .next { fresh s with win := { s.win with idFw := w18 (d.toNat / 64 * 64) } })) ∧
  (∀ (p : Path) (a : BitVec 13) (s : State), Served p (regOf a) s →
    (regOf a = 0o1200 → ∃ t, exec (.shadowLatchRead p a) s = .next t ∧ Frame [.out, .win, .hub] (fresh s) t ∧ (p ≠ .usb → t.hub = s.hub) ∧
      t.out = readOut p (w18 s.clk.tick.toNat) s ∧
      lookupD (shadowOf p t) 0o1201 0 = w18 (s.clk.tick.toNat / 2 ^ 18) ∧
      lookupD (shadowOf p t) 0o1202 0 = w18 (s.clk.tick.toNat / 2 ^ 36) ∧ (∀ q, q ≠ p → shadowOf q t = shadowOf q s)) ∧
    (regOf a ∈ [0o3, 0o420, 0o1007, 0o1011, 0o1200, 0o1614, 0o1624, 0o1634, 0o1644] →
      ∃ t, exec (.shadowLatchRead p a) s = .next t ∧ Frame [.out, .win, .hub] (fresh s) t ∧ (p ≠ .usb → t.hub = s.hub) ∧
      t.out = readOut p (peek p (regOf a) s) s ∧ (∀ kv ∈ companions (regOf a) s, lookupD (shadowOf p t) kv.1 0 = kv.2) ∧
      (∀ q, q ≠ p → shadowOf q t = shadowOf q s)) ∧
    (isCompanion (regOf a) = true → ∃ t, exec (.shadowLatchRead p a) s = .next t ∧ Frame [.out, .win, .hub] (fresh s) t ∧ (p ≠ .usb → t.hub = s.hub) ∧
      t.out = readOut p (lookupD (shadowOf p s) (regOf a) 0) s ∧ ∀ q, shadowOf q t = shadowOf q s))

/-- From R87: a write to an AON-domain register, other than the supervisor's to one that the firmware maintains, is posted while the buffer of 8 has room; while it is full the supervisor stalls
until an entry frees, USB answers the status stage with NAK, and MSPI drops the write and sets WDROP for the next frame. That
the supervisor's stalled write frees the oldest entry at once is the model's choice (assumption 34). From R86: the oldest posted
write leaves the buffer and acts on the live value; a set, clear, toggle or W1C write is evaluated there. Nothing else
changes. -/
def Obligations.AonWritesArePosted : Prop :=
  (∀ (p : Path) (a : BitVec 13) (d : Word) (s : State), Served p (regOf a) s → isAon (regOf a) = true →
    isGuarded (regOf a) = false → (p = .sup → isMaintained (regOf a) = false) →
    (s.win.posted.length < 8 → exec (.registerWrite p a d) s = .next { onPath p s with win := { (onPath p s).win with
      posted := s.win.posted ++ [⟨regOf a, aliasOf a, d, 0⟩], wpend := true } }) ∧
    (8 ≤ s.win.posted.length → p = .mspi →
      exec (.registerWrite p a d) s = .next { onPath p s with win := { (onPath p s).win with wdrop := true } }) ∧
    (8 ≤ s.win.posted.length → p = .usb → exec (.registerWrite p a d) s = .next { fresh s with out := [.handshake .nak] }) ∧
    (8 ≤ s.win.posted.length → p = .sup →
      exec (.registerWrite p a d) s = .next { applyOldest (fresh s) with win := { (applyOldest (fresh s)).win with
        posted := (applyOldest (fresh s)).win.posted ++ [⟨regOf a, aliasOf a, d, 0⟩], wpend := true } })) ∧
  (∀ (w : Posted) (rest : List Posted) (s : State), s.win.posted = w :: rest →
    (w.addr = 0o1000 → exec .aonPostedWrite s = .next { fresh s with
      win := { s.win with posted := rest }
      aon := { s.aon with wakeEn := BitVec.ofNat 8 (applyAlias w.op s.aon.wakeEn.toNat w.data.toNat) } }) ∧
    (w.addr = 0o1002 → w.op = 0 → exec .aonPostedWrite s = .next { fresh s with
      win := { s.win with posted := rest }
      aon := { s.aon with wakeCause := s.aon.wakeCause &&& ~~~(BitVec.ofNat 8 w.data.toNat) } }) ∧
    (w.addr = 0o1005 → w.op = 0 → exec .aonPostedWrite s = .next { fresh s with
      win := { s.win with posted := rest }
      aon := { s.aon with rstCause := s.aon.rstCause &&& ~~~(BitVec.ofNat 7 w.data.toNat) } }) ∧
    (w.addr = 0o1002 ∨ w.addr = 0o1005 → w.op ≠ 0 →
      exec .aonPostedWrite s = .next { fresh s with win := { s.win with posted := rest } }) ∧
    (w.addr = 0o1001 → s.aon.wakePol.agrees = true → exec .aonPostedWrite s = .next { fresh s with
      win := { s.win with posted := rest }
      aon := { s.aon with wakePol := Trip.of (BitVec.ofNat 4 w.data.toNat) } }) ∧
    (w.addr = 0o1003 → s.aon.tampPol.agrees = true → exec .aonPostedWrite s = .next { fresh s with
      win := { s.win with posted := rest }
      aon := { s.aon with tampPol := Trip.of (BitVec.ofNat 2 w.data.toNat) } }))

/-- From R391: a write to a cluster's status word acknowledges the unacknowledged faults of the blocks whose bits are 1. A
status bit stays exactly while a fault of its block is unacknowledged or a line of it is asserted. From R88: a fault latched at the
same clock edge is latched after the write. A fault of severity 1 to 3 whose last occurrence
is AUTO_ACK seconds past is acknowledged. -/
def Obligations.AcknowledgeClearsFaults : Prop :=
  (∀ (p : Path) (c : Fin 6) (d : Word) (s : State), Served p (0o401 + c.val) s →
    ∃ t, exec (.faultAcknowledge p c ⟨d, []⟩) s = .next t ∧
      (∀ (src : BitVec 12) (line : Bool), (sourceDef src.toNat).isSome = true → blockOff src t = false →
        exec (.faultAcknowledge p c ⟨d, [(src, line)]⟩) s = .next (raiseFault src (setLine src line t))) ∧ Frame [.out, .win, .flt, .zon] (fresh s) t ∧
      t.win = flagsShown p s.win ∧
      t.flt.unacked = s.flt.unacked.filter (fun u => !(u.source.toNat / 512 == c.val && d.bit (u.source.toNat / 16 % 32))) ∧
      ∀ k < 6, ∀ b < 18, bitOf (t.flt.status.getD k 0).toNat b =
        (bitOf (s.flt.status.getD k 0).toNat b && (unackedOfBlock k b t || lineOfBlock k b s))) ∧
  (∀ (src : BitVec 12) (s : State) (u : Unacked), u ∈ s.flt.unacked → u.source = src → u.severity ≤ 3 → autoAck s ≠ 0 →
    autoAck s * 48000 ≤ since u.last s →
    ∃ t, exec (.autoAckExpiry src) s = .next t ∧ Frame [.out, .flt, .zon] (fresh s) t ∧
      t.flt.unacked = s.flt.unacked.filter (fun v => !(v.source == src)))

/-! ## Mailboxes -/

/-- From R91, R93: over MSPI MBX_IN_DATA appends a word to the sub-queue that MBX_IN_PRIO selects; MBX_IN_LAST and
PACKET_COMPLETE append it with the end mark, which completes the packet with its arrival tick. Other sub-queues stay, and only a
complete free heartbeat touches the zone state (R311). On the other paths the two registers take nothing. From R93: a 257th
word, or a word that meets a full sub-queue over MSPI, drops the packet: its queued words go, the rest of it is discarded up to
its end mark, and the full sub-queue sets IN_OVERRUN. A discarded word changes nothing but the discard. -/
def Obligations.InboundWordsEnterOrDrop : Prop :=
  ((∀ (d : Word) (s : State), Served .mspi 0o201 s → takesWords (subQueue .s s.win.mbxMspi.prio.toNat s) → s.mbx.inS.length = 4 →
    (∃ t, exec (.mbxInData .mspi d) s = .next t ∧ Frame [.out, .win, .mbx] (fresh s) t ∧ t.win = flagsShown .mspi s.win ∧
      t.mbx = { s.mbx with inS := listSet s.mbx.inS s.win.mbxMspi.prio.toNat { subQueue .s s.win.mbxMspi.prio.toNat s with
        part := (subQueue .s s.win.mbxMspi.prio.toNat s).part ++ [mbxWord d false] } }) ∧
    (∃ t, exec (.mbxInLast .mspi d) s = .next t ∧ Frame [.out, .win, .mbx, .zon] (fresh s) t ∧ t.win = flagsShown .mspi s.win ∧
      t.mbx = { s.mbx with inS := listSet s.mbx.inS s.win.mbxMspi.prio.toNat { subQueue .s s.win.mbxMspi.prio.toNat s with
        packets := (subQueue .s s.win.mbxMspi.prio.toNat s).packets ++
          [{ words := (subQueue .s s.win.mbxMspi.prio.toNat s).part ++ [mbxWord d true], arrival := s.clk.tick }]
        part := [] } } ∧
      (isFreeHeartbeat ((subQueue .s s.win.mbxMspi.prio.toNat s).part ++ [mbxWord d true]) = false → t.zon = s.zon) ∧
      (isFreeHeartbeat ((subQueue .s s.win.mbxMspi.prio.toNat s).part ++ [mbxWord d true]) = true →
        t.zon = { s.zon with hbTick := s.clk.tick, hbReturn := s.zon.hbReturn || s.zon.hbLost }))) ∧
  (∀ (p : Path) (d : Word) (s : State), p ≠ .mspi → Served p 0o201 s →
    exec (.mbxInData p d) s = .next (onPath p s) ∧ exec (.mbxInLast p d) s = .next (onPath p s)) ∧
  (∀ (b : Box) (k : Fin 4) (d : Word) (s : State), takesWords (subQueue b k.val s) → (subQueues b s).length = 4 →
    ∃ t, exec (.packetComplete b k d) s = .next t ∧ Frame [.mbx, .zon] (fresh s) t ∧
      subQueue b k.val t = { subQueue b k.val s with
        packets := (subQueue b k.val s).packets ++
          [{ words := (subQueue b k.val s).part ++ [mbxWord d true], arrival := s.clk.tick }]
        part := [] } ∧
      (∀ (b' : Box) (j : Nat), (b', j) ≠ (b, k.val) → subQueue b' j t = subQueue b' j s))) ∧
  (∀ (last : Bool) (d : Word) (s : State), Served .mspi 0o201 s → s.mbx.inS.length = 4 →
    let k := s.win.mbxMspi.prio.toNat
    let q := subQueue .s k s
    let c : Instr := if last then .mbxInLast .mspi d else .mbxInData .mspi d
    (q.discard = false → (512 ≤ q.used ∨ q.part.length = 256) →
      ∃ t, exec c s = .next t ∧ Frame [.out, .boot, .win, .mbx, .hub] (fresh s) t ∧
        subQueue .s k t = { q with part := [], discard := !last } ∧
        (∀ j, j ≠ k → subQueue .s j t = subQueue .s j s) ∧ t.mbx.inU = s.mbx.inU ∧
        t.win.mbxMspi.inOverrun = (s.win.mbxMspi.inOverrun || decide (512 ≤ q.used))) ∧
    (q.discard = true →
      ∃ t, exec c s = .next t ∧ Frame [.out, .win, .mbx] (fresh s) t ∧ t.win = flagsShown .mspi s.win ∧
        t.mbx = { s.mbx with inS := listSet s.mbx.inS k { q with discard := !last } }))

/-- From R94: MBX_IN_FLUSH over MSPI empties each sub-queue of MBX-S that its mask names, partial packet and discard included,
and leaves the others and MBX-U alone. From R101, R89: over MSPI a read of MBX_OUT_DATA removes the next word of the selected
queue and shows its end mark and poison in MBX_OUT_TAG; an empty queue reads 0o777_777 and sets OUT_UNDERRUN, and nothing is
removed. -/
def Obligations.FlushedAndReadQueues : Prop :=
  (∀ (d : Word) (s : State), Served .mspi 0o205 s → s.mbx.inS.length = 4 →
    ∃ t, exec (.mbxInFlush .mspi d) s = .next t ∧ Frame [.out, .win, .mbx] (fresh s) t ∧ t.win = flagsShown .mspi s.win ∧
      t.mbx.inU = s.mbx.inU ∧ t.mbx.reply = s.mbx.reply ∧ t.mbx.event = s.mbx.event ∧
      ∀ k < 4, subQueue .s k t = if d.bit k then {} else subQueue .s k s) ∧
  (∀ (s : State), Served .mspi 0o207 s →
    (outQueue .mspi s = [] →
      exec (.mbxOutData .mspi) s = .next { fresh s with
        out := readOut .mspi 0o777777 s
        win := { flagsShown .mspi s.win with mbxMspi := { s.win.mbxMspi with outUnderrun := true } } }) ∧
    (∀ (pk : OutPacket) (rest : List OutPacket) (w : MbxWord) (ws : List MbxWord),
      outQueue .mspi s = pk :: rest → pk.words = w :: ws → w.poisoned = false →
      exec (.mbxOutData .mspi) s = .next { fresh s with
        out := readOut .mspi w.data s
        win := { flagsShown .mspi s.win with mbxMspi := { s.win.mbxMspi with tagEnd := w.endMark, tagPoison := false } }
        mbx := if s.win.mbxMspi.outSel
          then { s.mbx with event := if ws = [] then rest else { pk with words := ws } :: rest }
          else { s.mbx with reply := if ws = [] then rest else { pk with words := ws } :: rest } }))

/-- From R75: a frame of other than 32 cycles applies no write and sets FERR for the next frame; a read of which bit [18] was
sampled stands with its side effects. From R78, R79: a vendor request reaches the window as a read or write of its register on
the USB path; a repeated data stage returns the same three bytes and reads nothing again; data bits [23:18] or a malformed request
give STALL; without the final handshake a write is not applied. From R25, R151: the three bytes cross the switch core and stand in
the buffer of endpoint 0. From R198: without a cell the host meets NAK or NRDY. -/
def Obligations.AccessPaths : Prop :=
  (∀ (m : List Bool) (s : State), m.length ≠ 32 → mspiMode s = .serving →
    ((m.getD 0 false = false ∨ m.length < 14) →
      exec (.mspiFrameError m) s =
        .next { fresh s with win := { flagsShown .mspi s.win with ferr := true } }) ∧
    (m.getD 0 false = true → 14 ≤ m.length →
      ∃ t u, exec (.shadowLatchRead .mspi (mosiAddr m)) s = .next u ∧ exec (.mspiFrameError m) s = .next t ∧
        t = { u with win := { u.win with ferr := true } })) ∧
  (∀ (u : Setup) (s : State), usbReach s = true →
    (vendorForm true u = false → ∀ again, exec (.registerVendorRead u again) s = .next { fresh s with out := [.handshake .stall] }) ∧
    (vendorForm false u = false → ∀ d e, exec (.registerVendorWrite u d e) s = .next { fresh s with out := [.handshake .stall] }) ∧
    (vendorForm true u = true → coreRoom .ctrl 11 1 1 s = true → ∀ w, w = crossCore .ctrl 1 1 (fresh s) →
      exec (.registerVendorRead u false) s = .next (pathRead .usb (regOf (vendorAddr u)) w) ∧
      ∀ v, s.win.usbRead = some v → exec (.registerVendorRead u true) s = .next { w with out := [.usbData (toBytesLE 3 v.toNat)] }) ∧
    (∀ d : BitVec 24, vendorForm false u = true → coreRoom .ctrl 0 0x800 1 s = true →
      ∀ w, w = fillControl (toBytesLE 3 d.toNat) (crossCore .ctrl 0x800 1 (fresh s)) →
      (d.toNat < 2 ^ 18 → exec (.registerVendorWrite u d true) s =
          .next (pathWrite .usb (regOf (vendorAddr u)) (aliasOf (vendorAddr u)) (w18 d.toNat) w) ∧
        exec (.registerVendorWrite u d false) s = .next w) ∧
      (2 ^ 18 ≤ d.toNat → ∀ e, exec (.registerVendorWrite u d e) s = .next { w with out := [.handshake .stall] })) ∧
    (∀ again, vendorForm true u = true → coreRoom .ctrl 11 1 1 s = false → exec (.registerVendorRead u again) s =
      .next { fresh s with out := [.handshake (if s.hub.functionUsb3 then .nrdy else .nak)] }))

/-- From R96 to R99, R25, R151: a bulk OUT packet for which the core has cells is acknowledged and its whole containers are taken
when every sub-queue they address has room, the bytes left over being kept, and is answered NAK otherwise. A bulk IN token meets
NAK on an empty queue; a queue's first packet that makes a short packet is answered with its containers. The bytes of the
endpoint stand in its buffer. -/
def Obligations.BulkEndpoints : Prop :=
  ∀ (s : State), usbUp s = true →
    (∀ bytes : List Byte, bytes.length ≤ 1024 → coreRoom .bulk 0 0x800 (cellCount bytes.length) s = true →
      (s.mbx.usbBytes ++ bytes).length < 3 →
      exec (.bulkOutPacket bytes) s = .next { crossCore .bulk 0x800 (cellCount bytes.length) (fresh s) with
        out := [.handshake .ack], mbx := { s.mbx with usbBytes := s.mbx.usbBytes ++ bytes }
        hub := { s.hub with ram := { s.hub.ram with bulkOut := bytes } } }) ∧
    (∀ (a b c : Byte), coreRoom .bulk 0 0x800 1 s = true → s.mbx.usbBytes = [] → s.mbx.usbOpen = none → bitOf c.toNat 7 = true →
      takesWords (subQueue .u (c.toNat / 16 % 4) s) → s.mbx.inU.length = 4 →
      ∃ t, exec (.bulkOutPacket [a, b, c]) s = .next t ∧ Frame [.out, .mbx, .zon, .hub, .sw] (fresh s) t ∧ t.out = [.handshake .ack] ∧
        t.mbx.usbBytes = [] ∧ t.mbx.usbOpen = none ∧ t.hub = { s.hub with ram := { s.hub.ram with bulkOut := [a, b, c] } } ∧
        subQueue .u (c.toNat / 16 % 4) t = { subQueue .u (c.toNat / 16 % 4) s with
          packets := (subQueue .u (c.toNat / 16 % 4) s).packets ++
            [{ words := (subQueue .u (c.toNat / 16 % 4) s).part ++
                [mbxWord (w18 (a.toNat + 256 * b.toNat + 65536 * c.toNat)) true]
               arrival := s.clk.tick }]
          part := [] }) ∧
    (∀ bytes : List Byte, bytes.length ≤ 1024 →
      roomFor (addressed s.mbx.usbOpen (containers (s.mbx.usbBytes ++ bytes)).1) s = false →
      exec (.bulkOutPacket bytes) s = .next { fresh s with out := [.handshake .nak] }) ∧
    (s.mbx.reply = [] → s.mbx.replyTail = false →
      exec (.bulkInToken false) s = .next { fresh s with out := [.handshake .nak] }) ∧
    (s.mbx.event = [] → s.mbx.eventTail = false →
      exec (.bulkInToken true) s = .next { fresh s with out := [.handshake .nak] }) ∧
    (∀ (pk : OutPacket) (rest : List OutPacket), s.mbx.reply = pk :: rest → s.mbx.replyTail = false → s.mbx.replyXfer = [] →
      (∀ w ∈ pk.words, w.poisoned = false) → 3 * pk.words.length < bulkMax s → ∀ bs, bs = pk.words.flatMap containerOf →
      coreRoom .bulk 11 1 (cellCount bs.length) s = true →
      exec (.bulkInToken false) s = .next { crossCore .bulk 1 (cellCount bs.length) (fresh s) with
        out := [.usbData bs], mbx := { s.mbx with reply := rest }, hub := { s.hub with ram := { s.hub.ram with reply := bs } } }) ∧
    (∀ (pk : OutPacket) (rest : List OutPacket), s.mbx.event = pk :: rest → s.mbx.eventTail = false → s.mbx.eventXfer = [] →
      (∀ w ∈ pk.words, w.poisoned = false) → 3 * pk.words.length < bulkMax s → ∀ bs, bs = pk.words.flatMap containerOf →
      coreRoom .bulk 11 1 (cellCount bs.length) s = true →
      exec (.bulkInToken true) s = .next { crossCore .bulk 1 (cellCount bs.length) (fresh s) with
        out := [.usbData bs], mbx := { s.mbx with event := rest }, hub := { s.hub with ram := { s.hub.ram with event := bs } } })

/-! ## Command packets -/

/-- From R92, R94, R111: a packet that passes the checks before its own leaves its sub-queue whole; the mailbox served is noted,
a command that is no heartbeat or status query disarms a re-entry (R377), an authenticated packet advances its session's
counter, and nothing else changes. -/
def Obligations.TakenPacketLeavesItsQueue : Prop :=
  ∀ (code : Nat) (v : Command → Bool) (n : Command → State → Bool) (s u : State) (c : Command),
    Taken code v n s c u →
    Frame [.mbx, .pwr, .sec] (fresh s) u ∧
    (∃ (k : Nat) (p : Packet), c = commandOf c.box p ∧ (subQueue c.box k s).packets = p :: (subQueue c.box k u).packets ∧
      u.mbx.lastServed = some c.box ∧
      (∀ (b : Box) (j : Nat), (b, j) ≠ (c.box, k) → subQueue b j u = subQueue b j s)) ∧
    u.pwr = (if keepsReenter (cmdCode c.word0) then s.pwr else { s.pwr with reenter := none }) ∧
    u.mbx.reply = s.mbx.reply ∧ u.mbx.event = s.mbx.event ∧ u.mbx.doneU = s.mbx.doneU ∧ u.mbx.doneS = s.mbx.doneS ∧
    u.mbx.long = s.mbx.long ∧
    (authFlag c.word0 = false → u.sec = s.sec) ∧
    (authFlag c.word0 = true → ∃ a b : Session, sessionOf c.box s = some a ∧ sessionOf c.box u = some b ∧
      a.counter < b.counter ∧ b = { a with counter := b.counter })

/-- From R107, R109: an answer files the newest of at most 64 completion records of its mailbox and, unless NOREPLY goes with OK
or the reply is discarded (R100), appends the reply packet; nothing else changes. -/
def Obligations.AnswerFilesRecordAndReply : Prop :=
  ∀ (c : Command) (st : Nat) (rs : List Word) (long busy : Bool) (u : State),
    let t := answer c st rs long busy u
    Frame [.mbx] u t ∧
    records c.box t = (⟨c.word0, c.seq, w18 st, long, busy⟩ :: records c.box u).take 64 ∧
    records (otherBox c.box) t = records (otherBox c.box) u ∧
    t.mbx = { u.mbx with reply := t.mbx.reply, doneU := t.mbx.doneU, doneS := t.mbx.doneS } ∧
    t.mbx.reply = if (noReplyFlag c.word0 = true ∧ st = 0) ∨ c.cut = true then u.mbx.reply
      else u.mbx.reply ++ [{ words := packetWords (c.word0 :: c.seq :: w18 st :: w18 (boxCode c.box * 65536 + rs.length) :: rs)
                             path := some c.box, arrival := c.arrival }]

/-- From R108, R112, R113: without AUTH such a command is answered AUTH_REQUIRED; with a trailer that fails it is answered
AUTH_FAIL, which counts toward the AUTH_FAIL tamper source. Nothing of the command is executed. From R95, R103, R108: a packet
of fewer than 2 words is consumed with SYS.PACKET_DROPPED and no reply; a poisoned one is answered POISON; one with an unknown
code, a reserved flag or a wrong length BAD_CMD. -/
def Obligations.RefusedPacketsAnswered : Prop :=
  (∀ (i : Instr) (code : Nat) (v : Command → Bool) (long : Bool) (s : State) (b : Box) (k : Nat) (p : Packet) (c : Command),
    Authenticated i code v long → takesThis code v (fresh s) = some (b, k, p, c) →
    (authFlag c.word0 = false → exec i s = .next (answer c 4 [] long false (takePacket b k p (fresh s)))) ∧
    (authFlag c.word0 = true → trailerOk c (takePacket b k p (fresh s)) = false →
      exec i s = .next (answer c 5 [] long false (authFailure (takePacket b k p (fresh s)))))) ∧
  (∀ (s : State) (b : Box) (k : Nat) (p : Packet), nextPacket (fresh s) = some (b, k, p) →
    (p.words.length < 2 →
      exec .badCmdPacket s = .next (post 0o010201 [w18 (boxCode b * 65536 + k * 16384 + 3)] (takePacket b k p (fresh s)))) ∧
    (2 ≤ p.words.length → (commandOf b p).poisoned = true →
      exec .badCmdPacket s = .next (answer (commandOf b p) 8 [] false false (takePacket b k p (fresh s)))) ∧
    (2 ≤ p.words.length → (commandOf b p).poisoned = false → commandOk (commandOf b p) = false →
      exec .badCmdPacket s = .next (answer (commandOf b p) 2 [] false false (takePacket b k p (fresh s)))))

/-! ## SYS -/

/-- R448: the results of every page of SYS.INFO, and BAD_PARAM above page 5. The read of OTP reports its defects (R22), of which sound
OTP has none. -/
def Obligations.SysInfoPages : Prop :=
  ∀ (s u : State) (c : Command), Taken 0o0101 anyVariant noAuth s c u →
    (c.p 1 = 0 → ∀ fw, s.boot.fw = some fw → exec .sysInfo s = .next (replied c
      ([1812, 0o020000, s.win.idFw] ++ wordsOf s.sec.otp.die.toNat 3 ++
        [w18 (s.sec.otp.antiroll % 64 * 8 + s.sec.otp.epoch % 8),
         w18 (bit s.sec.otp.exhausted * 16 + bit s.sec.otp.csigReq * 8 + bit s.boot.straps.testEn * 4
           + bit s.boot.straps.boot1 * 2 + bit s.boot.straps.boot0),
         w18 s.boot.causeAtStart.toNat, w18 (s.cfg.active.getD 3)] ++ wordsOf s.cfg.gen 2 ++
        [w18 (fw.rollback * 4096 + fw.source)]) (readOtp u))) ∧
    (c.p 1 = 1 → exec .sysInfo s = .next (replied c (pairWords (otpBytes s.sec.otp.vendorHash)) (readOtp u))) ∧
    (∀ k < 4, c.p 1 = k + 2 →
      exec .sysInfo s = .next (replied c (pairWords (otpBytes ((s.sec.otp.intHash.getD k none).getD 0))) (readOtp u))) ∧
    (s.sec.otp.agrees = true → s.sec.otp.wrong = [] → readOtp u = u) ∧
    (5 < c.p 1 → exec .sysInfo s = .next (answer c 3 [] false false u))

/-- R449: SYS.STATUS returns the newest completion record of a path with a sequence number, zeros without one, and BAD_PARAM for
a path above 1. Its own record is filed after the query. -/
def Obligations.SysStatusFindsNewestRecord : Prop :=
  ∀ (s u : State) (c : Command), Taken 0o0102 anyVariant noAuth s c u →
    let recs := if c.p 2 = 0 then s.mbx.doneU else s.mbx.doneS
    (∀ (newer older : List Completion) (r : Completion), c.p 2 ≤ 1 → recs = newer ++ r :: older →
      (∀ x ∈ newer, x.seq.toNat ≠ c.p 1) → r.seq.toNat = c.p 1 →
      exec .sysStatus s = .next (replied c [w18 (4 + 2 * bit r.inProgress + bit r.long), r.word0, r.status] u)) ∧
    (c.p 2 ≤ 1 → (∀ x ∈ recs, x.seq.toNat ≠ c.p 1) → exec .sysStatus s = .next (replied c [0, 0, 0] u)) ∧
    (1 < c.p 2 → exec .sysStatus s = .next (answer c 3 [] false false u))

/-- From R311, R450, R451: SYS.HEARTBEAT reports the faces and restarts the timer from its arrival tick, but for the NOREPLY
form that the mailbox counted already; SYS.RESET is accepted with the reset due 5 ms on; SYS.TIME_SET returns the old count and
posts the new one with RTC_SUB 0. Bit 1 of the heartbeat's result follows log entry 33. -/
def Obligations.SysHeartbeatResetAndTime : Prop :=
  ∀ (s u : State) (c : Command),
    (Taken 0o0103 anyVariant noAuth s c u → c.word0 ≠ 0o010320 → exec .sysHeartbeat s = .next (replied c
      [w18 ((match s.hub.face with | some .a => 0 | some .b => 1 | none => 3) * 16 + bit (available .a s) * 8
        + bit (available .b s) * 4 + bit (s.hub.autoArmed && param 448 2 0 s == 1) * 2 + bit s.zon.hbLost)]
      { u with zon := { u.zon with hbTick := c.arrival, hbReturn := u.zon.hbReturn || u.zon.hbLost } })) ∧
    (Taken 0o0103 anyVariant noAuth s c u → c.word0 = 0o010320 →
      exec .sysHeartbeat s = .next (replied c [heartbeatWord s] u)) ∧
    (Taken 0o0104 anyVariant noAuth s c u → c.p 1 = 0 → loadBlocked s = false → s.pwr.entry = .none → longOf 1 s = none →
      exec .sysReset s = .next { accepted c u with boot := { u.boot with resetAt := some s.clk.tick } }) ∧
    (Taken 0o0105 anyVariant noAuth s c u → s.win.posted.length ≤ 5 →
      exec .sysTimeSet s = .next (replied c (wordsOf s.aon.rtcSec.toNat 2) { u with win := { u.win with
        posted := s.win.posted ++ [⟨0o2006, 0, 0, 0⟩, ⟨0o2007, 0, w18 (c.p 1), 0⟩, ⟨0o2010, 0, w18 (c.p 2), 0⟩]
        wpend := true } }))

/-! ## CFG -/

/-- From R139, R136, R138: CFG.READ returns the words of the view asked for; CFG.WRITE and CFG.DISCARD wait for the next block
boundary, where the changes come into force and join the pending set, or every pending word returns to its committed value;
CFG.COMMIT takes the pending set as it stands. From R131, R139: unconfigured, the CFG commands on tables answer STATE and
execute nothing. -/
def Obligations.CfgTableCommands : Prop :=
  (∀ (s u : State) (c : Command),
    (∀ ws, Taken 0o0201 anyVariant needsAuth s c u → s.cfg.unconfigured = false → 1 ≤ c.p 3 → c.p 3 ≤ 252 → c.p 4 ≤ 2 →
      viewWords (c.p 1) (c.p 4) s = some ws → c.p 2 + c.p 3 ≤ ws.length →
      exec .cfgRead s = .next (replied c ((ws.drop (c.p 2)).take (c.p 3)) u)) ∧
    (Taken 0o0202 anyVariant needsAuth s c u → checkWrite c u = stOk → exec .cfgWrite s = .next (putOff c u)) ∧
    (cmdCode c.word0 = 0o0202 → runWaiting (putOff c u) =
      let t := takeChanges (writeChanges c) { u with mbx := { u.mbx with waits := none } }
      replied c [] { t with cfg := { t.cfg with pending := addChanges t.cfg.pending (writeChanges c) } }) ∧
    (Taken 0o0204 anyVariant needsAuth s c u → s.cfg.unconfigured = false → exec .cfgDiscard s = .next (putOff c u)) ∧
    (cmdCode c.word0 = 0o0204 → runWaiting (putOff c u) =
      let t := takeChanges (committedValues u) { u with mbx := { u.mbx with waits := none } }
      replied c [] { t with cfg := { t.cfg with pending := [] } }) ∧
    (Taken 0o0203 anyVariant needsAuth s c u → s.cfg.unconfigured = false → longOf 2 s = none →
      exec .cfgCommit s = .next { accepted c u with cfg := { u.cfg with
        commit := some ⟨(match s.cfg.overlayCopy with | some k => 1 - k | none => 0), (s.cfg.overlaySeq + 1) % 262144,
          s.cfg.pending, s.clk.tick⟩ } })) ∧
  (∀ (s u : State) (c : Command), s.cfg.unconfigured = true →
    (Taken 0o0201 anyVariant needsAuth s c u → 1 ≤ c.p 3 → c.p 3 ≤ 252 → c.p 4 ≤ 2 →
      exec .cfgRead s = .next (answer c 6 [] false false u)) ∧
    (Taken 0o0202 anyVariant needsAuth s c u → 1 ≤ c.p 3 → c.p 3 ≤ 240 →
      exec .cfgWrite s = .next (answer c 6 [] false false u)) ∧
    (Taken 0o0203 anyVariant needsAuth s c u → exec .cfgCommit s = .next (answer c 6 [] true false u)) ∧
    (Taken 0o0204 anyVariant needsAuth s c u → exec .cfgDiscard s = .next (answer c 6 [] false false u)))

/-- From R138: within 2 s of its acceptance a commit writes the copy not in force with the merged overlay, then the overlay
region of bank 0, takes the changes it holds out of the pending set, brings them into force where a CFG.DISCARD had taken them back, and ends with
OK; after 2 s it ends with TIMEOUT, the older overlay and the pending set standing. From R140, R430, R436: a flash-backed operation ends: the CTI slot is erased or its rows
are programmed, the firmware slot is erased or programmed, and SEC.PROVISION places its item, each with SYS.CMD_DONE and OK; a
failed erase or program ends with TIMEOUT, which is the model's choice (log 19). -/
def Obligations.CommitAndFlashOperationsEnd : Prop :=
  (∀ (s : State) (op : CommitOp), s.cfg.commit = some op →
    (∀ e, since op.start s < 96000 → regionOf 3 op.copy s = some e →
      ∃ t, exec .cfgCommitDone s = .next t ∧ t.cfg.commit = none ∧ t.cfg.overlay = mergeOverlay s.cfg.overlay op.taken ∧
        t.cfg.overlayCopy = some op.copy ∧ t.cfg.overlaySeq = op.seq ∧
        t.cfg.pending = s.cfg.pending.filter (fun x => !op.taken.contains x) ∧ longOf 2 t = none ∧
        t.cfg.live = applyChanges s.cfg.live ((commitChanges op s).filter (fun x => x.tid != 0)) ∧
        (commitChanges op s = [] → Frame [.out, .boot, .mbx, .hub, .cfg, .mem] (fresh s) t)) ∧
    (96000 ≤ since op.start s → exec .cfgCommitTimeout s =
      .next (groupDone 2 9 { fresh s with cfg := { s.cfg with commit := none } }))) ∧
  (∀ (s : State),
    (∀ k, s.cfg.op = some (.ctiBegin k) → exec (.flashOperationComplete .cfg true) s =
      .next (groupDone 2 0 (flashErase (regionBase 2 k s) 262144 { fresh s with cfg := { s.cfg with op := none } }))) ∧
    (∀ row ws w, s.cfg.op = some (.ctiData row ws) → s.cfg.slotWrite = some w →
      exec (.flashOperationComplete .cfg true) s = .next (groupDone 2 0 (flashWrite (regionBase 2 w.slot s + 9 * row) (wordsToRows ws)
        { fresh s with cfg := { s.cfg with op := none, slotWrite := some { w with rows := (row, ws.length / 4) :: w.rows } } }))) ∧
    (∀ off bs w, s.cfg.op = some (.fwData off bs) → s.cfg.fwWrite = some w →
      exec (.flashOperationComplete .cfg true) s = .next (groupDone 2 0 (flashWrite (regionBase 1 w.slot s + off) bs
        { fresh s with cfg := { s.cfg with op := none, fwWrite := some { w with ranges := (off, bs.length) :: w.ranges } } }))) ∧
    (∀ op, s.sec.op = some op → exec (.flashOperationComplete .sec true) s =
      .next (groupDone 11 0 (post 0o130302 [w18 op.item, w18 s.sec.otp.epoch]
        (rewriteBlobs (placeItem op { fresh s with sec := { s.sec with op := none } }))))) ∧
    (∀ op, s.sec.op = some op → exec (.flashOperationComplete .sec false) s =
      .next (groupDone 11 9 { fresh s with sec := { s.sec with op := none } })))

/-- From R140, R430: BEGIN, DATA and END of a CTI slot write and of a firmware write, and its ABORT, are accepted with their
operation in progress and the slot noted. From R135, R139: CFG.LOAD of a slot that passes its checks is accepted and leaves its
image for the next block boundary; a slot that fails them leaves no image, and the command ends with its rejection: RESOURCE where
only the C0 reserve of check 11 is broken (R233), else BAD_PARAM. -/
def Obligations.FlashLoadsAndWritesAccepted : Prop :=
  (∀ (s u : State) (c : Command), longOf 2 s = none →
    (Taken 0o0206 (fun c => opIs 0 c || decide (2 < c.p 1)) needsAuth s c u → c.p 1 = 0 → beginSlot c s ≤ 1 →
      s.cfg.active ≠ some (beginSlot c s) → (regionOf 2 (beginSlot c s) s).isSome = true →
      exec .cfgFlashWriteBegin s = .next { accepted c u with cfg := { u.cfg with
        op := some (.ctiBegin (beginSlot c s)), slotWrite := some ⟨beginSlot c s, [], false⟩ } }) ∧
    (∀ w, Taken 0o0206 (opIs 1) needsAuth s c u → (c.params.length - 2) % 4 = 0 →
      c.p 2 + (c.params.length - 2) / 4 ≤ 29120 → s.cfg.slotWrite = some w → w.closed = false →
      wasWritten w.rows (c.p 2) ((c.params.length - 2) / 4) = false →
      exec .cfgFlashWriteData s = .next { accepted c u with cfg := { u.cfg with op := some (.ctiData (c.p 2) (c.params.drop 2)) } }) ∧
    (∀ w, Taken 0o0206 (opIs 2) needsAuth s c u → s.cfg.slotWrite = some w → w.closed = false →
      exec .cfgFlashWriteEnd s = .next { accepted c u with cfg := { u.cfg with op := some .ctiEnd } }) ∧
    (Taken 0o0207 (fun c => opIs 0 c || decide (3 < c.p 1)) needsAuth s c u → c.p 1 = 0 → c.p 2 ≤ 1 →
      runsFrom (c.p 2) s = false → s.cfg.fwWrite = none → (regionOf 1 (c.p 2) s).isSome = true →
      exec .cfgFirmwareWriteBegin s = .next { accepted c u with cfg := { u.cfg with
        op := some (.fwBegin (c.p 2)), fwWrite := some ⟨c.p 2, []⟩ } }) ∧
    (∀ w, Taken 0o0207 (opIs 1) needsAuth s c u → 1 ≤ dataCount c → dataCount c ≤ 480 →
      dataOffset c + dataCount c ≤ 2031616 → s.cfg.fwWrite = some w → wasWritten w.ranges (dataOffset c) (dataCount c) = false →
      exec .cfgFirmwareWriteData s = .next { accepted c u with cfg := { u.cfg with op := some (.fwData (dataOffset c) (dataBytes c)) } }) ∧
    (∀ w, Taken 0o0207 (opIs 2) needsAuth s c u → s.cfg.fwWrite = some w →
      exec .cfgFirmwareWriteEnd s = .next { accepted c u with cfg := { u.cfg with op := some .fwEnd } }) ∧
    (∀ w, Taken 0o0207 (opIs 3) needsAuth s c u → s.cfg.fwWrite = some w →
      exec .cfgFirmwareWriteAbort s = .next { accepted c u with cfg := { u.cfg with op := some .fwAbort } })) ∧
  (∀ (s u : State) (c : Command) (a b : Bool), Taken 0o0205 anyVariant needsAuth s c u → longOf 2 s = none →
    loadBlocked s = false → 1 ≤ c.p 1 → c.p 1 ≤ 2 → slotOpen s ≠ some (c.p 1 - 1) →
    (∀ img, checkSlot (c.p 1 - 1) (if c.p 1 - 1 = 0 then a else b) (accepted c u) = .inr img →
      exec (.cfgLoad a b) s = .next { accepted c u with cfg := { u.cfg with next := some img, nextIsLoad := true } }) ∧
    (∀ reason, checkSlot (c.p 1 - 1) (if c.p 1 - 1 = 0 then a else b) (accepted c u) = .inl reason →
      exec (.cfgLoad a b) s = .next (groupDone 2
        (if reserveRefused (if c.p 1 - 1 = 0 then a else b) (c.p 1 - 1) (accepted c u) then 7 else 3)
        (rejectImage (c.p 1 - 1) reason (accepted c u)))))

/-! ## Owned ports -/

/-- From R191, R193: PORT.STATUS returns the four words of a port (standard profile, OWN bit, speed and role; endpoints and number
of the served devices; reserved payload; number of the refused devices), zeros after the first for one that the device does not
own; PORT.DEVICES returns the four words of each device of an owned port in the order of addresses, the first three its location,
vendor and product. A port outside 1 to 10 is BAD_PARAM, and PORT.DEVICES on a port that is not owned is STATE. -/
def Obligations.PortQueriesAnswer : Prop :=
  ∀ (s u : State) (c : Command),
    (Taken 0o0301 anyVariant noAuth s c u → 1 ≤ c.p 1 → c.p 1 ≤ 10 →
      let p := portOf (c.p 1 - 1) s
      let mine := s.own.devs.filter (fun d => d.port == c.p 1 - 1)
      let served := mine.filter (fun d => d.reason == 0)
      let head := w18 (bit (((formatWords s).getD 0 0).bit 16) * 128 + bit (bitOf ((formatWords s).getD 0 0).toNat (5 + c.p 1)) * 64
        + (if p.attached then (match p.speed with | some .ls => 1 | some .fs => 2 | some .hs => 3 | some .ss => 4 | none => 0) else 0) * 8
        + roleOf (c.p 1 - 1) s)
      (p.owned = false → exec .portStatus s = .next (replied c [head, 0, 0, 0] u)) ∧
      (p.owned = true → exec .portStatus s = .next (replied c [head,
        w18 ((served.map (·.endpoints)).sum * 64 + served.length), w18 p.reserved, w18 (mine.length - served.length)] u))) ∧
    (Taken 0o0301 anyVariant noAuth s c u → (c.p 1 < 1 ∨ 10 < c.p 1) →
      exec .portStatus s = .next (answer c 3 [] false false u)) ∧
    (Taken 0o0303 anyVariant noAuth s c u → 1 ≤ c.p 1 → c.p 1 ≤ 10 → (portOf (c.p 1 - 1) s).owned = true →
      exec .portDevices s = .next (replied c ((lostDevices (c.p 1 - 1) 0 s).flatMap (fun d => deviceWords d s)) u)) ∧
    (∀ d : OwnedDev, (deviceWords d s).length = 4 ∧ (deviceWords d s).take 3 = [w18 (devLoc d), w18 d.vendor, w18 d.product]) ∧
    (Taken 0o0303 anyVariant noAuth s c u → (c.p 1 < 1 ∨ 10 < c.p 1) →
      exec .portDevices s = .next (answer c 3 [] false false u)) ∧
    (Taken 0o0303 anyVariant noAuth s c u → 1 ≤ c.p 1 → c.p 1 ≤ 10 → (portOf (c.p 1 - 1) s).owned = false →
      exec .portDevices s = .next (answer c 6 [] false false u))

/-- From R192, R194: a PORT.SET_OWNER that changes the owner, without PERSIST, is accepted with the change requested for the next
block boundary; one for the owner that the port has changes no port. PORT.RESET_DEVICE of an attached owned port's tree is
accepted, forgets its devices, drives the reset and waits for their enumeration. From R171 to R173: at a block boundary a requested
change takes its first steps: the port is owned and its two sides show the removal, or it is not owned and its devices are
gone; LE1 drives the reset 1 ms after the reference of a change to owned; a change to pass-through ends 10 ms after its own. From
R192: a PORT.SET_OWNER ends at 2 s though enumeration has not. -/
def Obligations.PortOwnershipChanges : Prop :=
  (∀ (s u : State) (c : Command), longOf 3 s = none → 1 ≤ c.p 1 → c.p 1 ≤ 10 →
    (Taken 0o0302 anyVariant noAuth s c u → c.p 2 ≤ 1 → c.p 3 = 0 → fitted (c.p 1 - 1) s = true →
      cannotOwn (c.p 1 - 1) s = false → zoneHoldsPort (c.p 1 - 1) s = false →
      ((portOf (c.p 1 - 1) s).owned ≠ (c.p 2 == 1) → exec .portSetOwner s = .next { accepted c u with
        own := { s.own with ownerCmd := some (c.p 1 - 1), ownerSame := false }
        ports := listModify s.ports (c.p 1 - 1) (fun p => { p with change := .requested (c.p 2 == 1), ownIgnored := false }) }) ∧
      ((portOf (c.p 1 - 1) s).owned = (c.p 2 == 1) → exec .portSetOwner s = .next { accepted c u with
        own := { s.own with ownerCmd := some (c.p 1 - 1), ownerSame := true } })) ∧
    (Taken 0o0304 anyVariant noAuth s c u → (portOf (c.p 1 - 1) s).owned = true → c.p 2 = 0 →
      (portOf (c.p 1 - 1) s).attached = true →
      ∃ t w, exec .portResetDevice s = .next t ∧ t.own.resetCmd = some (c.p 1 - 1, none) ∧
        (∀ d ∈ t.own.devs, d.port ≠ c.p 1 - 1) ∧ (portOf (c.p 1 - 1) t).enumDone = false ∧
        Out.portReset (c.p 1 - 1 + 1) w ∈ t.out ∧
        Frame [.out, .mbx, .pwr, .sec, .own, .ports, .zon] (fresh s) t)) ∧
  ((∀ (p : DownPort) (s : State), fwRuns s = true → awake s = true → p.val < s.ports.length →
    ((portOf p.val s).change = .requested true → atBlock s = true → cannotOwn p.val s = false → (portOf p.val s).powered = true →
      (portOf p.val s).attached = true →
      ∃ t, exec (.ownershipToOwned p) s = .next t ∧ (portOf p.val t).owned = true ∧ (portOf p.val t).change = .toOwned ∧
        (portOf p.val t).changeRef = s.clk.tick ∧ (portOf p.val t).usb2 = { cConnection := true } ∧
        (portOf p.val t).usb3 = { cConnection := true } ∧ (portOf p.val t).ttPeriodic = 0 ∧ t.clk = s.clk ∧ t.cfg = s.cfg) ∧
    ((portOf p.val s).change = .toOwned → (portOf p.val s).attached = true → (portOf p.val s).speed.isSome = true →
      (portOf p.val s).enumDone = false → (portOf p.val s).ownReset = false → 48 ≤ since (portOf p.val s).changeRef s →
      ∃ t w, exec (.ownershipToOwned p) s = .next t ∧ Out.portReset (p.val + 1) w ∈ t.out ∧ (portOf p.val t).ownReset = true ∧
        Frame [.out, .ports] (fresh s) t) ∧
    ((portOf p.val s).change = .requested false → atBlock s = true →
      ∃ t, exec (.ownershipToPassThrough p) s = .next t ∧ (portOf p.val t).owned = false ∧ (portOf p.val t).change = .toPass ∧
        (portOf p.val t).changeRef = s.clk.tick ∧ (∀ d ∈ t.own.devs, d.port ≠ p.val) ∧ t.clk = s.clk ∧ t.cfg = s.cfg) ∧
    ((portOf p.val s).change = .toPass → 480 ≤ since (portOf p.val s).changeRef s →
      ∃ t, exec (.ownershipToPassThrough p) s = .next t ∧ (portOf p.val t).change = .none ∧ (portOf p.val t).owned = (portOf p.val s).owned ∧
        t.clk = s.clk ∧ t.cfg = s.cfg)) ∧
  (∀ (k : Nat) (s : State), s.own.ownerCmd = some k → (portOf k s).change = .toOwned → 96000 ≤ since (portOf k s).changeRef s →
    exec .ownerChangeTimeout s = .next (groupDone 3 0 { fresh s with own := { s.own with ownerCmd := none } })))

/-- From R176 to R179: a device that answers through the enumeration joins the records with the lowest free address, and the
failed attempts of its place are forgotten; without audio, HID or hub interface it is refused with reason 1, as a hub behind a hub
with reason 6. From R177: the first failed attempt at a place is noted with its tick, in the second the device is refused
with reason 7 and address 0, and within 1 s of the first no attempt is made. -/
def Obligations.EnumerationRecordsDevice : Prop :=
  ∀ (p : DownPort) (h : HubPort) (s : State), p.val < s.ports.length →
    (∀ d : UsbDevice, canEnumerate p.val h.val d.speed s = true →
      ∃ (t : State) (r : OwnedDev), exec (.enumeration p h d) s = .next t ∧ t.own.devs = s.own.devs ++ [r] ∧ r.port = p.val ∧
        r.hubPort = h.val ∧ r.addr = freeAddr s ∧ r.vendor = d.vendor.toNat ∧ r.product = d.product.toNat ∧ r.speed = d.speed ∧
        (h.val ≠ 0 → d.hubPorts.isSome = true → r.reason = 6) ∧
        (d.audio = [] → d.hid = [] → d.hubPorts = none → r.reason = 1) ∧
        (∀ f ∈ (portOf p.val t).failures, f.1 ≠ h.val) ∧ t.clk = s.clk ∧ t.cfg = s.cfg ∧ t.zon = s.zon) ∧
    (∀ (sp : Speed) (how : XferEnd) (ids : Option (BitVec 16 × BitVec 16)), canEnumerate p.val h.val sp s = true →
      ((∀ f ∈ (portOf p.val s).failures, f.1 ≠ h.val) →
        ∃ t, exec (.controlTransferFailure p h sp how ids) s = .next t ∧ t.own = s.own ∧
          (h.val, s.clk.tick) ∈ (portOf p.val t).failures ∧ Frame [.out, .ports, .sw] (fresh s) t) ∧
      ((∃ f ∈ (portOf p.val s).failures, f.1 = h.val) →
        ∃ (t : State) (r : OwnedDev), exec (.controlTransferFailure p h sp how ids) s = .next t ∧ t.own.devs = s.own.devs ++ [r] ∧
          r.reason = 7 ∧ r.addr = 0 ∧ r.port = p.val ∧ r.hubPort = h.val ∧ t.clk = s.clk ∧ t.cfg = s.cfg)) ∧
    (∀ (d : UsbDevice) (f : Nat × Tick), (portOf p.val s).failures.find? (fun f => f.1 == h.val) = some f → since f.2 s < 48000 →
      exec (.enumeration p h d) s = .next (fresh s))

/-- From R187: a detach at an owned port removes every device of its tree. From R185: a report replaces the buttons of its
interface and report ID, and a bound key whose button it changes is delivered with its assertion or release. From R186, R187: a hub's
status poll removes the devices of the ports that changed. From R189, R190: a sleeping device that answers as the cache has it
runs again with no event, and one that does not is forgotten, at the port itself with a reset. -/
def Obligations.OwnedTreeEvents : Prop :=
  (∀ (p : DownPort) (s : State), awake s = true → fwRuns s = true → (portOf p.val s).owned = true →
    (portOf p.val s).attached = true → p.val < s.ports.length →
    ∃ t, exec (.deviceDetach p 0) s = .next t ∧ (∀ d ∈ t.own.devs, d.port ≠ p.val) ∧ (portOf p.val t).attached = false ∧
      t.clk = s.clk ∧ t.cfg = s.cfg) ∧
  (∀ (p : DownPort) (a : BitVec 7) (iface : Nat) (id : Byte) (us : List (BitVec 16)) (d : OwnedDev) (s : State),
    leRuns p.val s = true → devByAddr p.val a.toNat s = some d → d.reason = 0 → d.asleep = false →
    d.hids.any (fun h => h.iface == iface) = true →
    let now := d.buttons.filter (fun b => !(b.1 == iface && b.2.1 == id.toNat)) ++ us.map (fun u => (iface, id.toNat, u.toNat))
    let devs := s.own.devs.map (fun x => if x.port == d.port && x.addr == d.addr then { x with buttons := now } else x)
    (boundKeys d s.own.devs s.own.streams s = [] →
      exec (.hidReport p a ⟨iface, id, us⟩) s = .next { fresh s with own := { s.own with devs := devs } }) ∧
    (∀ b : KeyBinding, boundKeys d s.own.devs s.own.streams s = [b] →
      (d.buttons.any (fun x => x.2.2 == b.usage) = false → now.any (fun x => x.2.2 == b.usage) = true →
        ∃ t, exec (.hidReport p a ⟨iface, id, us⟩) s = .next t ∧ Frame [.own, .zon] (fresh s) t ∧ t.own.devs = devs ∧
          t.zon = { s.zon with occs := s.zon.occs ++ [⟨s.clk.tick, 4, b.number, 0, none⟩] } ∧ (b.number, d.addr) ∈ t.own.keys) ∧
      (d.buttons.any (fun x => x.2.2 == b.usage) = true → now.any (fun x => x.2.2 == b.usage) = false →
        ∃ t, exec (.hidReport p a ⟨iface, id, us⟩) s = .next t ∧ Frame [.own, .zon] (fresh s) t ∧ t.own.devs = devs ∧
          t.zon = { s.zon with occs := s.zon.occs ++ [⟨s.clk.tick, 4, b.number, 1, none⟩] } ∧ (b.number, d.addr) ∉ t.own.keys))) ∧
  (∀ (p : DownPort) (changed conn : BitVec 16) (s : State), leRuns p.val s = true →
    (devsAt p.val 0 s).any (fun d => d.hub && d.reason == 0 && !d.asleep) = true →
    ∃ t, exec (.hubStatusPoll p changed conn) s = .next t ∧ t.clk = s.clk ∧ t.cfg = s.cfg ∧
      (∀ i, 1 ≤ i → i ≤ 15 → bitOf changed.toNat i = true → ∀ d ∈ t.own.devs, ¬(d.port = p.val ∧ d.hubPort = i))) ∧
  (∀ (p : DownPort) (h : HubPort) (s : State), leRuns p.val s = true → resumed s = true →
    (∀ d : OwnedDev, (devsAt p.val h.val s).filter (·.asleep) = [d] → (d.cached = true → s.own.cacheOk = true) →
      ∃ t, exec (.ownedTreeResume p h true) s = .next t ∧ Frame [.out, .own] (fresh s) t ∧
        t.own.devs = s.own.devs.map (fun x => if x == d then { x with asleep := false, cached := false } else x)) ∧
    ((devsAt p.val h.val s).any (·.asleep) = true →
      ∃ t, exec (.ownedTreeResume p h false) s = .next t ∧ (∀ d ∈ t.own.devs, ¬(d.port = p.val ∧ d.hubPort = h.val)) ∧
        (h.val = 0 → ∃ w, Out.portReset (p.val + 1) w ∈ t.out) ∧ t.clk = s.clk ∧ t.cfg = s.cfg))

/-! ## Upstream face and hubs -/

/-- From R143, R303: with VBUS above 2.00 V the face connects with both hubs and the function at their defaults, with no upstream B
on face A; where it may not connect the voltage is read and no more. From R54: between 1.60 V and 2.00 V a face that has VBUS
keeps it. From R144: without upstream B, VBUS below 1.60 V is a disconnect, after which no face is connected, hubs and function are
at their defaults, and the USB path's session is gone. -/
def Obligations.UpstreamConnectAndVbusLoss : Prop :=
  (∀ (mv : Nat) (ss hs : Bool) (s : State), mayConnect s = true → s.hub.connected = false → s.hub.swTo = none →
    upstreamB s = none → 2000 < mv →
    ∃ t, exec (.upstreamConnect mv ss hs) s = .next t ∧ Frame [.hub, .ports] (fresh s) t ∧ t.hub.connected = true ∧
      t.hub.face = some .a ∧ t.hub.vbus = true ∧ t.hub.highSpeed = hs ∧ t.hub.ssLink = (if ss then .u0 else .disabled) ∧
      t.hub.functionUsb3 = ss ∧ t.hub.hub2 = {} ∧ t.hub.hub3 = {} ∧ t.hub.function = {} ∧ t.hub.port11 = {} ∧
      t.hub.feedback = 0x00060000 ∧ t.hub.hostMicro = 0) ∧
  (∀ (mv : Nat) (ss hs : Bool) (s : State), (mayConnect s = false ∨ s.hub.connected = true) →
    (2000 < mv → exec (.upstreamConnect mv ss hs) s = .next { fresh s with hub := { s.hub with vbus := true } }) ∧
    (mv < 1600 → ∃ t, exec (.upstreamConnect mv ss hs) s = .next t ∧ Frame [.hub] (fresh s) t ∧ t.hub.vbus = false ∧
      t.hub.availA = false ∧ t.hub.connected = s.hub.connected) ∧
    (1600 ≤ mv → s.hub.vbus = true → exec (.upstreamConnect mv ss hs) s = .next (fresh s))) ∧
  (∀ s : State, s.hub.connected = true → s.hub.face = some .a → upstreamB s = none →
    ∃ t, exec .upstreamVbusLoss s = .next t ∧ t.hub.connected = false ∧ t.hub.face = none ∧ t.hub.vbus = false ∧
      t.hub.function = {} ∧ t.hub.hub2 = {} ∧ t.hub.hub3 = {} ∧ t.sec.sessU = none ∧ t.sec.sessS = s.sec.sessS ∧ t.clk = s.clk ∧ t.cfg = s.cfg)

/-- From R165: a bus reset returns hubs, function, endpoint buffers, every TT, the USB guard and MBX-U's unfinished transfers to their
defaults, and keeps the face, the other guards, MBX-S, the completion records when no long command runs, and the clock, configuration, memory, messages, audio and
security. From R142: the loss of the SuperSpeed link alone moves the function to the USB 2 hub, where port 11 shows a connection change. -/
def Obligations.BusResetAndFunctionMove : Prop :=
  (∀ s : State, s.hub.connected = true →
    ∃ t, exec .upstreamBusReset s = .next t ∧ t.hub.connected = true ∧ t.hub.face = s.hub.face ∧ t.hub.hub2 = {} ∧ t.hub.hub3 = {} ∧
      t.hub.function = {} ∧ t.hub.altPlay = 0 ∧ t.hub.altCap = 0 ∧ t.hub.altHub = 0 ∧ t.hub.playRing = [] ∧ t.hub.capRing = [] ∧
      t.hub.ram = {} ∧
      t.win.guardUsb = {} ∧ t.win.guardSup = s.win.guardSup ∧ t.win.guardMspi = s.win.guardMspi ∧ t.mbx.usbBytes = [] ∧
      t.mbx.usbOpen = none ∧ t.mbx.inS = s.mbx.inS ∧ (s.mbx.long = [] → t.mbx.doneU = s.mbx.doneU) ∧
      (∀ q ∈ t.mbx.inU, q.part = [] ∧ q.discard = false) ∧ (∀ r ∈ t.mbx.reply, r.path ≠ some .u) ∧
      (∀ p ∈ t.ports, p.ttPeriodic = 0 ∧ p.ttNonPeriodic = 0) ∧
      t.clk = s.clk ∧ t.cfg = s.cfg ∧ t.mem = s.mem ∧ t.msg = s.msg ∧ t.aud = s.aud ∧ t.sec = s.sec ∧ t.pwr.state = s.pwr.state) ∧
  (∀ (dst : LinkState) (s : State), s.hub.connected = true → s.hub.functionUsb3 = true → (dst = .disabled ∨ dst = .inactive) →
    ∃ t, exec (.functionHubMove dst) s = .next t ∧ t.hub.functionUsb3 = false ∧ t.hub.function = {} ∧ t.hub.hub3 = {} ∧
      t.hub.port11 = { cConnection := true } ∧
      t.hub.hub2 = s.hub.hub2 ∧ t.hub.connected = true ∧ t.hub.altPlay = 0 ∧ t.hub.altCap = 0 ∧ t.clk = s.clk ∧ t.cfg = s.cfg)

/-- From R155, R156: GET_STATUS answers wPortStatus and wPortChange of the port; PORT_CONNECTION and PORT_POWER are those of its
situation: port 11, an absent, a forced-off, an owned and a pass-through port, and one that the USB 3 hub lacks. A feature or power
request to a port that the host does not control is acknowledged with no effect; the host's power of a pass-through HS port goes off
with both its sides, and on; a port reset enables the port. Port 0 is no port and meets STALL. The layout of wPortStatus is log entry
25. -/
def Obligations.HubPortRequests : Prop :=
  ∀ (usb3 : Bool) (s : State), hubAnswers usb3 s = true →
    (∀ (n : Fin 12), n.val ≠ 0 → exec (.getPortStatus usb3 n) s = .next { fresh s with
      out := [.usbData (toBytesLE 2 (portStatus usb3 (n.val - 1) s).1 ++ toBytesLE 2 (portStatus usb3 (n.val - 1) s).2)] }) ∧
    (∀ k, let conn := bitOf (portStatus usb3 k s).1 0
      let power := bitOf (portStatus usb3 k s).1 (if usb3 then 9 else 8)
      (situation usb3 k s = .absent → portStatus usb3 k s = (0, 0)) ∧
      (situation usb3 k s = .noPort → conn = false ∧ power = true) ∧
      (situation usb3 k s = .forced → conn = false ∧ power = false) ∧
      (situation usb3 k s = .owned → conn = false ∧ power = true) ∧
      (situation usb3 k s = .internal → conn = (s.hub.functionUsb3 == usb3) ∧ power = true) ∧
      (situation usb3 k s = .pass → conn = (sideOf usb3 (portOf k s)).connection ∧ power = (portOf k s).hostPower)) ∧
    (∀ (n : Fin 12), n.val ≠ 0 → situation usb3 (n.val - 1) s = .owned ∨ situation usb3 (n.val - 1) s = .forced ∨
        situation usb3 (n.val - 1) s = .absent ∨ situation usb3 (n.val - 1) s = .noPort →
      (∀ set f v, exec (.hubFeatureRequest usb3 n set f v) s = .next { fresh s with out := [.handshake .ack] }) ∧
      exec (.setPortPower usb3 n) s = .next { fresh s with out := [.handshake .ack] } ∧
      exec (.clearPortPower usb3 n) s = .next { fresh s with out := [.handshake .ack] }) ∧
    (exec (.getPortStatus usb3 0) s = .next { fresh s with out := [.handshake .stall] }) ∧
    (∀ (n : Fin 12), 5 ≤ n.val → n.val - 1 < s.ports.length → situation usb3 (n.val - 1) s = .pass →
      ∃ t, exec (.clearPortPower usb3 n) s = .next t ∧ (portOf (n.val - 1) t).powered = false ∧ (portOf (n.val - 1) t).hostPower = false ∧
        (portOf (n.val - 1) t).usb2 = {} ∧ (portOf (n.val - 1) t).usb3 = {} ∧ t.clk = s.clk ∧ t.cfg = s.cfg ∧ t.hub.connected = s.hub.connected) ∧
    (∀ (n : Fin 12), 5 ≤ n.val → n.val - 1 < s.ports.length → situation usb3 (n.val - 1) s = .pass →
      (portOf (n.val - 1) s).powered = false →
      ∃ t, exec (.setPortPower usb3 n) s = .next t ∧ Frame [.out, .ports] (fresh s) t ∧ (portOf (n.val - 1) t).hostPower = true ∧
        (portOf (n.val - 1) t).powered = true ∧ (portOf (n.val - 1) t).powerTick = s.clk.tick) ∧
    (∀ (n : Fin 12), n.val ≠ 0 → situation usb3 (n.val - 1) s = .pass → (portOf (n.val - 1) s).hostPower = true →
      n.val - 1 < s.ports.length → (sideOf usb3 (portOf (n.val - 1) s)).connection = true →
      ∃ t, exec (.hubFeatureRequest usb3 n true .reset 0) s = .next t ∧ Frame [.out, .ports] (fresh s) t ∧
        (sideOf usb3 (portOf (n.val - 1) t)).enable = true ∧ (sideOf usb3 (portOf (n.val - 1) t)).cReset = true ∧
        t.out = [.portReset n.val false, .handshake .ack])

/-- From R160: TT requests act on the ports of the hub that are not owned, on all of them with the hub interface at alternate 0;
GET_TT_STATE is answered by STALL. From R162: LPM is answered by ACK, and the link enters L1, only with both streaming interfaces at
alternate 0. From R162, R164: suspend and resume of the face, with both wake causes set on a collision and PORT.REMOTE_WAKE after a
requested wake. From R163: an event of a pass-through device asks for remote wake, on the USB 3 hub under the port's mask: K on a
USB 2.0 upstream, on a SuperSpeed one the U3 exit and Function Wake. -/
def Obligations.TtLpmSuspendResumeWake : Prop :=
  ∀ s : State,
    (∀ p, hubAnswers false s = true → exec (.ttRequest p .getState) s = .next { fresh s with out := [.handshake .stall] }) ∧
    (∀ (p : DownPort) (r : TtRequest), hubAnswers false s = true → r ≠ .getState → (∀ c ∈ s.sw.cells, c.2.refBad = false) →
      ∃ t, exec (.ttRequest p r) s = .next t ∧ Frame [.out, .ports, .sw] (fresh s) t ∧ t.out = [.handshake .ack] ∧
        ∀ k, (k < 10 → (portOf k s).owned = false → (s.hub.altHub = 0 ∨ k = p.val) →
            (r = .reset → (portOf k t).ttPeriodic = 0 ∧ (portOf k t).ttNonPeriodic = 0 ∧ (portOf k t).ttStopped = false) ∧
            (r = .clearBuffer → (portOf k t).ttNonPeriodic = 0 ∧ (portOf k t).ttPeriodic = (portOf k s).ttPeriodic) ∧
            (r = .stop → k < s.ports.length → (portOf k t).ttStopped = true)) ∧
          ((10 ≤ k ∨ (portOf k s).owned = true ∨ (s.hub.altHub ≠ 0 ∧ k ≠ p.val)) → portOf k t = portOf k s)) ∧
    (usbReach s = true →
      (s.hub.altPlay = 0 → s.hub.altCap = 0 → exec .lpmTransaction s = .next { fresh s with
        out := [.handshake .ack], hub := { s.hub with l1 := true } }) ∧
      ((s.hub.altPlay ≠ 0 ∨ s.hub.altCap ≠ 0) → exec .lpmTransaction s = .next { fresh s with out := [.handshake .nyet] })) ∧
    (s.hub.connected = true → s.hub.suspended = false → exec .upstreamSuspend s = .next { fresh s with
      hub := { s.hub with suspended := true, l1 := false, ssLink := if onUsb3 s.hub.ssLink then .u3 else s.hub.ssLink } }) ∧
    (∀ hit, s.hub.connected = true → (s.hub.suspended = true ∨ s.hub.l1 = true) → awake s = true →
      ∀ h, h = { s.hub with
        suspended := false, l1 := false, wakePending := false, wakeReport := false
        absentA := s.hub.absentA && s.hub.face != some .a, absentB := s.hub.absentB && s.hub.face != some .b
        ssLink := if s.hub.ssLink = .u3 then .u0 else s.hub.ssLink } →
      (s.hub.wakeReport = false → exec (.hostResume hit) s = .next { fresh s with hub := h }) ∧
      (s.hub.wakeReport = true → hit = false →
        exec (.hostResume hit) s = .next (post 0o030201 [w18 s.aon.wakeCause.toNat] { fresh s with hub := h })) ∧
      (s.hub.wakeReport = true → hit = true →
        exec (.hostResume hit) s = .next (post 0o030201 [w18 ((s.aon.wakeCause ||| 0x30).toNat + 256)]
          { fresh s with hub := h, aon := { s.aon with wakeCause := s.aon.wakeCause ||| 0x30 } }))) ∧
    (∀ (p : DownPort) (usb3 : Bool) (e : WakeEvent), s.hub.connected = true → s.hub.suspended = true →
      (if usb3 then s.hub.hub3.remoteWake else s.hub.hub2.remoteWake) = true → s.hub.wakePending = false →
      situation usb3 p.val s = .pass →
      ∀ m, m = (sideOf usb3 (portOf p.val s)).wakeMask →
      ((usb3 = false ∨ e = .deviceResume ∨ (e = .connect ∧ bitOf m 0 = true) ∨ (e = .disconnect ∧ bitOf m 1 = true)
          ∨ (e = .overCurrent ∧ bitOf m 2 = true)) →
        exec (.remoteWake ⟨p, usb3⟩ e) s = .next { fresh s with
          out := if onUsb3 s.hub.ssLink then [.wakeU3Exit, .functionWake] else [.wakeK]
          hub := { s.hub with wakePending := true, wakeReport := true } }) ∧
      (usb3 = true → ((e = .connect ∧ bitOf m 0 = false) ∨ (e = .disconnect ∧ bitOf m 1 = false)
          ∨ (e = .overCurrent ∧ bitOf m 2 = false)) → exec (.remoteWake ⟨p, usb3⟩ e) s = .next (fresh s)))

/-- From R158: an over-current on an HS port lowers Hn_PWREN; a pass-through port enters Powered-off with its over-current
change set, an owned one waits for its repower, or stays off after the third within 60 s. The first 20 ms after Hn_PWREN rises
are ignored. One second later an owned port is powered again. From R159: PORT.POWER on an HS port: ALLOW ends FORCE_OFF and the
over-current latch, FORCE_OFF and CYCLE power the port off, and the end of a cycle's time ends FORCE_OFF. The result of FORCE_OFF shows
FORCED_OFF. -/
def Obligations.HsPowerAndOverCurrent : Prop :=
  (∀ (p : HsPort) (s : State), fwRuns s = true → p.val + 4 < s.ports.length →
    ((portOf (p.val + 4) s).powered = true → 960 ≤ since (portOf (p.val + 4) s).powerTick s → (portOf (p.val + 4) s).owned = false →
      ∃ t, exec (.hsOverCurrent p) s = .next t ∧ (portOf (p.val + 4) t).powered = false ∧ (portOf (p.val + 4) t).ocLow = true ∧
        (portOf (p.val + 4) t).hostPower = false ∧ (portOf (p.val + 4) t).usb2 = { cOverCurrent := true } ∧
        (portOf (p.val + 4) t).usb3 = {} ∧ t.clk = s.clk ∧ t.cfg = s.cfg) ∧
    ((portOf (p.val + 4) s).powered = true → 960 ≤ since (portOf (p.val + 4) s).powerTick s → (portOf (p.val + 4) s).owned = true →
      ∃ t, exec (.hsOverCurrent p) s = .next t ∧ (portOf (p.val + 4) t).powered = false ∧ (portOf (p.val + 4) t).ocLow = true ∧
        ((portOf (p.val + 4) t).ocLatch = true ↔
          2 ≤ ((portOf (p.val + 4) s).ocTimes.filter (fun x => decide (since x s ≤ 2880000))).length) ∧
        (portOf (p.val + 4) t).repower = !(portOf (p.val + 4) t).ocLatch ∧ t.clk = s.clk ∧ t.cfg = s.cfg) ∧
    (since (portOf (p.val + 4) s).powerTick s < 960 → exec (.hsOverCurrent p) s = .next (fresh s)) ∧
    (∀ x rest, (portOf (p.val + 4) s).owned = true → (portOf (p.val + 4) s).repower = true → (portOf (p.val + 4) s).ocLatch = false →
      (portOf (p.val + 4) s).forceOff = false → (portOf (p.val + 4) s).powered = false → (portOf (p.val + 4) s).ocTimes = x :: rest →
      48000 ≤ since x s → fitted (p.val + 4) s = true → s.cfg.active.isSome = true → powerAllowed (p.val + 4) s = true →
      ∃ t, exec (.ownedPortRepower p) s = .next t ∧ Frame [.ports] (fresh s) t ∧ (portOf (p.val + 4) t).powered = true ∧
        (portOf (p.val + 4) t).repower = false ∧ (portOf (p.val + 4) t).powerTick = s.clk.tick)) ∧
  ((∀ (s u : State) (c : Command), 5 ≤ c.p 1 → c.p 1 ≤ 10 → fitted (c.p 1 - 1) s = true → c.p 1 - 1 < s.ports.length →
    (Taken 0o0305 (fun c => c.p 2 != 1 && c.p 2 != 2) noAuth s c u → c.p 2 = 0 → c.p 3 = 0 →
      ∃ v, v = allowPower (c.p 1 - 1) u ∧ exec .portPowerAllow s = .next (replied c [powerWord (c.p 1 - 1) v] v) ∧
        (portOf (c.p 1 - 1) v).forceOff = false ∧ (portOf (c.p 1 - 1) v).ocLatch = false) ∧
    (Taken 0o0305 (fun c => c.p 2 == 1) noAuth s c u → c.p 3 = 0 →
      ∃ v, exec .portPowerForceOff s = .next (replied c [powerWord (c.p 1 - 1) v] v) ∧ (portOf (c.p 1 - 1) v).forceOff = true ∧
        (portOf (c.p 1 - 1) v).powered = false ∧ (portOf (c.p 1 - 1) v).cycleEnd = none ∧ (powerWord (c.p 1 - 1) v).toNat / 4 = 1) ∧
    (Taken 0o0305 (fun c => c.p 2 == 2) noAuth s c u → 100 ≤ c.p 3 → c.p 3 ≤ 10000 →
      ∃ v, exec .portPowerCycle s = .next (replied c [powerWord (c.p 1 - 1) v] v) ∧ (portOf (c.p 1 - 1) v).forceOff = true ∧
        (portOf (c.p 1 - 1) v).powered = false ∧
        (portOf (c.p 1 - 1) v).cycleEnd = some (s.clk.tick + BitVec.ofNat 54 (c.p 3 * 48)))) ∧
  (∀ (p : DownPort) (e : Tick) (s : State), (portOf p.val s).cycleEnd = some e → fwRuns s = true → e.toNat ≤ s.clk.tick.toNat →
    p.val < s.ports.length → 4 ≤ p.val →
    ∃ t, exec (.portPowerCycleEnd p) s = .next t ∧ Frame [.ports] (fresh s) t ∧ (portOf p.val t).forceOff = false ∧
      (portOf p.val t).cycleEnd = none))

/-- From R145: SET_ADDRESS to the three devices, a string of the function and the USB 2 hub's class descriptor; those to the function
cross the core, and a data stage stands in the buffer of endpoint 0 (R25, R151). From R152, R153: a selected alternate setting of a
streaming interface empties its ring; a playback packet of whole frames that fits is stored, and any other, or one without
cells, is dropped and counted. From R150, R153: a capture token takes up to 7 frames as 3-byte subslots, the sample in [23:6]. From
R154: the feedback value is round(cycles × 65 536 / 640 000) after 128 microframes and nominal before, and is sent least significant
byte first. The descriptors and the standard requests' answers are the model's (log 25). -/
def Obligations.FunctionRequestsAndStreams : Prop :=
  ∀ s : State, usbReach s = true →
    (∀ (v : BitVec 16) (t : UsbTarget) (w : State), (t = .hub3 → hubAnswers true s = true) →
      (t = .function → s.hub.port11.suspend = false ∧ coreRoom .ctrl 11 1 1 s = true ∧ w = crossCore .ctrl 1 1 (fresh s)) →
      (t ≠ .function → w = fresh s) →
      exec (.standardDeviceRequest t ⟨0x00, 5, v, 0, 0⟩) s =
        .next (emit (.handshake .ack) (setUsbDev t { usbDevOf t w with address := v.toNat % 128 } w))) ∧
    (s.hub.port11.suspend = false → coreRoom .ctrl 11 1 1 s = true →
      exec (.standardDeviceRequest .function ⟨0x80, 6, 0x0301, 0, 255⟩) s = .next (emit
        (.usbData [18, 3, 65, 0, 101, 0, 108, 0, 98, 0, 117, 0, 108, 0, 97, 0, 114, 0])
        (fillControl [18, 3, 65, 0, 101, 0, 108, 0, 98, 0, 117, 0, 108, 0, 97, 0, 114, 0] (crossCore .ctrl 1 1 (fresh s))))) ∧
    (exec (.standardDeviceRequest .hub2 ⟨0xA0, 6, 0x2900, 0, 255⟩) s = .next (emit
      (.usbData [0x0B, 0x29, 0x0B, 0x0D, 0x00, 0x0A, 0x00, 0x00, 0x08, 0xFF, 0xFF])
      (fillControl [0x0B, 0x29, 0x0B, 0x0D, 0x00, 0x0A, 0x00, 0x00, 0x08, 0xFF, 0xFF] (fresh s)))) ∧
    (s.hub.function.configured = true → (s.hub.functionUsb3 = true ∨ s.hub.highSpeed = true) →
      exec (.setInterface 1 1) s = .next { fresh s with out := [.handshake .ack], hub := { s.hub with altPlay := 1, playRing := [], playRunning := false } } ∧
      exec (.setInterface 2 1) s = .next { fresh s with out := [.handshake .ack], hub := { s.hub with altCap := 1, capRing := [] } }) ∧
    (∀ (i a : Fin 5), i.val ≠ 4 → s.hub.function.configured = false →
      exec (.setInterface i a) s = .next { fresh s with out := [.handshake .stall] }) ∧
    (∀ (bytes : List Byte) (n : Nat), s.hub.function.configured = true → s.hub.port11.suspend = false → s.hub.altPlay = 1 →
      bytes.length = 288 * n → s.hub.playRing.length + n ≤ 56 →
      (coreRoom .iso 0 0x800 (cellCount bytes.length) s = true →
        ∀ w, w = crossCore .iso 0x800 (cellCount bytes.length) (fresh s) →
        exec (.playbackPacket bytes) s = .next { w with hub := { w.hub with
          playRing := w.hub.playRing ++ playFrames n ((subslots bytes).map subslotSample) } }) ∧
      (coreRoom .iso 0 0x800 (cellCount bytes.length) s = false →
        exec (.playbackPacket bytes) s = .next (countStream 0 0 1 0 1 0 (fresh s)))) ∧
    (∀ bytes : List Byte, s.hub.function.configured = true → s.hub.port11.suspend = false → s.hub.altPlay = 1 →
      (bytes.length % 288 ≠ 0 ∨ 56 < s.hub.playRing.length + bytes.length / 288) →
      exec (.playbackPacket bytes) s = .next (countStream 0 0 1 0 1 0 (fresh s))) ∧
    (s.hub.function.configured = true → s.hub.port11.suspend = false → s.hub.altCap = 1 →
      ∀ bs, bs = (s.hub.capRing.take 7).flatMap (fun f => f.flatMap (fun x => toBytesLE 3 (x.toNat * 64))) →
      coreRoom .iso 11 1 (cellCount bs.length) s = true →
      exec .captureInToken s = .next (emit (.capturePacket bs)
        (crossCore .iso 1 (cellCount bs.length) { fresh s with hub := { s.hub with capRing := s.hub.capRing.drop 7 } }))) ∧
    (∀ (cycles : Nat) (missed : Bool) (v : Nat),
      v = (if missed = true ∨ s.hub.hostMicro + 8 < 128 then 393216 else (2 * (cycles * 65536) + 640000) / 1280000) →
      exec (.feedbackRefresh cycles missed) s = .next { fresh s with
        out := if s.hub.function.configured = true ∧ s.hub.altPlay = 1 then [.feedback (toBytesLE 4 v)] else []
        hub := { s.hub with
          hostMicro := s.hub.hostMicro + 8, feedback := v, ram := { s.hub.ram with feedback := toBytesLE 4 v } } })

/-- From R299: a face without HS traffic is host-absent when the probe finds no host, and is then not available; one with HS traffic
is present. From R302: a face that carries no upstream becomes available when its conditions hold, and stops being so. From R300, R306:
the loss of the face that carries the upstream, by a criterion that holds, leaves it and names the other when available; without a
criterion nothing is lost. From R306, R312: a switch-over to an available face connects there and its command, if one waits, has ended.
From R310: automatic return begins when A has stayed available for RETURN_TIME. From R312: SYS.UPSTREAM_SELECT is due 5 ms after its
acceptance. -/
def Obligations.GalliardFaces : Prop :=
  (∀ (s : State), flexRuns s = true →
    (s.hub.face = some .b → exec (.hostAbsent .a false) s = .next { fresh s with hub := { s.hub with absentA := false } }) ∧
    (s.hub.face = some .b → exec (.hostAbsent .a true) s = .next { fresh s with hub := { s.hub with
      absentA := true, availA := false, availSince := none, sinceA := if s.hub.availA then s.hub.sinceA else s.clk.tick } }) ∧
    (s.hub.face = some .a → exec (.hostAbsent .b true) s = .next { fresh s with hub := { s.hub with
      absentB := true, availB := false, sinceB := if s.hub.availB then s.hub.sinceB else s.clk.tick } }) ∧
    (∀ f, hsTraffic f s = true → exec (.hostAbsent f true) s = exec (.hostAbsent f false) s)) ∧
  (∀ (s : State), awake s = true → fwRuns s = true → (upstreamB s).isSome = true → carries .a s = false →
    (s.hub.vbus = true → s.hub.absentA = false → s.hub.availA = false → exec (.faceAvailable .a true) s = .next { fresh s with
      hub := { s.hub with availA := true, sinceA := s.clk.tick, availSince := some s.clk.tick } }) ∧
    (exec (.faceAvailable .a false) s = .next { fresh s with hub := { s.hub with
      availA := false, availSince := none, sinceA := if s.hub.availA then s.hub.sinceA else s.clk.tick } })) ∧
  (∀ (n : Nat) (s : State), awake s = true → fwRuns s = true → upstreamB s = some n → carries .b s = false → s.hub.availB = false →
    s.hub.absentB = false → (flexAt n s).role = .sinkB → 4400 ≤ (flexAt n s).vbus →
    exec (.faceAvailable .b true) s = .next { fresh s with hub := { s.hub with availB := true, sinceB := s.clk.tick } }) ∧
  (∀ (s : State), watchesLoss s = true → s.hub.face = some .a →
    (s.hub.availB = true →
      (s.hub.vbus = false ∨ (s.hub.ssLink ≠ .u0 ∧ s.hub.ssLink ≠ .recovery ∧ hostAbsent .a s = true)) →
      ∃ t, exec .faceLoss s = .next t ∧ t.hub.connected = false ∧ t.hub.face = none ∧ t.hub.autoArmed = true ∧
        t.hub.swTo = some (some .a, some .b, 0) ∧ t.win.guardUsb = {} ∧ t.sec.sessU = none ∧ t.clk = s.clk ∧ t.cfg = s.cfg) ∧
    (s.hub.vbus = true → (s.hub.ssLink = .u0 ∨ s.hub.ssLink = .recovery ∨ s.hub.absentA = false) →
      exec .faceLoss s = .next (fresh s))) ∧
  (∀ (old : Option Face) (dst : Face) (reason : Nat) (ss hs : Bool) (s : State), s.hub.swTo = some (old, some dst, reason) →
    awake s = true → (reason ≤ 1 ∨ (atBlock s = true ∧ s.hub.swFrom.toNat ≤ s.clk.tick.toNat)) → available dst s = true →
    ∃ t, exec (.switchOver ss hs) s = .next t ∧ t.hub.connected = true ∧ t.hub.face = some dst ∧ t.hub.swTo = none ∧
      t.hub.highSpeed = hs ∧ t.hub.functionUsb3 = ss ∧ t.hub.swCmd = false ∧ t.clk = s.clk ∧ t.cfg = s.cfg) ∧
  (∀ (x : Tick) (s : State), s.hub.availSince = some x → watchesLoss s = true → carries .b s = true → s.hub.availA = true →
    param 448 2 0 s = 1 → s.hub.autoArmed = true → s.hub.swTo = none → param 448 3 60 s * 48000 ≤ since x s →
    exec .autoReturn s = .next { fresh s with hub := { s.hub with swTo := some (some .b, some .a, 3), swFrom := s.clk.tick } }) ∧
  (∀ (s u : State) (c : Command), Taken 0o0106 anyVariant noAuth s c u → longOf 1 s = none → s.hub.swTo = none →
    (c.p 1 = 0 ∧ available .a s = true ∧ carries .a s = false ∨
      c.p 1 = 1 ∧ (upstreamB s).isSome = true ∧ available .b s = true ∧ carries .b s = false) →
    exec .sysUpstreamSelect s = .next { accepted c u with hub := { s.hub with
      swCmd := true, swTo := some (s.hub.face, some (if c.p 1 = 0 then .a else .b), 2), swFrom := s.clk.tick + 240 } })

/-! ## Resets and start -/

/-- From R437, R440, R454: what the three chip-level resets keep. Power-on reset keeps flash, OTP, straps as sampled and the levels
outside alone; RESET_N of 1 microsecond also the AON persistent set, with its own cause bit and the RTC advanced over the slow-clock
periods (R64); one below 100 ns is ignored, and between them either happens. A warm chip reset applies the posted writes (log 41), keeps
vault, sessions, the AON domain, the power and owner of ports, straps and the CTI, and loses queues, the pending set and audio state; the
boot ROM then runs, or waits for the root PLL where the reference had returned (R72). -/
def Obligations.ResetsKeepWhatSurvives : Prop :=
  (∀ (v33 vc ns : Nat) (st : Straps) (s : State), (v33 < 2650 ∨ vc < 470) → 2000 ≤ ns →
    ∃ t, exec (.powerOnReset v33 vc ns st) s = .next t ∧ t.boot = { straps := st } ∧ t.mem = { flash := s.mem.flash } ∧
      t.sec = { otp := s.sec.otp } ∧ t.clk = { refOk := s.clk.refOk } ∧ t.hub = { vbus := s.hub.vbus } ∧ t.aon = {} ∧ t.win = {} ∧
      t.mbx = {} ∧ t.flt = {} ∧ t.cfg = {} ∧ t.ports = State.reset.ports ∧ t.own = {} ∧ t.sw = {} ∧ t.aud = {} ∧ t.zon = {} ∧
      t.msg = {} ∧ t.flex = State.reset.flex ∧ t.rails = {} ∧ t.snap = {} ∧ t.pwr = {} ∧ t.pav = {}) ∧
  (∀ (v33 vc ns : Nat) (st : Straps) (s : State), ((2650 ≤ v33 ∧ 470 ≤ vc) ∨ ns < 2000) →
    exec (.powerOnReset v33 vc ns st) s = .next (fresh s)) ∧
  (∀ (ns periods : Nat) (st : Straps) (s : State), 1000 ≤ ns →
    ∃ t, exec (.resetN ⟨periods, ns⟩ st) s = .next t ∧ t.aon =
        { tampStat := s.aon.tampStat, rstCause := s.aon.rstCause ||| 2, rtcSub := (s.aon.rtcSub + periods) % 32000
          rtcSec := s.aon.rtcSec + BitVec.ofNat 36 ((s.aon.rtcSub + periods) / 32000), safeActive := s.aon.safeActive
          safeLatched := s.aon.safeLatched, recov := s.aon.recov, hist := s.aon.hist } ∧
      t.boot = { straps := st } ∧ t.mem = { flash := s.mem.flash } ∧ t.sec = { otp := s.sec.otp } ∧ t.clk = { refOk := s.clk.refOk } ∧
      t.mbx = {} ∧ t.cfg = {} ∧ t.ports = State.reset.ports ∧ t.own = {} ∧ t.aud = {} ∧ t.zon = {} ∧ t.msg = {} ∧
      t.flex = State.reset.flex ∧ t.pwr = {} ∧ t.pav = {}) ∧
  (∀ (ns periods : Nat) (st : Straps) (s : State), ns < 100 → exec (.resetN ⟨periods, ns⟩ st) s = .next (fresh s)) ∧
  (∀ (ns periods : Nat) (st : Straps) (s : State), 100 ≤ ns → ns < 1000 →
    exec (.resetN ⟨periods, ns⟩ st) s = .next { fresh s with free := s.free + 1 } ∨
    exec (.resetN ⟨periods, ns⟩ st) s = exec (.resetN ⟨periods, 1000⟩ st) { s with free := s.free + 1 }) ∧
  (∀ s : State, fwRuns s = true → awake s = true → s.boot.warmReq ≠ [] → s.boot.straps = ⟨false, false, false⟩ →
    ∃ t, exec .warmChipReset s = .next t ∧ t.boot.warmBusy = true ∧ t.boot.warmReq = [] ∧ t.boot.straps = s.boot.straps ∧
      (s.clk.relock = false → t.boot.phase = .bootRom ∧ .xspiReset ∈ t.out) ∧
      (s.clk.relock = true → t.boot.phase = .oscillator ∧ t.clk.rootLocked = false ∧ t.clk.slowRc = true) ∧
      (∀ a, a = (drainPosted (fresh s)).aon →
        t.aon = { a with rstCause := t.aon.rstCause, safeQuiet := false } ∧ a.rstCause &&& t.aon.rstCause = a.rstCause) ∧
      t.win.posted = [] ∧ t.clk.tick = s.clk.tick ∧ t.mem.flash = s.mem.flash ∧ t.sec.otp = s.sec.otp ∧ t.sec.hak = s.sec.hak ∧
      t.sec.sessU = s.sec.sessU ∧ t.sec.sessS = s.sec.sessS ∧ t.cfg.active = s.cfg.active ∧ t.cfg.overlay = s.cfg.overlay ∧
      t.cfg.pending = [] ∧ t.mbx = {} ∧ t.aud = {} ∧ t.pwr = {} ∧ t.pav = {} ∧ t.hub.connected = false ∧
      t.ports.map (fun p => (p.owned, p.powered, p.forceOff)) = s.ports.map (fun p => (p.owned, p.powered, p.forceOff)) ∧
      t.flex.map (·.energy) = s.flex.map (·.energy))

/-- From R44, R45, R59, R447: when the root PLL locks on the reference the boot ROM runs under the straps: factory test, a halt with the
strap bit, the loader, or a boot from flash, each but the first after the flash's reset; the slow-clock periods until then have passed on
the RC oscillator (R64), as many as a free value says (log 3). From R428: the boot ROM runs the firmware that it selects, or halts. From R447: a LOADER.DATA packet is staged
in Stash and answered OK; one beyond the bounds is BAD_PARAM. LOADER.RUN of a bundle that R428 accepts answers OK and runs it, and of
another answers AUTH_FAIL and clears the staging area. From R276: a loaded firmware rebuilds a directory of which no copy is correct. -/
def Obligations.BootRomAndLoader : Prop :=
  (∀ (n : BitVec 9) (s u : State), s.boot.phase = .oscillator → s.clk.refOk = true → n = Config.freeBits 9 s.free →
    u = timeToLock n.toNat { fresh s with free := s.free + 1 } →
    ∃ t, exec .rootPllLock s = .next t ∧ Frame [.out, .free, .clk, .boot, .aon, .win, .mbx, .flt, .hub, .zon, .pwr] (fresh s) t ∧
      t.clk = { u.clk with rootLocked := true, ssLocked := true, slowRc := false, relock := false } ∧
      (s.boot.fromHibernate = false → t.clk.tick = s.clk.tick) ∧ (s.boot.straps.testEn = false → .xspiReset ∈ t.out) ∧
      t.boot.phase = (if s.boot.straps.testEn then .factory else if s.boot.straps.boot1 then
        (if s.boot.straps.boot0 then .halted else .loader) else .bootRom) ∧
      t.aon = (if s.boot.straps.testEn = false ∧ s.boot.straps.boot1 = true ∧ s.boot.straps.boot0 = true
        then { u.aon with rstCause := u.aon.rstCause ||| 0x20 } else u.aon)) ∧
  (∀ s : State, (s.boot.phase ≠ .oscillator ∨ s.clk.refOk = false) → exec .rootPllLock s = .next (fresh s)) ∧
  (∀ (a b : Bool) (s : State), s.boot.phase = .bootRom →
    (∀ fw, selectFirmware a b s = some fw →
      exec (.bootRomStart a b) s = .next { fresh s with boot := { s.boot with phase := .verified, fw := some fw } }) ∧
    (selectFirmware a b s = none → exec (.bootRomStart a b) s = .next { fresh s with boot := { s.boot with phase := .halted } })) ∧
  (∀ (k : Nat) (c : Command) (s w : State), loaderTakes 0o7701 (fresh s) = some (k, c) → w = takeLoader k (fresh s) →
    (1 ≤ c.p 3 → c.p 3 ≤ 480 → c.p 1 + 2 ^ 18 * c.p 2 + c.p 3 ≤ 2031616 →
      exec .loaderData s = .next (postReply c 0 [] { w with mem := { s.mem with
        stash := Memory.writeBytes stashErased s.mem.stash (stashAddr 1 0 + (c.p 1 + 2 ^ 18 * c.p 2)) ((pairBytes (c.params.drop 3)).take (c.p 3)) } })) ∧
    ((c.p 3 < 1 ∨ 480 < c.p 3 ∨ 2031616 < c.p 1 + 2 ^ 18 * c.p 2 + c.p 3) → exec .loaderData s = .next (postReply c 3 [] w))) ∧
  (∀ (k : Nat) (c : Command) (b : List Byte) (s w : State), loaderTakes 0o7702 (fresh s) = some (k, c) → w = takeLoader k (fresh s) →
    b = stashBytes (stashAddr 1 0) (min (c.p 1 + 2 ^ 18 * c.p 2) 2031616) s →
    (acceptFirmware b s.sec.otp.antiroll s = true → bundleLen b ≤ c.p 1 + 2 ^ 18 * c.p 2 →
      exec .loaderRun s = .next (postReply c 0 [] { w with boot := { s.boot with phase := .verified, fw := some (fwInfoOf 2 b) } })) ∧
    ((acceptFirmware b s.sec.otp.antiroll s = false ∨ c.p 1 + 2 ^ 18 * c.p 2 < bundleLen b) →
      exec .loaderRun s = .next (postReply c 5 [] { w with mem := { s.mem with
        stash := Memory.erase s.mem.stash (stashAddr 1 0) (9 * 6 * 65536) } }))) ∧
  (∀ (fw : FwInfo) (s : State), s.boot.phase = .verified → s.boot.fw = some fw → fw.source = 2 → directory s = none →
    s.boot.rebuilt = false → ∃ t, exec .directoryRebuilt s = .next t ∧ t.boot.rebuilt = true ∧ t.boot.phase = .verified ∧
      t.clk = s.clk ∧ t.cfg = s.cfg)

/-- From R441: the firmware's start arms the watchdog and notes the reset cause, and finds an image or runs unconfigured, with no table in
force and no port owned or powered (R131). From R130: an image takes effect at a block boundary; in a start the device then runs. From
R132: a reload that was due reads the slots again, but for one that is being written, and takes the newest image that passes. -/
def Obligations.FirmwareStartAndActivation : Prop :=
  (∀ (a b : Bool) (s : State), s.boot.phase = .verified → (directory s).isSome = true →
    ∃ t, exec (.firmwareStart a b) s = .next t ∧ t.boot.wdArmed = true ∧ t.boot.lastKick = s.clk.tick ∧
      (s.boot.warmBusy = false → t.boot.causeAtStart = s.aon.rstCause) ∧ t.boot.fw = s.boot.fw ∧ t.clk = s.clk ∧
      ((t.boot.phase = .starting ∧ t.cfg.next.isSome = true) ∨ (t.boot.phase = .running ∧ t.cfg.unconfigured = true ∧
        t.cfg.active = none ∧ t.cfg.live = [] ∧ ∀ k < 10, (portOf k t).owned = false ∧ (portOf k t).powered = false))) ∧
  (∀ (img : Image) (s : State), s.cfg.next = some img → fwRuns s = true → awake s = true → entering s = false → atBlock s = true →
    (s.boot.phase = .starting ∨ s.clk.lastBlock ≠ some s.clk.tick) →
    ∃ t, exec .ctiActivation s = .next t ∧ t.cfg.unconfigured = false ∧ t.cfg.active = some img.slot ∧ t.cfg.gen = img.gen ∧
      t.cfg.crc = img.crc ∧ t.cfg.signed = img.tables ∧ t.cfg.next = none ∧ t.boot.ctiUp = true ∧ t.clk.tick = s.clk.tick ∧
      (s.boot.phase = .starting → t.boot.phase = .running ∧ t.boot.started = true ∧ t.boot.warmBusy = false)) ∧
  (∀ (a b : Bool) (s : State), s.cfg.reloading = true → s.cfg.next = none → s.boot.phase = .running → awake s = true →
    ∃ t, exec (.ctiReload a b) s = .next t ∧
      t.cfg.next = newestImage (checkSlots a b ([0, 1].filter (fun k => slotOpen s != some k)) (fresh s)).1 ∧
      t.cfg.nextIsLoad = false ∧ t.cfg.active = s.cfg.active ∧ t.cfg.live = s.cfg.live ∧ t.clk = s.clk)

/-! ## Watchdog, clocks and time -/

/-- From R438, R439: a kick missing for 10 ms raises its source once, and one missing for 100 ms requests a warm chip reset, or sets its
cause bit while one is in progress. From R40: the first kick after an activation frees FAULT_ALIVE. From R71, R72: a failed
check of the reference takes the PLLs that hang on it out of lock and AON to the RC oscillator, and its return requests the reset in which
the root PLL relocks. From R63: the RC oscillator is trimmed in SLEEP, after the periods that passed. From R66: at every microframe, 6
ticks, an HS port's frame timer issues SOF and a SuperSpeed one's a timestamp. -/
def Obligations.WatchdogClocksAndFrames : Prop :=
  ∀ s : State,
    (s.boot.wdArmed = true → s.boot.kickMissed = false → 480 ≤ since s.boot.lastKick s →
      exec .watchdogKickMissed s = .next (raiseFault 0o0160 { fresh s with boot := { s.boot with kickMissed := true } })) ∧
    (s.boot.wdArmed = true → 4800 ≤ since s.boot.lastKick s →
      (s.boot.warmBusy = false → exec .watchdogReset s = .next { fresh s with boot := { s.boot with warmReq := s.boot.warmReq ++ [.watchdog] } }) ∧
      (s.boot.warmBusy = true → exec .watchdogReset s = .next { fresh s with aon := { s.aon with rstCause := s.aon.rstCause ||| 4 } })) ∧
    (s.boot.phase = .running → s.boot.ctiUp = true → exec .firstWatchdogKick s =
      .next { fresh s with boot := { s.boot with lastKick := s.clk.tick, kickMissed := false, aliveOk := true } }) ∧
    (awake s = true → s.clk.rootLocked = true → ∀ k : Fin 5, ∃ t, exec (.clockMonitorFault k) s = .next t ∧
      t.clk = (if k.val = 0 then { s.clk with refOk := false, ssLocked := false, slowRc := true, relock := false }
        else if k.val = 2 then { s.clk with ssLocked := false } else s.clk) ∧
      Frame [.clk, .out, .boot, .aon, .mbx, .flt, .hub, .zon] (fresh s) t) ∧
    (s.clk.refOk = false → s.clk.rootLocked = true → s.boot.warmBusy = false → exec .referenceRestored s = .next { fresh s with
      clk := { s.clk with refOk := true, relock := true }, boot := { s.boot with warmReq := s.boot.warmReq ++ [.fault] } }) ∧
    (s.clk.rootLocked = false → exec .referenceRestored s = .next { fresh s with clk := { s.clk with refOk := true } }) ∧
    (s.pwr.state = .sleep → exec .rcRetrim s = .next { fresh s with clk := { s.clk with rcTrims := s.clk.rcTrims + 1 } }) ∧
    (s.clk.tick.toNat % 6 = 0 → ∃ t, exec .microframeStart s = .next t ∧ Frame [.out] (fresh s) t ∧
      (∀ k < 10, frameTimerRuns k s = true → (portOf k s).speedOn false = some .hs →
        .sof (k + 1) (s.clk.tick.toNat / 48 % 2048) (s.clk.tick.toNat / 6 % 8) ∈ t.out) ∧
      (∀ k < 10, frameTimerRuns k s = true → ((portOf k s).speedOn true).isSome = true →
        .timestamp (k + 1) (s.clk.tick.toNat / 48 % 2048) (s.clk.tick.toNat / 6 % 8) ∈ t.out))

/-! ## Faults and safe state -/

/-- From R390, R393, R396, R401, R402: one newly latched fault counts and takes the configured severity, one higher for each other
unacknowledged source of its class in the cluster; from severity 1 on it is unacknowledged and heads the history, at severity 5 safe
state is active, and at severity 4 a warm chip reset is requested. -/
def Obligations.NewFaultIsAppliedAtItsSeverity : Prop :=
  ∀ (src : BitVec 12) (s : State) (cls sev : Nat) (fn line : Bool), sourceDef src.toNat = some (cls, sev, fn) → blockOff src s = false →
    isUnacked src s = false →
    let conf := (sevEntry src.toNat s).vote.toNat % 8
    let v := appliedSeverity src conf (sameClassUnacked src s)
    ∃ t, exec (.faultLatch [(src, line)]) s = .next t ∧ Frame [.out, .boot, .aon, .mbx, .flt, .hub, .zon] (fresh s) t ∧
      lookupD t.flt.counts src.toNat 0 = min 262143 (lookupD s.flt.counts src.toNat 0 + 1) ∧
      (v = 0 → t.flt.unacked = s.flt.unacked ∧ t.aon = s.aon) ∧
      (v ≠ 0 → t.flt.unacked = s.flt.unacked ++ [⟨src, v, s.clk.tick⟩] ∧
        t.aon.hist = (⟨BitVec.ofNat 34 (s.clk.tick.toNat / 16), src, BitVec.ofNat 4 cls, BitVec.ofNat 3 v, decide (0 < sameClassUnacked src s)⟩
          :: s.aon.hist).take 16) ∧
      (v = 5 → t.aon.safeActive = true) ∧ (v ≠ 5 → t.aon.safeActive = s.aon.safeActive) ∧
      (v = 4 → s.boot.warmBusy = false → src ≠ 0o0160 → t.boot.warmReq = s.boot.warmReq ++ [.fault])

/-- R392: a source that faults again while its earlier fault is unacknowledged makes a repeat: its occurrence count increments
(R402 holds it at 262 143) and its AUTO_ACK time restarts. No history entry, no event, no reaction and no escalation. A repeat
of a source applied at severity 5 restarts the quiet period while safe state is active. -/
def Obligations.RepeatedFaultOnlyCounts : Prop :=
  ∀ (src : BitVec 12) (line : Bool) (s : State), (sourceDef src.toNat).isSome = true → blockOff src s = false → isUnacked src s = true →
    ∃ t, exec (.faultLatch [(src, line)]) s = .next t ∧ Frame [.flt] (fresh s) t ∧
      lookupD t.flt.counts src.toNat 0 = min 262143 (lookupD s.flt.counts src.toNat 0 + 1) ∧
      t.flt.unacked = s.flt.unacked.map (fun u => if u.source = src then { u with last := s.clk.tick } else u) ∧
      ((∀ u ∈ s.flt.unacked, u.source = src → u.severity ≠ 5) → t.flt.quietFrom = s.flt.quietFrom ∧ t.flt.quietMs = s.flt.quietMs) ∧
      ((∃ u ∈ s.flt.unacked, u.source = src ∧ u.severity = 5) → s.aon.safeActive = true → t.flt.quietFrom = s.clk.tick)

/-- From R391, R397, R398, R400, R406: SAFE.STATUS, LOG.HISTORY and LOG.READ; SAFE.ENTER makes safe state active, or holds it;
SAFE.RELEASE waits for the boundary, where it ends safe state or answers STATE after a counting fault of its block;
SAFE.SET_QUIET sets the values of the next quiet period, and with PERSIST records them. -/
def Obligations.SafeAndLogCommands : Prop :=
  ∀ (s u : State) (c : Command),
    (Taken 0o1101 anyVariant needsAuth s c u → exec .safeStatus s = .next (replied c
      [w18 (bit s.flt.hold * 16 + bit s.aon.safeLatched * 8 + bit s.aon.safeQuiet * 4 + bit s.aon.safeActive * 2 + bit (faultN u)),
        w18 s.flt.entrySource.toNat, w18 s.aon.recov, w18 (recentExits s), w18 (quietLeft s)] u)) ∧
    (Taken 0o1102 anyVariant needsAuth s c u → s.aon.safeActive = true → bitOf (c.p 1) 0 = true →
      exec .safeEnter s = .next (replied c [] { u with flt := { u.flt with hold := true }, aon := { u.aon with safeQuiet := false } })) ∧
    (Taken 0o1102 anyVariant needsAuth s c u → s.aon.safeActive = false → isUnacked 0o5200 s = false → ∃ t, exec .safeEnter s = .next t ∧
      t.aon.safeActive = true ∧ t.flt.hold = bitOf (c.p 1) 0 ∧ t.flt.entrySource = 0o5200 ∧ t.flt.enteredDue = some 1 ∧
      Frame [.out, .boot, .aon, .mbx, .flt, .hub, .zon, .pwr, .sec] (fresh s) t) ∧
    (Taken 0o1103 anyVariant needsAuth s c u → s.aon.safeActive = true → fiveAsserted s = false →
      exec .safeRelease s = .next (putOff c u)) ∧
    (cmdCode c.word0 = 0o1103 → (u.flt.releaseBroken = true ∨ u.aon.safeActive = false) →
      runWaiting (putOff c u) = answer c 6 [] false false { u with mbx := { u.mbx with waits := none } }) ∧
    (cmdCode c.word0 = 0o1103 → u.flt.releaseBroken = false → u.aon.safeActive = true →
      ∃ t, runWaiting (putOff c u) = answer c 0 [] false false t ∧ t.aon.safeActive = false ∧ t.aon.safeLatched = false ∧
        t.aon.recov = min 255 (u.aon.recov + 1) ∧ t.flt.exits = [] ∧ t.flt.hold = false ∧ (∀ x ∈ t.flt.unacked, x.severity ≠ 5)) ∧
    (Taken 0o1104 anyVariant needsAuth s c u → 10 ≤ c.p 1 → c.p 1 ≤ 60000 → 1 ≤ c.p 2 → c.p 2 ≤ 15 → 1 ≤ c.p 3 → c.p 3 ≤ 1440 →
      bitOf (c.p 4) 0 = false → exec .safeSetQuiet s = .next (replied c []
        { u with flt := { u.flt with quietSet := some (c.p 1, c.p 2, c.p 3) } })) ∧
    (∀ v, Taken 0o1104 anyVariant needsAuth s c u → checkSetQuiet c u = 0 → bitOf (c.p 4) 0 = true → v = recordChanges (quietChanges c) u →
      exec .safeSetQuiet s = .next (replied c [] { v with flt := { v.flt with quietSet := some (c.p 1, c.p 2, c.p 3) } })) ∧
    (Taken 0o1401 anyVariant noAuth s c u →
      exec .logHistory s = .next (replied c (w18 s.aon.hist.length :: s.aon.hist.flatMap histWords) u)) ∧
    (Taken 0o1402 anyVariant noAuth s c u → c.p 1 ≤ 4095 → 1 ≤ c.p 2 → c.p 2 ≤ 125 → exec .logRead s = .next (replied c
      (((allSources.filter (fun k => decide (c.p 1 ≤ k))).take (c.p 2)).flatMap (logWords s)) u))

/-- From R24, R50, R110, R204, R254, R388, R397, R400, R454: what happens of itself at the collector and at monitors: the quiet
period ends safe state with its exit counted; a lost heartbeat clears host mutes; the patrol scrub goes on by a word of each of its
memories; a pass of it that is late, a PMB alert, a supply outside its window and the collector's self-check raise their sources; the
free-list audit sets the references to those found in queues; an event without room is lost and counted. -/
def Obligations.MonitorsRaiseTheirSources : Prop :=
  ∀ s : State,
    (atBlock s = true → quietPassed s = true → ∃ t, exec .quietPeriodExpiry s = .next t ∧ t.aon = { s.aon with
        safeActive := false, safeLatched := false, safeQuiet := false, recov := min 255 (s.aon.recov + 1) } ∧
      t.flt.exits = (s.clk.tick :: s.flt.exits).take 15 ∧ t.flt.hold = false ∧ (∀ x ∈ t.flt.unacked, x.severity ≠ 5) ∧
      Frame [.out, .boot, .aon, .mbx, .flt, .hub, .zon] (fresh s) t) ∧
    (exec .collectorSelfFault s = .next (raiseFault 0o5201 (fresh s))) ∧
    (isUnacked 0o5201 s = false → blockOff 0o5201 s = false → 5 ≤ (sevEntry 0o5201 s).vote.toNat % 8 →
      ∃ t, exec .collectorSelfFault s = .next t ∧ t.aon.safeActive = true) ∧
    (s.boot.phase = .running → awake s = true → atBlock s = true → s.zon.hbLost = false → hbTimeout s ≤ since s.zon.hbTick s →
      ∃ t, exec .heartbeatLoss s = .next t ∧ Frame [.out, .boot, .mbx, .hub, .zon] (fresh s) t ∧ t.zon = { s.zon with
        hbLost := true, zones := s.zon.zones.map (fun z => { z with hostMute := false }), occs := s.zon.occs ++ [⟨s.clk.tick, 3, 0, 0, none⟩] })
    ∧ (∃ t, exec .patrolScrub s = .next t ∧ t.mem.stash = s.mem.stash ∧ t.mem.flash = s.mem.flash ∧
      t.mem.stashWalk = (if s.mem.stashWalk + 1 = 524288 then 0 else s.mem.stashWalk + 1) ∧
      t.mem.cellWalk = (if s.mem.cellWalk + 1 = 65536 then 0 else s.mem.cellWalk + 1) ∧ t.clk = s.clk) ∧
    ((120000 ≤ since s.mem.stashPass s → exec (.scrubPassLate .stash) s = .next (raiseFault 0o3320 (fresh s))) ∧
      (14400 ≤ since s.mem.cellPass s → exec (.scrubPassLate .cell) s = .next (raiseFault 0o3320 (fresh s)))) ∧
    (4800 ≤ since s.sw.lastAudit s → ∃ t, exec .freeListAudit s = .next t ∧ t.sw.lastAudit = s.clk.tick ∧ t.sw.twice = [] ∧
      t.sw.leaked = (s.sw.leaked.filter (fun l => !l.2)).map (fun l => (l.1, true)) ∧ t.sw.queues = s.sw.queues ∧
      (∀ x ∈ t.sw.cells, x.2.refs = queueRefs x.1 s ∧ x.2.refs ≠ 0 ∧ x.2.refBad = false) ∧
      Frame [.out, .boot, .aon, .mbx, .flt, .hub, .zon, .sw] (fresh s) t) ∧
    (exec .pmbAlert s = .next (raiseFault 0o5161 (fresh s))) ∧
    (exec .supplyOutOfRange s = .next (raiseFault 0o5141 (fresh s))) ∧
    (∀ (w0 : Word) (ps : List Word), s.boot.started = true → eventFits ps s = false → exec (.eventsLost w0 ps) s = .next { fresh s with
      mbx := { s.mbx with lost := min 262143 (s.mbx.lost + 1), eventSeq := s.mbx.eventSeq + 1 } })

/-! ## Routes, zones and processing -/

/-- From R215, R239 to R241, R244, R253, R256: ROUTE.SET, ROUTE.CLEAR, ZONE.TRIGGER, ZONE.RELEASE and ZONE.MUTE wait for the
block boundary, where the crosspoint takes its gain, destinations lose their base layer, the occurrence reaches the zones, or
the host mute changes, each before its reply; ROUTE.GET and ZONE.STATUS answer at once. -/
def Obligations.RouteAndZoneCommands : Prop :=
  ∀ (s u : State) (c : Command),
    (Taken 0o0401 anyVariant (fun c s => destProtected (c.p 2) s) s c u → numberOk (c.p 1) = true → numberOk (c.p 2) = true →
      s.cfg.unconfigured = false → c.p 4 = 63 → gainOk (signedField (c.p 3) 18) = true → exec .routeSet s = .next (putOff c u)) ∧
    (cmdCode c.word0 = 0o0401 → c.p 4 = 63 → gainOk (signedField (c.p 3) 18) = true → runWaiting (putOff c u) =
      replied c [w18i (gainCoef (signedField (c.p 3) 18))]
        (setCross (c.p 2) (c.p 1) (signedField (c.p 3) 18) false { u with mbx := { u.mbx with waits := none } })) ∧
    (Taken 0o0402 anyVariant (fun c s => destProtected (c.p 1) s) s c u → numberOk (c.p 1) = true → numberOk (c.p 2) = true →
      s.cfg.unconfigured = false → exec .routeGet s = .next (replied c
        (let xs := ((destOf (c.p 1) s).base.filter (fun x => decide (c.p 2 ≤ x.src))).take 125
         w18 ((match zoneOf (c.p 1) s with | some z => z.source | none => 0) * 256 + xs.length) ::
           xs.flatMap (fun x => [w18 x.src, w18i x.gain])) u)) ∧
    (Taken 0o0403 anyVariant clearNeedsAuth s c u → c.p 1 ≤ 192 → s.cfg.unconfigured = false → bitOf (c.p 2) 16 = false →
      exec .routeClear s = .next (putOff c u)) ∧
    (cmdCode c.word0 = 0o0403 → bitOf (c.p 2) 16 = false → ∃ t, runWaiting (putOff c u) = replied c [] t ∧ Frame [.mbx, .aud] u t ∧
      (∀ n, 1 ≤ n → n ≤ 192 → (c.p 1 = 0 ∨ c.p 1 = n) → (destOf n t).base = [])) ∧
    (Taken 0o0501 anyVariant zoneNeedsAuth s c u → (c.p 1 = 64 ∨ ∃ z ∈ s.zon.zones, z.num = c.p 1 ∧ z.num < 64) →
      exec .zoneTrigger s = .next (putOff c u)) ∧
    (Taken 0o0502 anyVariant zoneNeedsAuth s c u → (c.p 1 = 64 ∨ ∃ z ∈ s.zon.zones, z.num = c.p 1 ∧ z.num < 64) →
      exec .zoneRelease s = .next (putOff c u)) ∧
    (Taken 0o0504 anyVariant zoneNeedsAuth s c u → (c.p 1 = 64 ∨ ∃ z ∈ s.zon.zones, z.num = c.p 1 ∧ z.num < 64) →
      exec .zoneMute s = .next (putOff c u)) ∧
    (∀ o : Occ, cmdCode c.word0 = 0o0501 → o = ⟨u.clk.tick, 2, c.p 2 % 64, (if bitOf (c.p 2) 13 then 1 else 0), if c.p 1 = 64 then none else some (c.p 1)⟩ →
      ∃ n, runWaiting (putOff c u) = replied c [w18 n] { u with mbx := { u.mbx with waits := none }, zon := { u.zon with occs := u.zon.occs ++ [o] } }) ∧
    (∀ o : Occ, cmdCode c.word0 = 0o0502 → o = ⟨u.clk.tick, 8, 0, 0, if c.p 1 = 64 then none else some (c.p 1)⟩ →
      ∃ n, runWaiting (putOff c u) = replied c [w18 n] { u with mbx := { u.mbx with waits := none }, zon := { u.zon with occs := u.zon.occs ++ [o] } }) ∧
    (cmdCode c.word0 = 0o0504 → ∃ w t, runWaiting (putOff c u) = replied c [w] t ∧ Frame [.mbx, .zon] u t ∧
      t.zon.zones = u.zon.zones.map (fun z => if c.p 1 = 64 ∨ z.num = c.p 1 then { z with hostMute := bitOf (c.p 2) 0 } else z)) ∧
    (∀ z ∈ s.zon.zones, Taken 0o0503 anyVariant noAuth s c u → z.num = c.p 1 → z.num < 64 → (∀ y ∈ s.zon.zones, y.num = z.num → y = z) →
      exec .zoneStatus s = .next (replied c (statusWords z s) u))

/-- From R221, R224 to R226, R242: the PROC commands that change a setting wait for the block boundary when their parameters,
and for PERSIST and the delay memory their resources, are in order; there they answer with the coefficients or the capacity in
force. PROC.METER answers at once and restarts the peaks it reports. -/
def Obligations.ProcessingCommands : Prop :=
  ∀ (s u : State) (c : Command),
    (Taken 0o0601 (fun c => eqModeIs 0 c || eqModeIs 3 c) noAuth s c u → eqMode c = 0 → checkSetEq c u = 0 →
      exec .procSetEqDesign s = .next (putOff c u)) ∧
    (Taken 0o0601 (eqModeIs 1) noAuth s c u → checkSetEq c u = 0 → exec .procSetEqBypass s = .next (putOff c u)) ∧
    (Taken 0o0601 (eqModeIs 2) noAuth s c u → checkSetEq c u = 0 → exec .procSetEqRaw s = .next (putOff c u)) ∧
    (Taken 0o0602 anyVariant noAuth s c u → checkSetDelay c u = 0 → exec .procSetDelay s = .next (putOff c u)) ∧
    (Taken 0o0605 anyVariant noAuth s c u → checkDelayFormat c u = 0 → exec .procDelayFormat s = .next (putOff c u)) ∧
    (Taken 0o0603 anyVariant noAuth s c u → checkSetDynamics c u = 0 → exec .procSetDynamics s = .next (putOff c u)) ∧
    (cmdCode c.word0 = 0o0601 → eqPersist c = false →
      (∀ k, eqMode c ≠ 1 → eqCoefs c = some k → ∃ t, runWaiting (putOff c u) =
        replied c [w18i k.b0, w18i k.b1, w18i k.b2, w18i k.a1, w18i k.a2, w18 k.k] t ∧ Frame [.mbx, .aud] u t) ∧
      (eqMode c = 1 → ∃ t, runWaiting (putOff c u) = replied c [65536, 0, 0, 0, 0, 0] t ∧ Frame [.mbx, .aud] u t)) ∧
    (cmdCode c.word0 = 0o0602 → bitOf (c.p 4) 17 = false → ∃ t, runWaiting (putOff c u) = replied c [w18 (granted (c.p 1) t)] t ∧
      Frame [.mbx, .mem, .aud] u t ∧ t.mem.flash = u.mem.flash) ∧
    (cmdCode c.word0 = 0o0605 → bitOf (c.p 3) 17 = false → ∃ t, runWaiting (putOff c u) = replied c [w18 (granted (c.p 1) t)] t ∧
      Frame [.mbx, .mem, .aud] u t ∧ t.mem.flash = u.mem.flash) ∧
    (cmdCode c.word0 = 0o0603 → bitOf (c.p 3) 1 = false → ∃ t, runWaiting (putOff c u) = replied c [] t ∧ Frame [.mbx, .aud] u t) ∧
    (Taken 0o0604 anyVariant noAuth s c u → s.cfg.unconfigured = false → meterKind c ≤ 1 → 1 ≤ c.p 2 → c.p 2 ≤ 125 → 1 ≤ c.p 1 % 256 →
      c.p 1 % 256 + c.p 2 ≤ 193 → ∃ ws t, exec .procMeter s = .next (replied c ws t) ∧ ws.length = 1 + 2 * c.p 2 ∧
        Frame [.aud] u t ∧ t.aud.dests = u.aud.dests ∧
        (∀ n, c.p 1 % 256 ≤ n → n < c.p 1 % 256 + c.p 2 → (lookupD (metersOf (meterKind c) t) n {}).peak = -1024))

/-- From R40, R65, R89, R438: at a block boundary the block runs, the snapshot is taken and its number advances, and a boundary is
taken once; with the firmware's tasks complete the watchdog is kicked, before the activation too, when FAULT_ALIVE waits for one. From
R223: a second of ambient measurement changes nothing of a destination but its ambient state. -/
def Obligations.BlockBoundaryRuns : Prop :=
  (∀ (inp : BlockInputs) (s : State), blockDue s = true → s.pwr.entry = .none →
    ∃ t, exec (.blockBoundary inp) s = .next t ∧ t.clk.tick = s.clk.tick ∧ t.clk.lastBlock = some s.clk.tick ∧
      t.snap.seq = s.snap.seq + 1 ∧ t.pending = s.pending ∧ t.mem.flash = s.mem.flash ∧
      (inp.tasksDone = true → t.boot.wdArmed = true → t.boot.lastKick = s.clk.tick ∧ (s.boot.ctiUp = true → t.boot.aliveOk = true))) ∧
  (∀ (inp : BlockInputs) (s : State), s.boot.phase ≠ .running → blockBegins s = true →
    ∃ t, exec (.blockBoundary inp) s = .next t ∧ t.clk = { s.clk with lastBlock := some s.clk.tick } ∧ t.snap.seq = s.snap.seq + 1 ∧
      t.pending = s.pending ∧ t.mem.flash = s.mem.flash ∧
      (inp.tasksDone = true → s.boot.wdArmed = true → t.boot.lastKick = s.clk.tick ∧ (s.boot.ctiUp = true → t.boot.aliveOk = true))) ∧
  (∀ (inp : BlockInputs) (s : State), s.clk.lastBlock = some s.clk.tick → exec (.blockBoundary inp) s = .next (fresh s)) ∧
  (∀ s : State, ∃ t, exec .ambientUpdate s = .next t ∧ Frame [.aud] (fresh s) t ∧ t.aud.dests = s.aud.dests.map (ambientSecond s) ∧
    t.aud.dests.map (fun d => { d with ambient := none }) = s.aud.dests.map (fun d => { d with ambient := none }))

/-! ## Switch core, streams and TDM -/

/-- From R195 to R202: a packet that the core admits enters every queue that it names, in free cells; an ISO packet that it does not admit
is counted as dropped, one for the DSP cluster after the cutoff of its block as missing (R208), and another meets NAK or NRDY at a USB
port; an egress that is granted sends the cell at the head of its queue, and a cell without further references is free again; a flush
empties the three queues of a destination and no other. A packet above 1024 bytes or without a destination is no packet of this
hardware, and the model stops. From R205 to R207: PORT.LINK_MODE sets a link's hold; a link with a hold that leaves U0, U1 or U2 keeps
its cells for the hold time, one that is disabled or inactive loses them; a link that returns in time ends its hold, and one that does
not loses its cells. -/
def Obligations.SwitchCore : Prop :=
  ((∀ (pkt : IngressPacket) (s w : State), pkt.payload.length ≤ 1024 → pkt.dest ≠ 0 →
    s.sw.waiting.any (fun x => x.src == pkt.src && x.cls == pkt.cls) = false →
    w = { fresh s with sw := { s.sw with wr := listSet s.sw.wr (classCode pkt.cls) pkt.src.val } } →
    ∀ id, id = streamId pkt.src.val pkt.addr.toNat pkt.ep.toNat pkt.dirIn pkt.dest s →
    (isLate pkt s = true → exec (.cellIngress [pkt]) s = .next (countStream id.1 id.2.1 id.2.2 pkt.frames 0 0 w)) ∧
    (isLate pkt s = false → admits pkt s = false → pkt.cls = .iso →
      exec (.cellIngress [pkt]) s = .next (countStream id.1 id.2.1 id.2.2 0 1 0 w)) ∧
    (admits pkt s = false → pkt.cls ≠ .iso → pkt.src.val ≤ 11 →
      exec (.cellIngress [pkt]) s = .next { w with out := [.handshake (if pkt.ss then .nrdy else .nak)] }) ∧
    (isLate pkt s = false → admits pkt s = true → s.sw.queues.length = 54 → bitOf pkt.dest.toNat 12 = false →
      (∀ e ∈ egresses pkt.dest, (queueOf e (classCode pkt.cls) s).length + cellCount pkt.payload.length ≤ depthOf pkt.cls) →
      ∃ t, exec (.cellIngress [pkt]) s = .next t ∧ Frame [.sw, .ports] (fresh s) t ∧
        (∀ e < 18, ∀ k < 3, queueOf e k t = if bitOf pkt.dest.toNat e = true ∧ k = classCode pkt.cls
          then queueOf e k s ++ freeCells (cellCount pkt.payload.length) s else queueOf e k s))) ∧
  (∀ (pkts : List IngressPacket) (s : State), (∃ pkt ∈ pkts, 1024 < pkt.payload.length ∨ pkt.dest = 0) →
    ∃ f, exec (.cellIngress pkts) s = .fault f) ∧
  (∀ (ready : BitVec 18) (k e i : Nat) (rest : List Nat) (c : Cell) (s : State), s.sw.queues.length = 54 → readGrant ready s = some (k, e) →
    queueOf e k s = i :: rest → cellAt i s = some c → c.bad = false → c.refBad = false → (∀ x ∈ s.sw.errs, x.1 / 8 ≠ i) → c.ctx = none →
    s.sw.waiting = [] →
    ∃ t, exec (.cellEgress ready) s = .next t ∧ Frame [.out, .sw, .ports] (fresh s) t ∧ t.out = [.cell e c.payload c.last false] ∧
      queueOf e k t = rest ∧ (c.refs ≤ 1 → cellAt i t = none) ∧ (1 < c.refs → cellAt i t = some { c with refs := c.refs - 1 })) ∧
  (∀ (d : Fin 18) (s : State), s.sw.queues.length = 54 → s.sw.waiting = [] →
    ∃ t, exec (.queueFlush d) s = .next t ∧ Frame [.out, .boot, .aon, .mbx, .flt, .hub, .sw, .zon, .ports] (fresh s) t ∧
      (∀ e < 18, ∀ k < 3, queueOf e k t = if e = d.val then [] else queueOf e k s))) ∧
  ((∀ (s u : State) (c : Command), Taken 0o0306 anyVariant noAuth s c u → c.p 1 ≤ 4 →
    ((c.p 2 = 1 ∧ 1 ≤ c.p 3 ∧ c.p 3 ≤ 50) ∨ (c.p 2 = 0 ∧ c.p 3 = 0)) →
    exec .portLinkMode s = .next (replied c [w18 (c.p 2 * 64 + c.p 3)] { u with sw := { u.sw with
      links := listSet u.sw.links (c.p 1) { u.sw.links.getD (c.p 1) {} with hold := c.p 2 == 1, holdMs := c.p 3 } } })) ∧
  (∀ (k : Fin 5) (s : State), s.sw.links.length = 5 → s.sw.queues.length = 54 →
    (∀ d : LinkState, (d = .disabled ∨ d = .inactive) → ∃ t, exec (.linkDown k d) s = .next t ∧ (t.sw.links.getD k.val {}).down = none ∧
      (∀ j < 3, queueOf k.val j t = []) ∧ t.clk = s.clk ∧ t.cfg = s.cfg) ∧
    (∀ d : LinkState, (d = .recovery ∨ d = .rxDetect) →
      (linkState k.val s = .u0 ∨ linkState k.val s = .u1 ∨ linkState k.val s = .u2) → (s.sw.links.getD k.val {}).hold = true →
      (s.sw.links.getD k.val {}).down = none → ∃ t, exec (.linkDown k d) s = .next t ∧ Frame [.hub, .sw] (fresh s) t ∧
        (t.sw.links.getD k.val {}).down = some (s.clk.tick, (s.sw.links.getD k.val {}).holdMs) ∧ t.sw.queues = s.sw.queues ∧
        t.sw.cells = s.sw.cells) ∧
    (∀ (from_ : Tick) (ms : Nat), (s.sw.links.getD k.val {}).down = some (from_, ms) →
      (since from_ s ≤ ms * 48 → ∃ t, exec (.linkHoldReturn k) s = .next t ∧ (t.sw.links.getD k.val {}).down = none ∧
        (k.val = 0 → t.hub.ssLink = .u0) ∧ t.clk = s.clk ∧ t.cfg = s.cfg) ∧
      (ms * 48 ≤ since from_ s → ∃ t, exec (.linkHoldExpired k) s = .next t ∧ (t.sw.links.getD k.val {}).down = none ∧
        (∀ j < 3, queueOf k.val j t = []) ∧ t.clk = s.clk ∧ t.cfg = s.cfg))))

/-- From R58, R67, R270: a tick passes with both TDM frames sent. From R269, R271: a TDM input frame with the expected counter and CRC
counts as good and is delivered, one whose CRC is neither the expected one nor its complement counts as a CRC error and is delivered as
zeros; a frame without 16 slots is none. From R183, R198: a packet of an untagged owned IN stream crosses the core and is delivered
frame by frame, or is dropped and counted. From R156, R202: a pass-through port shows its connection and its change. When an owned
stream's frames are delivered is the model's (log 21). -/
def Obligations.StreamsAndTdmFrames : Prop :=
  (∀ s : State, s.clk.rootLocked = true → awake s = true →
    ∃ t, exec .tdmFrameOut s = .next t ∧ Frame [.out, .clk, .boot, .aon, .win, .mbx, .flt, .hub, .aud, .zon] (fresh s) t ∧
      t.clk = { s.clk with tick := s.clk.tick + 1, slowAcc := (s.clk.slowAcc + 1) % 3 } ∧
      (s.boot.phase = .running → s.win.posted = [] → t.out = [tdmOut 0 s, tdmOut 1 s]) ∧
      (∀ p < 2, ∃ slots trailer, tdmOut p s = .tdmFrame p slots trailer ∧ slots.length = 16 ∧
        trailer.toNat % 16 = s.clk.tick.toNat % 16)) ∧
  (∀ (p : Fin 2) (slots : List Word) (tr : BitVec 12) (s : State) (u : TdmUnit) (last : Nat), slots.length = 16 → s.own.tdm.length = 2 →
    s.boot.phase = .running → awake s = true → tdmEntries p.val 0 s ≠ [] → u = s.own.tdm.getD p.val {} → u.checkIn = some 0 →
    u.lastCtr = some last →
    (tr.toNat / 16 = tdmCrc slots → tr.toNat % 16 = (last + u.since + 1) % 16 →
      ∃ t, exec (.tdmFrameIn p slots tr) s = .next t ∧ Frame [.own] (fresh s) t ∧
        (t.own.tdm.getD p.val {}).counts.good = min 262143 (u.counts.good + 1) ∧
        lookupD (t.own.tdm.getD p.val {}).got s.clk.tick.toNat [] = slots) ∧
    (tr.toNat / 16 ≠ tdmCrc slots → tr.toNat / 16 ≠ tdmCrc slots ^^^ 0xFF →
      ∃ t, exec (.tdmFrameIn p slots tr) s = .next t ∧ Frame [.own] (fresh s) t ∧
        (t.own.tdm.getD p.val {}).counts.crc = min 262143 (u.counts.crc + 1) ∧
        lookupD (t.own.tdm.getD p.val {}).got s.clk.tick.toNat [] = List.replicate 16 0)) ∧
  (∀ (p : Fin 2) (slots : List Word) (tr : BitVec 12) (s : State), slots.length ≠ 16 → ∃ f, exec (.tdmFrameIn p slots tr) s = .fault f) ∧
  (∀ (p : DownPort) (addr : BitVec 7) (iface : Nat) (fs : List (List (BitVec 24))) (s : State) (x : Stream) (n : Nat),
    s.own.streams.find? (fun x => x.port == p.val && x.addr == addr.toNat && x.iface == iface && !x.dirOut) = some x →
    streamRuns x s = true → x.ctx = none → n = cellCount (fs.length * x.ch * subslotBytes x.res) →
    (coreRoom .iso (p.val + 1) dspDest n s = false →
      exec (.ownedStreamPacket p addr iface fs) s =
        .next (countStream (x.port + 1) (locWord x.speed x.hubPort x.addr) x.first 0 1 0 (fresh s))) ∧
    (coreRoom .iso (p.val + 1) dspDest n s = true → (queueOf 12 0 s).length + n ≤ 256 →
      ∃ t y, exec (.ownedStreamPacket p addr iface fs) s = .next t ∧ Frame [.own, .sw] (fresh s) t ∧ y.begun = true ∧
        t.own.streams = s.own.streams.map (fun z => if z.port == x.port && z.addr == x.addr && z.iface == x.iface then y else z) ∧
        (∀ i, i < x.perPacket → i < fs.length →
          lookupD y.got (s.clk.tick.toNat - s.clk.tick.toNat % x.perPacket + i + x.perPacket) [] =
            (List.range x.ch).map (fun c => w18i (sampleIn x.res ((fs.getD i []).getD c 0)))))) ∧
  (∀ (p : DownPort) (sp : Speed) (s : State), p.val < s.ports.length → situation (sp == .ss) p.val s = .pass →
    (portLive p.val s = true → ∃ t, exec (.passThroughConnectChange p true sp) s = .next t ∧ Frame [.out, .hub, .ports, .sw] (fresh s) t ∧
      (sideOf (sp == .ss) (portOf p.val t)).connection = true ∧ (sideOf (sp == .ss) (portOf p.val t)).cConnection = true ∧
      (sideOf (sp == .ss) (portOf p.val t)).speed = some sp) ∧
    ((sideOf (sp == .ss) (portOf p.val s)).connection = true → ∃ t, exec (.passThroughConnectChange p false sp) s = .next t ∧
      (sideOf (sp == .ss) (portOf p.val t)).connection = false ∧ (sideOf (sp == .ss) (portOf p.val t)).enable = false ∧
      (sideOf (sp == .ss) (portOf p.val t)).cConnection = true ∧ t.clk = s.clk ∧ t.cfg = s.cfg))

/-! ## Messages -/

/-- From R290 to R294: MSG.LIST lists the messages from a number on; MSG.PLAY and MSG.STOP wait for the block boundary, where a
free voice is taken, or a voice ends, or every voice that no protected zone holds; MSG.PIN and the forms of MSG.LOAD are accepted
with their operation in progress. From R293, R295: a pin whose frames are read in time ends with OK and is placed, and one that is not
ends with TIMEOUT after 2 s; the programming of a DATA ends with OK. That a failed erase, program or rewrite ends with TIMEOUT is the
model's choice (log 19). -/
def Obligations.MessageCommands : Prop :=
  ∀ (s u : State) (c : Command),
    (Taken 0o0701 anyVariant noAuth s c u → c.p 1 ≤ 8191 → 1 ≤ c.p 2 → c.p 2 ≤ 62 → exec .msgList s = .next (replied c
      (let ms := ((sortBy (fun a b => decide (a.number < b.number)) s.msg.msgs).filter (fun m => decide (c.p 1 ≤ m.number))).take (c.p 2)
       w18 ms.length :: ms.flatMap listWords) u)) ∧
    (∀ m v, Taken 0o0702 anyVariant noAuth s c u → msgOf (c.p 1) s = some m → m.failed = false → playVoice c s = some v →
      (c.p 2 % 32 < 16 ∨ c.p 2 % 32 = 31) → exec .msgPlay s = .next (putOff c u)) ∧
    (∀ m v, cmdCode c.word0 = 0o0702 → msgOf (c.p 1) u = some m → m.failed = false → playVoice c u = some v → v < u.msg.voices.length →
      ∃ t, runWaiting (putOff c u) = replied c [w18 v] t ∧ ∃ x, voiceOf v t = some x ∧ x.msg.number = m.number ∧ x.started = false) ∧
    (Taken 0o0703 anyVariant noAuth s c u → (c.p 1 = 31 ∨ (c.p 1 ≤ 15 ∧ voiceProtected (c.p 1) s = false)) →
      exec .msgStop s = .next (putOff c u)) ∧
    (∀ x, cmdCode c.word0 = 0o0703 → c.p 1 ≤ 15 → voiceOf (c.p 1) u = some x →
      runWaiting (putOff c u) = replied c [w18 x.msg.number] (endVoice (c.p 1) 1 { u with mbx := { u.mbx with waits := none } })) ∧
    (cmdCode c.word0 = 0o0703 → c.p 1 ≤ 15 → voiceOf (c.p 1) u = none →
      runWaiting (putOff c u) = replied c [8191] { u with mbx := { u.mbx with waits := none } }) ∧
    (cmdCode c.word0 = 0o0703 → c.p 1 = 31 → ∃ t n m, runWaiting (putOff c u) = replied c [w18 n, w18 m] t ∧
      (∀ v < 16, voiceProtected v u = false → voiceOf v t = none) ∧ (∀ v < 16, voiceProtected v u = true → voiceOf v t = voiceOf v u)) ∧
    (∀ m, Taken 0o0704 anyVariant noAuth s c u → longOf 7 s = none → msgOf (c.p 1) s = some m → c.p 2 ≤ 8 →
      (c.p 2 = 0 ∨ pinFits m (c.p 2) s = true) →
      exec .msgPin s = .next { accepted c u with msg := { u.msg with op := some (.pin (c.p 1) (c.p 2) s.clk.tick) } }) ∧
    (∀ n k st, s.msg.op = some (.pin n k st) → 96000 ≤ since st s →
      exec .msgPinTimeout s = .next (groupDone 7 9 { fresh s with msg := { s.msg with op := none } })) ∧
    (∀ a, Taken 0o0705 (fun c => opIs 0 c || decide (4 < c.p 1)) noAuth s c u → longOf 7 s = none → c.p 1 ≤ 4 → c.p 2 ≤ 15 → loadSize c ≠ 0 →
      s.msg.load = none → freeRegion (roundRegion (loadSize c)) s = some a → (dirEntries s).length < 254 →
      exec .msgLoadBegin s = .next { accepted c u with msg := { u.msg with op := some (.begin (c.p 2) (loadSize c) a) } }) ∧
    (∀ l, Taken 0o0705 (opIs 1) noAuth s c u → longOf 7 s = none → s.msg.load = some l → 1 ≤ dataCount c → dataCount c ≤ 480 →
      dataOffset c + dataCount c ≤ l.size → wasWritten l.ranges (dataOffset c) (dataCount c) = false →
      exec .msgLoadData s = .next { accepted c u with msg := { u.msg with op := some (.data (dataOffset c) (dataBytes c)) } }) ∧
    (∀ l, Taken 0o0705 (opIs 2) noAuth s c u → longOf 7 s = none → s.msg.load = some l →
      exec .msgLoadEnd s = .next { accepted c u with msg := { u.msg with op := some .finish } }) ∧
    (Taken 0o0705 (opIs 3) noAuth s c u → longOf 7 s = none → c.p 2 ≤ 15 → (regionOf 4 (c.p 2) s).isSome = true →
      exec .msgLoadDelete s = .next { accepted c u with msg := { u.msg with op := some (.delete (c.p 2)) } }) ∧
    (∀ l, Taken 0o0705 (opIs 4) noAuth s c u → longOf 7 s = none → s.msg.load = some l →
      exec .msgLoadAbort s = .next { accepted c u with msg := { u.msg with op := some .abort } }) ∧
    (∀ w, w = { fresh s with msg := { s.msg with op := none } } →
      (∀ n secs st m, s.msg.op = some (.pin n secs st) → msgOf n s = some m → pinFramesGood m secs s = true → since st s < 96000 →
        exec (.flashOperationComplete .msg true) s = .next (groupDone 7 0 (pinMessage m secs w))) ∧
      (∀ off bs l, s.msg.op = some (.data off bs) → s.msg.load = some l →
        exec (.flashOperationComplete .msg true) s = .next (groupDone 7 0 (flashWrite (l.offset + off) bs
          { w with msg := { w.msg with load := some { l with ranges := (off, bs.length) :: l.ranges } } }))) ∧
      (∀ op, s.msg.op = some op → op ≠ .finish → (∀ n secs st, op ≠ .pin n secs st) →
        exec (.flashOperationComplete .msg false) s = .next (groupDone 7 9 w)))

/-- From R279: a library is checked once at a start and its messages are put into force or its rejection is reported. From R281: the
verification of a message, after that of every library, marks it verified or failed. From R284, R288: a voice starts at a block
boundary, takes a frame whose bytes cross the core (R199) and decode, takes zeros for one that fails to decode, takes none from a flash
read that fails, ends with reason 3 when it is held 2 s after its start, and ends at a boundary once its samples have left. -/
def Obligations.LibrariesAndVoices : Prop :=
  ∀ s : State,
    (∀ (k : Fin 16) (ok : Bool) (e : DirEntry), regionOf 4 k.val s = some e → fwRuns s = true → s.msg.checked.contains k.val = false →
      ∀ w, w = flashReadFault ok { fresh s with msg := { s.msg with checked := s.msg.checked ++ [k.val] } } →
      ∃ t, exec (.libraryVerification k ok) s = .next t ∧ k.val ∈ t.msg.checked ∧ t.msg.voices = s.msg.voices ∧ t.clk = s.clk ∧
        t.cfg = s.cfg ∧ (∀ r, checkLibrary e ok (otherNumbers k.val s) w = .inl r → t = rejectLibrary k.val r w) ∧
        (∀ ms, checkLibrary e ok (otherNumbers k.val s) w = .inr ms → t = activateLibrary k.val ms w)) ∧
    (∀ (v : Fin 16) (x : Voice), s.msg.voices.length = 16 → voiceOf v.val s = some x → x.started = false → atBlock s = true →
      ∃ t, exec (.voiceStart v) s = .next t ∧ Frame [.msg] (fresh s) t ∧
        voiceOf v.val t = some { x with started := true, start := s.clk.tick } ∧ t.msg.msgs = s.msg.msgs) ∧
    (∀ (v : Fin 16) (x : Voice), s.msg.voices.length = 16 → voiceOf v.val s = some x → x.holding = true → 96000 ≤ since x.start s →
      ∃ t, exec (.voiceStartTimeout v) s = .next t ∧ voiceOf v.val t = none ∧ t.clk = s.clk ∧ t.cfg = s.cfg) ∧
    (∀ (v : Fin 16) (x : Voice) (bs : List Byte), s.msg.voices.length = 16 → voiceOf v.val s = some x → x.started = true → x.ending = none →
      s.msg.cache.find? (fun f => f.number == x.msg.number && f.base == x.msg.addr && f.frame == x.frame) = none →
      bs = payloadFrom x.msg x.offset s →
      (coreRoom .iso 15 dspDest (cellCount bs.length) s = true →
        (∀ ys, decodeFrame x.msg x.frame x.offset bs = some ys → (queueOf 12 0 s).length + cellCount bs.length ≤ 256 →
          ∃ t y, exec (.marlFrameFetch v true) s = .next t ∧ Frame [.msg, .sw] (fresh s) t ∧ voiceOf v.val t = some y ∧
            y.buffer = x.buffer ++ ys ∧ y.frame = x.frame + 1 ∧ y.offset = x.offset + frameLen bs ∧ y.failedLast = false) ∧
        (decodeFrame x.msg x.frame x.offset bs = none → exec (.marlFrameFetch v true) s =
          .next (frameFailed v.val x (frameLen bs) false (crossCore .iso dspDest (cellCount bs.length) (fresh s))))) ∧
      exec (.marlFrameFetch v false) s = .next (raiseFault 0o4321 (fresh s))) ∧
    (∀ (v : Fin 16) (x : Voice) (r : Nat), s.msg.voices.length = 16 → voiceOf v.val s = some x → x.ending = some r → x.buffer = [] →
      atBlock s = true → ∃ t, exec (.voiceEnded v) s = .next t ∧ voiceOf v.val t = none ∧ t.clk = s.clk ∧ t.cfg = s.cfg)
    ∧ (∀ (n : BitVec 13) (m : Msg), fwRuns s = true → librariesChecked s = true → nextToVerify s = some n.toNat → msgOf n.toNat s = some m →
      (messageGood m s = true → exec (.messageVerification n true) s = .next { fresh s with msg := { s.msg with
        msgs := s.msg.msgs.map (fun y => if y.number == n.toNat then { y with verified := true } else y) } }) ∧
      (∀ ok, (ok = false ∨ messageGood m s = false) → ∃ t, exec (.messageVerification n ok) s = .next t ∧
        t.msg = { s.msg with
          msgs := s.msg.msgs.map (fun y => if y.number == n.toNat then { y with failed := true, verified := false } else y) } ∧
        Frame [.out, .boot, .aon, .mbx, .flt, .hub, .zon, .msg] (fresh s) t))

/-! ## Power states and levels -/

/-- From R370, R375, R384 to R386: PWR.STATUS reports; PWR.ENTER of RUN or DOZE is accepted and takes effect at a boundary; of
SLEEP waits for the upstream suspend, ending with TIMEOUT; of HIBERNATE turns everything off but AON, once no level change runs, with
Stash lost and flash kept; PWR.SET_RETAIN sets the banks kept in SLEEP. -/
def Obligations.PowerCommands : Prop :=
  ∀ (s u : State) (c : Command),
    (Taken 0o1001 anyVariant noAuth s c u → exec .pwrStatus s = .next (replied c (powerWords s) u)) ∧
    (Taken 0o1003 anyVariant noAuth s c u → c.p 1 ≤ 255 → entering s = false →
      exec .pwrSetRetain s = .next (replied c [w18 (c.p 1 / 2 * 2 + 1)] { u with pwr := { u.pwr with retain := BitVec.ofNat 8 (c.p 1 / 2 * 2) } })) ∧
    (Taken 0o1002 (fun c => c.p 1 == 0 || decide (3 < c.p 1)) enterNeedsAuth s c u → longOf 8 s = none → c.p 1 = 0 → c.p 2 = 0 → c.p 3 = 0 →
      exec .pwrEnterRun s = .next { accepted c u with pwr := { u.pwr with request := some .run } }) ∧
    (Taken 0o1002 (opIs 1) enterNeedsAuth s c u → longOf 8 s = none → c.p 2 = 0 → c.p 3 = 0 →
      exec .pwrEnterDoze s = .next { accepted c u with pwr := { u.pwr with request := some .doze } }) ∧
    (∀ st, s.pwr.request = some st → s.pav.run = none →
      settleRequest s = groupDone 8 0 { s with pwr := { s.pwr with state := st, request := none } }) ∧
    (Taken 0o1002 (opIs 2) enterNeedsAuth s c u → longOf 8 s = none → c.p 2 ≤ 60000 → c.p 3 ≤ 1 → lowPowerBlocked s = false →
      exec .pwrEnterSleep s = .next { accepted c u with pwr := { u.pwr with
        entry := .waitSleep (s.clk.tick + BitVec.ofNat 54 (c.p 2 * 48)), reenter := (if c.p 3 = 1 then some .sleep else none), wokeBy := 0 } }) ∧
    (∀ till, s.pwr.entry = .waitSleep till → till.toNat ≤ s.clk.tick.toNat → s.hub.suspended = false → s.hub.connected = true →
      exec .sleepWaitTimeout s = .next (groupDone 8 9 { fresh s with pwr := { s.pwr with entry := .none, reenter := none } })) ∧
    (Taken 0o1002 (opIs 3) enterNeedsAuth s c u → longOf 8 s = none → c.p 2 = 0 → c.p 3 ≤ 1 → lowPowerBlocked s = false →
      ∃ t, exec .pwrEnterHibernate s = .next t ∧
        (s.win.posted = [] → t.aon.rtcSec = s.aon.rtcSec ∧ t.aon.wakeEn = s.aon.wakeEn) ∧ t.mem.flash = s.mem.flash ∧ t.clk.tick = s.clk.tick ∧
        (s.pwr.moving = true → t.pwr.entry = .toHibernate ∧ t.pwr.state = s.pwr.state) ∧
        (s.pwr.moving = false → t.pwr.state = .hibernate ∧ t.pwr.domains = 1 ∧ t.mem.stash = [] ∧ t.mem.bankOn = 0 ∧ t.clk.xtalOn = false ∧
          (∀ p ∈ t.ports, p.powered = false ∧ p.attached = false)))

/-- From R372: SLEEP entry takes its two parts, with its domains off, VDD_CORE at 0.55 V and the retained banks kept. From R373: a wake
source sets its bit and, enabled, wakes the device; an AON fault of severity 1 or above wakes it from SLEEP too. From R374, R68: the
wake from SLEEP comes up at PL3 with time advanced by the periods slept. From R375, R440: the one from HIBERNATE starts cold with AON,
vault and energy kept. From R377: re-entry after Pavane. From R378: a bank powers up. From R50, R365 to R367: a level change whose
steps all hold ends at its target, each step a VOUT_COMMAND to the regulator's address with its PEC. -/
def Obligations.SleepWakeAndLevels : Prop :=
  ∀ s : State,
    (∀ till, awake s = true → s.pwr.entry = .waitSleep till → atBlock s = true → (s.hub.suspended = true ∨ s.hub.connected = false) →
      s.pwr.moving = false → ∃ t, exec .sleepEntry s = .next t ∧ Frame [.out, .own, .zon, .msg, .pwr] (fresh s) t ∧
        t.pwr = { s.pwr with entry := .sleeping s.clk.tick } ∧ t.msg.voices = List.replicate 16 none ∧
        (∀ z ∈ t.zon.zones, z.voice = none) ∧ (∀ d ∈ t.own.devs, d.reason = 0 → d.asleep = true)) ∧
    (∀ since_, awake s = true → s.pwr.entry = .sleeping since_ → s.aon.safeActive = false → zoneRaised s = false →
      ∃ t, exec .sleepEntry s = .next t ∧ Frame [.out, .boot, .clk, .aon, .win, .mbx, .flt, .mem, .hub, .ports, .zon, .pwr] (fresh s) t ∧
        (s.win.posted = [] → Frame [.clk, .win, .flt, .mem, .hub, .ports, .pwr] (fresh s) t) ∧ t.pwr.state = .sleep ∧ t.pwr.entry = .none ∧
        t.pwr.domains = 0x33 ∧ t.pwr.vcore = 550 ∧ t.mem.bankOn = (s.pwr.retain ||| 1) ∧ t.mem.flash = s.mem.flash ∧
        t.clk.rootLocked = false ∧ t.clk.slowRc = true ∧ t.clk.tick = s.clk.tick) ∧
    (∀ (k : Fin 8) (periods : Nat) (w : State), (s.pwr.state = .sleep ∨ (s.pwr.state = .hibernate ∧ k.val ≠ 4 ∧ k.val ≠ 5)) →
      w = asleepTime periods (fresh s) →
      (bitOf w.aon.wakeEn.toNat k.val = false →
        exec (.wakeSource ⟨periods, k⟩) s = .next { w with aon := { w.aon with wakeCause := w.aon.wakeCause ||| (1#8 <<< k.val) } }) ∧
      (bitOf w.aon.wakeEn.toNat k.val = true → entering s = false → exec (.wakeSource ⟨periods, k⟩) s = .next { w with
        aon := { w.aon with wakeCause := w.aon.wakeCause ||| (1#8 <<< k.val) }
        pwr := { w.pwr with wokeBy := w.pwr.wokeBy ||| (1#8 <<< k.val), waking := true } })) ∧
    (∀ (src : BitVec 12) (periods : Nat) (w : State), src.toNat / 512 = 5 → (sourceDef src.toNat).isSome = true → s.pwr.state = .sleep →
      w = asleepTime periods (fresh s) → 1 ≤ (sevEntry src.toNat w).vote.toNat % 8 →
      exec (.faultWake ⟨periods, src⟩) s = .next { raiseFault src w with
        pwr := { (raiseFault src w).pwr with waking := true, faultWake := true } }) ∧
    (∀ (periods : Nat) (lost : BitVec 8), s.pwr.state = .sleep → s.pwr.waking = true →
      ∃ t, exec (.wakeFromSleep periods lost) s = .next t ∧ t.pwr.state = .run ∧ t.pwr.pl = 3 ∧ t.pwr.domains = 0x3F ∧ t.pwr.waking = false ∧
        (∀ n, n = bit s.clk.slowOdd + periods → t.clk.tick = s.clk.tick + BitVec.ofNat 54 (n / 2 * 3 + n % 2)) ∧
        t.clk.estimated = true ∧ t.clk.rootLocked = true ∧
        (s.win.posted = [] → t.aon.rtcSub = (s.aon.rtcSub + periods) % 32000 ∧
          t.aon.rtcSec = s.aon.rtcSec + BitVec.ofNat 36 ((s.aon.rtcSub + periods) / 32000)) ∧ t.mem.flash = s.mem.flash) ∧
    (∀ (periods : Nat) (w : State), s.pwr.state = .hibernate → s.pwr.waking = true → w = asleepTime periods (fresh s) →
      ∃ t, exec (.wakeFromHibernate periods) s = .next t ∧ t.boot.phase = .oscillator ∧ t.boot.fromHibernate = true ∧
        t.clk.tick = w.clk.tick ∧ t.aon = { w.aon with rstCause := w.aon.rstCause ||| 0x40 } ∧
        t.mem = { flash := s.mem.flash } ∧ t.sec.otp = s.sec.otp ∧ t.sec.hak = s.sec.hak ∧ t.sec.sessU = none ∧ t.sec.sessS = s.sec.sessS ∧
        t.flex.map (·.energy) = s.flex.map (·.energy) ∧ t.pwr.state = .run ∧ t.mbx = {}) ∧
    (s.pwr.state = .run → s.boot.phase = .running → s.pav.run = none → s.pwr.entry = .none → s.pwr.wokeBy = 0x80 → lowPowerBlocked s = false →
      (s.pwr.reenter = some .sleep → exec .reenterAfterPavane s = .next { fresh s with
        pwr := { s.pwr with entry := .waitSleep s.clk.tick, wokeBy := 0 } }) ∧
      (s.pwr.reenter = some .hibernate → ∃ t, exec .reenterAfterPavane s = .next t ∧
        t.pwr.state = .hibernate ∧ t.pwr.domains = 1 ∧ t.mem.flash = s.mem.flash ∧
        (s.win.posted = [] → t.aon.rtcSec = s.aon.rtcSec ∧ t.aon.wakeEn = s.aon.wakeEn))) ∧
    (∀ k : Fin 8, awake s = true → ∃ t, exec (.stashBankPowerUp k) s = .next t ∧ Frame [.mem, .flt] (fresh s) t ∧
      t.mem = { s.mem with bankOn := s.mem.bankOn ||| (1#8 <<< k.val) }) ∧
    (∀ results : List VoutResult, s.pwr.moving = true → atBlock s = true → awake s = true →
      (voutSteps s.pwr.vcore (levelVoltage s.pwr.target s)).length ≤ results.length →
      (∀ x ∈ (voutSteps s.pwr.vcore (levelVoltage s.pwr.target s)).zip results, x.2.failures = 0 ∧
        100 * (max x.2.settled x.1 - min x.2.settled x.1) ≤ 3 * x.1) →
      exec (.levelChange results) s = .next { fresh s with
        out := (voutSteps s.pwr.vcore (levelVoltage s.pwr.target s)).map (fun v => .vout (boardParam 5 64 s) v true)
        pwr := { s.pwr with moving := false, pl := s.pwr.target, vcore := levelVoltage s.pwr.target s } })

/-! ## Pavane and ageing -/

/-- From R407 to R413, R419: an attempt that is due starts a run, or leaves the next for a retry instant; a step without
findings passes; a condition of R413 aborts the run, with provisional offsets reverted; the end of a run is posted and ends
TEST.RUN; an overdue test is posted each hour from 24 h on. From R419: TEST.RUN starts a run of the steps named, or of the steps
of the table when none is; TEST.ABORT asks for the abort; TEST.RESULT and TEST.AGEING report. -/
def Obligations.PavaneRunsAndTestCommands : Prop :=
  (∀ s : State,
    (s.boot.phase = .running → atBlock s = true → attemptDue s = true → s.pav.run = none →
      (pavaneReady s = true → s.pav.resume = none → ∃ t, exec .pavaneAttempt s = .next t ∧ Frame [.own, .pav, .pwr] (fresh s) t ∧
        t.pwr = { s.pwr with state := .run } ∧ ∃ r, t.pav.run = some r ∧ r.start = s.clk.tick ∧ r.mask = pavSteps s ∧
          r.byCommand = false ∧ r.cur.passed = 0 ∧ r.cur.failed = 0 ∧ r.cur.rtc = s.aon.rtcSec) ∧
      (pavaneReady s = false → exec .pavaneAttempt s = .next { fresh s with pav := { s.pav with
        windowEnd := some (windowEnd s), nextTry := s.aon.rtcSec.toNat + pavRetry s } })) ∧
    (∀ (r : PavRun) (rep : StepReport) (k j : Nat) (rest : List Nat), s.pav.run = some r → s.boot.phase = .running → rep.admitted = true →
      r.levels = 0 → stepsLeft r = k :: j :: rest → k ≠ 8 → k ≠ 9 → k ≠ 10 → rep.failed = [] → rep.badMessages = [] → rep.skipped = 0 →
      ∃ t q, exec (.pavaneStep rep) s = .next t ∧ Frame [.own, .pav] (fresh s) t ∧ (j ≠ 9 → t.own = s.own) ∧ t.pav = { s.pav with run := some q } ∧
        q.cur.passed = r.cur.passed ||| 2 ^ k ∧ q.cur.failed = r.cur.failed ∧ q.cur.notRun = r.cur.notRun ∧ stepsLeft q = j :: rest) ∧
    (∀ (reason : Fin 6) (r : PavRun), s.pav.run = some r → atBlock s = true → abortHolds reason.val s = true →
      ∃ t, exec (.pavaneAbort reason) s = .next t ∧ Frame [.pav, .pwr] (fresh s) t ∧ t.pav.run = none ∧ t.pav.doneDue = true ∧
        t.pav.result.reason = reason.val ∧ t.pav.result.passed = r.cur.passed ∧ t.pav.resume = some r.mask ∧
        t.pav.provisional = [0, 0, 0, 0] ∧ t.pwr.ageOfs = s.sec.otp.ageOfs) ∧
    (s.pav.doneDue = true → exec .testDone s = .next (groupDone 10 (if s.pav.result.reason = 7 then 0 else 6)
      { post 0o120105 [w18 s.pav.result.passed, w18 s.pav.result.failed, w18 s.pav.result.notRun, w18 s.pav.result.reason,
        w18 s.pav.result.partner] (fresh s) with pav := { s.pav with doneDue := false } })) ∧
    (s.boot.phase = .running → 24 ≤ hoursSince s → s.pav.overdueH < hoursSince s → exec .testOverdue s =
      .next (post 0o120301 [w18 (min 262143 (hoursSince s))] { fresh s with pav := { s.pav with overdueH := hoursSince s } }))) ∧
  (∀ (s u : State) (c : Command),
    (Taken 0o1201 anyVariant noAuth s c u → longOf 10 s = none → c.p 1 ≤ 0o3777 → pavaneReady s = true → s.pav.run = none →
      ∃ t r, exec .testRun s = .next t ∧ t.mbx = (accepted c u).mbx ∧ t.pav.run = some r ∧ r.start = s.clk.tick ∧
        r.mask = (if c.p 1 = 0 then pavSteps s else c.p 1) ∧ r.byCommand = true ∧ r.cur.passed = 0 ∧
        Frame [.mbx, .own, .pwr, .sec, .pav] (fresh s) t ∧ t.pwr.state = .run) ∧
    (Taken 0o1202 anyVariant noAuth s c u → s.pav.run.isSome = true →
      exec .testAbort s = .next (replied c [] { u with pav := { u.pav with abortReq := true } })) ∧
    (Taken 0o1203 anyVariant noAuth s c u → exec .testResult s = .next (replied c (resultWords s.pav.result) u)) ∧
    (Taken 0o1204 anyVariant noAuth s c u → c.p 1 ≤ 3 → exec .testAgeing s = .next (replied c (ageingWords (c.p 1) s) u)))

/-! ## Security -/

/-- From R425, R426, R431, R435, R436: an authorised SEC.OPEN opens a session of its path at counter 0; SEC.CLOSE closes the path's
session; each ITEM of SEC.PROVISION with a value in its range and a session that may set it is accepted with that value as its work;
SEC.TAMPER_CLEAR that names no pin now asserted clears the latches it names and the failures counted; SEC.DEBUG_CHALLENGE with a
defined scope leaves a challenge of 16 bytes with that scope. -/
def Obligations.SecurityCommands : Prop :=
  ∀ (s u : State) (c : Command),
    (Taken 0o1301 anyVariant noAuth s c u → (pointOf (hostKey c)).isSome = true → (openScope c = true ∨ s.sec.hak.isSome = true) →
      openAuthorised c s = true → ∃ t ss, exec .secOpen s = .next t ∧ sessionOf c.box t = some ss ∧ ss.counter = 0 ∧
        ss.provisioning = openScope c ∧ sessionOf (otherBox c.box) t = sessionOf (otherBox c.box) s ∧ t.sec.hak = s.sec.hak ∧ t.sec.otp = s.sec.otp ∧
        t.clk = s.clk ∧ t.cfg = s.cfg) ∧
    (Taken 0o1302 anyVariant needsAuth s c u → ∃ t, exec .secClose s = .next t ∧ sessionOf c.box t = none ∧
      sessionOf (otherBox c.box) t = sessionOf (otherBox c.box) s ∧ t.sec.hak = s.sec.hak ∧ t.sec.otp = s.sec.otp ∧ t.clk = s.clk ∧ t.cfg = s.cfg) ∧
    (longOf 11 s = none →
      (Taken 0o1303 (fun c => opIs 0 c || decide (4 < c.p 1)) needsAuth s c u → c.p 1 = 0 → s.sec.otp.exhausted = false →
        (inProvisioning c u = true ∨ s.sec.hak.isSome = true) →
        ∃ key, exec .secProvisionHak s = .next { accepted c u with sec := { u.sec with op := some (.hak key) } }) ∧
      (Taken 0o1303 (opIs 1) needsAuth s c u → s.sec.otp.exhausted = false → (inProvisioning c u = true ∨ s.sec.hak.isSome = true) →
        (∀ w ∈ c.params.drop 1, w.toNat ≤ 2) → exec .secProvisionTamperActions s = .next { accepted c u with
          sec := { u.sec with op := some (.actions ((c.params.drop 1).map (·.toNat))) } }) ∧
      (Taken 0o1303 (opIs 2) needsAuth s c u → s.sec.otp.exhausted = false → (inProvisioning c u = true ∨ s.sec.hak.isSome = true) →
        2 ≤ c.p 2 → c.p 2 ≤ 64 → exec .secProvisionAuthLimit s = .next { accepted c u with
          sec := { u.sec with op := some (.authLimit (c.p 2)) } }) ∧
      (Taken 0o1303 (opIs 3) needsAuth s c u → inProvisioning c u = true → c.p 2 ≤ 3 → s.sec.otp.intHash.getD (c.p 2) none = none →
        ∃ h, exec .secProvisionIntHash s = .next { accepted c u with sec := { u.sec with op := some (.intHash (c.p 2) h) } }) ∧
      (Taken 0o1303 (opIs 4) needsAuth s c u → inProvisioning c u = true →
        exec .secProvisionCsigReq s = .next { accepted c u with sec := { u.sec with op := some .csig } })) ∧
    (∀ pins : BitVec 2, Taken 0o1304 anyVariant needsAuth s c u → c.p 1 ≤ 15 → (c.p 1 % 4) &&& pins.toNat = 0 →
      exec (.secTamperClear pins) s = .next (replied c [] { u with
        aon := { u.aon with tampStat := u.aon.tampStat &&& ~~~(BitVec.ofNat 4 (c.p 1)) }
        sec := { u.sec with authFails := [], authHigh := false } })) ∧
    (Taken 0o1305 anyVariant needsAuth s c u → 1 ≤ c.p 1 → c.p 1 ≤ 2 → ∃ t ch, exec .secDebugChallenge s = .next t ∧
      t.sec = { u.sec with challenge := some ch } ∧ ch.scope = c.p 1 ∧ ch.start = s.clk.tick ∧ ch.nonce.length = 16 ∧
      Frame [.free, .mbx, .pwr, .sec] (fresh s) t)

/-- From R112, R424, R429, R431 to R435: a session that has used its last counter closes; a response in time with an allowed key
and a good signature unlocks the challenge's scope, any other response ends the challenge as a failure, as do 60 s without one; a
tamper pin found asserted, or another source that is due, is latched and takes its action: from A1 on both sessions and the challenge
end, with A2 also the HAK, a provisioning in progress and one EPOCH fuse; a vault fault closes both sessions; a firmware that has run
60 s with its CTI has its counter burned into the anti-rollback fuses. -/
def Obligations.SecurityEvents : Prop :=
  ∀ s : State,
    (∀ (b : Box) (ss : Session), sessionOf b s = some ss → 262143 ≤ ss.counter →
      ∃ t, exec (.sessionCounterExhausted b) s = .next t ∧ sessionOf b t = none ∧ sessionOf (otherBox b) t = sessionOf (otherBox b) s ∧
        Frame [.out, .boot, .mbx, .hub, .sec] (fresh s) t) ∧
    (∀ (key sig : List Byte) (ch : Challenge), s.sec.challenge = some ch →
      (since ch.start s < 2880000 → debugKey key ch.scope s = true →
        ecdsaVerify key (sha256 (debugMessage ch s)) (sig.take 32) (sig.drop 32) = true →
        ∃ t, exec (.dbgResp key sig) s = .next t ∧ t.sec.challenge = none ∧ t.sec.debug = ch.scope ∧ t.sec.tamperDue = s.sec.tamperDue ∧
          t.sec.otp = s.sec.otp ∧ t.clk = s.clk) ∧
      ((2880000 ≤ since ch.start s ∨ debugKey key ch.scope s = false ∨
          ecdsaVerify key (sha256 (debugMessage ch s)) (sig.take 32) (sig.drop 32) = false) → exec (.dbgResp key sig) s = .next { fresh s with
        sec := { s.sec with challenge := none, tamperDue := s.sec.tamperDue ||| 4 } }) ∧
      (2880000 ≤ since ch.start s → exec .debugChallengeTimeout s = .next { fresh s with
        sec := { s.sec with challenge := none, tamperDue := s.sec.tamperDue ||| 4 } })) ∧
    (∀ (k : Fin 4) (periods : Nat), (k.val < 2 ∨ bitOf s.sec.tamperDue.toNat k.val = true) →
      ∃ t, exec (.tamper ⟨periods, k⟩) s = .next t ∧ t.aon.tampStat = s.aon.tampStat ||| (1#4 <<< k.val) ∧
        t.clk = (sleepTime periods (fresh s)).clk ∧ t.cfg = s.cfg ∧
        (s.sec.actions.getD k.val 0 = 0 → t.sec.hak = s.sec.hak ∧ t.sec.sessU = s.sec.sessU ∧ t.sec.sessS = s.sec.sessS) ∧
        (1 ≤ s.sec.actions.getD k.val 0 → t.sec.sessU = none ∧ t.sec.sessS = none ∧ t.sec.challenge = none) ∧
        (2 ≤ s.sec.actions.getD k.val 0 → t.sec.hak = none ∧ t.sec.op = none ∧
          t.sec.otp.epoch = (if 7 ≤ s.sec.otp.epoch then s.sec.otp.epoch else s.sec.otp.epoch + 1))) ∧
    (∀ a : Bool, ∃ t, exec (.vaultFault a) s = .next t ∧ t.sec.sessU = none ∧ t.sec.sessS = none ∧ t.sec.otp = s.sec.otp ∧ t.clk = s.clk) ∧
    (∀ fw : FwInfo, s.boot.fw = some fw → s.boot.phase = .running → fw.source ≠ 2 → s.sec.otp.antiroll < fw.rollback →
      s.cfg.active.isSome = true → awake s = true → s.aon.safeActive = false → 2880000 ≤ since s.sec.stableFrom s →
      exec .antirollBurn s = .next { fresh s with sec := { s.sec with otp := s.sec.otp.burnAntiroll fw.rollback } })

/-! ## Type-C, Power Delivery and port fusing -/

/-- From R342: on a fitted port, PD.STATUS reports; PD.SET_LIMIT within its range sets PMAX; PD.VCONN_SWAP, PD.ALT_MODE and
PD.HARD_RESET in the states they need are accepted with their work begun: the swap sent, discovery due or the mode left, the reset
sent. -/
def Obligations.PdCommands : Prop :=
  ∀ (s u : State) (c : Command), s.flex.length = 4 → 1 ≤ c.p 1 → c.p 1 ≤ 4 → fitted (c.p 1 - 1) s = true →
    (Taken 0o1501 anyVariant noAuth s c u → exec .pdStatus s = .next (replied c (pdStatusWords (flexAt (c.p 1 - 1) s)) u)) ∧
    (Taken 0o1502 anyVariant noAuth s c u → 25 ≤ c.p 2 → c.p 2 ≤ 450 → bitOf (c.p 3) 0 = false →
      exec .pdSetLimit s = .next (replied c [w18 (c.p 2)] { u with flex := listModify u.flex (c.p 1 - 1) (fun f => { f with pmax := some (c.p 2) }) })) ∧
    (longOf 13 s = none →
      (∀ k, Taken 0o1503 anyVariant noAuth s c u → (flexAt (c.p 1 - 1) s).contract = some k → (flexAt (c.p 1 - 1) s).trans = none → c.p 2 ≤ 1 →
        (flexAt (c.p 1 - 1) s).vconn ≠ (c.p 2 == 1) → (c.p 2 = 0 ∨ (vconnPort (c.p 1 - 1) s = true ∧ (flexAt (c.p 1 - 1) s).vconnTrip = false)) →
        exec .pdVconnSwap s = .next { accepted c u with
          out := [.pd (c.p 1 - 1) .vconnSwap]
          flex := listModify u.flex (c.p 1 - 1) (fun f => { f with cmd := some 3, swap := some (c.p 2 == 1), swapWaits := 0 }) }) ∧
      (∀ k, Taken 0o1504 (fun c => c.p 2 != 0) noAuth s c u → c.p 2 = 1 → (flexAt (c.p 1 - 1) s).role = .source →
        (flexAt (c.p 1 - 1) s).contract = some k → (flexAt (c.p 1 - 1) s).altMode = false →
        exec .pdAltModeEnter s = .next { accepted c u with
          flex := listModify u.flex (c.p 1 - 1) (fun f => { f with cmd := some 4, discover := true }) }) ∧
      (∀ k, Taken 0o1504 (fun c => c.p 2 == 0) noAuth s c u → (flexAt (c.p 1 - 1) s).role = .source → (flexAt (c.p 1 - 1) s).contract = some k →
        ∃ t, exec .pdAltModeExit s = .next t ∧ (flexAt (c.p 1 - 1) t).altMode = false ∧ (flexAt (c.p 1 - 1) t).loop = false ∧
          (flexAt (c.p 1 - 1) t).faultRet = false ∧ (flexAt (c.p 1 - 1) t).cmd = none ∧ longOf 13 t = none ∧
          Frame [.out, .boot, .mbx, .hub, .flex, .pwr, .sec] (fresh s) t) ∧
      (Taken 0o1505 anyVariant noAuth s c u → carriesFace (c.p 1 - 1) s = false →
        ((flexAt (c.p 1 - 1) s).role = .source ∨ (flexAt (c.p 1 - 1) s).role = .sinkB ∨ (flexAt (c.p 1 - 1) s).role = .sinkRefused) →
        ∃ t, exec .pdHardReset s = .next t ∧ .pd (c.p 1 - 1) .hardReset ∈ t.out ∧ (flexAt (c.p 1 - 1) t).contract = none ∧
          (flexAt (c.p 1 - 1) t).cmd = some 5 ∧ (flexAt (c.p 1 - 1) t).reason = 4 ∧
          (flexAt (c.p 1 - 1) t).hardResets = (flexAt (c.p 1 - 1) s).hardResets + 1))

/-- From R313, R315, R316, R319 to R321, R323, R332: a sink attaches to a port with Rp and VBUS begins to rise; a DRP port toggles
except while Try.SRC runs; a source that attaches where Try.SRC is enabled and not yet run meets Rp, otherwise it attaches to upstream
B or is refused; an accessory is refused; a partner that leaves takes its contract with it, and one that leaves during a transition
drops the gates and VCONN at once. -/
def Obligations.TypeCAttachAndDetach : Prop :=
  ∀ (n : FlexPort) (s : State), s.flex.length = 4 → flexRuns s = true →
    (ccAllowed n.val s = true → (flexAt n.val s).role = .unattached →
      (∀ cc2 ra pd : Bool, (flexAt n.val s).cc = .rp → flexRole n.val s ≠ 2 → ∃ t, exec (.ccAttach n cc2 ra pd) s = .next t ∧
        Frame [.out, .boot, .mbx, .hub, .flex] (fresh s) t ∧ (flexAt n.val t).role = .source ∧ (flexAt n.val t).cc2 = cc2 ∧
        (flexAt n.val t).pd = pd ∧ (flexAt n.val t).vconn = (ra && vconnPort n.val s) ∧ (flexAt n.val t).gate5 = .linear ∧
        (∀ m, m ≠ n.val → flexAt m t = flexAt m s)) ∧
      (flexRole n.val s = 1 → trying n.val s = false → ∃ t, exec (.drpToggle n) s = .next t ∧ Frame [.flex] (fresh s) t ∧
        flexAt n.val t = (if (flexAt n.val s).cc = .rp then { flexAt n.val s with cc := .rd }
          else { flexAt n.val s with cc := .rp, trySince := none })) ∧
      (∀ cc2 pd : Bool, (flexAt n.val s).cc = .rd → ∃ t, exec (.sinkAttach n cc2 pd) s = .next t ∧
        (triesSource n.val s = true → Frame [.flex] (fresh s) t ∧
          flexAt n.val t = { flexAt n.val s with cc := .rp, trySince := some s.clk.tick }) ∧
        (triesSource n.val s = false → Frame [.out, .boot, .mbx, .hub, .flex] (fresh s) t ∧ flexAt n.val t = { flexAt n.val s with
          role := if flexRole n.val s = 2 then .sinkB else .sinkRefused, trySince := none, cc2 := cc2, pd := pd })) ∧
      (∃ t, exec (.accessoryRefused n) s = .next t ∧ Frame [.out, .boot, .mbx, .hub, .flex] (fresh s) t ∧
        flexAt n.val t = { flexAt n.val s with role := .accessory })) ∧
    (((flexAt n.val s).role = .source ∨ (flexAt n.val s).role = .accessory) → inTransition (flexAt n.val s) = false →
      (flexAt n.val s).removed = none → ∃ t, exec (.ccDetach n) s = .next t ∧ Frame [.out, .boot, .mbx, .hub, .flex] (fresh s) t ∧
        (flexAt n.val t).role = .unattached ∧ (flexAt n.val t).contract = none ∧ (flexAt n.val t).vconn = false ∧
        (flexAt n.val t).altMode = false ∧ ((flexAt n.val s).role = .source → (flexAt n.val t).gate5 = .off ∧ (flexAt n.val t).gateH = .off ∧
          (flexAt n.val t).disch = true)) ∧
    (inTransition (flexAt n.val s) = true → (flexAt n.val s).removed = none → ∃ t, exec (.removalDuringTransition n) s = .next t ∧
      Frame [.flex] (fresh s) t ∧ (flexAt n.val t).gate5 = .off ∧ (flexAt n.val t).gateH = .off ∧ (flexAt n.val t).vconn = false ∧
      (flexAt n.val t).removed.isSome = true) ∧
    (((flexAt n.val s).role = .sinkB ∨ (flexAt n.val s).role = .sinkRefused) → carriesFace n.val s = false →
      ∃ t, exec (.sinkDetach n) s = .next t ∧ (flexAt n.val t).role = .unattached ∧ (flexAt n.val t).contract = none ∧ t.clk = s.clk ∧ t.cfg = s.cfg)

/-- From R319, R324, R326, R328, R329: a Request within the offer is accepted, one beyond it rejected, one during a transition meets
Wait; the transition starts a ramp to the new voltage; PS_RDY puts the contract in force; capabilities are sent anew on their repeat
and on a changed budget; a missing Request means Hard_Reset, and after two of them ErrorRecovery; a Hard_Reset received ends the
contract. -/
def Obligations.ContractsAreNegotiated : Prop :=
  ∀ (n : FlexPort) (s : State), s.flex.length = 4 → flexRuns s = true →
    (∀ r : PdRequest, heard n.val s = true → (flexAt n.val s).role = .source → (flexAt n.val s).hardFrom = none → (flexAt n.val s).offered ≠ [] →
      ((flexAt n.val s).trans.isSome = true → ∃ t, exec (.pdRequest n r) s = .next t ∧ t.out = [.pd n.val .wait] ∧
        (flexAt n.val t).trans = (flexAt n.val s).trans) ∧
      ((flexAt n.val s).trans = none → acceptable (flexAt n.val s) r = none → ∃ t, exec (.pdRequest n r) s = .next t ∧
        t.out = [.pd n.val .reject] ∧ (flexAt n.val t).contract = (flexAt n.val s).contract ∧ (flexAt n.val t).trans = none) ∧
      (∀ v, (flexAt n.val s).trans = none → acceptable (flexAt n.val s) r = some v → ∃ t q, exec (.pdRequest n r) s = .next t ∧
        t.out = [.pd n.val .accept] ∧ (flexAt n.val t).trans = some q ∧ q.dst = ⟨v, r.maxCur, r.mismatch⟩ ∧ q.begun = false ∧
        (flexAt n.val t).awaiting = false)) ∧
    (∀ q, (flexAt n.val s).trans = some q → q.begun = false → q.same = false → ∃ t, exec (.voltageTransition n) s = .next t ∧
      Frame [.flex] (fresh s) t ∧ (flexAt n.val t).trans = some { q with begun := true } ∧ (flexAt n.val t).gateH = .linear ∧
      (flexAt n.val t).ramp = some { start := (flexAt n.val s).vbus, target := 1000 * q.dst.volt, sets := 0, energy := 0, fbEnergy := 0 }) ∧
    (∀ q, (flexAt n.val s).trans = some q → (q.same = true ∨ ∃ k, q.hand = some k ∧ 100 ≤ k) → (flexAt n.val s).removed = none →
      ∃ t, exec (.pdContract n) s = .next t ∧ Frame [.out, .boot, .mbx, .hub, .flex] (fresh s) t ∧ .pd n.val .psRdy ∈ t.out ∧
        (flexAt n.val t).contract = some q.dst ∧ (flexAt n.val t).trans = none ∧ (flexAt n.val t).hardResets = 0) ∧
    ((flexAt n.val s).role = .source → (flexAt n.val s).ramp = none → (flexAt n.val s).gate5 = .full → (flexAt n.val s).contract = none →
      (flexAt n.val s).trans = none → (flexAt n.val s).awaiting = false → (flexAt n.val s).hardFrom = none → (flexAt n.val s).capsCount < 50 →
      ∀ g : Bool, ∃ t, exec (.sourceCapabilitiesRepeat n g) s = .next t ∧ Frame [.out, .flex] (fresh s) t ∧
        t.out = [.pd n.val (.sourceCapabilities ((pdosOf n.val s).map pdoObject))] ∧ (flexAt n.val t).offered = pdosOf n.val s ∧
        (flexAt n.val t).capsCount = (flexAt n.val s).capsCount + 1 ∧ (flexAt n.val t).awaiting = (g && (flexAt n.val s).pd)) ∧
    (awake s = true → renegotiates n.val s = true → ∃ t, exec (.budgetRenegotiation n) s = .next t ∧ Frame [.out, .flex] (fresh s) t ∧
      t.out = [.pd n.val (.sourceCapabilities ((pdosOf n.val s).map pdoObject))] ∧ (flexAt n.val t).awaiting = true ∧ (flexAt n.val t).reason = 2) ∧
    ((flexAt n.val s).role = .source → (flexAt n.val s).awaiting = true →
      ((flexAt n.val s).hardResets < 2 → ∃ t, exec (.senderResponseTimeout n) s = .next t ∧ .pd n.val .hardReset ∈ t.out ∧
        (flexAt n.val t).hardFrom = some s.clk.tick ∧ (flexAt n.val t).contract = none ∧
        (flexAt n.val t).hardResets = (flexAt n.val s).hardResets + 1) ∧
      (2 ≤ (flexAt n.val s).hardResets → ∃ t, exec (.errorRecovery n) s = .next t ∧ (flexAt n.val t).errorFrom = some s.clk.tick ∧
        (flexAt n.val t).cc = .open ∧ (flexAt n.val t).gate5 = .off ∧ (flexAt n.val t).contract = none)) ∧
    (heard n.val s = true → ∃ t, exec (.hardResetReceived n) s = .next t ∧ (flexAt n.val t).contract = none ∧
      (flexAt n.val t).hardResets = (flexAt n.val s).hardResets ∧ Frame [.out, .boot, .mbx, .hub, .flex] (fresh s) t)

/-- From R323, R333 to R338, R341: the partner's VCONN_Swap with VCONN on meets Accept and takes VCONN, and in SLEEP meets Wait; an
over-current opens the VCONN switch and marks it tripped; Get_Status on a revision 3.x Source meets Status; PR_Swap and
Get_Source_Cap to a Source, Source_Capabilities to a Sink, and Discover Identity on upstream B are answered; discovery with every
answer an ACK enters the alive-loop mode; a fault return is latched and released. -/
def Obligations.PdMessagesAndLoop : Prop :=
  ∀ (n : FlexPort) (s : State), s.flex.length = 4 →
    (heard n.val s = true → s.pwr.state ≠ .sleep → (flexAt n.val s).trans = none → (flexAt n.val s).swap = none → (flexAt n.val s).vconn = true →
      ∃ t, exec (.vconnSwap n false .ack true) s = .next t ∧ .pd n.val .accept ∈ t.out ∧ (flexAt n.val t).vconn = false ∧
        (flexAt n.val t).vconnWasSink = true ∧ Frame [.out, .boot, .mbx, .hub, .flex] (fresh s) t) ∧
    (heard n.val s = true → s.pwr.state = .sleep → ∀ a b, exec (.vconnSwap n false a b) s = .next { fresh s with out := [.pd n.val .wait] }) ∧
    (s.pwr.state ≠ .hibernate → (flexAt n.val s).vconn = true → ∃ t, exec (.vconnOverCurrent n) s = .next t ∧
      flexAt n.val t = { flexAt n.val s with vconn := false, vconnTrip := true } ∧
      Frame [.out, .boot, .aon, .mbx, .flt, .hub, .zon, .flex] (fresh s) t) ∧
    (heard n.val s = true → (flexAt n.val s).role = .source → (flexAt n.val s).rev3 = true → exec (.getStatus n) s =
      .next { fresh s with out := [.pd n.val (.status (!s.rails.pfail) (statusTemp n.val s))] }) ∧
    (heard n.val s = true → (flexAt n.val s).spoken = true → (flexAt n.val s).hardFrom = none → ∀ rev2 : Bool,
      ((flexAt n.val s).role = .source → exec (.pdMessage n rev2 .prSwap) s =
        .next { fresh s with out := [.pd n.val (if (flexAt n.val s).rev3 then .notSupported else .reject)] }) ∧
      ((flexAt n.val s).role = .source → (flexAt n.val s).trans = none → ∃ t, exec (.pdMessage n rev2 .getSourceCap) s = .next t ∧
        t.out = [.pd n.val (.sourceCapabilities ((pdosOf n.val s).map pdoObject))] ∧ (flexAt n.val t).awaiting = true ∧
        Frame [.out, .flex] (fresh s) t) ∧
      ((flexAt n.val s).role ≠ .source → exec (.pdMessage n rev2 .sourceCaps) s = .next { fresh s with out := [.pd n.val (.request 0x1300280A)] })) ∧
    (upstreamB s = some n.val → heard n.val s = true → (flexAt n.val s).role = .sinkB → s.pwr.state ≠ .sleep → exec (.discoverIdentity 0xFF00 1) s =
      .next { fresh s with out := [.pd n.val (.vdm 0xFF00A041 [0x48002F5A, 0, 0x18130420])] }) ∧
    (∀ k, heard n.val s = true → awake s = true → (flexAt n.val s).role = .source → (flexAt n.val s).contract = some k →
      (flexAt n.val s).trans = none → (flexAt n.val s).discover = true → ∃ t, exec (.altModeLoopStart n ⟨.ack, .ack, true, .ack, 1, .ack⟩) s = .next t ∧
        (flexAt n.val t).altMode = true ∧ (flexAt n.val t).loop = true ∧ (flexAt n.val t).discover = false ∧
        Frame [.out, .boot, .mbx, .hub, .flex] (fresh s) t) ∧
    (∀ att : Bool, flexRuns s = true → (flexAt n.val s).altMode = true → ((flexAt n.val s).loop = true ∨ att = true) →
      ((flexAt n.val s).faultRet = false → ∃ t, exec (.faultReturnAsserted n att) s = .next t ∧
        flexAt n.val t = { flexAt n.val s with faultRet := true } ∧ Frame [.out, .boot, .aon, .mbx, .flt, .hub, .zon, .flex] (fresh s) t) ∧
      ((flexAt n.val s).faultRet = true → ∃ t, exec (.faultReturnReleased n att) s = .next t ∧
        flexAt n.val t = { flexAt n.val s with faultRet := false } ∧ Frame [.out, .boot, .mbx, .hub, .flex] (fresh s) t))

/-- From R55, R343, R349, R354 to R357, R361: a sample set enters rails and ports, and none without four readings of each kind (the
model's own check of the row's operands); a short trip turns the port off, counts, and backs off, or latches on the third; the backoff
ends once cooled; the latch ends on Rd after three probes without it; the counts clear after the time of steady power; the power-fail
warning asserts below its threshold, and releases when the last sample set is above it by more than the 20 mV hysteresis (log 46), or with
the threshold 0. -/
def Obligations.PortFusing : Prop :=
  ∀ s : State, s.flex.length = 4 →
    (∀ a : AdcSet, a.iA.length = 4 → a.iB.length = 4 → a.vbus.length = 4 → s.pwr.state ≠ .hibernate → ∃ t, exec (.adcSampleSet a) s = .next t ∧
      t.rails.vsrc5 = a.vsrc5 ∧ t.rails.vsrch = a.vsrch ∧ t.rails.vin = a.vin ∧ t.clk = s.clk ∧ t.cfg = s.cfg ∧
      (∀ k < 4, (flexAt k t).vbus = a.vbus.getD k 0 ∧ (flexAt k t).iA = a.iA.getD k 0 ∧ (flexAt k t).iB = a.iB.getD k 0)) ∧
    (∀ a : AdcSet, (a.iA.length ≠ 4 ∨ a.iB.length ≠ 4 ∨ a.vbus.length ≠ 4) → ∃ f, exec (.adcSampleSet a) s = .fault f) ∧
    (∀ (n : FlexPort) (i : Nat), s.pwr.state ≠ .hibernate → anyOn (flexAt n.val s) s = true → shortI n.val s ≤ i →
      ∃ t, exec (.shortTrip n i) s = .next t ∧ (flexAt n.val t).gate5 = .off ∧ (flexAt n.val t).gateH = .off ∧ (flexAt n.val t).contract = none ∧
        (flexAt n.val t).cc = .open ∧ (flexAt n.val t).trips = (flexAt n.val s).trips + 1 ∧
        (flexAt n.val t).shorts = min 3 ((flexAt n.val s).shorts + 1) ∧ (flexAt n.val t).latched = decide (2 ≤ (flexAt n.val s).shorts) ∧
        ((flexAt n.val s).shorts < 2 → (flexAt n.val t).backoff =
          some (s.clk.tick + BitVec.ofNat 54 (200 * 2 ^ min (flexAt n.val s).trips 5 * 48)))) ∧
    (∀ (n : FlexPort) (e : Tick), (flexAt n.val s).backoff = some e → e.toNat ≤ s.clk.tick.toNat → cooled n.val s = true →
      ∃ t, exec (.backoffExpiry n) s = .next t ∧ (flexAt n.val t).backoff = none ∧ (flexAt n.val t).latched = false ∧
        Frame [.out, .boot, .mbx, .hub, .ports, .flex] (fresh s) t) ∧
    (∀ n : FlexPort, (flexAt n.val s).latched = true →
      (3 ≤ (flexAt n.val s).absent → ∃ t, exec (.latchProbe n true) s = .next t ∧ (flexAt n.val t).latched = false ∧
        (flexAt n.val t).trips = 0 ∧ (flexAt n.val t).shorts = 0) ∧
      (∃ t, exec (.latchProbe n false) s = .next t ∧ Frame [.flex] (fresh s) t ∧
        flexAt n.val t = { flexAt n.val s with absent := (flexAt n.val s).absent + 1 })) ∧
    (∀ (n : FlexPort) (from_ : Tick), (flexAt n.val s).steadyFrom = some from_ → efuseParam n.val 15 s * 48000 ≤ since from_ s →
      ∃ t, exec (.consecClear n) s = .next t ∧ Frame [.flex] (fresh s) t ∧ flexAt n.val t = { flexAt n.val s with trips := 0, shorts := 0 }) ∧
    (∀ vin : BitVec 12, vin.toNat < pfailTh s → s.pwr.state ≠ .hibernate → s.rails.pfail = false → ∃ t, exec (.pfailWarnAssert vin) s = .next t ∧
      t.rails.pfail = true ∧ Frame [.out, .boot, .mbx, .hub, .flex, .rails] (fresh s) t) ∧
    (s.rails.pfail = true → s.pwr.state ≠ .hibernate → (pfailTh s = 0 ∨ 1200 * pfailTh s + 20 * 4096 < 1200 * s.rails.vin) →
      ∃ t, exec .pfailWarnRelease s = .next t ∧ t.rails.pfail = false ∧
      Frame [.out, .boot, .mbx, .hub, .flex, .rails] (fresh s) t)

/-! ## Output balls -/

/-- From R36 to R38: a power-on reset puts the balls that the model holds into the reset states of the table; HIBERNATE opens gates,
VCONN and discharge, takes power from the HS ports, releases PFAIL_WARN_N and turns GPIO, MCLK_OUT, TDM and SBU to their reset states; a
warm chip reset keeps gates, discharge, CC, VCONN and PWREN, and stops TDM, MCLK_OUT, SBU and the upstream connection. -/
def Obligations.OutputBallsFollowPowerAndReset : Prop :=
  (∀ (v33 vc ns : Nat) (st : Straps) (s : State), (v33 < 2650 ∨ vc < 470) → 2000 ≤ ns → ∃ t, exec (.powerOnReset v33 vc ns st) s = .next t ∧
    balls t = { usaTerminations := false, usaPullUp := false, vconn := List.replicate 4 false, pump := false, xtal := true
                xspiClk := .low, xspiCsN := .high, xspiResetN := .low, miso := .hiZ, pmbReleased := true, tdm := false, mclk := 0
                gpio := List.replicate 8 .hiZ, faultAlive := .low, faultN := .low, pfailWarnN := .hiZ, resetOutN := .low, tdo := .hiZ
                gate5 := List.replicate 4 false, gateH := List.replicate 4 false, disch := List.replicate 4 false
                cc := List.replicate 4 .open, sbuLoop := List.replicate 4 false, pwren := List.replicate 6 false }) ∧
  (∀ (s u : State) (c : Command), Taken 0o1002 (opIs 3) enterNeedsAuth s c u → longOf 8 s = none → c.p 2 = 0 → c.p 3 ≤ 1 →
    lowPowerBlocked s = false → s.pwr.moving = false → ∃ t, exec .pwrEnterHibernate s = .next t ∧
      (∀ b ∈ (balls t).gate5 ++ (balls t).gateH ++ (balls t).vconn ++ (balls t).disch ++ (balls t).pwren ++ (balls t).sbuLoop, b = false) ∧
      (balls t).pump = false ∧ (balls t).xtal = false ∧ (balls t).gpio = List.replicate 8 .hiZ ∧ (balls t).pfailWarnN = .hiZ ∧
      (balls t).mclk = 0 ∧ (balls t).tdm = false ∧ (balls t).xspiResetN = .low ∧ (balls t).usaPullUp = false) ∧
  (∀ s : State, fwRuns s = true → awake s = true → s.boot.warmReq ≠ [] → ∃ t, exec .warmChipReset s = .next t ∧
    (balls t).gate5 = (balls s).gate5 ∧ (balls t).gateH = (balls s).gateH ∧ (balls t).disch = (balls s).disch ∧
    (balls t).cc = (balls s).cc ∧ (balls t).vconn = (balls s).vconn ∧ (balls t).pwren = (balls s).pwren ∧
    (balls t).resetOutN = (balls s).resetOutN ∧ (balls t).tdm = false ∧ (balls t).mclk = 0 ∧ (balls t).usaTerminations = false ∧
    (balls t).usaPullUp = false ∧ (balls t).gpio = List.replicate 8 .hiZ ∧ (∀ b ∈ (balls t).sbuLoop, b = false))
end

