-- ==== Sys2Proof/Laws/Command.lean ====
section
/-!
SUPPORT. What the run-up of a command packet does: which packet is taken, what taking it leaves alone, and how the three kinds of
command answer. A proof about a firmware command cites these and the command's own check and effect.
-/

namespace Sys2Proof.Laws

open Sys2Proof
open Sys2Proof.Machine
open Sys2Proof.Safety

theorem Frame_refl (l : List Group) (s : State) : Frame l s s := by intro g _; cases g <;> rfl

theorem Frame_trans {l m : List Group} {s t u : State} (h : Frame l s t) (h' : Frame m t u) : Frame (l ++ m) s u := by
  intro g hg
  have a := h g (fun x => hg (List.mem_append_left _ x))
  have b := h' g (fun x => hg (List.mem_append_right _ x))
  cases g <;> exact Eq.trans b a

theorem Frame_mono {l m : List Group} {s t : State} (h : Frame l s t) (hl : ∀ g ∈ l, g ∈ m) : Frame m s t :=
  fun g hg => h g (fun x => hg (hl g x))

/-- What a packet that is this command is: the next packet, as a command, clean, known and of this code and variant. -/
theorem takesThis_spec {code : Nat} {v : Command → Bool} {s : State} {b : Box} {k : Nat} {p : Packet} {c : Command}
    (h : takesThis code v s = some (b, k, p, c)) :
    nextPacket s = some (b, k, p) ∧ c = commandOf b p ∧ c.poisoned = false ∧ commandOk c = true ∧ cmdCode c.word0 = code ∧ v c = true := by
  simp only [takesThis] at h
  split at h
  · cases h
  · split at h
    · rename_i h1 h2
      simp only [Option.some.injEq, Prod.mk.injEq] at h
      obtain ⟨rfl, rfl, rfl, rfl⟩ := h
      exact ⟨h1, rfl, h2.2.1, h2.2.2.1, h2.2.2.2.1, h2.2.2.2.2⟩
    · cases h

theorem inboundParity_clean (b : Box) (p : Packet) (s : State) (h : p.words.any MbxWord.poisoned = false) :
    inboundParity b p s = s := by
  have : p.words.filter MbxWord.poisoned = [] := by simpa [List.filter_eq_nil_iff] using h
  simp [inboundParity, this]

/-! ## The three kinds of command -/

variable {code : Nat} {v : Command → Bool} {n : Command → State → Bool} {s u : State} {c : Command}

theorem immediate_taken (check : Command → State → Nat) (run : Command → State → List Word × State)
    (h : Taken code v n s c u) (hc : check c u = stOk) :
    effect (immediateCommand code v n check run) s = .next (replied c (run c u).1 (run c u).2) := by
  obtain ⟨b, k, p, h1, h2⟩ := h
  simp only [effect, immediateCommand, h1, h2, hc]; rfl

theorem immediate_refused (check : Command → State → Nat) (run : Command → State → List Word × State)
    (h : Taken code v n s c u) (hc : check c u ≠ stOk) :
    effect (immediateCommand code v n check run) s = .next (answer c (check c u) [] false false u) := by
  obtain ⟨b, k, p, h1, h2⟩ := h
  simp only [effect, immediateCommand, h1, h2, if_neg hc]; rfl

theorem long_taken (check : Command → State → Nat) (run : Command → State → State)
    (h : Taken code v n s c u) (hc : withBusy true c (check c u) u = stOk) :
    effect (longCommand code v n check run) s = .next (run c (accepted c u)) := by
  obtain ⟨b, k, p, h1, h2⟩ := h
  simp only [effect, longCommand, h1, h2, hc]; rfl

theorem long_refused (check : Command → State → Nat) (run : Command → State → State)
    (h : Taken code v n s c u) (hc : withBusy true c (check c u) u ≠ stOk) :
    effect (longCommand code v n check run) s = .next (answer c (withBusy true c (check c u) u) [] true false u) := by
  obtain ⟨b, k, p, h1, h2⟩ := h
  simp only [effect, longCommand, h1, h2, if_neg hc]; rfl

theorem boundary_taken (check : Command → State → Nat) (h : Taken code v n s c u) (hc : check c u = stOk) :
    effect (boundaryCommand code v n check) s = .next (putOff c u) := by
  obtain ⟨b, k, p, h1, h2⟩ := h
  simp only [effect, boundaryCommand, h1, h2, hc]; rfl

theorem boundary_refused (check : Command → State → Nat) (h : Taken code v n s c u) (hc : check c u ≠ stOk) :
    effect (boundaryCommand code v n check) s = .next (answer c (check c u) [] false false u) := by
  obtain ⟨b, k, p, h1, h2⟩ := h
  simp only [effect, boundaryCommand, h1, h2, if_neg hc]; rfl

end Sys2Proof.Laws
end

