-- ==== Sys2Proof/Laws/FrameOps.lean ====
section
/-!
SUPPORT. What the shared operations, the register window, the mailboxes, flash and faults leave alone: for each operation one lemma that names the only groups of the state that it
may change, as equations that simp uses one by one.
-/

namespace Sys2Proof.Machine

set_option linter.all false

open Sys2Proof

/-! ## Iteration and choice -/

theorem foldl_keeps {α β : Type} (p : State → β) (f : State → α → State) (h : ∀ s a, p (f s a) = p s) (l : List α) (s : State) :
    p (l.foldl f s) = p s := by
  induction l generalizing s with
  | nil => rfl
  | cons a l ih => rw [List.foldl, ih, h]

@[simp] theorem foldl_pending {α : Type} (f : State → α → State) (h : ∀ s a, (f s a).pending = s.pending) (l : List α) (s : State) :
    (l.foldl f s).pending = s.pending := foldl_keeps State.pending f h l s
@[simp] theorem ite_pending (c : Prop) [Decidable c] (a b : State) : (if c then a else b).pending = if c then a.pending else b.pending :=
  apply_ite State.pending c a b

@[simp] theorem foldl_out {α : Type} (f : State → α → State) (h : ∀ s a, (f s a).out = s.out) (l : List α) (s : State) :
    (l.foldl f s).out = s.out := foldl_keeps State.out f h l s
@[simp] theorem ite_out (c : Prop) [Decidable c] (a b : State) : (if c then a else b).out = if c then a.out else b.out :=
  apply_ite State.out c a b

@[simp] theorem foldl_free {α : Type} (f : State → α → State) (h : ∀ s a, (f s a).free = s.free) (l : List α) (s : State) :
    (l.foldl f s).free = s.free := foldl_keeps State.free f h l s
@[simp] theorem ite_free (c : Prop) [Decidable c] (a b : State) : (if c then a else b).free = if c then a.free else b.free :=
  apply_ite State.free c a b

@[simp] theorem foldl_clk {α : Type} (f : State → α → State) (h : ∀ s a, (f s a).clk = s.clk) (l : List α) (s : State) :
    (l.foldl f s).clk = s.clk := foldl_keeps State.clk f h l s
@[simp] theorem ite_clk (c : Prop) [Decidable c] (a b : State) : (if c then a else b).clk = if c then a.clk else b.clk :=
  apply_ite State.clk c a b

@[simp] theorem foldl_boot {α : Type} (f : State → α → State) (h : ∀ s a, (f s a).boot = s.boot) (l : List α) (s : State) :
    (l.foldl f s).boot = s.boot := foldl_keeps State.boot f h l s
@[simp] theorem ite_boot (c : Prop) [Decidable c] (a b : State) : (if c then a else b).boot = if c then a.boot else b.boot :=
  apply_ite State.boot c a b

@[simp] theorem foldl_aon {α : Type} (f : State → α → State) (h : ∀ s a, (f s a).aon = s.aon) (l : List α) (s : State) :
    (l.foldl f s).aon = s.aon := foldl_keeps State.aon f h l s
@[simp] theorem ite_aon (c : Prop) [Decidable c] (a b : State) : (if c then a else b).aon = if c then a.aon else b.aon :=
  apply_ite State.aon c a b

@[simp] theorem foldl_win {α : Type} (f : State → α → State) (h : ∀ s a, (f s a).win = s.win) (l : List α) (s : State) :
    (l.foldl f s).win = s.win := foldl_keeps State.win f h l s
@[simp] theorem ite_win (c : Prop) [Decidable c] (a b : State) : (if c then a else b).win = if c then a.win else b.win :=
  apply_ite State.win c a b

@[simp] theorem foldl_mbx {α : Type} (f : State → α → State) (h : ∀ s a, (f s a).mbx = s.mbx) (l : List α) (s : State) :
    (l.foldl f s).mbx = s.mbx := foldl_keeps State.mbx f h l s
@[simp] theorem ite_mbx (c : Prop) [Decidable c] (a b : State) : (if c then a else b).mbx = if c then a.mbx else b.mbx :=
  apply_ite State.mbx c a b

@[simp] theorem foldl_flt {α : Type} (f : State → α → State) (h : ∀ s a, (f s a).flt = s.flt) (l : List α) (s : State) :
    (l.foldl f s).flt = s.flt := foldl_keeps State.flt f h l s
@[simp] theorem ite_flt (c : Prop) [Decidable c] (a b : State) : (if c then a else b).flt = if c then a.flt else b.flt :=
  apply_ite State.flt c a b

@[simp] theorem foldl_cfg {α : Type} (f : State → α → State) (h : ∀ s a, (f s a).cfg = s.cfg) (l : List α) (s : State) :
    (l.foldl f s).cfg = s.cfg := foldl_keeps State.cfg f h l s
@[simp] theorem ite_cfg (c : Prop) [Decidable c] (a b : State) : (if c then a else b).cfg = if c then a.cfg else b.cfg :=
  apply_ite State.cfg c a b

@[simp] theorem foldl_mem {α : Type} (f : State → α → State) (h : ∀ s a, (f s a).mem = s.mem) (l : List α) (s : State) :
    (l.foldl f s).mem = s.mem := foldl_keeps State.mem f h l s
@[simp] theorem ite_mem (c : Prop) [Decidable c] (a b : State) : (if c then a else b).mem = if c then a.mem else b.mem :=
  apply_ite State.mem c a b

@[simp] theorem foldl_hub {α : Type} (f : State → α → State) (h : ∀ s a, (f s a).hub = s.hub) (l : List α) (s : State) :
    (l.foldl f s).hub = s.hub := foldl_keeps State.hub f h l s
@[simp] theorem ite_hub (c : Prop) [Decidable c] (a b : State) : (if c then a else b).hub = if c then a.hub else b.hub :=
  apply_ite State.hub c a b

@[simp] theorem foldl_ports {α : Type} (f : State → α → State) (h : ∀ s a, (f s a).ports = s.ports) (l : List α) (s : State) :
    (l.foldl f s).ports = s.ports := foldl_keeps State.ports f h l s
@[simp] theorem ite_ports (c : Prop) [Decidable c] (a b : State) : (if c then a else b).ports = if c then a.ports else b.ports :=
  apply_ite State.ports c a b

@[simp] theorem foldl_own {α : Type} (f : State → α → State) (h : ∀ s a, (f s a).own = s.own) (l : List α) (s : State) :
    (l.foldl f s).own = s.own := foldl_keeps State.own f h l s
@[simp] theorem ite_own (c : Prop) [Decidable c] (a b : State) : (if c then a else b).own = if c then a.own else b.own :=
  apply_ite State.own c a b

@[simp] theorem foldl_sw {α : Type} (f : State → α → State) (h : ∀ s a, (f s a).sw = s.sw) (l : List α) (s : State) :
    (l.foldl f s).sw = s.sw := foldl_keeps State.sw f h l s
@[simp] theorem ite_sw (c : Prop) [Decidable c] (a b : State) : (if c then a else b).sw = if c then a.sw else b.sw :=
  apply_ite State.sw c a b

@[simp] theorem foldl_aud {α : Type} (f : State → α → State) (h : ∀ s a, (f s a).aud = s.aud) (l : List α) (s : State) :
    (l.foldl f s).aud = s.aud := foldl_keeps State.aud f h l s
@[simp] theorem ite_aud (c : Prop) [Decidable c] (a b : State) : (if c then a else b).aud = if c then a.aud else b.aud :=
  apply_ite State.aud c a b

@[simp] theorem foldl_zon {α : Type} (f : State → α → State) (h : ∀ s a, (f s a).zon = s.zon) (l : List α) (s : State) :
    (l.foldl f s).zon = s.zon := foldl_keeps State.zon f h l s
@[simp] theorem ite_zon (c : Prop) [Decidable c] (a b : State) : (if c then a else b).zon = if c then a.zon else b.zon :=
  apply_ite State.zon c a b

@[simp] theorem foldl_msg {α : Type} (f : State → α → State) (h : ∀ s a, (f s a).msg = s.msg) (l : List α) (s : State) :
    (l.foldl f s).msg = s.msg := foldl_keeps State.msg f h l s
@[simp] theorem ite_msg (c : Prop) [Decidable c] (a b : State) : (if c then a else b).msg = if c then a.msg else b.msg :=
  apply_ite State.msg c a b

@[simp] theorem foldl_flex {α : Type} (f : State → α → State) (h : ∀ s a, (f s a).flex = s.flex) (l : List α) (s : State) :
    (l.foldl f s).flex = s.flex := foldl_keeps State.flex f h l s
@[simp] theorem ite_flex (c : Prop) [Decidable c] (a b : State) : (if c then a else b).flex = if c then a.flex else b.flex :=
  apply_ite State.flex c a b

@[simp] theorem foldl_rails {α : Type} (f : State → α → State) (h : ∀ s a, (f s a).rails = s.rails) (l : List α) (s : State) :
    (l.foldl f s).rails = s.rails := foldl_keeps State.rails f h l s
@[simp] theorem ite_rails (c : Prop) [Decidable c] (a b : State) : (if c then a else b).rails = if c then a.rails else b.rails :=
  apply_ite State.rails c a b

@[simp] theorem foldl_snap {α : Type} (f : State → α → State) (h : ∀ s a, (f s a).snap = s.snap) (l : List α) (s : State) :
    (l.foldl f s).snap = s.snap := foldl_keeps State.snap f h l s
@[simp] theorem ite_snap (c : Prop) [Decidable c] (a b : State) : (if c then a else b).snap = if c then a.snap else b.snap :=
  apply_ite State.snap c a b

@[simp] theorem foldl_pwr {α : Type} (f : State → α → State) (h : ∀ s a, (f s a).pwr = s.pwr) (l : List α) (s : State) :
    (l.foldl f s).pwr = s.pwr := foldl_keeps State.pwr f h l s
@[simp] theorem ite_pwr (c : Prop) [Decidable c] (a b : State) : (if c then a else b).pwr = if c then a.pwr else b.pwr :=
  apply_ite State.pwr c a b

@[simp] theorem foldl_pav {α : Type} (f : State → α → State) (h : ∀ s a, (f s a).pav = s.pav) (l : List α) (s : State) :
    (l.foldl f s).pav = s.pav := foldl_keeps State.pav f h l s
@[simp] theorem ite_pav (c : Prop) [Decidable c] (a b : State) : (if c then a else b).pav = if c then a.pav else b.pav :=
  apply_ite State.pav c a b

@[simp] theorem foldl_sec {α : Type} (f : State → α → State) (h : ∀ s a, (f s a).sec = s.sec) (l : List α) (s : State) :
    (l.foldl f s).sec = s.sec := foldl_keeps State.sec f h l s
@[simp] theorem ite_sec (c : Prop) [Decidable c] (a b : State) : (if c then a else b).sec = if c then a.sec else b.sec :=
  apply_ite State.sec c a b

/-! ## Sets of groups that may change -/

abbrev OnlyMem (s t : State) : Prop :=
  t.pending = s.pending ∧ t.out = s.out ∧ t.free = s.free ∧ t.clk = s.clk ∧ t.boot = s.boot ∧ t.aon = s.aon ∧ t.win = s.win ∧
  t.mbx = s.mbx ∧ t.flt = s.flt ∧ t.cfg = s.cfg ∧ t.hub = s.hub ∧ t.ports = s.ports ∧ t.own = s.own ∧ t.sw = s.sw ∧
  t.aud = s.aud ∧ t.zon = s.zon ∧ t.msg = s.msg ∧ t.flex = s.flex ∧ t.rails = s.rails ∧ t.snap = s.snap ∧ t.pwr = s.pwr ∧
  t.pav = s.pav ∧ t.sec = s.sec

abbrev OnlyFree (s t : State) : Prop :=
  t.pending = s.pending ∧ t.out = s.out ∧ t.clk = s.clk ∧ t.boot = s.boot ∧ t.aon = s.aon ∧ t.win = s.win ∧ t.mbx = s.mbx ∧
  t.flt = s.flt ∧ t.cfg = s.cfg ∧ t.mem = s.mem ∧ t.hub = s.hub ∧ t.ports = s.ports ∧ t.own = s.own ∧ t.sw = s.sw ∧
  t.aud = s.aud ∧ t.zon = s.zon ∧ t.msg = s.msg ∧ t.flex = s.flex ∧ t.rails = s.rails ∧ t.snap = s.snap ∧ t.pwr = s.pwr ∧
  t.pav = s.pav ∧ t.sec = s.sec

abbrev OnlyOut (s t : State) : Prop :=
  t.pending = s.pending ∧ t.free = s.free ∧ t.clk = s.clk ∧ t.boot = s.boot ∧ t.aon = s.aon ∧ t.win = s.win ∧ t.mbx = s.mbx ∧
  t.flt = s.flt ∧ t.cfg = s.cfg ∧ t.mem = s.mem ∧ t.hub = s.hub ∧ t.ports = s.ports ∧ t.own = s.own ∧ t.sw = s.sw ∧
  t.aud = s.aud ∧ t.zon = s.zon ∧ t.msg = s.msg ∧ t.flex = s.flex ∧ t.rails = s.rails ∧ t.snap = s.snap ∧ t.pwr = s.pwr ∧
  t.pav = s.pav ∧ t.sec = s.sec

abbrev OnlyOutHub (s t : State) : Prop :=
  t.pending = s.pending ∧ t.free = s.free ∧ t.clk = s.clk ∧ t.boot = s.boot ∧ t.aon = s.aon ∧ t.win = s.win ∧ t.mbx = s.mbx ∧
  t.flt = s.flt ∧ t.cfg = s.cfg ∧ t.mem = s.mem ∧ t.ports = s.ports ∧ t.own = s.own ∧ t.sw = s.sw ∧ t.aud = s.aud ∧
  t.zon = s.zon ∧ t.msg = s.msg ∧ t.flex = s.flex ∧ t.rails = s.rails ∧ t.snap = s.snap ∧ t.pwr = s.pwr ∧ t.pav = s.pav ∧
  t.sec = s.sec

abbrev OnlyMbx (s t : State) : Prop :=
  t.pending = s.pending ∧ t.out = s.out ∧ t.free = s.free ∧ t.clk = s.clk ∧ t.boot = s.boot ∧ t.aon = s.aon ∧ t.win = s.win ∧
  t.flt = s.flt ∧ t.cfg = s.cfg ∧ t.mem = s.mem ∧ t.hub = s.hub ∧ t.ports = s.ports ∧ t.own = s.own ∧ t.sw = s.sw ∧
  t.aud = s.aud ∧ t.zon = s.zon ∧ t.msg = s.msg ∧ t.flex = s.flex ∧ t.rails = s.rails ∧ t.snap = s.snap ∧ t.pwr = s.pwr ∧
  t.pav = s.pav ∧ t.sec = s.sec

abbrev OnlyMbxHub (s t : State) : Prop :=
  t.pending = s.pending ∧ t.out = s.out ∧ t.free = s.free ∧ t.clk = s.clk ∧ t.boot = s.boot ∧ t.aon = s.aon ∧ t.win = s.win ∧
  t.flt = s.flt ∧ t.cfg = s.cfg ∧ t.mem = s.mem ∧ t.ports = s.ports ∧ t.own = s.own ∧ t.sw = s.sw ∧ t.aud = s.aud ∧
  t.zon = s.zon ∧ t.msg = s.msg ∧ t.flex = s.flex ∧ t.rails = s.rails ∧ t.snap = s.snap ∧ t.pwr = s.pwr ∧ t.pav = s.pav ∧
  t.sec = s.sec

abbrev OnlyOutMbxHub (s t : State) : Prop :=
  t.pending = s.pending ∧ t.free = s.free ∧ t.clk = s.clk ∧ t.boot = s.boot ∧ t.aon = s.aon ∧ t.win = s.win ∧ t.flt = s.flt ∧
  t.cfg = s.cfg ∧ t.mem = s.mem ∧ t.ports = s.ports ∧ t.own = s.own ∧ t.sw = s.sw ∧ t.aud = s.aud ∧ t.zon = s.zon ∧
  t.msg = s.msg ∧ t.flex = s.flex ∧ t.rails = s.rails ∧ t.snap = s.snap ∧ t.pwr = s.pwr ∧ t.pav = s.pav ∧ t.sec = s.sec

abbrev OnlyOutBootMbxHub (s t : State) : Prop :=
  t.pending = s.pending ∧ t.free = s.free ∧ t.clk = s.clk ∧ t.aon = s.aon ∧ t.win = s.win ∧ t.flt = s.flt ∧ t.cfg = s.cfg ∧
  t.mem = s.mem ∧ t.ports = s.ports ∧ t.own = s.own ∧ t.sw = s.sw ∧ t.aud = s.aud ∧ t.zon = s.zon ∧ t.msg = s.msg ∧
  t.flex = s.flex ∧ t.rails = s.rails ∧ t.snap = s.snap ∧ t.pwr = s.pwr ∧ t.pav = s.pav ∧ t.sec = s.sec

abbrev OnlyFlt (s t : State) : Prop :=
  t.pending = s.pending ∧ t.out = s.out ∧ t.free = s.free ∧ t.clk = s.clk ∧ t.boot = s.boot ∧ t.aon = s.aon ∧ t.win = s.win ∧
  t.mbx = s.mbx ∧ t.cfg = s.cfg ∧ t.mem = s.mem ∧ t.hub = s.hub ∧ t.ports = s.ports ∧ t.own = s.own ∧ t.sw = s.sw ∧
  t.aud = s.aud ∧ t.zon = s.zon ∧ t.msg = s.msg ∧ t.flex = s.flex ∧ t.rails = s.rails ∧ t.snap = s.snap ∧ t.pwr = s.pwr ∧
  t.pav = s.pav ∧ t.sec = s.sec

abbrev OnlyAon (s t : State) : Prop :=
  t.pending = s.pending ∧ t.out = s.out ∧ t.free = s.free ∧ t.clk = s.clk ∧ t.boot = s.boot ∧ t.win = s.win ∧ t.mbx = s.mbx ∧
  t.flt = s.flt ∧ t.cfg = s.cfg ∧ t.mem = s.mem ∧ t.hub = s.hub ∧ t.ports = s.ports ∧ t.own = s.own ∧ t.sw = s.sw ∧
  t.aud = s.aud ∧ t.zon = s.zon ∧ t.msg = s.msg ∧ t.flex = s.flex ∧ t.rails = s.rails ∧ t.snap = s.snap ∧ t.pwr = s.pwr ∧
  t.pav = s.pav ∧ t.sec = s.sec

abbrev OnlyZon (s t : State) : Prop :=
  t.pending = s.pending ∧ t.out = s.out ∧ t.free = s.free ∧ t.clk = s.clk ∧ t.boot = s.boot ∧ t.aon = s.aon ∧ t.win = s.win ∧
  t.mbx = s.mbx ∧ t.flt = s.flt ∧ t.cfg = s.cfg ∧ t.mem = s.mem ∧ t.hub = s.hub ∧ t.ports = s.ports ∧ t.own = s.own ∧
  t.sw = s.sw ∧ t.aud = s.aud ∧ t.msg = s.msg ∧ t.flex = s.flex ∧ t.rails = s.rails ∧ t.snap = s.snap ∧ t.pwr = s.pwr ∧
  t.pav = s.pav ∧ t.sec = s.sec

abbrev OnlyAonFltZon (s t : State) : Prop :=
  t.pending = s.pending ∧ t.out = s.out ∧ t.free = s.free ∧ t.clk = s.clk ∧ t.boot = s.boot ∧ t.win = s.win ∧ t.mbx = s.mbx ∧
  t.cfg = s.cfg ∧ t.mem = s.mem ∧ t.hub = s.hub ∧ t.ports = s.ports ∧ t.own = s.own ∧ t.sw = s.sw ∧ t.aud = s.aud ∧
  t.msg = s.msg ∧ t.flex = s.flex ∧ t.rails = s.rails ∧ t.snap = s.snap ∧ t.pwr = s.pwr ∧ t.pav = s.pav ∧ t.sec = s.sec

abbrev OnlyBootAon (s t : State) : Prop :=
  t.pending = s.pending ∧ t.out = s.out ∧ t.free = s.free ∧ t.clk = s.clk ∧ t.win = s.win ∧ t.mbx = s.mbx ∧ t.flt = s.flt ∧
  t.cfg = s.cfg ∧ t.mem = s.mem ∧ t.hub = s.hub ∧ t.ports = s.ports ∧ t.own = s.own ∧ t.sw = s.sw ∧ t.aud = s.aud ∧
  t.zon = s.zon ∧ t.msg = s.msg ∧ t.flex = s.flex ∧ t.rails = s.rails ∧ t.snap = s.snap ∧ t.pwr = s.pwr ∧ t.pav = s.pav ∧
  t.sec = s.sec

abbrev OnlyOutBootAonMbxFltHub (s t : State) : Prop :=
  t.pending = s.pending ∧ t.free = s.free ∧ t.clk = s.clk ∧ t.win = s.win ∧ t.cfg = s.cfg ∧ t.mem = s.mem ∧ t.ports = s.ports ∧
  t.own = s.own ∧ t.sw = s.sw ∧ t.aud = s.aud ∧ t.zon = s.zon ∧ t.msg = s.msg ∧ t.flex = s.flex ∧ t.rails = s.rails ∧
  t.snap = s.snap ∧ t.pwr = s.pwr ∧ t.pav = s.pav ∧ t.sec = s.sec

abbrev OnlyOutBootAonMbxFltHubZon (s t : State) : Prop :=
  t.pending = s.pending ∧ t.free = s.free ∧ t.clk = s.clk ∧ t.win = s.win ∧ t.cfg = s.cfg ∧ t.mem = s.mem ∧ t.ports = s.ports ∧
  t.own = s.own ∧ t.sw = s.sw ∧ t.aud = s.aud ∧ t.msg = s.msg ∧ t.flex = s.flex ∧ t.rails = s.rails ∧ t.snap = s.snap ∧
  t.pwr = s.pwr ∧ t.pav = s.pav ∧ t.sec = s.sec

abbrev OnlyWin (s t : State) : Prop :=
  t.pending = s.pending ∧ t.out = s.out ∧ t.free = s.free ∧ t.clk = s.clk ∧ t.boot = s.boot ∧ t.aon = s.aon ∧ t.mbx = s.mbx ∧
  t.flt = s.flt ∧ t.cfg = s.cfg ∧ t.mem = s.mem ∧ t.hub = s.hub ∧ t.ports = s.ports ∧ t.own = s.own ∧ t.sw = s.sw ∧
  t.aud = s.aud ∧ t.zon = s.zon ∧ t.msg = s.msg ∧ t.flex = s.flex ∧ t.rails = s.rails ∧ t.snap = s.snap ∧ t.pwr = s.pwr ∧
  t.pav = s.pav ∧ t.sec = s.sec

abbrev OnlyFltZon (s t : State) : Prop :=
  t.pending = s.pending ∧ t.out = s.out ∧ t.free = s.free ∧ t.clk = s.clk ∧ t.boot = s.boot ∧ t.aon = s.aon ∧ t.win = s.win ∧
  t.mbx = s.mbx ∧ t.cfg = s.cfg ∧ t.mem = s.mem ∧ t.hub = s.hub ∧ t.ports = s.ports ∧ t.own = s.own ∧ t.sw = s.sw ∧
  t.aud = s.aud ∧ t.msg = s.msg ∧ t.flex = s.flex ∧ t.rails = s.rails ∧ t.snap = s.snap ∧ t.pwr = s.pwr ∧ t.pav = s.pav ∧
  t.sec = s.sec

abbrev OnlyOutBootAonMbxFltMemHubZon (s t : State) : Prop :=
  t.pending = s.pending ∧ t.free = s.free ∧ t.clk = s.clk ∧ t.win = s.win ∧ t.cfg = s.cfg ∧ t.ports = s.ports ∧ t.own = s.own ∧
  t.sw = s.sw ∧ t.aud = s.aud ∧ t.msg = s.msg ∧ t.flex = s.flex ∧ t.rails = s.rails ∧ t.snap = s.snap ∧ t.pwr = s.pwr ∧
  t.pav = s.pav ∧ t.sec = s.sec

abbrev OnlySw (s t : State) : Prop :=
  t.pending = s.pending ∧ t.out = s.out ∧ t.free = s.free ∧ t.clk = s.clk ∧ t.boot = s.boot ∧ t.aon = s.aon ∧ t.win = s.win ∧
  t.mbx = s.mbx ∧ t.flt = s.flt ∧ t.cfg = s.cfg ∧ t.mem = s.mem ∧ t.hub = s.hub ∧ t.ports = s.ports ∧ t.own = s.own ∧
  t.aud = s.aud ∧ t.zon = s.zon ∧ t.msg = s.msg ∧ t.flex = s.flex ∧ t.rails = s.rails ∧ t.snap = s.snap ∧ t.pwr = s.pwr ∧
  t.pav = s.pav ∧ t.sec = s.sec

abbrev OnlyOutBootMbxHubSw (s t : State) : Prop :=
  t.pending = s.pending ∧ t.free = s.free ∧ t.clk = s.clk ∧ t.aon = s.aon ∧ t.win = s.win ∧ t.flt = s.flt ∧ t.cfg = s.cfg ∧
  t.mem = s.mem ∧ t.ports = s.ports ∧ t.own = s.own ∧ t.aud = s.aud ∧ t.zon = s.zon ∧ t.msg = s.msg ∧ t.flex = s.flex ∧
  t.rails = s.rails ∧ t.snap = s.snap ∧ t.pwr = s.pwr ∧ t.pav = s.pav ∧ t.sec = s.sec

abbrev OnlyOutBootAonMbxFltHubSwZon (s t : State) : Prop :=
  t.pending = s.pending ∧ t.free = s.free ∧ t.clk = s.clk ∧ t.win = s.win ∧ t.cfg = s.cfg ∧ t.mem = s.mem ∧ t.ports = s.ports ∧
  t.own = s.own ∧ t.aud = s.aud ∧ t.msg = s.msg ∧ t.flex = s.flex ∧ t.rails = s.rails ∧ t.snap = s.snap ∧ t.pwr = s.pwr ∧
  t.pav = s.pav ∧ t.sec = s.sec

abbrev OnlyOutBootAonMbxFltHubPortsSwZon (s t : State) : Prop :=
  t.pending = s.pending ∧ t.free = s.free ∧ t.clk = s.clk ∧ t.win = s.win ∧ t.cfg = s.cfg ∧ t.mem = s.mem ∧ t.own = s.own ∧
  t.aud = s.aud ∧ t.msg = s.msg ∧ t.flex = s.flex ∧ t.rails = s.rails ∧ t.snap = s.snap ∧ t.pwr = s.pwr ∧ t.pav = s.pav ∧
  t.sec = s.sec

abbrev OnlyBoot (s t : State) : Prop :=
  t.pending = s.pending ∧ t.out = s.out ∧ t.free = s.free ∧ t.clk = s.clk ∧ t.aon = s.aon ∧ t.win = s.win ∧ t.mbx = s.mbx ∧
  t.flt = s.flt ∧ t.cfg = s.cfg ∧ t.mem = s.mem ∧ t.hub = s.hub ∧ t.ports = s.ports ∧ t.own = s.own ∧ t.sw = s.sw ∧
  t.aud = s.aud ∧ t.zon = s.zon ∧ t.msg = s.msg ∧ t.flex = s.flex ∧ t.rails = s.rails ∧ t.snap = s.snap ∧ t.pwr = s.pwr ∧
  t.pav = s.pav ∧ t.sec = s.sec

abbrev OnlyOutBootAonWinMbxFltHubZon (s t : State) : Prop :=
  t.pending = s.pending ∧ t.free = s.free ∧ t.clk = s.clk ∧ t.cfg = s.cfg ∧ t.mem = s.mem ∧ t.ports = s.ports ∧ t.own = s.own ∧
  t.sw = s.sw ∧ t.aud = s.aud ∧ t.msg = s.msg ∧ t.flex = s.flex ∧ t.rails = s.rails ∧ t.snap = s.snap ∧ t.pwr = s.pwr ∧
  t.pav = s.pav ∧ t.sec = s.sec

abbrev OnlyOutClkBootAonWinMbxFltHubZonPwr (s t : State) : Prop :=
  t.pending = s.pending ∧ t.free = s.free ∧ t.cfg = s.cfg ∧ t.mem = s.mem ∧ t.ports = s.ports ∧ t.own = s.own ∧ t.sw = s.sw ∧
  t.aud = s.aud ∧ t.msg = s.msg ∧ t.flex = s.flex ∧ t.rails = s.rails ∧ t.snap = s.snap ∧ t.pav = s.pav ∧ t.sec = s.sec

abbrev OnlyFreeClk (s t : State) : Prop :=
  t.pending = s.pending ∧ t.out = s.out ∧ t.boot = s.boot ∧ t.aon = s.aon ∧ t.win = s.win ∧ t.mbx = s.mbx ∧ t.flt = s.flt ∧
  t.cfg = s.cfg ∧ t.mem = s.mem ∧ t.hub = s.hub ∧ t.ports = s.ports ∧ t.own = s.own ∧ t.sw = s.sw ∧ t.aud = s.aud ∧
  t.zon = s.zon ∧ t.msg = s.msg ∧ t.flex = s.flex ∧ t.rails = s.rails ∧ t.snap = s.snap ∧ t.pwr = s.pwr ∧ t.pav = s.pav ∧
  t.sec = s.sec

abbrev OnlyOutBootAonWinMbxFltHubZonPwr (s t : State) : Prop :=
  t.pending = s.pending ∧ t.free = s.free ∧ t.clk = s.clk ∧ t.cfg = s.cfg ∧ t.mem = s.mem ∧ t.ports = s.ports ∧ t.own = s.own ∧
  t.sw = s.sw ∧ t.aud = s.aud ∧ t.msg = s.msg ∧ t.flex = s.flex ∧ t.rails = s.rails ∧ t.snap = s.snap ∧ t.pav = s.pav ∧
  t.sec = s.sec

abbrev OnlyOutBootAonWinMbxFltMemHubZonPwr (s t : State) : Prop :=
  t.pending = s.pending ∧ t.free = s.free ∧ t.clk = s.clk ∧ t.cfg = s.cfg ∧ t.ports = s.ports ∧ t.own = s.own ∧ t.sw = s.sw ∧
  t.aud = s.aud ∧ t.msg = s.msg ∧ t.flex = s.flex ∧ t.rails = s.rails ∧ t.snap = s.snap ∧ t.pav = s.pav ∧ t.sec = s.sec

abbrev OnlyMbxZon (s t : State) : Prop :=
  t.pending = s.pending ∧ t.out = s.out ∧ t.free = s.free ∧ t.clk = s.clk ∧ t.boot = s.boot ∧ t.aon = s.aon ∧ t.win = s.win ∧
  t.flt = s.flt ∧ t.cfg = s.cfg ∧ t.mem = s.mem ∧ t.hub = s.hub ∧ t.ports = s.ports ∧ t.own = s.own ∧ t.sw = s.sw ∧
  t.aud = s.aud ∧ t.msg = s.msg ∧ t.flex = s.flex ∧ t.rails = s.rails ∧ t.snap = s.snap ∧ t.pwr = s.pwr ∧ t.pav = s.pav ∧
  t.sec = s.sec

abbrev OnlyOutBootWinMbxHubZon (s t : State) : Prop :=
  t.pending = s.pending ∧ t.free = s.free ∧ t.clk = s.clk ∧ t.aon = s.aon ∧ t.flt = s.flt ∧ t.cfg = s.cfg ∧ t.mem = s.mem ∧
  t.ports = s.ports ∧ t.own = s.own ∧ t.sw = s.sw ∧ t.aud = s.aud ∧ t.msg = s.msg ∧ t.flex = s.flex ∧ t.rails = s.rails ∧
  t.snap = s.snap ∧ t.pwr = s.pwr ∧ t.pav = s.pav ∧ t.sec = s.sec

abbrev OnlyHub (s t : State) : Prop :=
  t.pending = s.pending ∧ t.out = s.out ∧ t.free = s.free ∧ t.clk = s.clk ∧ t.boot = s.boot ∧ t.aon = s.aon ∧ t.win = s.win ∧
  t.mbx = s.mbx ∧ t.flt = s.flt ∧ t.cfg = s.cfg ∧ t.mem = s.mem ∧ t.ports = s.ports ∧ t.own = s.own ∧ t.sw = s.sw ∧
  t.aud = s.aud ∧ t.zon = s.zon ∧ t.msg = s.msg ∧ t.flex = s.flex ∧ t.rails = s.rails ∧ t.snap = s.snap ∧ t.pwr = s.pwr ∧
  t.pav = s.pav ∧ t.sec = s.sec

abbrev OnlyWinMbx (s t : State) : Prop :=
  t.pending = s.pending ∧ t.out = s.out ∧ t.free = s.free ∧ t.clk = s.clk ∧ t.boot = s.boot ∧ t.aon = s.aon ∧ t.flt = s.flt ∧
  t.cfg = s.cfg ∧ t.mem = s.mem ∧ t.hub = s.hub ∧ t.ports = s.ports ∧ t.own = s.own ∧ t.sw = s.sw ∧ t.aud = s.aud ∧
  t.zon = s.zon ∧ t.msg = s.msg ∧ t.flex = s.flex ∧ t.rails = s.rails ∧ t.snap = s.snap ∧ t.pwr = s.pwr ∧ t.pav = s.pav ∧
  t.sec = s.sec

abbrev OnlyOutBootAonMbxFltHubZonPwr (s t : State) : Prop :=
  t.pending = s.pending ∧ t.free = s.free ∧ t.clk = s.clk ∧ t.win = s.win ∧ t.cfg = s.cfg ∧ t.mem = s.mem ∧ t.ports = s.ports ∧
  t.own = s.own ∧ t.sw = s.sw ∧ t.aud = s.aud ∧ t.msg = s.msg ∧ t.flex = s.flex ∧ t.rails = s.rails ∧ t.snap = s.snap ∧
  t.pav = s.pav ∧ t.sec = s.sec

abbrev OnlySec (s t : State) : Prop :=
  t.pending = s.pending ∧ t.out = s.out ∧ t.free = s.free ∧ t.clk = s.clk ∧ t.boot = s.boot ∧ t.aon = s.aon ∧ t.win = s.win ∧
  t.mbx = s.mbx ∧ t.flt = s.flt ∧ t.cfg = s.cfg ∧ t.mem = s.mem ∧ t.hub = s.hub ∧ t.ports = s.ports ∧ t.own = s.own ∧
  t.sw = s.sw ∧ t.aud = s.aud ∧ t.zon = s.zon ∧ t.msg = s.msg ∧ t.flex = s.flex ∧ t.rails = s.rails ∧ t.snap = s.snap ∧
  t.pwr = s.pwr ∧ t.pav = s.pav

abbrev OnlyOutBootAonMbxFltHubZonPwrSec (s t : State) : Prop :=
  t.pending = s.pending ∧ t.free = s.free ∧ t.clk = s.clk ∧ t.win = s.win ∧ t.cfg = s.cfg ∧ t.mem = s.mem ∧ t.ports = s.ports ∧
  t.own = s.own ∧ t.sw = s.sw ∧ t.aud = s.aud ∧ t.msg = s.msg ∧ t.flex = s.flex ∧ t.rails = s.rails ∧ t.snap = s.snap ∧
  t.pav = s.pav

abbrev OnlyOutBootMbxMemHub (s t : State) : Prop :=
  t.pending = s.pending ∧ t.free = s.free ∧ t.clk = s.clk ∧ t.aon = s.aon ∧ t.win = s.win ∧ t.flt = s.flt ∧ t.cfg = s.cfg ∧
  t.ports = s.ports ∧ t.own = s.own ∧ t.sw = s.sw ∧ t.aud = s.aud ∧ t.zon = s.zon ∧ t.msg = s.msg ∧ t.flex = s.flex ∧
  t.rails = s.rails ∧ t.snap = s.snap ∧ t.pwr = s.pwr ∧ t.pav = s.pav ∧ t.sec = s.sec

abbrev OnlyCfg (s t : State) : Prop :=
  t.pending = s.pending ∧ t.out = s.out ∧ t.free = s.free ∧ t.clk = s.clk ∧ t.boot = s.boot ∧ t.aon = s.aon ∧ t.win = s.win ∧
  t.mbx = s.mbx ∧ t.flt = s.flt ∧ t.mem = s.mem ∧ t.hub = s.hub ∧ t.ports = s.ports ∧ t.own = s.own ∧ t.sw = s.sw ∧
  t.aud = s.aud ∧ t.zon = s.zon ∧ t.msg = s.msg ∧ t.flex = s.flex ∧ t.rails = s.rails ∧ t.snap = s.snap ∧ t.pwr = s.pwr ∧
  t.pav = s.pav ∧ t.sec = s.sec

/-! ## Ops -/

@[simp] theorem flashWrite_only (a : Nat) (bs : List Byte) (s : State) : OnlyMem s (flashWrite a bs s) := by
  simp only [flashWrite] <;> (repeat' split) <;> simp [OnlyMem]

@[simp] theorem flashErase_only (a n : Nat) (s : State) : OnlyMem s (flashErase a n s) := by
  simp only [flashErase] <;> (repeat' split) <;> simp [OnlyMem]

@[simp] theorem stashWrite_only (a : Nat) (bs : List Byte) (s : State) : OnlyMem s (stashWrite a bs s) := by
  simp only [stashWrite] <;> (repeat' split) <;> simp [OnlyMem]

@[simp] theorem stashClear_only (a n : Nat) (s : State) : OnlyMem s (stashClear a n s) := by
  simp only [stashClear] <;> (repeat' split) <;> simp [OnlyMem]

@[simp] theorem drawBits_only (w : Nat) (s : State) : OnlyFree s (drawBits w s).2 := by
  simp only [drawBits] <;> (repeat' split) <;> simp [OnlyFree]

@[simp] theorem emit_only (o : Out) (s : State) : OnlyOut s (emit o s) := by
  simp only [emit] <;> (repeat' split) <;> simp [OnlyOut]

@[simp] theorem fresh_only (s : State) : OnlyOut s (fresh s) := by
  simp only [fresh] <;> (repeat' split) <;> simp [OnlyOut]

@[simp] theorem signalWake_only (s : State) : OnlyOut s (signalWake s) := by
  simp only [signalWake] <;> (repeat' split) <;> simp [OnlyOut]

@[simp] theorem requestWake_only (s : State) : OnlyOutHub s (requestWake s) := by
  simp only [requestWake] <;> (repeat' split) <;> simp [OnlyOutHub]

@[simp] theorem queueEvent_only (w0 : Word) (params : List Word) (t : Tick) (s : State) :
    OnlyMbx s (queueEvent w0 params t s) := by
  simp only [queueEvent] <;> (repeat' split) <;> simp [OnlyMbx]

@[simp] theorem resumeFunction_only (s : State) : OnlyMbxHub s (resumeFunction s) := by
  simp only [resumeFunction] <;> (repeat' split) <;> simp [OnlyMbxHub]

@[simp] theorem enqueueEvent_only (w0 : Word) (params : List Word) (t : Tick) (s : State) :
    OnlyOutMbxHub s (enqueueEvent w0 params t s) := by
  simp only [enqueueEvent] <;> (repeat' split) <;> simp [OnlyOutMbxHub]

@[simp] theorem postAt_only (w0 : Word) (params : List Word) (t : Tick) (s : State) : OnlyOutMbxHub s (postAt w0 params t s) := by
  simp only [postAt] <;> (repeat' split) <;> simp [OnlyOutMbxHub]

@[simp] theorem post_only (w0 : Word) (params : List Word) (s : State) : OnlyOutBootMbxHub s (post w0 params s) := by
  simp only [post] <;> (repeat' split) <;> simp [OnlyOutBootMbxHub]

@[simp] theorem setRecords_only (b : Box) (l : List Completion) (s : State) : OnlyMbx s (setRecords b l s) := by
  simp only [setRecords] <;> (repeat' split) <;> simp [OnlyMbx]

@[simp] theorem fileRecord_only (b : Box) (c : Completion) (s : State) : OnlyMbx s (fileRecord b c s) := by
  simp only [fileRecord] <;> (repeat' split) <;> simp [OnlyMbx]

@[simp] theorem cmdDone_only (l : LongCmd) (status : Nat) (s : State) : OnlyOutBootMbxHub s (cmdDone l status s) := by
  simp only [cmdDone] <;> (repeat' split) <;> simp [OnlyOutBootMbxHub]

@[simp] theorem groupDone_only (group status : Nat) (s : State) : OnlyOutBootMbxHub s (groupDone group status s) := by
  simp only [groupDone] <;> (repeat' split) <;> simp [OnlyOutBootMbxHub]

@[simp] theorem countFault_only (src : BitVec 12) (s : State) : OnlyFlt s (countFault src s) := by
  simp only [countFault] <;> (repeat' split) <;> simp [OnlyFlt]

@[simp] theorem latchStatus_only (src : BitVec 12) (s : State) : OnlyFlt s (latchStatus src s) := by
  simp only [latchStatus] <;> (repeat' split) <;> simp [OnlyFlt]

@[simp] theorem settleStatus_only (s : State) : OnlyFlt s (settleStatus s) := by
  simp only [settleStatus] <;> (repeat' split) <;> simp [OnlyFlt]

@[simp] theorem addHistory_only (src : BitVec 12) (cls sev : Nat) (esc : Bool) (s : State) :
    OnlyAon s (addHistory src cls sev esc s) := by
  simp only [addHistory] <;> (repeat' split) <;> simp [OnlyAon]

@[simp] theorem restartQuiet_only (s : State) : OnlyFlt s (restartQuiet s) := by
  simp only [restartQuiet] <;> (repeat' split) <;> simp [OnlyFlt]

@[simp] theorem zoneOcc_only (src index edge : Nat) (zone : Option Nat) (s : State) :
    OnlyZon s (zoneOcc src index edge zone s) := by
  simp only [zoneOcc] <;> (repeat' split) <;> simp [OnlyZon]

@[simp] theorem driveSafeOutputs_only (s : State) : OnlyZon s (driveSafeOutputs s) := by
  simp only [driveSafeOutputs] <;> (repeat' split) <;> simp [OnlyZon]

@[simp] theorem enterSafe_only (src : BitVec 12) (reason : Nat) (s : State) : OnlyAonFltZon s (enterSafe src reason s) := by
  simp only [enterSafe] <;> (repeat' split) <;> simp [OnlyAonFltZon]

@[simp] theorem requestWarm_only (c : WarmCause) (s : State) : OnlyBootAon s (requestWarm c s) := by
  simp only [requestWarm] <;> (repeat' split) <;> simp [OnlyBootAon]

@[simp] theorem react_only (src : BitVec 12) (cls sev : Nat) (esc : Bool) (s : State) :
    OnlyOutBootAonMbxFltHub s (react src cls sev esc s) := by
  simp only [react] <;> (repeat' split) <;> simp [OnlyOutBootAonMbxFltHub]

@[simp] theorem countingFault_only (s : State) : OnlyFlt s (countingFault s) := by
  simp only [countingFault] <;> (repeat' split) <;> simp [OnlyFlt]

@[simp] theorem repeatFault_only (src : BitVec 12) (s : State) : OnlyFlt s (repeatFault src s) := by
  simp only [repeatFault] <;> (repeat' split) <;> simp [OnlyFlt]

@[simp] theorem takeFault_only (src : BitVec 12) (conf reason : Nat) (s : State) :
    OnlyOutBootAonMbxFltHubZon s (takeFault src conf reason s) := by
  simp only [takeFault] <;> (repeat' split) <;> simp [OnlyOutBootAonMbxFltHubZon]

@[simp] theorem raiseFault_only (src : BitVec 12) (s : State) : OnlyOutBootAonMbxFltHubZon s (raiseFault src s) := by
  simp only [raiseFault] <;> (repeat' split) <;> simp [OnlyOutBootAonMbxFltHubZon]

@[simp] theorem readOtp_only (s : State) : OnlyOutBootAonMbxFltHubZon s (readOtp s) := by
  simp only [readOtp] <;> (repeat' split) <;> simp [OnlyOutBootAonMbxFltHubZon]

@[simp] theorem raiseDisagreement_only (s : State) : OnlyOutBootAonMbxFltHubZon s (raiseDisagreement s) := by
  simp only [raiseDisagreement] <;> (repeat' split) <;> simp [OnlyOutBootAonMbxFltHubZon]

@[simp] theorem setLine_only (src : BitVec 12) (on : Bool) (s : State) : OnlyFlt s (setLine src on s) := by
  simp only [setLine] <;> (repeat' split) <;> simp [OnlyFlt]

@[simp] theorem latchFaults_only (fs : List (BitVec 12 × Bool)) (s : State) :
    OnlyOutBootAonMbxFltHubZon s (latchFaults fs s) := by
  simp only [latchFaults] <;> (repeat' split) <;> simp [OnlyOutBootAonMbxFltHubZon]

@[simp] theorem countVote_only (s : State) : OnlyWin s (countVote s) := by
  simp only [countVote] <;> (repeat' split) <;> simp [OnlyWin]

@[simp] theorem classReturns_only (before : State) (s : State) : OnlyZon s (classReturns before s) := by
  simp only [classReturns] <;> (repeat' split) <;> simp [OnlyZon]

@[simp] theorem acknowledge_only (p : Unacked → Bool) (s : State) : OnlyFltZon s (acknowledge p s) := by
  simp only [acknowledge] <;> (repeat' split) <;> simp [OnlyFltZon]

@[simp] theorem regionWrite_only (a n : Nat) (bs : List Byte) (s : State) :
    OnlyOutBootAonMbxFltMemHubZon s (regionWrite a n bs s) := by
  simp only [regionWrite] <;> (repeat' split) <;> simp [OnlyOutBootAonMbxFltMemHubZon]

@[simp] theorem loaderWrite_only (a n : Nat) (bs : List Byte) (s : State) :
    OnlyOutBootAonMbxFltMemHubZon s (loaderWrite a n bs s) := by
  simp only [loaderWrite] <;> (repeat' split) <;> simp [OnlyOutBootAonMbxFltMemHubZon]

/-! ## Cells -/

@[simp] theorem countStream_only (port loc chan missing dropped excess : Nat) (s : State) :
    OnlySw s (countStream port loc chan missing dropped excess s) := by
  simp only [countStream] <;> (repeat' split) <;> simp [OnlySw]

@[simp] theorem postCounts_only (s : State) : OnlyOutBootMbxHubSw s (postCounts s) := by
  simp only [postCounts] <;> (repeat' split) <;> simp [OnlyOutBootMbxHubSw]

@[simp] theorem setQueue_only (e cls : Nat) (q : List Nat) (s : State) : OnlySw s (setQueue e cls q s) := by
  simp only [setQueue] <;> (repeat' split) <;> simp [OnlySw]

@[simp] theorem freeCell_only (i : Nat) (c : Cell) (s : State) : OnlySw s (freeCell i c s) := by
  simp only [freeCell] <;> (repeat' split) <;> simp [OnlySw]

@[simp] theorem releaseCell_only (i : Nat) (s : State) : OnlyOutBootAonMbxFltHubSwZon s (releaseCell i s) := by
  simp only [releaseCell] <;> (repeat' split) <;> simp [OnlyOutBootAonMbxFltHubSwZon]

@[simp] theorem releaseCells_only (l : List Nat) (s : State) : OnlyOutBootAonMbxFltHubSwZon s (releaseCells l s) := by
  simp only [releaseCells] <;> (repeat' split) <;> simp [OnlyOutBootAonMbxFltHubSwZon]

@[simp] theorem flushEgress_only (cut : Bool) (e : Nat) (s : State) :
    OnlyOutBootAonMbxFltHubPortsSwZon s (flushEgress cut e s).2 := by
  simp only [flushEgress] <;> (repeat' split) <;> simp [OnlyOutBootAonMbxFltHubPortsSwZon]

@[simp] theorem flush_only (cut : Bool) (e : Nat) (s : State) : OnlyOutBootAonMbxFltHubPortsSwZon s (flush cut e s) := by
  simp only [flush] <;> (repeat' split) <;> simp [OnlyOutBootAonMbxFltHubPortsSwZon]

@[simp] theorem rewriteCells_only (idx : List Nat) (s : State) : OnlySw s (rewriteCells idx s) := by
  simp only [rewriteCells] <;> (repeat' split) <;> simp [OnlySw]

/-! ## Flags -/

@[simp] theorem updateAlive_only (s : State) : OnlyBoot s (updateAlive s) := by
  simp only [updateAlive] <;> (repeat' split) <;> simp [OnlyBoot]

/-! ## Operands -/

@[simp] theorem setGuard_only (p : Path) (g : Guard) (s : State) : OnlyWin s (setGuard p g s) := by
  simp only [setGuard] <;> (repeat' split) <;> simp [OnlyWin]

@[simp] theorem setMbx_only (p : Path) (m : MbxRegs) (s : State) : OnlyWin s (setMbx p m s) := by
  simp only [setMbx] <;> (repeat' split) <;> simp [OnlyWin]

@[simp] theorem setShadow_only (p : Path) (l : Shadow) (s : State) : OnlyWin s (setShadow p l s) := by
  simp only [setShadow] <;> (repeat' split) <;> simp [OnlyWin]

@[simp] theorem setSubQueue_only (b : Box) (k : Nat) (q : SubQueue) (s : State) : OnlyMbx s (setSubQueue b k q s) := by
  simp only [setSubQueue] <;> (repeat' split) <;> simp [OnlyMbx]

/-! ## Registers -/

@[simp] theorem voteGuard_only (p : Path) (s : State) : OnlyOutBootAonWinMbxFltHubZon s (voteGuard p s) := by
  simp only [voteGuard] <;> (repeat' split) <;> simp [OnlyOutBootAonWinMbxFltHubZon]

@[simp] theorem voteSafectl_only (s : State) : OnlyOutBootAonWinMbxFltHubZon s (voteSafectl s) := by
  simp only [voteSafectl] <;> (repeat' split) <;> simp [OnlyOutBootAonWinMbxFltHubZon]

@[simp] theorem voteSev_only (src : Nat) (s : State) : OnlyOutBootAonWinMbxFltHubZon s (voteSev src s) := by
  simp only [voteSev] <;> (repeat' split) <;> simp [OnlyOutBootAonWinMbxFltHubZon]

@[simp] theorem voteWakePol_only (s : State) : OnlyOutBootAonWinMbxFltHubZon s (voteWakePol s) := by
  simp only [voteWakePol] <;> (repeat' split) <;> simp [OnlyOutBootAonWinMbxFltHubZon]

@[simp] theorem voteTampPol_only (s : State) : OnlyOutBootAonWinMbxFltHubZon s (voteTampPol s) := by
  simp only [voteTampPol] <;> (repeat' split) <;> simp [OnlyOutBootAonWinMbxFltHubZon]

@[simp] theorem sweepTrips_only (s : State) : OnlyOutBootAonWinMbxFltHubZon s (sweepTrips s) := by
  simp only [sweepTrips] <;> (repeat' split) <;> simp [OnlyOutBootAonWinMbxFltHubZon]

@[simp] theorem applyPosted_only (w : Posted) (s : State) : OnlyOutBootAonWinMbxFltHubZon s (applyPosted w s) := by
  simp only [applyPosted] <;> (repeat' split) <;> simp [OnlyOutBootAonWinMbxFltHubZon]

@[simp] theorem applyOldest_only (s : State) : OnlyOutBootAonWinMbxFltHubZon s (applyOldest s) := by
  simp only [applyOldest] <;> (repeat' split) <;> simp [OnlyOutBootAonWinMbxFltHubZon]

@[simp] theorem aonEdge_only (s : State) : OnlyOutBootAonWinMbxFltHubZon s (aonEdge s) := by
  simp only [aonEdge] <;> (repeat' split) <;> simp [OnlyOutBootAonWinMbxFltHubZon]

@[simp] theorem aonTime_only (n : Nat) (s : State) : OnlyBootAon s (aonTime n s) := by
  simp only [aonTime] <;> (repeat' split) <;> simp [OnlyBootAon]

@[simp] theorem slowEdge_only (s : State) : OnlyOutBootAonWinMbxFltHubZon s (slowEdge s) := by
  simp only [slowEdge] <;> (repeat' split) <;> simp [OnlyOutBootAonWinMbxFltHubZon]

@[simp] theorem slowTime_only (n : Nat) (s : State) : OnlyOutBootAonWinMbxFltHubZon s (slowTime n s) := by
  simp only [slowTime] <;> (repeat' split) <;> simp [OnlyOutBootAonWinMbxFltHubZon]

@[simp] theorem drainPosted_only (s : State) : OnlyOutBootAonWinMbxFltHubZon s (drainPosted s) := by
  simp only [drainPosted] <;> (repeat' split) <;> simp [OnlyOutBootAonWinMbxFltHubZon]

@[simp] theorem asleepTime_only (n : Nat) (s : State) : OnlyOutClkBootAonWinMbxFltHubZonPwr s (asleepTime n s) := by
  simp only [asleepTime] <;> (repeat' split) <;> simp [OnlyOutClkBootAonWinMbxFltHubZonPwr]

@[simp] theorem sleepTime_only (periods : Nat) (s : State) : OnlyOutClkBootAonWinMbxFltHubZonPwr s (sleepTime periods s) := by
  simp only [sleepTime] <;> (repeat' split) <;> simp [OnlyOutClkBootAonWinMbxFltHubZonPwr]

@[simp] theorem tickReturns_only (s : State) : OnlyFreeClk s (tickReturns s) := by
  simp only [tickReturns] <;> (repeat' split) <;> simp [OnlyFreeClk]

@[simp] theorem postAon_only (p : Path) (r op : Nat) (data : Word) (s : State) :
    OnlyOutBootAonWinMbxFltHubZon s (postAon p r op data s) := by
  simp only [postAon] <;> (repeat' split) <;> simp [OnlyOutBootAonWinMbxFltHubZon]

@[simp] theorem popOut_only (s : State) : OnlyOutBootAonWinMbxFltHubZon s (popOut s).2 := by
  simp only [popOut] <;> (repeat' split) <;> simp [OnlyOutBootAonWinMbxFltHubZon]

@[simp] theorem voteReg_only (p : Path) (r : Nat) (s : State) : OnlyOutBootAonWinMbxFltHubZon s (voteReg p r s) := by
  simp only [voteReg] <;> (repeat' split) <;> simp [OnlyOutBootAonWinMbxFltHubZon]

@[simp] theorem readReg_only (p : Path) (r : Nat) (s : State) : OnlyOutBootAonWinMbxFltHubZon s (readReg p r s).2 := by
  simp only [readReg] <;> (repeat' split) <;> simp [OnlyOutBootAonWinMbxFltHubZon]

@[simp] theorem lockPath_only (p : Path) (s : State) : OnlyWin s (lockPath p s) := by
  simp only [lockPath] <;> (repeat' split) <;> simp [OnlyWin]

@[simp] theorem writeUnlock_only (p : Path) (d : Word) (s : State) : OnlyOutBootAonWinMbxFltHubZon s (writeUnlock p d s) := by
  simp only [writeUnlock] <;> (repeat' split) <;> simp [OnlyOutBootAonWinMbxFltHubZon]

@[simp] theorem discardMark_only (p : Path) (s : State) : OnlyWin s (discardMark p s) := by
  simp only [discardMark] <;> (repeat' split) <;> simp [OnlyWin]

@[simp] theorem badPair_only (p : Path) (s : State) : OnlyOutBootAonWinMbxFltHubZon s (badPair p s) := by
  simp only [badPair] <;> (repeat' split) <;> simp [OnlyOutBootAonWinMbxFltHubZon]

@[simp] theorem applyGuarded_only (p : Path) (r v : Nat) (d : Word) (s : State) :
    OnlyOutBootAonWinMbxFltHubZon s (applyGuarded p r v d s) := by
  simp only [applyGuarded] <;> (repeat' split) <;> simp [OnlyOutBootAonWinMbxFltHubZon]

@[simp] theorem guardedWriteReg_only (p : Path) (r op : Nat) (d : Word) (s : State) :
    OnlyOutBootAonWinMbxFltHubZon s (guardedWriteReg p r op d s) := by
  simp only [guardedWriteReg] <;> (repeat' split) <;> simp [OnlyOutBootAonWinMbxFltHubZon]

@[simp] theorem ackCluster_only (c : Nat) (d : Word) (s : State) : OnlyFltZon s (ackCluster c d s) := by
  simp only [ackCluster] <;> (repeat' split) <;> simp [OnlyFltZon]

@[simp] theorem pokePlain_only (p : Path) (r op : Nat) (d : Word) (s : State) :
    OnlyOutBootAonWinMbxFltHubZonPwr s (pokePlain p r op d s) := by
  simp only [pokePlain] <;> (repeat' split) <;> simp [OnlyOutBootAonWinMbxFltHubZonPwr]

@[simp] theorem pokeMaintained_only (r : Nat) (d : Word) (s : State) :
    OnlyOutBootAonWinMbxFltMemHubZonPwr s (pokeMaintained r d s) := by
  simp only [pokeMaintained] <;> (repeat' split) <;> simp [OnlyOutBootAonWinMbxFltMemHubZonPwr]

/-! ## Mailbox -/

@[simp] theorem restartHeartbeat_only (arrival : Tick) (s : State) : OnlyZon s (restartHeartbeat arrival s) := by
  simp only [restartHeartbeat] <;> (repeat' split) <;> simp [OnlyZon]

@[simp] theorem completePacket_only (b : Box) (k : Nat) (q : SubQueue) (w : MbxWord) (s : State) :
    OnlyMbxZon s (completePacket b k q w s) := by
  simp only [completePacket] <;> (repeat' split) <;> simp [OnlyMbxZon]

@[simp] theorem dropPacket_only (b : Box) (k : Nat) (q : SubQueue) (w : MbxWord) (reason : Nat) (s : State) :
    OnlyOutBootMbxHub s (dropPacket b k q w reason s) := by
  simp only [dropPacket] <;> (repeat' split) <;> simp [OnlyOutBootMbxHub]

@[simp] theorem acceptWord_only (b : Box) (k : Nat) (w : MbxWord) (s : State) :
    OnlyOutBootWinMbxHubZon s (acceptWord b k w s) := by
  simp only [acceptWord] <;> (repeat' split) <;> simp [OnlyOutBootWinMbxHubZon]

@[simp] theorem flushS_only (mask : Nat) (s : State) : OnlyMbx s (flushS mask s) := by
  simp only [flushS] <;> (repeat' split) <;> simp [OnlyMbx]

@[simp] theorem mspiWord_only (d : Word) (last : Bool) (s : State) : OnlyOutBootWinMbxHubZon s (mspiWord d last s) := by
  simp only [mspiWord] <;> (repeat' split) <;> simp [OnlyOutBootWinMbxHubZon]

@[simp] theorem writeReg_only (p : Path) (r op : Nat) (d : Word) (s : State) :
    OnlyOutBootAonWinMbxFltMemHubZonPwr s (writeReg p r op d s) := by
  simp only [writeReg] <;> (repeat' split) <;> simp [OnlyOutBootAonWinMbxFltMemHubZonPwr]

@[simp] theorem sendFrame_only (nrdy : Bool) (data : Word) (ferr gdisc wdrop : Bool) (s : State) :
    OnlyOut s (sendFrame nrdy data ferr gdisc wdrop s) := by
  simp only [sendFrame] <;> (repeat' split) <;> simp [OnlyOut]

@[simp] theorem mspiRead_only (r : Nat) (s : State) : OnlyOutBootAonWinMbxFltHubZon s (mspiRead r s) := by
  simp only [mspiRead] <;> (repeat' split) <;> simp [OnlyOutBootAonWinMbxFltHubZon]

@[simp] theorem mspiWrite_only (r op : Nat) (d : Word) (s : State) :
    OnlyOutBootAonWinMbxFltMemHubZonPwr s (mspiWrite r op d s) := by
  simp only [mspiWrite] <;> (repeat' split) <;> simp [OnlyOutBootAonWinMbxFltMemHubZonPwr]

@[simp] theorem fillControl_only (bs : List Byte) (s : State) : OnlyHub s (fillControl bs s) := by
  simp only [fillControl] <;> (repeat' split) <;> simp [OnlyHub]

@[simp] theorem pathRead_only (p : Path) (r : Nat) (s : State) : OnlyOutBootAonWinMbxFltHubZon s (pathRead p r s) := by
  simp only [pathRead] <;> (repeat' split) <;> simp [OnlyOutBootAonWinMbxFltHubZon]

@[simp] theorem pathWrite_only (p : Path) (r op : Nat) (d : Word) (s : State) :
    OnlyOutBootAonWinMbxFltMemHubZonPwr s (pathWrite p r op d s) := by
  simp only [pathWrite] <;> (repeat' split) <;> simp [OnlyOutBootAonWinMbxFltMemHubZonPwr]

@[simp] theorem frameError_only (m : List Bool) (s : State) : OnlyOutBootAonWinMbxFltHubZon s (frameError m s) := by
  simp only [frameError] <;> (repeat' split) <;> simp [OnlyOutBootAonWinMbxFltHubZon]

@[simp] theorem takeContainer_only (c : Nat) (s : State) : OnlyOutBootWinMbxHubZon s (takeContainer c s) := by
  simp only [takeContainer] <;> (repeat' split) <;> simp [OnlyOutBootWinMbxHubZon]

@[simp] theorem cutUsbMailbox_only (s : State) : OnlyWinMbx s (cutUsbMailbox s) := by
  simp only [cutUsbMailbox] <;> (repeat' split) <;> simp [OnlyWinMbx]

/-! ## Command -/

@[simp] theorem inboundParity_only (b : Box) (p : Packet) (s : State) : OnlyOutBootAonMbxFltHubZon s (inboundParity b p s) := by
  simp only [inboundParity] <;> (repeat' split) <;> simp [OnlyOutBootAonMbxFltHubZon]

@[simp] theorem takePacket_only (b : Box) (k : Nat) (p : Packet) (s : State) :
    OnlyOutBootAonMbxFltHubZonPwr s (takePacket b k p s) := by
  simp only [takePacket] <;> (repeat' split) <;> simp [OnlyOutBootAonMbxFltHubZonPwr]

@[simp] theorem setSession_only (b : Box) (v : Option Session) (s : State) : OnlySec s (setSession b v s) := by
  simp only [setSession] <;> (repeat' split) <;> simp [OnlySec]

@[simp] theorem acceptCounter_only (c : Command) (s : State) : OnlySec s (acceptCounter c s) := by
  simp only [acceptCounter] <;> (repeat' split) <;> simp [OnlySec]

@[simp] theorem authFailure_only (s : State) : OnlySec s (authFailure s) := by
  simp only [authFailure] <;> (repeat' split) <;> simp [OnlySec]

@[simp] theorem postReply_only (c : Command) (status : Nat) (results : List Word) (s : State) :
    OnlyMbx s (postReply c status results s) := by
  simp only [postReply] <;> (repeat' split) <;> simp [OnlyMbx]

@[simp] theorem answer_only (c : Command) (status : Nat) (results : List Word) (long inProgress : Bool) (s : State) :
    OnlyMbx s (answer c status results long inProgress s) := by
  simp only [answer] <;> (repeat' split) <;> simp [OnlyMbx]

@[simp] theorem authCheck_only (needs sec : Bool) (c : Command) (s : State) : OnlySec s (authCheck needs sec c s).2 := by
  simp only [authCheck] <;> (repeat' split) <;> simp [OnlySec]

@[simp] theorem boundaryCommand_only (code : Nat) (variant : Command → Bool) (needs : Command → State → Bool) (check : Command → State → Nat) (s : State) :
    OnlyOutBootAonMbxFltHubZonPwrSec s (boundaryCommand code variant needs check s) := by
  simp only [boundaryCommand] <;> (repeat' split) <;> simp [OnlyOutBootAonMbxFltHubZonPwrSec]

@[simp] theorem takeLoader_only (k : Nat) (s : State) : OnlyMbx s (takeLoader k s) := by
  simp only [takeLoader] <;> (repeat' split) <;> simp [OnlyMbx]

@[simp] theorem badLoaderPacket_only (s : State) : OnlyMbx s (badLoaderPacket s) := by
  simp only [badLoaderPacket] <;> (repeat' split) <;> simp [OnlyMbx]

@[simp] theorem badPacket_only (s : State) : OnlyOutBootAonMbxFltHubZonPwr s (badPacket s) := by
  simp only [badPacket] <;> (repeat' split) <;> simp [OnlyOutBootAonMbxFltHubZonPwr]

/-! ## Flash -/

@[simp] theorem writeDirectory_only (es : List DirEntry) (s : State) : OnlyMem s (writeDirectory es s) := by
  simp only [writeDirectory] <;> (repeat' split) <;> simp [OnlyMem]

@[simp] theorem rebuildDirectory_only (s : State) : OnlyOutBootMbxMemHub s (rebuildDirectory s) := by
  simp only [rebuildDirectory] <;> (repeat' split) <;> simp [OnlyOutBootMbxMemHub]

/-! ## Tables -/

@[simp] theorem recordChanges_only (cs : List Change) (s : State) : OnlyCfg s (recordChanges cs s) := by
  simp only [recordChanges] <;> (repeat' split) <;> simp [OnlyCfg]

/-! ## Faults -/

@[simp] theorem exitSafe_only (reason : Nat) (s : State) : OnlyOutBootAonMbxFltHubZon s (exitSafe reason s) := by
  simp only [exitSafe] <;> (repeat' split) <;> simp [OnlyOutBootAonMbxFltHubZon]

@[simp] theorem announceSafe_only (s : State) : OnlyOutBootAonMbxFltHub s (announceSafe s) := by
  simp only [announceSafe] <;> (repeat' split) <;> simp [OnlyOutBootAonMbxFltHub]

@[simp] theorem releaseAtBoundary_only (c : Command) (s : State) : OnlyOutBootAonMbxFltHubZon s (releaseAtBoundary c s) := by
  simp only [releaseAtBoundary] <;> (repeat' split) <;> simp [OnlyOutBootAonMbxFltHubZon]

@[simp] theorem kick_only (s : State) : OnlyBoot s (kick s) := by
  simp only [kick] <;> (repeat' split) <;> simp [OnlyBoot]

@[simp] theorem safeEnter_only (hold : Bool) (s : State) : OnlyOutBootAonMbxFltHubZon s (safeEnter hold s) := by
  simp only [safeEnter] <;> (repeat' split) <;> simp [OnlyOutBootAonMbxFltHubZon]

end Sys2Proof.Machine
end

