-- ==== Sys2Proof/Laws/FrameAudio.lean ====
section
/-!
SUPPORT. What audio, messages, zones and the switch core leave alone: for each operation one lemma that names the only groups of the state that it
may change, as equations that simp uses one by one.
-/

namespace Sys2Proof.Machine

set_option linter.all false

open Sys2Proof

/-! ## Sets of groups that may change -/

abbrev OnlyAud (s t : State) : Prop :=
  t.pending = s.pending ∧ t.out = s.out ∧ t.free = s.free ∧ t.clk = s.clk ∧ t.boot = s.boot ∧ t.aon = s.aon ∧ t.win = s.win ∧
  t.mbx = s.mbx ∧ t.flt = s.flt ∧ t.cfg = s.cfg ∧ t.mem = s.mem ∧ t.hub = s.hub ∧ t.ports = s.ports ∧ t.own = s.own ∧
  t.sw = s.sw ∧ t.zon = s.zon ∧ t.msg = s.msg ∧ t.flex = s.flex ∧ t.rails = s.rails ∧ t.snap = s.snap ∧ t.pwr = s.pwr ∧
  t.pav = s.pav ∧ t.sec = s.sec

abbrev OnlyMemAud (s t : State) : Prop :=
  t.pending = s.pending ∧ t.out = s.out ∧ t.free = s.free ∧ t.clk = s.clk ∧ t.boot = s.boot ∧ t.aon = s.aon ∧ t.win = s.win ∧
  t.mbx = s.mbx ∧ t.flt = s.flt ∧ t.cfg = s.cfg ∧ t.hub = s.hub ∧ t.ports = s.ports ∧ t.own = s.own ∧ t.sw = s.sw ∧
  t.zon = s.zon ∧ t.msg = s.msg ∧ t.flex = s.flex ∧ t.rails = s.rails ∧ t.snap = s.snap ∧ t.pwr = s.pwr ∧ t.pav = s.pav ∧
  t.sec = s.sec

abbrev OnlyCfgAud (s t : State) : Prop :=
  t.pending = s.pending ∧ t.out = s.out ∧ t.free = s.free ∧ t.clk = s.clk ∧ t.boot = s.boot ∧ t.aon = s.aon ∧ t.win = s.win ∧
  t.mbx = s.mbx ∧ t.flt = s.flt ∧ t.mem = s.mem ∧ t.hub = s.hub ∧ t.ports = s.ports ∧ t.own = s.own ∧ t.sw = s.sw ∧
  t.zon = s.zon ∧ t.msg = s.msg ∧ t.flex = s.flex ∧ t.rails = s.rails ∧ t.snap = s.snap ∧ t.pwr = s.pwr ∧ t.pav = s.pav ∧
  t.sec = s.sec

abbrev OnlyCfgMemAud (s t : State) : Prop :=
  t.pending = s.pending ∧ t.out = s.out ∧ t.free = s.free ∧ t.clk = s.clk ∧ t.boot = s.boot ∧ t.aon = s.aon ∧ t.win = s.win ∧
  t.mbx = s.mbx ∧ t.flt = s.flt ∧ t.hub = s.hub ∧ t.ports = s.ports ∧ t.own = s.own ∧ t.sw = s.sw ∧ t.zon = s.zon ∧
  t.msg = s.msg ∧ t.flex = s.flex ∧ t.rails = s.rails ∧ t.snap = s.snap ∧ t.pwr = s.pwr ∧ t.pav = s.pav ∧ t.sec = s.sec

abbrev OnlyMsg (s t : State) : Prop :=
  t.pending = s.pending ∧ t.out = s.out ∧ t.free = s.free ∧ t.clk = s.clk ∧ t.boot = s.boot ∧ t.aon = s.aon ∧ t.win = s.win ∧
  t.mbx = s.mbx ∧ t.flt = s.flt ∧ t.cfg = s.cfg ∧ t.mem = s.mem ∧ t.hub = s.hub ∧ t.ports = s.ports ∧ t.own = s.own ∧
  t.sw = s.sw ∧ t.aud = s.aud ∧ t.zon = s.zon ∧ t.flex = s.flex ∧ t.rails = s.rails ∧ t.snap = s.snap ∧ t.pwr = s.pwr ∧
  t.pav = s.pav ∧ t.sec = s.sec

abbrev OnlyOutBootMbxHubZonMsg (s t : State) : Prop :=
  t.pending = s.pending ∧ t.free = s.free ∧ t.clk = s.clk ∧ t.aon = s.aon ∧ t.win = s.win ∧ t.flt = s.flt ∧ t.cfg = s.cfg ∧
  t.mem = s.mem ∧ t.ports = s.ports ∧ t.own = s.own ∧ t.sw = s.sw ∧ t.aud = s.aud ∧ t.flex = s.flex ∧ t.rails = s.rails ∧
  t.snap = s.snap ∧ t.pwr = s.pwr ∧ t.pav = s.pav ∧ t.sec = s.sec

abbrev OnlyOutBootAonMbxFltHubZonMsg (s t : State) : Prop :=
  t.pending = s.pending ∧ t.free = s.free ∧ t.clk = s.clk ∧ t.win = s.win ∧ t.cfg = s.cfg ∧ t.mem = s.mem ∧ t.ports = s.ports ∧
  t.own = s.own ∧ t.sw = s.sw ∧ t.aud = s.aud ∧ t.flex = s.flex ∧ t.rails = s.rails ∧ t.snap = s.snap ∧ t.pwr = s.pwr ∧
  t.pav = s.pav ∧ t.sec = s.sec

abbrev OnlyMemMsg (s t : State) : Prop :=
  t.pending = s.pending ∧ t.out = s.out ∧ t.free = s.free ∧ t.clk = s.clk ∧ t.boot = s.boot ∧ t.aon = s.aon ∧ t.win = s.win ∧
  t.mbx = s.mbx ∧ t.flt = s.flt ∧ t.cfg = s.cfg ∧ t.hub = s.hub ∧ t.ports = s.ports ∧ t.own = s.own ∧ t.sw = s.sw ∧
  t.aud = s.aud ∧ t.zon = s.zon ∧ t.flex = s.flex ∧ t.rails = s.rails ∧ t.snap = s.snap ∧ t.pwr = s.pwr ∧ t.pav = s.pav ∧
  t.sec = s.sec

abbrev OnlyOutBootMbxHubMsg (s t : State) : Prop :=
  t.pending = s.pending ∧ t.free = s.free ∧ t.clk = s.clk ∧ t.aon = s.aon ∧ t.win = s.win ∧ t.flt = s.flt ∧ t.cfg = s.cfg ∧
  t.mem = s.mem ∧ t.ports = s.ports ∧ t.own = s.own ∧ t.sw = s.sw ∧ t.aud = s.aud ∧ t.zon = s.zon ∧ t.flex = s.flex ∧
  t.rails = s.rails ∧ t.snap = s.snap ∧ t.pwr = s.pwr ∧ t.pav = s.pav ∧ t.sec = s.sec

abbrev OnlyOutBootAonMbxFltMemHubZonMsg (s t : State) : Prop :=
  t.pending = s.pending ∧ t.free = s.free ∧ t.clk = s.clk ∧ t.win = s.win ∧ t.cfg = s.cfg ∧ t.ports = s.ports ∧ t.own = s.own ∧
  t.sw = s.sw ∧ t.aud = s.aud ∧ t.flex = s.flex ∧ t.rails = s.rails ∧ t.snap = s.snap ∧ t.pwr = s.pwr ∧ t.pav = s.pav ∧
  t.sec = s.sec

abbrev OnlyOutBootMbxHubZon (s t : State) : Prop :=
  t.pending = s.pending ∧ t.free = s.free ∧ t.clk = s.clk ∧ t.aon = s.aon ∧ t.win = s.win ∧ t.flt = s.flt ∧ t.cfg = s.cfg ∧
  t.mem = s.mem ∧ t.ports = s.ports ∧ t.own = s.own ∧ t.sw = s.sw ∧ t.aud = s.aud ∧ t.msg = s.msg ∧ t.flex = s.flex ∧
  t.rails = s.rails ∧ t.snap = s.snap ∧ t.pwr = s.pwr ∧ t.pav = s.pav ∧ t.sec = s.sec

abbrev OnlyZonMsg (s t : State) : Prop :=
  t.pending = s.pending ∧ t.out = s.out ∧ t.free = s.free ∧ t.clk = s.clk ∧ t.boot = s.boot ∧ t.aon = s.aon ∧ t.win = s.win ∧
  t.mbx = s.mbx ∧ t.flt = s.flt ∧ t.cfg = s.cfg ∧ t.mem = s.mem ∧ t.hub = s.hub ∧ t.ports = s.ports ∧ t.own = s.own ∧
  t.sw = s.sw ∧ t.aud = s.aud ∧ t.flex = s.flex ∧ t.rails = s.rails ∧ t.snap = s.snap ∧ t.pwr = s.pwr ∧ t.pav = s.pav ∧
  t.sec = s.sec

abbrev OnlyOutFreeBootAonMbxFltHubZon (s t : State) : Prop :=
  t.pending = s.pending ∧ t.clk = s.clk ∧ t.win = s.win ∧ t.cfg = s.cfg ∧ t.mem = s.mem ∧ t.ports = s.ports ∧ t.own = s.own ∧
  t.sw = s.sw ∧ t.aud = s.aud ∧ t.msg = s.msg ∧ t.flex = s.flex ∧ t.rails = s.rails ∧ t.snap = s.snap ∧ t.pwr = s.pwr ∧
  t.pav = s.pav ∧ t.sec = s.sec

abbrev OnlyPorts (s t : State) : Prop :=
  t.pending = s.pending ∧ t.out = s.out ∧ t.free = s.free ∧ t.clk = s.clk ∧ t.boot = s.boot ∧ t.aon = s.aon ∧ t.win = s.win ∧
  t.mbx = s.mbx ∧ t.flt = s.flt ∧ t.cfg = s.cfg ∧ t.mem = s.mem ∧ t.hub = s.hub ∧ t.own = s.own ∧ t.sw = s.sw ∧ t.aud = s.aud ∧
  t.zon = s.zon ∧ t.msg = s.msg ∧ t.flex = s.flex ∧ t.rails = s.rails ∧ t.snap = s.snap ∧ t.pwr = s.pwr ∧ t.pav = s.pav ∧
  t.sec = s.sec

abbrev OnlyPortsSw (s t : State) : Prop :=
  t.pending = s.pending ∧ t.out = s.out ∧ t.free = s.free ∧ t.clk = s.clk ∧ t.boot = s.boot ∧ t.aon = s.aon ∧ t.win = s.win ∧
  t.mbx = s.mbx ∧ t.flt = s.flt ∧ t.cfg = s.cfg ∧ t.mem = s.mem ∧ t.hub = s.hub ∧ t.own = s.own ∧ t.aud = s.aud ∧ t.zon = s.zon ∧
  t.msg = s.msg ∧ t.flex = s.flex ∧ t.rails = s.rails ∧ t.snap = s.snap ∧ t.pwr = s.pwr ∧ t.pav = s.pav ∧ t.sec = s.sec

abbrev OnlyOwn (s t : State) : Prop :=
  t.pending = s.pending ∧ t.out = s.out ∧ t.free = s.free ∧ t.clk = s.clk ∧ t.boot = s.boot ∧ t.aon = s.aon ∧ t.win = s.win ∧
  t.mbx = s.mbx ∧ t.flt = s.flt ∧ t.cfg = s.cfg ∧ t.mem = s.mem ∧ t.hub = s.hub ∧ t.ports = s.ports ∧ t.sw = s.sw ∧
  t.aud = s.aud ∧ t.zon = s.zon ∧ t.msg = s.msg ∧ t.flex = s.flex ∧ t.rails = s.rails ∧ t.snap = s.snap ∧ t.pwr = s.pwr ∧
  t.pav = s.pav ∧ t.sec = s.sec

abbrev OnlyHubSw (s t : State) : Prop :=
  t.pending = s.pending ∧ t.out = s.out ∧ t.free = s.free ∧ t.clk = s.clk ∧ t.boot = s.boot ∧ t.aon = s.aon ∧ t.win = s.win ∧
  t.mbx = s.mbx ∧ t.flt = s.flt ∧ t.cfg = s.cfg ∧ t.mem = s.mem ∧ t.ports = s.ports ∧ t.own = s.own ∧ t.aud = s.aud ∧
  t.zon = s.zon ∧ t.msg = s.msg ∧ t.flex = s.flex ∧ t.rails = s.rails ∧ t.snap = s.snap ∧ t.pwr = s.pwr ∧ t.pav = s.pav ∧
  t.sec = s.sec

abbrev OnlyOutBootAonMbxFltCfgHubZon (s t : State) : Prop :=
  t.pending = s.pending ∧ t.free = s.free ∧ t.clk = s.clk ∧ t.win = s.win ∧ t.mem = s.mem ∧ t.ports = s.ports ∧ t.own = s.own ∧
  t.sw = s.sw ∧ t.aud = s.aud ∧ t.msg = s.msg ∧ t.flex = s.flex ∧ t.rails = s.rails ∧ t.snap = s.snap ∧ t.pwr = s.pwr ∧
  t.pav = s.pav ∧ t.sec = s.sec

abbrev OnlyOutBootAonMbxFltCfgMemHubZon (s t : State) : Prop :=
  t.pending = s.pending ∧ t.free = s.free ∧ t.clk = s.clk ∧ t.win = s.win ∧ t.ports = s.ports ∧ t.own = s.own ∧ t.sw = s.sw ∧
  t.aud = s.aud ∧ t.msg = s.msg ∧ t.flex = s.flex ∧ t.rails = s.rails ∧ t.snap = s.snap ∧ t.pwr = s.pwr ∧ t.pav = s.pav ∧
  t.sec = s.sec

/-! ## Audio -/

@[simp] theorem setDest_only (d : Dest) (s : State) : OnlyAud s (setDest d s) := by
  simp only [setDest] <;> (repeat' split) <;> simp [OnlyAud]

@[simp] theorem writeRow_only (g row : Nat) (s : State) : OnlyMem s (writeRow g row s) := by
  simp only [writeRow] <;> (repeat' split) <;> simp [OnlyMem]

@[simp] theorem trimBanks_only (s : State) : OnlyMem s (trimBanks s) := by
  simp only [trimBanks] <;> (repeat' split) <;> simp [OnlyMem]

@[simp] theorem powerBank_only (k : Nat) (s : State) : OnlyMem s (powerBank k s) := by
  simp only [powerBank] <;> (repeat' split) <;> simp [OnlyMem]

@[simp] theorem clearExtents_only (format : Nat) (es : List Nat) (s : State) : OnlyMem s (clearExtents format es s) := by
  simp only [clearExtents] <;> (repeat' split) <;> simp [OnlyMem]

@[simp] theorem allocate_only (n format cap delay : Nat) (s : State) : OnlyMemAud s (allocate n format cap delay s) := by
  simp only [allocate] <;> (repeat' split) <;> simp [OnlyMemAud]

@[simp] theorem setCross_only (n src : Nat) (gain : Int) (invert : Bool) (s : State) :
    OnlyAud s (setCross n src gain invert s) := by
  simp only [setCross] <;> (repeat' split) <;> simp [OnlyAud]

@[simp] theorem setSection_only (n i : Nat) (c : Coefs) (s : State) : OnlyAud s (setSection n i c s) := by
  simp only [setSection] <;> (repeat' split) <;> simp [OnlyAud]

@[simp] theorem bypassSection_only (n i : Nat) (s : State) : OnlyAud s (bypassSection n i s) := by
  simp only [bypassSection] <;> (repeat' split) <;> simp [OnlyAud]

@[simp] theorem setDynamics_only (n curve attack release : Nat) (rms on : Bool) (s : State) :
    OnlyAud s (setDynamics n curve attack release rms on s) := by
  simp only [setDynamics] <;> (repeat' split) <;> simp [OnlyAud]

@[simp] theorem setAmbient_only (n curve source window gate : Nat) (s : State) :
    OnlyAud s (setAmbient n curve source window gate s) := by
  simp only [setAmbient] <;> (repeat' split) <;> simp [OnlyAud]

@[simp] theorem applyEntry_only (e : MapEntry) (s : State) : OnlyMemAud s (applyEntry e s) := by
  simp only [applyEntry] <;> (repeat' split) <;> simp [OnlyMemAud]

@[simp] theorem removeEntry_only (e : MapEntry) (s : State) : OnlyMemAud s (removeEntry e s) := by
  simp only [removeEntry] <;> (repeat' split) <;> simp [OnlyMemAud]

@[simp] theorem applyRouteTable_only (old new : List Table) (written : List Nat) (s : State) :
    OnlyMemAud s (applyRouteTable old new written s) := by
  simp only [applyRouteTable] <;> (repeat' split) <;> simp [OnlyMemAud]

@[simp] theorem persist_only (on : Bool) (coding : Option (List Change)) (s : State) : OnlyCfg s (persist on coding s) := by
  simp only [persist] <;> (repeat' split) <;> simp [OnlyCfg]

@[simp] theorem runRouteSet_only (c : Command) (s : State) : OnlyCfgAud s (runRouteSet c s).2 := by
  simp only [runRouteSet] <;> (repeat' split) <;> simp [OnlyCfgAud]

@[simp] theorem runRouteClear_only (c : Command) (s : State) : OnlyCfgAud s (runRouteClear c s).2 := by
  simp only [runRouteClear] <;> (repeat' split) <;> simp [OnlyCfgAud]

@[simp] theorem runSetEq_only (c : Command) (s : State) : OnlyCfgAud s (runSetEq c s).2 := by
  simp only [runSetEq] <;> (repeat' split) <;> simp [OnlyCfgAud]

@[simp] theorem setDelay_only (c : Command) (s : State) : OnlyMemAud s (setDelay c s) := by
  simp only [setDelay] <;> (repeat' split) <;> simp [OnlyMemAud]

@[simp] theorem runSetDelay_only (c : Command) (s : State) : OnlyCfgMemAud s (runSetDelay c s).2 := by
  simp only [runSetDelay] <;> (repeat' split) <;> simp [OnlyCfgMemAud]

@[simp] theorem setDelayFormat_only (c : Command) (s : State) : OnlyMemAud s (setDelayFormat c s) := by
  simp only [setDelayFormat] <;> (repeat' split) <;> simp [OnlyMemAud]

@[simp] theorem runDelayFormat_only (c : Command) (s : State) : OnlyCfgMemAud s (runDelayFormat c s).2 := by
  simp only [runDelayFormat] <;> (repeat' split) <;> simp [OnlyCfgMemAud]

@[simp] theorem applySetDynamics_only (c : Command) (s : State) : OnlyAud s (applySetDynamics c s) := by
  simp only [applySetDynamics] <;> (repeat' split) <;> simp [OnlyAud]

@[simp] theorem runSetDynamics_only (c : Command) (s : State) : OnlyCfgAud s (runSetDynamics c s).2 := by
  simp only [runSetDynamics] <;> (repeat' split) <;> simp [OnlyCfgAud]

@[simp] theorem setMeters_only (kind : Nat) (l : List (Nat × Meter)) (s : State) : OnlyAud s (setMeters kind l s) := by
  simp only [setMeters] <;> (repeat' split) <;> simp [OnlyAud]

/-! ## Messages -/

@[simp] theorem mapMsg_only (number : Nat) (f : Msg → Msg) (s : State) : OnlyMsg s (mapMsg number f s) := by
  simp only [mapMsg] <;> (repeat' split) <;> simp [OnlyMsg]

@[simp] theorem setVoice_only (v : Nat) (x : Option Voice) (s : State) : OnlyMsg s (setVoice v x s) := by
  simp only [setVoice] <;> (repeat' split) <;> simp [OnlyMsg]

@[simp] theorem mapZone_only (n : Nat) (f : Zone → Zone) (s : State) : OnlyZon s (mapZone n f s) := by
  simp only [mapZone] <;> (repeat' split) <;> simp [OnlyZon]

@[simp] theorem loseVoice_only (v : Nat) (s : State) : OnlyZon s (loseVoice v s) := by
  simp only [loseVoice] <;> (repeat' split) <;> simp [OnlyZon]

@[simp] theorem endVoice_only (v reason : Nat) (s : State) : OnlyOutBootMbxHubZonMsg s (endVoice v reason s) := by
  simp only [endVoice] <;> (repeat' split) <;> simp [OnlyOutBootMbxHubZonMsg]

@[simp] theorem deniedStart_only (number : Nat) (s : State) : OnlyOutBootMbxHub s (deniedStart number s) := by
  simp only [deniedStart] <;> (repeat' split) <;> simp [OnlyOutBootMbxHub]

@[simp] theorem takeVoice_only (v : Nat) (m : Msg) (zones : List Nat) (s : State) : OnlyMsg s (takeVoice v m zones s) := by
  simp only [takeVoice] <;> (repeat' split) <;> simp [OnlyMsg]

@[simp] theorem toFront_only (number : Nat) (s : State) : OnlyMsg s (toFront number s) := by
  simp only [toFront] <;> (repeat' split) <;> simp [OnlyMsg]

@[simp] theorem failMessage_only (number : Nat) (s : State) : OnlyOutBootAonMbxFltHubZonMsg s (failMessage number s) := by
  simp only [failMessage] <;> (repeat' split) <;> simp [OnlyOutBootAonMbxFltHubZonMsg]

@[simp] theorem flashReadFault_only (readOk : Bool) (s : State) : OnlyOutBootAonMbxFltHubZon s (flashReadFault readOk s) := by
  simp only [flashReadFault] <;> (repeat' split) <;> simp [OnlyOutBootAonMbxFltHubZon]

@[simp] theorem storeFrame_only (m : Msg) (f : CacheFrame × Nat) (s : State) : OnlyMemMsg s (storeFrame m f s) := by
  simp only [storeFrame] <;> (repeat' split) <;> simp [OnlyMemMsg]

@[simp] theorem dropCache_only (number : Nat) (s : State) : OnlyMsg s (dropCache number s) := by
  simp only [dropCache] <;> (repeat' split) <;> simp [OnlyMsg]

@[simp] theorem pinMessage_only (m : Msg) (secs : Nat) (s : State) : OnlyMemMsg s (pinMessage m secs s) := by
  simp only [pinMessage] <;> (repeat' split) <;> simp [OnlyMemMsg]

@[simp] theorem removeLibrary_only (lib : Nat) (s : State) : OnlyMsg s (removeLibrary lib s) := by
  simp only [removeLibrary] <;> (repeat' split) <;> simp [OnlyMsg]

@[simp] theorem rejectLibrary_only (lib reason : Nat) (s : State) :
    OnlyOutBootAonMbxFltHubZon s (rejectLibrary lib reason s) := by
  simp only [rejectLibrary] <;> (repeat' split) <;> simp [OnlyOutBootAonMbxFltHubZon]

@[simp] theorem frameFailed_only (v : Nat) (x : Voice) (len : Nat) (cache : Bool) (s : State) :
    OnlyOutBootAonMbxFltHubZonMsg s (frameFailed v x len cache s) := by
  simp only [frameFailed] <;> (repeat' split) <;> simp [OnlyOutBootAonMbxFltHubZonMsg]

@[simp] theorem frameDecoded_only (v : Nat) (x : Voice) (len : Nat) (ys : List Int) (s : State) :
    OnlyMsg s (frameDecoded v x len ys s) := by
  simp only [frameDecoded] <;> (repeat' split) <;> simp [OnlyMsg]

@[simp] theorem runPlay_only (c : Command) (s : State) : OnlyOutBootMbxHubMsg s (runPlay c s).2 := by
  simp only [runPlay] <;> (repeat' split) <;> simp [OnlyOutBootMbxHubMsg]

@[simp] theorem runStop_only (c : Command) (s : State) : OnlyOutBootMbxHubZonMsg s (runStop c s).2 := by
  simp only [runStop] <;> (repeat' split) <;> simp [OnlyOutBootMbxHubZonMsg]

@[simp] theorem pinCompletes_only (number secs : Nat) (start : Tick) (ok : Bool) (s : State) :
    OnlyOutBootAonMbxFltMemHubZonMsg s (pinCompletes number secs start ok s) := by
  simp only [pinCompletes] <;> (repeat' split) <;> simp [OnlyOutBootAonMbxFltMemHubZonMsg]

/-! ## Zones -/

@[simp] theorem deliverOccs_only (s : State) : OnlyZon s (deliverOccs s) := by
  simp only [deliverOccs] <;> (repeat' split) <;> simp [OnlyZon]

@[simp] theorem postLost_only (s : State) : OnlyOutBootMbxHubZon s (postLost s) := by
  simp only [postLost] <;> (repeat' split) <;> simp [OnlyOutBootMbxHubZon]

@[simp] theorem leaveVoice_only (n : Nat) (s : State) : OnlyZonMsg s (leaveVoice n s) := by
  simp only [leaveVoice] <;> (repeat' split) <;> simp [OnlyZonMsg]

@[simp] theorem shareVoice_only (v : Nat) (ns : List Nat) (s : State) : OnlyZon s (shareVoice v ns s) := by
  simp only [shareVoice] <;> (repeat' split) <;> simp [OnlyZon]

@[simp] theorem noVoice_only (ns : List Nat) (s : State) : OnlyZon s (noVoice ns s) := by
  simp only [noVoice] <;> (repeat' split) <;> simp [OnlyZon]

@[simp] theorem postDenied_only (number : Nat) (ns : List Nat) (s : State) : OnlyOutBootMbxHubZon s (postDenied number ns s) := by
  simp only [postDenied] <;> (repeat' split) <;> simp [OnlyOutBootMbxHubZon]

@[simp] theorem startMessage_only (number : Nat) (ns : List Nat) (s : State) :
    OnlyOutBootMbxHubZonMsg s (startMessage number ns s) := by
  simp only [startMessage] <;> (repeat' split) <;> simp [OnlyOutBootMbxHubZonMsg]

@[simp] theorem inputOcc_only (k : Nat) (on : Bool) (s : State) : OnlyZon s (inputOcc k on s) := by
  simp only [inputOcc] <;> (repeat' split) <;> simp [OnlyZon]

@[simp] theorem setInput_only (k : Nat) (t : TrigIn) (s : State) : OnlyZon s (setInput k t s) := by
  simp only [setInput] <;> (repeat' split) <;> simp [OnlyZon]

@[simp] theorem sampleInput_only (inp : BlockInputs) (s : State) (k : Nat) : OnlyZon s (sampleInput inp s k) := by
  simp only [sampleInput] <;> (repeat' split) <;> simp [OnlyZon]

@[simp] theorem resampleSafe_only (s : State) : OnlyZon s (resampleSafe s) := by
  simp only [resampleSafe] <;> (repeat' split) <;> simp [OnlyZon]

@[simp] theorem sampleInputs_only (inp : BlockInputs) (s : State) : OnlyZon s (sampleInputs inp s) := by
  simp only [sampleInputs] <;> (repeat' split) <;> simp [OnlyZon]

@[simp] theorem driveOutputs_only (s : State) : OnlyZon s (driveOutputs s) := by
  simp only [driveOutputs] <;> (repeat' split) <;> simp [OnlyZon]

@[simp] theorem loadOutputs_only (s : State) : OnlyZon s (loadOutputs s) := by
  simp only [loadOutputs] <;> (repeat' split) <;> simp [OnlyZon]

@[simp] theorem heartbeatReturn_only (s : State) : OnlyOutBootMbxHubZon s (heartbeatReturn s) := by
  simp only [heartbeatReturn] <;> (repeat' split) <;> simp [OnlyOutBootMbxHubZon]

@[simp] theorem syncZones_only (old : List Table) (keepAny : Bool) (s : State) : OnlyZonMsg s (syncZones old keepAny s) := by
  simp only [syncZones] <;> (repeat' split) <;> simp [OnlyZonMsg]

@[simp] theorem zoneEvent_only (n src index edge : Nat) (s : State) : OnlyZon s (zoneEvent n src index edge s).2 := by
  simp only [zoneEvent] <;> (repeat' split) <;> simp [OnlyZon]

@[simp] theorem runTrigger_only (c : Command) (s : State) : OnlyZon s (runTrigger c s).2 := by
  simp only [runTrigger] <;> (repeat' split) <;> simp [OnlyZon]

@[simp] theorem runRelease_only (c : Command) (s : State) : OnlyZon s (runRelease c s).2 := by
  simp only [runRelease] <;> (repeat' split) <;> simp [OnlyZon]

@[simp] theorem runMute_only (c : Command) (s : State) : OnlyZon s (runMute c s).2 := by
  simp only [runMute] <;> (repeat' split) <;> simp [OnlyZon]

/-! ## Chain -/

@[simp] theorem readStored_only (l : Delay) (i : Nat) (first : Bool) (s : State) :
    OnlyOutFreeBootAonMbxFltHubZon s (readStored l i first s).2 := by
  simp only [readStored] <;> (repeat' split) <;> simp [OnlyOutFreeBootAonMbxFltHubZon]

@[simp] theorem readDelay_only (l : Delay) (newest delay : Nat) (first : Bool) (s : State) :
    OnlyOutFreeBootAonMbxFltHubZon s (readDelay l newest delay first s).2 := by
  simp only [readDelay] <;> (repeat' split) <;> simp [OnlyOutFreeBootAonMbxFltHubZon]

/-! ## Switch -/

@[simp] theorem countTt_only (per : Bool) (f : Nat → Nat) (k : Nat) (s : State) : OnlyPorts s (countTt per f k s) := by
  simp only [countTt] <;> (repeat' split) <;> simp [OnlyPorts]

@[simp] theorem ttTake_only (cls : CellClass) (ep : BitVec 4) (dest : BitVec 18) (s : State) :
    OnlyPorts s (ttTake cls ep dest s) := by
  simp only [ttTake] <;> (repeat' split) <;> simp [OnlyPorts]

@[simp] theorem ttDrop_only (per : Bool) (k : Nat) (s : State) : OnlyOutBootAonMbxFltHubPortsSwZon s (ttDrop per k s) := by
  simp only [ttDrop] <;> (repeat' split) <;> simp [OnlyOutBootAonMbxFltHubPortsSwZon]

@[simp] theorem writeCells_only (pkt : IngressPacket) (s : State) : OnlyPortsSw s (writeCells pkt s) := by
  simp only [writeCells] <;> (repeat' split) <;> simp [OnlyPortsSw]

@[simp] theorem egressBytes_only (c : Cell) (s : State) : OnlyOwn s (egressBytes c s).2 := by
  simp only [egressBytes] <;> (repeat' split) <;> simp [OnlyOwn]

@[simp] theorem ttLeave_only (e : Nat) (c : Cell) (s : State) : OnlyPorts s (ttLeave e c s) := by
  simp only [ttLeave] <;> (repeat' split) <;> simp [OnlyPorts]

@[simp] theorem settleRefs_only (s : State) : OnlySw s (settleRefs s) := by
  simp only [settleRefs] <;> (repeat' split) <;> simp [OnlySw]

@[simp] theorem setLink_only (k : Nat) (l : LinkCtl) (s : State) : OnlySw s (setLink k l s) := by
  simp only [setLink] <;> (repeat' split) <;> simp [OnlySw]

@[simp] theorem endHold_only (k outcome iso : Nat) (s : State) : OnlyOutBootMbxHubSw s (endHold k outcome iso s) := by
  simp only [endHold] <;> (repeat' split) <;> simp [OnlyOutBootMbxHubSw]

@[simp] theorem setLinkState_only (k : Nat) (x : LinkState) (s : State) : OnlyHubSw s (setLinkState k x s) := by
  simp only [setLinkState] <;> (repeat' split) <;> simp [OnlyHubSw]

@[simp] theorem functionMoves_only (s : State) : OnlyHub s (functionMoves s) := by
  simp only [functionMoves] <;> (repeat' split) <;> simp [OnlyHub]

@[simp] theorem stashUncorrectable_only (g : Nat) (s : State) : OnlyOutBootAonMbxFltCfgHubZon s (stashUncorrectable g s) := by
  simp only [stashUncorrectable] <;> (repeat' split) <;> simp [OnlyOutBootAonMbxFltCfgHubZon]

@[simp] theorem scrubStash_only (s : State) : OnlyOutBootAonMbxFltCfgMemHubZon s (scrubStash s) := by
  simp only [scrubStash] <;> (repeat' split) <;> simp [OnlyOutBootAonMbxFltCfgMemHubZon]

end Sys2Proof.Machine
end

