-- ==== Sys2Proof/Laws/FramePorts.lean ====
section
/-!
SUPPORT. What ports, the hub, Power Delivery, owned devices and tags leave alone: for each operation one lemma that names the only groups of the state that it
may change, as equations that simp uses one by one.
-/

namespace Sys2Proof.Machine

set_option linter.all false

open Sys2Proof

/-! ## Sets of groups that may change -/

abbrev OnlyOwnZon (s t : State) : Prop :=
  t.pending = s.pending ∧ t.out = s.out ∧ t.free = s.free ∧ t.clk = s.clk ∧ t.boot = s.boot ∧ t.aon = s.aon ∧ t.win = s.win ∧
  t.mbx = s.mbx ∧ t.flt = s.flt ∧ t.cfg = s.cfg ∧ t.mem = s.mem ∧ t.hub = s.hub ∧ t.ports = s.ports ∧ t.sw = s.sw ∧
  t.aud = s.aud ∧ t.msg = s.msg ∧ t.flex = s.flex ∧ t.rails = s.rails ∧ t.snap = s.snap ∧ t.pwr = s.pwr ∧ t.pav = s.pav ∧
  t.sec = s.sec

abbrev OnlyFlex (s t : State) : Prop :=
  t.pending = s.pending ∧ t.out = s.out ∧ t.free = s.free ∧ t.clk = s.clk ∧ t.boot = s.boot ∧ t.aon = s.aon ∧ t.win = s.win ∧
  t.mbx = s.mbx ∧ t.flt = s.flt ∧ t.cfg = s.cfg ∧ t.mem = s.mem ∧ t.hub = s.hub ∧ t.ports = s.ports ∧ t.own = s.own ∧
  t.sw = s.sw ∧ t.aud = s.aud ∧ t.zon = s.zon ∧ t.msg = s.msg ∧ t.rails = s.rails ∧ t.snap = s.snap ∧ t.pwr = s.pwr ∧
  t.pav = s.pav ∧ t.sec = s.sec

abbrev OnlyOutFlex (s t : State) : Prop :=
  t.pending = s.pending ∧ t.free = s.free ∧ t.clk = s.clk ∧ t.boot = s.boot ∧ t.aon = s.aon ∧ t.win = s.win ∧ t.mbx = s.mbx ∧
  t.flt = s.flt ∧ t.cfg = s.cfg ∧ t.mem = s.mem ∧ t.hub = s.hub ∧ t.ports = s.ports ∧ t.own = s.own ∧ t.sw = s.sw ∧
  t.aud = s.aud ∧ t.zon = s.zon ∧ t.msg = s.msg ∧ t.rails = s.rails ∧ t.snap = s.snap ∧ t.pwr = s.pwr ∧ t.pav = s.pav ∧
  t.sec = s.sec

abbrev OnlyOutBootMbxHubFlex (s t : State) : Prop :=
  t.pending = s.pending ∧ t.free = s.free ∧ t.clk = s.clk ∧ t.aon = s.aon ∧ t.win = s.win ∧ t.flt = s.flt ∧ t.cfg = s.cfg ∧
  t.mem = s.mem ∧ t.ports = s.ports ∧ t.own = s.own ∧ t.sw = s.sw ∧ t.aud = s.aud ∧ t.zon = s.zon ∧ t.msg = s.msg ∧
  t.rails = s.rails ∧ t.snap = s.snap ∧ t.pwr = s.pwr ∧ t.pav = s.pav ∧ t.sec = s.sec

abbrev OnlyOutBootAonMbxFltHubZonFlex (s t : State) : Prop :=
  t.pending = s.pending ∧ t.free = s.free ∧ t.clk = s.clk ∧ t.win = s.win ∧ t.cfg = s.cfg ∧ t.mem = s.mem ∧ t.ports = s.ports ∧
  t.own = s.own ∧ t.sw = s.sw ∧ t.aud = s.aud ∧ t.msg = s.msg ∧ t.rails = s.rails ∧ t.snap = s.snap ∧ t.pwr = s.pwr ∧
  t.pav = s.pav ∧ t.sec = s.sec

abbrev OnlyOutBootAonMbxFltHubZonRails (s t : State) : Prop :=
  t.pending = s.pending ∧ t.free = s.free ∧ t.clk = s.clk ∧ t.win = s.win ∧ t.cfg = s.cfg ∧ t.mem = s.mem ∧ t.ports = s.ports ∧
  t.own = s.own ∧ t.sw = s.sw ∧ t.aud = s.aud ∧ t.msg = s.msg ∧ t.flex = s.flex ∧ t.snap = s.snap ∧ t.pwr = s.pwr ∧
  t.pav = s.pav ∧ t.sec = s.sec

abbrev OnlyOutBootMbxHubFlexRails (s t : State) : Prop :=
  t.pending = s.pending ∧ t.free = s.free ∧ t.clk = s.clk ∧ t.aon = s.aon ∧ t.win = s.win ∧ t.flt = s.flt ∧ t.cfg = s.cfg ∧
  t.mem = s.mem ∧ t.ports = s.ports ∧ t.own = s.own ∧ t.sw = s.sw ∧ t.aud = s.aud ∧ t.zon = s.zon ∧ t.msg = s.msg ∧
  t.snap = s.snap ∧ t.pwr = s.pwr ∧ t.pav = s.pav ∧ t.sec = s.sec

abbrev OnlyPortsFlex (s t : State) : Prop :=
  t.pending = s.pending ∧ t.out = s.out ∧ t.free = s.free ∧ t.clk = s.clk ∧ t.boot = s.boot ∧ t.aon = s.aon ∧ t.win = s.win ∧
  t.mbx = s.mbx ∧ t.flt = s.flt ∧ t.cfg = s.cfg ∧ t.mem = s.mem ∧ t.hub = s.hub ∧ t.own = s.own ∧ t.sw = s.sw ∧ t.aud = s.aud ∧
  t.zon = s.zon ∧ t.msg = s.msg ∧ t.rails = s.rails ∧ t.snap = s.snap ∧ t.pwr = s.pwr ∧ t.pav = s.pav ∧ t.sec = s.sec

abbrev OnlyOutBootMbxHubOwn (s t : State) : Prop :=
  t.pending = s.pending ∧ t.free = s.free ∧ t.clk = s.clk ∧ t.aon = s.aon ∧ t.win = s.win ∧ t.flt = s.flt ∧ t.cfg = s.cfg ∧
  t.mem = s.mem ∧ t.ports = s.ports ∧ t.sw = s.sw ∧ t.aud = s.aud ∧ t.zon = s.zon ∧ t.msg = s.msg ∧ t.flex = s.flex ∧
  t.rails = s.rails ∧ t.snap = s.snap ∧ t.pwr = s.pwr ∧ t.pav = s.pav ∧ t.sec = s.sec

abbrev OnlyOutBootMbxHubPortsOwn (s t : State) : Prop :=
  t.pending = s.pending ∧ t.free = s.free ∧ t.clk = s.clk ∧ t.aon = s.aon ∧ t.win = s.win ∧ t.flt = s.flt ∧ t.cfg = s.cfg ∧
  t.mem = s.mem ∧ t.sw = s.sw ∧ t.aud = s.aud ∧ t.zon = s.zon ∧ t.msg = s.msg ∧ t.flex = s.flex ∧ t.rails = s.rails ∧
  t.snap = s.snap ∧ t.pwr = s.pwr ∧ t.pav = s.pav ∧ t.sec = s.sec

abbrev OnlyHubPorts (s t : State) : Prop :=
  t.pending = s.pending ∧ t.out = s.out ∧ t.free = s.free ∧ t.clk = s.clk ∧ t.boot = s.boot ∧ t.aon = s.aon ∧ t.win = s.win ∧
  t.mbx = s.mbx ∧ t.flt = s.flt ∧ t.cfg = s.cfg ∧ t.mem = s.mem ∧ t.own = s.own ∧ t.sw = s.sw ∧ t.aud = s.aud ∧ t.zon = s.zon ∧
  t.msg = s.msg ∧ t.flex = s.flex ∧ t.rails = s.rails ∧ t.snap = s.snap ∧ t.pwr = s.pwr ∧ t.pav = s.pav ∧ t.sec = s.sec

abbrev OnlyOutBootMbxHubSec (s t : State) : Prop :=
  t.pending = s.pending ∧ t.free = s.free ∧ t.clk = s.clk ∧ t.aon = s.aon ∧ t.win = s.win ∧ t.flt = s.flt ∧ t.cfg = s.cfg ∧
  t.mem = s.mem ∧ t.ports = s.ports ∧ t.own = s.own ∧ t.sw = s.sw ∧ t.aud = s.aud ∧ t.zon = s.zon ∧ t.msg = s.msg ∧
  t.flex = s.flex ∧ t.rails = s.rails ∧ t.snap = s.snap ∧ t.pwr = s.pwr ∧ t.pav = s.pav

abbrev OnlyOutBootAonMbxHub (s t : State) : Prop :=
  t.pending = s.pending ∧ t.free = s.free ∧ t.clk = s.clk ∧ t.win = s.win ∧ t.flt = s.flt ∧ t.cfg = s.cfg ∧ t.mem = s.mem ∧
  t.ports = s.ports ∧ t.own = s.own ∧ t.sw = s.sw ∧ t.aud = s.aud ∧ t.zon = s.zon ∧ t.msg = s.msg ∧ t.flex = s.flex ∧
  t.rails = s.rails ∧ t.snap = s.snap ∧ t.pwr = s.pwr ∧ t.pav = s.pav ∧ t.sec = s.sec

abbrev OnlyOutHubPortsSw (s t : State) : Prop :=
  t.pending = s.pending ∧ t.free = s.free ∧ t.clk = s.clk ∧ t.boot = s.boot ∧ t.aon = s.aon ∧ t.win = s.win ∧ t.mbx = s.mbx ∧
  t.flt = s.flt ∧ t.cfg = s.cfg ∧ t.mem = s.mem ∧ t.own = s.own ∧ t.aud = s.aud ∧ t.zon = s.zon ∧ t.msg = s.msg ∧
  t.flex = s.flex ∧ t.rails = s.rails ∧ t.snap = s.snap ∧ t.pwr = s.pwr ∧ t.pav = s.pav ∧ t.sec = s.sec

abbrev OnlyOutOwn (s t : State) : Prop :=
  t.pending = s.pending ∧ t.free = s.free ∧ t.clk = s.clk ∧ t.boot = s.boot ∧ t.aon = s.aon ∧ t.win = s.win ∧ t.mbx = s.mbx ∧
  t.flt = s.flt ∧ t.cfg = s.cfg ∧ t.mem = s.mem ∧ t.hub = s.hub ∧ t.ports = s.ports ∧ t.sw = s.sw ∧ t.aud = s.aud ∧
  t.zon = s.zon ∧ t.msg = s.msg ∧ t.flex = s.flex ∧ t.rails = s.rails ∧ t.snap = s.snap ∧ t.pwr = s.pwr ∧ t.pav = s.pav ∧
  t.sec = s.sec

abbrev OnlyOutPorts (s t : State) : Prop :=
  t.pending = s.pending ∧ t.free = s.free ∧ t.clk = s.clk ∧ t.boot = s.boot ∧ t.aon = s.aon ∧ t.win = s.win ∧ t.mbx = s.mbx ∧
  t.flt = s.flt ∧ t.cfg = s.cfg ∧ t.mem = s.mem ∧ t.hub = s.hub ∧ t.own = s.own ∧ t.sw = s.sw ∧ t.aud = s.aud ∧ t.zon = s.zon ∧
  t.msg = s.msg ∧ t.flex = s.flex ∧ t.rails = s.rails ∧ t.snap = s.snap ∧ t.pwr = s.pwr ∧ t.pav = s.pav ∧ t.sec = s.sec

abbrev OnlyOutHubPorts (s t : State) : Prop :=
  t.pending = s.pending ∧ t.free = s.free ∧ t.clk = s.clk ∧ t.boot = s.boot ∧ t.aon = s.aon ∧ t.win = s.win ∧ t.mbx = s.mbx ∧
  t.flt = s.flt ∧ t.cfg = s.cfg ∧ t.mem = s.mem ∧ t.own = s.own ∧ t.sw = s.sw ∧ t.aud = s.aud ∧ t.zon = s.zon ∧ t.msg = s.msg ∧
  t.flex = s.flex ∧ t.rails = s.rails ∧ t.snap = s.snap ∧ t.pwr = s.pwr ∧ t.pav = s.pav ∧ t.sec = s.sec

abbrev OnlyOwnSw (s t : State) : Prop :=
  t.pending = s.pending ∧ t.out = s.out ∧ t.free = s.free ∧ t.clk = s.clk ∧ t.boot = s.boot ∧ t.aon = s.aon ∧ t.win = s.win ∧
  t.mbx = s.mbx ∧ t.flt = s.flt ∧ t.cfg = s.cfg ∧ t.mem = s.mem ∧ t.hub = s.hub ∧ t.ports = s.ports ∧ t.aud = s.aud ∧
  t.zon = s.zon ∧ t.msg = s.msg ∧ t.flex = s.flex ∧ t.rails = s.rails ∧ t.snap = s.snap ∧ t.pwr = s.pwr ∧ t.pav = s.pav ∧
  t.sec = s.sec

abbrev OnlyOutClkBootAonWinMbxFltHubAudZon (s t : State) : Prop :=
  t.pending = s.pending ∧ t.free = s.free ∧ t.cfg = s.cfg ∧ t.mem = s.mem ∧ t.ports = s.ports ∧ t.own = s.own ∧ t.sw = s.sw ∧
  t.msg = s.msg ∧ t.flex = s.flex ∧ t.rails = s.rails ∧ t.snap = s.snap ∧ t.pwr = s.pwr ∧ t.pav = s.pav ∧ t.sec = s.sec

/-! ## Trees -/

@[simp] theorem mapPort_only (k : Nat) (f : DownPortState → DownPortState) (s : State) : OnlyPorts s (mapPort k f s) := by
  simp only [mapPort] <;> (repeat' split) <;> simp [OnlyPorts]

@[simp] theorem mapSide_only (usb3 : Bool) (k : Nat) (f : Side → Side) (s : State) : OnlyPorts s (mapSide usb3 k f s) := by
  simp only [mapSide] <;> (repeat' split) <;> simp [OnlyPorts]

@[simp] theorem wakeOnPort_only (usb3 : Bool) (k : Nat) (e : WakeEvent) (s : State) : OnlyOutHub s (wakeOnPort usb3 k e s) := by
  simp only [wakeOnPort] <;> (repeat' split) <;> simp [OnlyOutHub]

@[simp] theorem mapStreams_only (p : Stream → Bool) (f : Stream → Stream) (s : State) : OnlyOwn s (mapStreams p f s) := by
  simp only [mapStreams] <;> (repeat' split) <;> simp [OnlyOwn]

@[simp] theorem mapDevs_only (p : OwnedDev → Bool) (f : OwnedDev → OwnedDev) (s : State) : OnlyOwn s (mapDevs p f s) := by
  simp only [mapDevs] <;> (repeat' split) <;> simp [OnlyOwn]

@[simp] theorem setCtx_only (c : Nat) (x : Option Ctx) (s : State) : OnlyOwn s (setCtx c x s) := by
  simp only [setCtx] <;> (repeat' split) <;> simp [OnlyOwn]

@[simp] theorem releaseCtx_only (c : Nat) (s : State) : OnlyOwn s (releaseCtx c s) := by
  simp only [releaseCtx] <;> (repeat' split) <;> simp [OnlyOwn]

@[simp] theorem releaseKeys_only (addr : Nat) (s : State) : OnlyOwnZon s (releaseKeys addr s) := by
  simp only [releaseKeys] <;> (repeat' split) <;> simp [OnlyOwnZon]

@[simp] theorem linkOf_only (k : Nat) (super : Bool) (x : LinkState) (s : State) : OnlyHubSw s (linkOf k super x s) := by
  simp only [linkOf] <;> (repeat' split) <;> simp [OnlyHubSw]

@[simp] theorem settleReserved_only (k : Nat) (s : State) : OnlyPorts s (settleReserved k s) := by
  simp only [settleReserved] <;> (repeat' split) <;> simp [OnlyPorts]

@[simp] theorem clearFailures_only (k hubPort : Nat) (s : State) : OnlyPorts s (clearFailures k hubPort s) := by
  simp only [clearFailures] <;> (repeat' split) <;> simp [OnlyPorts]

/-! ## Flex -/

@[simp] theorem mapFlex_only (n : Nat) (f : Flex → Flex) (s : State) : OnlyFlex s (mapFlex n f s) := by
  simp only [mapFlex] <;> (repeat' split) <;> simp [OnlyFlex]

@[simp] theorem settleCc_only (n : Nat) (s : State) : OnlyFlex s (settleCc n s) := by
  simp only [settleCc] <;> (repeat' split) <;> simp [OnlyFlex]

@[simp] theorem sendCaps_only (n reason : Nat) (answered : Bool) (s : State) : OnlyOutFlex s (sendCaps n reason answered s) := by
  simp only [sendCaps] <;> (repeat' split) <;> simp [OnlyOutFlex]

@[simp] theorem pdDone_only (n status : Nat) (s : State) : OnlyOutBootMbxHubFlex s (pdDone n status s) := by
  simp only [pdDone] <;> (repeat' split) <;> simp [OnlyOutBootMbxHubFlex]

@[simp] theorem pdDoneIf_only (n code status : Nat) (s : State) : OnlyOutBootMbxHubFlex s (pdDoneIf n code status s) := by
  simp only [pdDoneIf] <;> (repeat' split) <;> simp [OnlyOutBootMbxHubFlex]

@[simp] theorem pdGone_only (n : Nat) (s : State) : OnlyOutBootMbxHubFlex s (pdGone n s) := by
  simp only [pdGone] <;> (repeat' split) <;> simp [OnlyOutBootMbxHubFlex]

@[simp] theorem flexOff_only (n : Nat) (s : State) : OnlyOutBootMbxHubFlex s (flexOff n s) := by
  simp only [flexOff] <;> (repeat' split) <;> simp [OnlyOutBootMbxHubFlex]

@[simp] theorem postDetach_only (n power energy : Nat) (s : State) : OnlyOutBootMbxHub s (postDetach n power energy s) := by
  simp only [postDetach] <;> (repeat' split) <;> simp [OnlyOutBootMbxHub]

@[simp] theorem sourceDetach_only (n : Nat) (s : State) : OnlyOutBootMbxHubFlex s (sourceDetach n s) := by
  simp only [sourceDetach] <;> (repeat' split) <;> simp [OnlyOutBootMbxHubFlex]

@[simp] theorem hardReset_only (n : Nat) (sent : Bool) (s : State) : OnlyOutBootMbxHubFlex s (hardReset n sent s) := by
  simp only [hardReset] <;> (repeat' split) <;> simp [OnlyOutBootMbxHubFlex]

@[simp] theorem rearm_only (n state : Nat) (s : State) : OnlyOutBootMbxHubFlex s (rearm n state s) := by
  simp only [rearm] <;> (repeat' split) <;> simp [OnlyOutBootMbxHubFlex]

@[simp] theorem endLatch_only (n : Nat) (s : State) : OnlyOutBootMbxHubFlex s (endLatch n s) := by
  simp only [endLatch] <;> (repeat' split) <;> simp [OnlyOutBootMbxHubFlex]

/-! ## EFuse -/

@[simp] theorem finishRemoval_only (n : Nat) (s : State) : OnlyOutBootMbxHubFlex s (finishRemoval n s) := by
  simp only [finishRemoval] <;> (repeat' split) <;> simp [OnlyOutBootMbxHubFlex]

@[simp] theorem stepHardReset_only (n : Nat) (s : State) : OnlyFlex s (stepHardReset n s) := by
  simp only [stepHardReset] <;> (repeat' split) <;> simp [OnlyFlex]

@[simp] theorem stepErrorRecovery_only (n : Nat) (s : State) : OnlyOutBootMbxHubFlex s (stepErrorRecovery n s) := by
  simp only [stepErrorRecovery] <;> (repeat' split) <;> simp [OnlyOutBootMbxHubFlex]

@[simp] theorem enterFallback_only (n : Nat) (s : State) : OnlyOutBootAonMbxFltHubZonFlex s (enterFallback n s) := by
  simp only [enterFallback] <;> (repeat' split) <;> simp [OnlyOutBootAonMbxFltHubZonFlex]

@[simp] theorem checkVhi_only (s : State) : OnlyOutBootAonMbxFltHubZonRails s (checkVhi s) := by
  simp only [checkVhi] <;> (repeat' split) <;> simp [OnlyOutBootAonMbxFltHubZonRails]

@[simp] theorem alertPort_only (s : State) (n : Nat) : OnlyOutFlex s (alertPort s n) := by
  simp only [alertPort] <;> (repeat' split) <;> simp [OnlyOutFlex]

@[simp] theorem setPfail_only (on : Bool) (s : State) : OnlyOutBootMbxHubFlexRails s (setPfail on s) := by
  simp only [setPfail] <;> (repeat' split) <;> simp [OnlyOutBootMbxHubFlexRails]

/-! ## Pd -/

@[simp] theorem postAttach_only (n role : Nat) (cc2 : Bool) (s : State) : OnlyOutBootMbxHub s (postAttach n role cc2 s) := by
  simp only [postAttach] <;> (repeat' split) <;> simp [OnlyOutBootMbxHub]

@[simp] theorem hear_only (n : Nat) (rev2 : Bool) (s : State) : OnlyFlex s (hear n rev2 s) := by
  simp only [hear] <;> (repeat' split) <;> simp [OnlyFlex]

@[simp] theorem takeRequest_only (n : Nat) (r : PdRequest) (s : State) : OnlyOutFlex s (takeRequest n r s) := by
  simp only [takeRequest] <;> (repeat' split) <;> simp [OnlyOutFlex]

@[simp] theorem startDeferred_only (n : Nat) (s : State) : OnlyOutFlex s (startDeferred n s) := by
  simp only [startDeferred] <;> (repeat' split) <;> simp [OnlyOutFlex]

@[simp] theorem sinkLeaves_only (n : Nat) (s : State) : OnlyOutBootMbxHubFlex s (sinkLeaves n s) := by
  simp only [sinkLeaves] <;> (repeat' split) <;> simp [OnlyOutBootMbxHubFlex]

@[simp] theorem postVconn_only (n : Nat) (merged oc : Bool) (s : State) : OnlyOutBootMbxHub s (postVconn n merged oc s) := by
  simp only [postVconn] <;> (repeat' split) <;> simp [OnlyOutBootMbxHub]

@[simp] theorem sourceMessage_only (n : Nat) (m : PdMsg) (s : State) : OnlyOutBootMbxHubFlex s (sourceMessage n m s) := by
  simp only [sourceMessage] <;> (repeat' split) <;> simp [OnlyOutBootMbxHubFlex]

@[simp] theorem sinkMessage_only (n : Nat) (m : PdMsg) (s : State) : OnlyOutBootMbxHubFlex s (sinkMessage n m s) := by
  simp only [sinkMessage] <;> (repeat' split) <;> simp [OnlyOutBootMbxHubFlex]

@[simp] theorem postAlt_only (n state : Nat) (s : State) : OnlyOutBootMbxHub s (postAlt n state s) := by
  simp only [postAlt] <;> (repeat' split) <;> simp [OnlyOutBootMbxHub]

@[simp] theorem startPd_only (n code : Nat) (s : State) : OnlyFlex s (startPd n code s) := by
  simp only [startPd] <;> (repeat' split) <;> simp [OnlyFlex]

/-! ## Face -/

@[simp] theorem restorePower_only (k : Nat) (s : State) : OnlyPortsFlex s (restorePower k s) := by
  simp only [restorePower] <;> (repeat' split) <;> simp [OnlyPortsFlex]

@[simp] theorem endReset_only (k : Nat) (place : Option Nat) (s : State) : OnlyOutBootMbxHubOwn s (endReset k place s) := by
  simp only [endReset] <;> (repeat' split) <;> simp [OnlyOutBootMbxHubOwn]

@[simp] theorem endOwnerChange_only (k : Nat) (s : State) : OnlyOutBootMbxHubPortsOwn s (endOwnerChange k s) := by
  simp only [endOwnerChange] <;> (repeat' split) <;> simp [OnlyOutBootMbxHubPortsOwn]

@[simp] theorem hubDefaults_only (s : State) : OnlyHubPorts s (hubDefaults s) := by
  simp only [hubDefaults] <;> (repeat' split) <;> simp [OnlyHubPorts]

@[simp] theorem closeUsbSession_only (s : State) : OnlyOutBootMbxHubSec s (closeUsbSession s) := by
  simp only [closeUsbSession] <;> (repeat' split) <;> simp [OnlyOutBootMbxHubSec]

@[simp] theorem presentFace_only (f : Face) (superSpeed highSpeed : Bool) (s : State) :
    OnlyHubPorts s (presentFace f superSpeed highSpeed s) := by
  simp only [presentFace] <;> (repeat' split) <;> simp [OnlyHubPorts]

@[simp] theorem postFace_only (old new : Option Face) (reason : Nat) (s : State) :
    OnlyOutBootMbxHub s (postFace old new reason s) := by
  simp only [postFace] <;> (repeat' split) <;> simp [OnlyOutBootMbxHub]

@[simp] theorem setAvail_only (f : Face) (on : Bool) (s : State) : OnlyHub s (setAvail f on s) := by
  simp only [setAvail] <;> (repeat' split) <;> simp [OnlyHub]

@[simp] theorem checkFaces_only (s : State) : OnlyHub s (checkFaces s) := by
  simp only [checkFaces] <;> (repeat' split) <;> simp [OnlyHub]

@[simp] theorem readVbus_only (mv : Nat) (s : State) : OnlyHub s (readVbus mv s) := by
  simp only [readVbus] <;> (repeat' split) <;> simp [OnlyHub]

@[simp] theorem endSwitch_only (status : Nat) (s : State) : OnlyOutBootMbxHub s (endSwitch status s) := by
  simp only [endSwitch] <;> (repeat' split) <;> simp [OnlyOutBootMbxHub]

@[simp] theorem settleSelect_only (s : State) : OnlyOutBootMbxHub s (settleSelect s) := by
  simp only [settleSelect] <;> (repeat' split) <;> simp [OnlyOutBootMbxHub]

/-! ## HubPorts -/

@[simp] theorem hostPowerOn_only (usb3 : Bool) (k : Nat) (s : State) : OnlyPortsFlex s (hostPowerOn usb3 k s) := by
  simp only [hostPowerOn] <;> (repeat' split) <;> simp [OnlyPortsFlex]

@[simp] theorem resetFunction_only (s : State) : OnlyHub s (resetFunction s) := by
  simp only [resetFunction] <;> (repeat' split) <;> simp [OnlyHub]

@[simp] theorem resumeFace_only (collides : Bool) (s : State) : OnlyOutBootAonMbxHub s (resumeFace collides s) := by
  simp only [resumeFace] <;> (repeat' split) <;> simp [OnlyOutBootAonMbxHub]

@[simp] theorem allowPower_only (k : Nat) (s : State) : OnlyPortsFlex s (allowPower k s) := by
  simp only [allowPower] <;> (repeat' split) <;> simp [OnlyPortsFlex]

/-! ## Function -/

@[simp] theorem selectAlt_only (iface alt : Nat) (s : State) : OnlyHub s (selectAlt iface alt s) := by
  simp only [selectAlt] <;> (repeat' split) <;> simp [OnlyHub]

@[simp] theorem setInterface_only (iface alt : Nat) (s : State) : OnlyOutHub s (setInterface iface alt s) := by
  simp only [setInterface] <;> (repeat' split) <;> simp [OnlyOutHub]

@[simp] theorem setUsbDev_only (t : UsbTarget) (d : UsbDev) (s : State) : OnlyHub s (setUsbDev t d s) := by
  simp only [setUsbDev] <;> (repeat' split) <;> simp [OnlyHub]

@[simp] theorem answerData_only (u : Setup) (bs : List Byte) (s : State) : OnlyOutHub s (answerData u bs s) := by
  simp only [answerData] <;> (repeat' split) <;> simp [OnlyOutHub]

@[simp] theorem setConfiguration_only (t : UsbTarget) (v : Nat) (s : State) : OnlyOutHub s (setConfiguration t v s) := by
  simp only [setConfiguration] <;> (repeat' split) <;> simp [OnlyOutHub]

@[simp] theorem controlRequest_only (t : UsbTarget) (u : Setup) (s : State) : OnlyOutHub s (controlRequest t u s) := by
  simp only [controlRequest] <;> (repeat' split) <;> simp [OnlyOutHub]

/-! ## Owned -/

@[simp] theorem sendData_only (k addr : Nat) (typ req : Byte) (value index : Nat) (data : List Byte) (s : State) :
    OnlyOut s (sendData k addr typ req value index data s) := by
  simp only [sendData] <;> (repeat' split) <;> simp [OnlyOut]

@[simp] theorem sendControl_only (k addr : Nat) (typ req : Byte) (value index : Nat) (s : State) :
    OnlyOut s (sendControl k addr typ req value index s) := by
  simp only [sendControl] <;> (repeat' split) <;> simp [OnlyOut]

@[simp] theorem resetPlace_only (k hubPort : Nat) (speed : Speed) (s : State) : OnlyOut s (resetPlace k hubPort speed s) := by
  simp only [resetPlace] <;> (repeat' split) <;> simp [OnlyOut]

@[simp] theorem selectStream_only (d : UsbDevice) (tagAware : Bool) (x : Stream) (s : State) :
    OnlyOut s (selectStream d tagAware x s) := by
  simp only [selectStream] <;> (repeat' split) <;> simp [OnlyOut]

@[simp] theorem configureDevice_only (d : UsbDevice) (c : Decision) (s : State) : OnlyOut s (configureDevice d c s) := by
  simp only [configureDevice] <;> (repeat' split) <;> simp [OnlyOut]

@[simp] theorem endTree_only (k : Nat) (s : State) : OnlyOutBootMbxHubPortsOwn s (endTree k s) := by
  simp only [endTree] <;> (repeat' split) <;> simp [OnlyOutBootMbxHubPortsOwn]

@[simp] theorem endPlace_only (k hubPort : Nat) (s : State) : OnlyOutBootMbxHubPortsOwn s (endPlace k hubPort s) := by
  simp only [endPlace] <;> (repeat' split) <;> simp [OnlyOutBootMbxHubPortsOwn]

@[simp] theorem attemptReset_only (k hubPort : Nat) (speed : Speed) (s : State) :
    OnlyOutHubPortsSw s (attemptReset k hubPort speed s) := by
  simp only [attemptReset] <;> (repeat' split) <;> simp [OnlyOutHubPortsSw]

@[simp] theorem keyChange_only (d : OwnedDev) (now : List (Nat × Nat × Nat)) (s : State) (b : KeyBinding) :
    OnlyOwnZon s (keyChange d now s b) := by
  simp only [keyChange] <;> (repeat' split) <;> simp [OnlyOwnZon]

@[simp] theorem wakeDevice_only (s : State) (d : OwnedDev) : OnlyOutOwn s (wakeDevice s d) := by
  simp only [wakeDevice] <;> (repeat' split) <;> simp [OnlyOutOwn]

@[simp] theorem settleOwner_only (s : State) : OnlyOutBootMbxHubOwn s (settleOwner s) := by
  simp only [settleOwner] <;> (repeat' split) <;> simp [OnlyOutBootMbxHubOwn]

@[simp] theorem refuseOwned_only (k : Nat) (s : State) : OnlyOutBootMbxHubPortsOwn s (refuseOwned k s) := by
  simp only [refuseOwned] <;> (repeat' split) <;> simp [OnlyOutBootMbxHubPortsOwn]

@[simp] theorem driveReset_only (k : Nat) (s : State) : OnlyOutPorts s (driveReset k s) := by
  simp only [driveReset] <;> (repeat' split) <;> simp [OnlyOutPorts]

@[simp] theorem showSide_only (usb3 : Bool) (k : Nat) (s : State) : OnlyOutHubPorts s (showSide usb3 k s) := by
  simp only [showSide] <;> (repeat' split) <;> simp [OnlyOutHubPorts]

@[simp] theorem finishPass_only (k : Nat) (s : State) : OnlyOutBootMbxHubPortsOwn s (finishPass k s) := by
  simp only [finishPass] <;> (repeat' split) <;> simp [OnlyOutBootMbxHubPortsOwn]

/-! ## Time -/

@[simp] theorem framePacket_only (s : State) (k : Nat) : OnlyOut s (framePacket s k) := by
  simp only [framePacket] <;> (repeat' split) <;> simp [OnlyOut]

/-! ## Tags -/

@[simp] theorem streamPacket_only (x : Stream) (start : Nat) (frames : List (List (BitVec 24))) (s : State) :
    OnlyOwnSw s (streamPacket x start frames s) := by
  simp only [streamPacket] <;> (repeat' split) <;> simp [OnlyOwnSw]

@[simp] theorem dspTakes_only (pkt : IngressPacket) (s : State) : OnlyOwnSw s (dspTakes pkt s) := by
  simp only [dspTakes] <;> (repeat' split) <;> simp [OnlyOwnSw]

@[simp] theorem startStreams_only (s : State) : OnlyOwn s (startStreams s) := by
  simp only [startStreams] <;> (repeat' split) <;> simp [OnlyOwn]

@[simp] theorem tickPasses_only (s : State) : OnlyOutClkBootAonWinMbxFltHubAudZon s (tickPasses s) := by
  simp only [tickPasses] <;> (repeat' split) <;> simp [OnlyOutClkBootAonWinMbxFltHubAudZon]

@[simp] theorem tagFaults_only (base : Nat) (counter crc fail : Bool) (s : State) :
    OnlyOutBootAonMbxFltHubZon s (tagFaults base counter crc fail s) := by
  simp only [tagFaults] <;> (repeat' split) <;> simp [OnlyOutBootAonMbxFltHubZon]

end Sys2Proof.Machine
end

