-- ==== Sys2Proof/Laws/FrameSystem.lean ====
section
/-!
SUPPORT. What power, test, configuration, security, start and the block leave alone: for each operation one lemma that names the only groups of the state that it
may change, as equations that simp uses one by one.
-/

namespace Sys2Proof.Machine

set_option linter.all false

open Sys2Proof

/-! ## Sets of groups that may change -/

abbrev OnlyOutBootMbxHubPwr (s t : State) : Prop :=
  t.pending = s.pending ∧ t.free = s.free ∧ t.clk = s.clk ∧ t.aon = s.aon ∧ t.win = s.win ∧ t.flt = s.flt ∧ t.cfg = s.cfg ∧
  t.mem = s.mem ∧ t.ports = s.ports ∧ t.own = s.own ∧ t.sw = s.sw ∧ t.aud = s.aud ∧ t.zon = s.zon ∧ t.msg = s.msg ∧
  t.flex = s.flex ∧ t.rails = s.rails ∧ t.snap = s.snap ∧ t.pav = s.pav ∧ t.sec = s.sec

abbrev OnlyOutBootMbxHubAud (s t : State) : Prop :=
  t.pending = s.pending ∧ t.free = s.free ∧ t.clk = s.clk ∧ t.aon = s.aon ∧ t.win = s.win ∧ t.flt = s.flt ∧ t.cfg = s.cfg ∧
  t.mem = s.mem ∧ t.ports = s.ports ∧ t.own = s.own ∧ t.sw = s.sw ∧ t.zon = s.zon ∧ t.msg = s.msg ∧ t.flex = s.flex ∧
  t.rails = s.rails ∧ t.snap = s.snap ∧ t.pwr = s.pwr ∧ t.pav = s.pav ∧ t.sec = s.sec

abbrev OnlyPwr (s t : State) : Prop :=
  t.pending = s.pending ∧ t.out = s.out ∧ t.free = s.free ∧ t.clk = s.clk ∧ t.boot = s.boot ∧ t.aon = s.aon ∧ t.win = s.win ∧
  t.mbx = s.mbx ∧ t.flt = s.flt ∧ t.cfg = s.cfg ∧ t.mem = s.mem ∧ t.hub = s.hub ∧ t.ports = s.ports ∧ t.own = s.own ∧
  t.sw = s.sw ∧ t.aud = s.aud ∧ t.zon = s.zon ∧ t.msg = s.msg ∧ t.flex = s.flex ∧ t.rails = s.rails ∧ t.snap = s.snap ∧
  t.pav = s.pav ∧ t.sec = s.sec

abbrev OnlyOutBootMbxHubPwrPav (s t : State) : Prop :=
  t.pending = s.pending ∧ t.free = s.free ∧ t.clk = s.clk ∧ t.aon = s.aon ∧ t.win = s.win ∧ t.flt = s.flt ∧ t.cfg = s.cfg ∧
  t.mem = s.mem ∧ t.ports = s.ports ∧ t.own = s.own ∧ t.sw = s.sw ∧ t.aud = s.aud ∧ t.zon = s.zon ∧ t.msg = s.msg ∧
  t.flex = s.flex ∧ t.rails = s.rails ∧ t.snap = s.snap ∧ t.sec = s.sec

abbrev OnlyOutOwnZonMsg (s t : State) : Prop :=
  t.pending = s.pending ∧ t.free = s.free ∧ t.clk = s.clk ∧ t.boot = s.boot ∧ t.aon = s.aon ∧ t.win = s.win ∧ t.mbx = s.mbx ∧
  t.flt = s.flt ∧ t.cfg = s.cfg ∧ t.mem = s.mem ∧ t.hub = s.hub ∧ t.ports = s.ports ∧ t.sw = s.sw ∧ t.aud = s.aud ∧
  t.flex = s.flex ∧ t.rails = s.rails ∧ t.snap = s.snap ∧ t.pwr = s.pwr ∧ t.pav = s.pav ∧ t.sec = s.sec

abbrev OnlyOutBootMbxHubOwnZonPwr (s t : State) : Prop :=
  t.pending = s.pending ∧ t.free = s.free ∧ t.clk = s.clk ∧ t.aon = s.aon ∧ t.win = s.win ∧ t.flt = s.flt ∧ t.cfg = s.cfg ∧
  t.mem = s.mem ∧ t.ports = s.ports ∧ t.sw = s.sw ∧ t.aud = s.aud ∧ t.msg = s.msg ∧ t.flex = s.flex ∧ t.rails = s.rails ∧
  t.snap = s.snap ∧ t.pav = s.pav ∧ t.sec = s.sec

abbrev OnlyOutClkBootAonWinMbxFltMemHubPortsZonPwr (s t : State) : Prop :=
  t.pending = s.pending ∧ t.free = s.free ∧ t.cfg = s.cfg ∧ t.own = s.own ∧ t.sw = s.sw ∧ t.aud = s.aud ∧ t.msg = s.msg ∧
  t.flex = s.flex ∧ t.rails = s.rails ∧ t.snap = s.snap ∧ t.pav = s.pav ∧ t.sec = s.sec

abbrev OnlyFltMsgPav (s t : State) : Prop :=
  t.pending = s.pending ∧ t.out = s.out ∧ t.free = s.free ∧ t.clk = s.clk ∧ t.boot = s.boot ∧ t.aon = s.aon ∧ t.win = s.win ∧
  t.mbx = s.mbx ∧ t.cfg = s.cfg ∧ t.mem = s.mem ∧ t.hub = s.hub ∧ t.ports = s.ports ∧ t.own = s.own ∧ t.sw = s.sw ∧
  t.aud = s.aud ∧ t.zon = s.zon ∧ t.flex = s.flex ∧ t.rails = s.rails ∧ t.snap = s.snap ∧ t.pwr = s.pwr ∧ t.sec = s.sec

abbrev OnlyCfgZon (s t : State) : Prop :=
  t.pending = s.pending ∧ t.out = s.out ∧ t.free = s.free ∧ t.clk = s.clk ∧ t.boot = s.boot ∧ t.aon = s.aon ∧ t.win = s.win ∧
  t.mbx = s.mbx ∧ t.flt = s.flt ∧ t.mem = s.mem ∧ t.hub = s.hub ∧ t.ports = s.ports ∧ t.own = s.own ∧ t.sw = s.sw ∧
  t.aud = s.aud ∧ t.msg = s.msg ∧ t.flex = s.flex ∧ t.rails = s.rails ∧ t.snap = s.snap ∧ t.pwr = s.pwr ∧ t.pav = s.pav ∧
  t.sec = s.sec

abbrev OnlyOutClkBootAonWinMbxFltCfgMemHubPortsOwnSwAudZonMsgFlexRailsSnapPwrPavSec (s t : State) : Prop :=
  t.pending = s.pending ∧ t.free = s.free

abbrev OnlyOwnPwrPav (s t : State) : Prop :=
  t.pending = s.pending ∧ t.out = s.out ∧ t.free = s.free ∧ t.clk = s.clk ∧ t.boot = s.boot ∧ t.aon = s.aon ∧ t.win = s.win ∧
  t.mbx = s.mbx ∧ t.flt = s.flt ∧ t.cfg = s.cfg ∧ t.mem = s.mem ∧ t.hub = s.hub ∧ t.ports = s.ports ∧ t.sw = s.sw ∧
  t.aud = s.aud ∧ t.zon = s.zon ∧ t.msg = s.msg ∧ t.flex = s.flex ∧ t.rails = s.rails ∧ t.snap = s.snap ∧ t.sec = s.sec

abbrev OnlyPwrPav (s t : State) : Prop :=
  t.pending = s.pending ∧ t.out = s.out ∧ t.free = s.free ∧ t.clk = s.clk ∧ t.boot = s.boot ∧ t.aon = s.aon ∧ t.win = s.win ∧
  t.mbx = s.mbx ∧ t.flt = s.flt ∧ t.cfg = s.cfg ∧ t.mem = s.mem ∧ t.hub = s.hub ∧ t.ports = s.ports ∧ t.own = s.own ∧
  t.sw = s.sw ∧ t.aud = s.aud ∧ t.zon = s.zon ∧ t.msg = s.msg ∧ t.flex = s.flex ∧ t.rails = s.rails ∧ t.snap = s.snap ∧
  t.sec = s.sec

abbrev OnlyPav (s t : State) : Prop :=
  t.pending = s.pending ∧ t.out = s.out ∧ t.free = s.free ∧ t.clk = s.clk ∧ t.boot = s.boot ∧ t.aon = s.aon ∧ t.win = s.win ∧
  t.mbx = s.mbx ∧ t.flt = s.flt ∧ t.cfg = s.cfg ∧ t.mem = s.mem ∧ t.hub = s.hub ∧ t.ports = s.ports ∧ t.own = s.own ∧
  t.sw = s.sw ∧ t.aud = s.aud ∧ t.zon = s.zon ∧ t.msg = s.msg ∧ t.flex = s.flex ∧ t.rails = s.rails ∧ t.snap = s.snap ∧
  t.pwr = s.pwr ∧ t.sec = s.sec

abbrev OnlyOutBootMbxHubPwrSec (s t : State) : Prop :=
  t.pending = s.pending ∧ t.free = s.free ∧ t.clk = s.clk ∧ t.aon = s.aon ∧ t.win = s.win ∧ t.flt = s.flt ∧ t.cfg = s.cfg ∧
  t.mem = s.mem ∧ t.ports = s.ports ∧ t.own = s.own ∧ t.sw = s.sw ∧ t.aud = s.aud ∧ t.zon = s.zon ∧ t.msg = s.msg ∧
  t.flex = s.flex ∧ t.rails = s.rails ∧ t.snap = s.snap ∧ t.pav = s.pav

abbrev OnlyPavSec (s t : State) : Prop :=
  t.pending = s.pending ∧ t.out = s.out ∧ t.free = s.free ∧ t.clk = s.clk ∧ t.boot = s.boot ∧ t.aon = s.aon ∧ t.win = s.win ∧
  t.mbx = s.mbx ∧ t.flt = s.flt ∧ t.cfg = s.cfg ∧ t.mem = s.mem ∧ t.hub = s.hub ∧ t.ports = s.ports ∧ t.own = s.own ∧
  t.sw = s.sw ∧ t.aud = s.aud ∧ t.zon = s.zon ∧ t.msg = s.msg ∧ t.flex = s.flex ∧ t.rails = s.rails ∧ t.snap = s.snap ∧
  t.pwr = s.pwr

abbrev OnlyOutBootAonMbxFltHubOwnZonMsgPwrPav (s t : State) : Prop :=
  t.pending = s.pending ∧ t.free = s.free ∧ t.clk = s.clk ∧ t.win = s.win ∧ t.cfg = s.cfg ∧ t.mem = s.mem ∧ t.ports = s.ports ∧
  t.sw = s.sw ∧ t.aud = s.aud ∧ t.flex = s.flex ∧ t.rails = s.rails ∧ t.snap = s.snap ∧ t.sec = s.sec

abbrev OnlyOutFreeBootMbxHubSec (s t : State) : Prop :=
  t.pending = s.pending ∧ t.clk = s.clk ∧ t.aon = s.aon ∧ t.win = s.win ∧ t.flt = s.flt ∧ t.cfg = s.cfg ∧ t.mem = s.mem ∧
  t.ports = s.ports ∧ t.own = s.own ∧ t.sw = s.sw ∧ t.aud = s.aud ∧ t.zon = s.zon ∧ t.msg = s.msg ∧ t.flex = s.flex ∧
  t.rails = s.rails ∧ t.snap = s.snap ∧ t.pwr = s.pwr ∧ t.pav = s.pav

abbrev OnlyOutFreeBootAonMbxFltHubZonPwrSec (s t : State) : Prop :=
  t.pending = s.pending ∧ t.clk = s.clk ∧ t.win = s.win ∧ t.cfg = s.cfg ∧ t.mem = s.mem ∧ t.ports = s.ports ∧ t.own = s.own ∧
  t.sw = s.sw ∧ t.aud = s.aud ∧ t.msg = s.msg ∧ t.flex = s.flex ∧ t.rails = s.rails ∧ t.snap = s.snap ∧ t.pav = s.pav

abbrev OnlyOutBootAon (s t : State) : Prop :=
  t.pending = s.pending ∧ t.free = s.free ∧ t.clk = s.clk ∧ t.win = s.win ∧ t.mbx = s.mbx ∧ t.flt = s.flt ∧ t.cfg = s.cfg ∧
  t.mem = s.mem ∧ t.hub = s.hub ∧ t.ports = s.ports ∧ t.own = s.own ∧ t.sw = s.sw ∧ t.aud = s.aud ∧ t.zon = s.zon ∧
  t.msg = s.msg ∧ t.flex = s.flex ∧ t.rails = s.rails ∧ t.snap = s.snap ∧ t.pwr = s.pwr ∧ t.pav = s.pav ∧ t.sec = s.sec

abbrev OnlyOutFreeClkBootAonWinMbxFltHubZonPwr (s t : State) : Prop :=
  t.pending = s.pending ∧ t.cfg = s.cfg ∧ t.mem = s.mem ∧ t.ports = s.ports ∧ t.own = s.own ∧ t.sw = s.sw ∧ t.aud = s.aud ∧
  t.msg = s.msg ∧ t.flex = s.flex ∧ t.rails = s.rails ∧ t.snap = s.snap ∧ t.pav = s.pav ∧ t.sec = s.sec

abbrev OnlyOutBootMbxCfgHub (s t : State) : Prop :=
  t.pending = s.pending ∧ t.free = s.free ∧ t.clk = s.clk ∧ t.aon = s.aon ∧ t.win = s.win ∧ t.flt = s.flt ∧ t.mem = s.mem ∧
  t.ports = s.ports ∧ t.own = s.own ∧ t.sw = s.sw ∧ t.aud = s.aud ∧ t.zon = s.zon ∧ t.msg = s.msg ∧ t.flex = s.flex ∧
  t.rails = s.rails ∧ t.snap = s.snap ∧ t.pwr = s.pwr ∧ t.pav = s.pav ∧ t.sec = s.sec

abbrev OnlyFreeAud (s t : State) : Prop :=
  t.pending = s.pending ∧ t.out = s.out ∧ t.clk = s.clk ∧ t.boot = s.boot ∧ t.aon = s.aon ∧ t.win = s.win ∧ t.mbx = s.mbx ∧
  t.flt = s.flt ∧ t.cfg = s.cfg ∧ t.mem = s.mem ∧ t.hub = s.hub ∧ t.ports = s.ports ∧ t.own = s.own ∧ t.sw = s.sw ∧
  t.zon = s.zon ∧ t.msg = s.msg ∧ t.flex = s.flex ∧ t.rails = s.rails ∧ t.snap = s.snap ∧ t.pwr = s.pwr ∧ t.pav = s.pav ∧
  t.sec = s.sec

abbrev OnlyClkBootFltHubPav (s t : State) : Prop :=
  t.pending = s.pending ∧ t.out = s.out ∧ t.free = s.free ∧ t.aon = s.aon ∧ t.win = s.win ∧ t.mbx = s.mbx ∧ t.cfg = s.cfg ∧
  t.mem = s.mem ∧ t.ports = s.ports ∧ t.own = s.own ∧ t.sw = s.sw ∧ t.aud = s.aud ∧ t.zon = s.zon ∧ t.msg = s.msg ∧
  t.flex = s.flex ∧ t.rails = s.rails ∧ t.snap = s.snap ∧ t.pwr = s.pwr ∧ t.sec = s.sec

abbrev OnlyOutBootAonMbxFltHubAudZon (s t : State) : Prop :=
  t.pending = s.pending ∧ t.free = s.free ∧ t.clk = s.clk ∧ t.win = s.win ∧ t.cfg = s.cfg ∧ t.mem = s.mem ∧ t.ports = s.ports ∧
  t.own = s.own ∧ t.sw = s.sw ∧ t.msg = s.msg ∧ t.flex = s.flex ∧ t.rails = s.rails ∧ t.snap = s.snap ∧ t.pwr = s.pwr ∧
  t.pav = s.pav ∧ t.sec = s.sec

abbrev OnlyPortsSnap (s t : State) : Prop :=
  t.pending = s.pending ∧ t.out = s.out ∧ t.free = s.free ∧ t.clk = s.clk ∧ t.boot = s.boot ∧ t.aon = s.aon ∧ t.win = s.win ∧
  t.mbx = s.mbx ∧ t.flt = s.flt ∧ t.cfg = s.cfg ∧ t.mem = s.mem ∧ t.hub = s.hub ∧ t.own = s.own ∧ t.sw = s.sw ∧ t.aud = s.aud ∧
  t.zon = s.zon ∧ t.msg = s.msg ∧ t.flex = s.flex ∧ t.rails = s.rails ∧ t.pwr = s.pwr ∧ t.pav = s.pav ∧ t.sec = s.sec

abbrev OnlyFreeAonWinMbxFltMemOwnSwZonSec (s t : State) : Prop :=
  t.pending = s.pending ∧ t.out = s.out ∧ t.clk = s.clk ∧ t.boot = s.boot ∧ t.cfg = s.cfg ∧ t.hub = s.hub ∧ t.ports = s.ports ∧
  t.aud = s.aud ∧ t.msg = s.msg ∧ t.flex = s.flex ∧ t.rails = s.rails ∧ t.snap = s.snap ∧ t.pwr = s.pwr ∧ t.pav = s.pav

abbrev OnlyOutBootMbxHubOwnZonPwrPav (s t : State) : Prop :=
  t.pending = s.pending ∧ t.free = s.free ∧ t.clk = s.clk ∧ t.aon = s.aon ∧ t.win = s.win ∧ t.flt = s.flt ∧ t.cfg = s.cfg ∧
  t.mem = s.mem ∧ t.ports = s.ports ∧ t.sw = s.sw ∧ t.aud = s.aud ∧ t.msg = s.msg ∧ t.flex = s.flex ∧ t.rails = s.rails ∧
  t.snap = s.snap ∧ t.sec = s.sec

abbrev OnlyOutFreeClkBootAonWinMbxFltMemHubPortsOwnSwZonSnapSec (s t : State) : Prop :=
  t.pending = s.pending ∧ t.cfg = s.cfg ∧ t.aud = s.aud ∧ t.msg = s.msg ∧ t.flex = s.flex ∧ t.rails = s.rails ∧ t.pwr = s.pwr ∧
  t.pav = s.pav

/-! ## Governor -/

@[simp] theorem takeSensors_only (inp : BlockInputs) (s : State) : OnlyOutBootAonMbxFltHubZonPwr s (takeSensors inp s) := by
  simp only [takeSensors] <;> (repeat' split) <;> simp [OnlyOutBootAonMbxFltHubZonPwr]

@[simp] theorem postGovernor_only (s : State) : OnlyOutBootMbxHubPwr s (postGovernor s) := by
  simp only [postGovernor] <;> (repeat' split) <;> simp [OnlyOutBootMbxHubPwr]

@[simp] theorem postVariant_only (s : State) (x : Nat × Nat) : OnlyOutBootMbxHubAud s (postVariant s x) := by
  simp only [postVariant] <;> (repeat' split) <;> simp [OnlyOutBootMbxHubAud]

@[simp] theorem beginMove_only (l : Nat) (s : State) : OnlyPwr s (beginMove l s) := by
  simp only [beginMove] <;> (repeat' split) <;> simp [OnlyPwr]

@[simp] theorem chooseLevel_only (l : Nat) (s : State) : OnlyPwr s (chooseLevel l s) := by
  simp only [chooseLevel] <;> (repeat' split) <;> simp [OnlyPwr]

@[simp] theorem setAllocations_only (d : Decided) (s : State) : OnlyFlex s (setAllocations d s) := by
  simp only [setAllocations] <;> (repeat' split) <;> simp [OnlyFlex]

/-! ## Power -/

@[simp] theorem syncOff_only (s : State) : OnlyFlt s (syncOff s) := by
  simp only [syncOff] <;> (repeat' split) <;> simp [OnlyFlt]

@[simp] theorem settleRequest_only (s : State) : OnlyOutBootMbxHubPwrPav s (settleRequest s) := by
  simp only [settleRequest] <;> (repeat' split) <;> simp [OnlyOutBootMbxHubPwrPav]

@[simp] theorem stopVoices_only (s : State) : OnlyZonMsg s (stopVoices s) := by
  simp only [stopVoices] <;> (repeat' split) <;> simp [OnlyZonMsg]

@[simp] theorem suspendTrees_only (s : State) : OnlyOutOwn s (suspendTrees s) := by
  simp only [suspendTrees] <;> (repeat' split) <;> simp [OnlyOutOwn]

@[simp] theorem quiesce_only (s : State) : OnlyOutOwnZonMsg s (quiesce s) := by
  simp only [quiesce] <;> (repeat' split) <;> simp [OnlyOutOwnZonMsg]

@[simp] theorem postWake_only (faulty abandoned : Bool) (left : PowerState) (secs : Nat) (s : State) :
    OnlyOutBootMbxHub s (postWake faulty abandoned left secs s) := by
  simp only [postWake] <;> (repeat' split) <;> simp [OnlyOutBootMbxHub]

@[simp] theorem abandonEntry_only (s : State) : OnlyOutBootMbxHubOwnZonPwr s (abandonEntry s) := by
  simp only [abandonEntry] <;> (repeat' split) <;> simp [OnlyOutBootMbxHubOwnZonPwr]

@[simp] theorem loseBanks_only (mask : BitVec 8) (s : State) : OnlyMem s (loseBanks mask s) := by
  simp only [loseBanks] <;> (repeat' split) <;> simp [OnlyMem]

@[simp] theorem stopClocks_only (s : State) : OnlyOutClkBootAonWinMbxFltHubZonPwr s (stopClocks s) := by
  simp only [stopClocks] <;> (repeat' split) <;> simp [OnlyOutClkBootAonWinMbxFltHubZonPwr]

@[simp] theorem dropLink_only (s : State) : OnlyHubPorts s (dropLink s) := by
  simp only [dropLink] <;> (repeat' split) <;> simp [OnlyHubPorts]

@[simp] theorem finishSleep_only (s : State) : OnlyOutClkBootAonWinMbxFltMemHubPortsZonPwr s (finishSleep s) := by
  simp only [finishSleep] <;> (repeat' split) <;> simp [OnlyOutClkBootAonWinMbxFltMemHubPortsZonPwr]

@[simp] theorem aonFault_only (source : BitVec 12) (s : State) : OnlyOutBootAonMbxFltHubZonPwr s (aonFault source s) := by
  simp only [aonFault] <;> (repeat' split) <;> simp [OnlyOutBootAonMbxFltHubZonPwr]

@[simp] theorem clearChains_only (s : State) : OnlyAud s (clearChains s) := by
  simp only [clearChains] <;> (repeat' split) <;> simp [OnlyAud]

@[simp] theorem loseBank7_only (s : State) : OnlyFltMsgPav s (loseBank7 s) := by
  simp only [loseBank7] <;> (repeat' split) <;> simp [OnlyFltMsgPav]

@[simp] theorem loseBank0_only (s : State) : OnlyCfgZon s (loseBank0 s) := by
  simp only [loseBank0] <;> (repeat' split) <;> simp [OnlyCfgZon]

@[simp] theorem keepReenter_only (s : State) : OnlyPwr s (keepReenter s) := by
  simp only [keepReenter] <;> (repeat' split) <;> simp [OnlyPwr]

@[simp] theorem wakeFromHibernate_only (periods : Nat) (s : State) :
    OnlyOutClkBootAonWinMbxFltCfgMemHubPortsOwnSwAudZonMsgFlexRailsSnapPwrPavSec s (wakeFromHibernate periods s) := by
  simp only [wakeFromHibernate] <;> (repeat' split) <;> simp [OnlyOutClkBootAonWinMbxFltCfgMemHubPortsOwnSwAudZonMsgFlexRailsSnapPwrPavSec]

/-! ## Pavane -/

@[simp] theorem keepAlarm_only (s : State) : OnlyOutBootAonWinMbxFltHubZon s (keepAlarm s) := by
  simp only [keepAlarm] <;> (repeat' split) <;> simp [OnlyOutBootAonWinMbxFltHubZon]

@[simp] theorem observe_only (r : PavRun) (s : State) : OnlyOwn s (observe r s) := by
  simp only [observe] <;> (repeat' split) <;> simp [OnlyOwn]

@[simp] theorem startRun_only (mask : Nat) (byCommand : Bool) (cur : PavResult) (s : State) :
    OnlyOwnPwrPav s (startRun mask byCommand cur s) := by
  simp only [startRun] <;> (repeat' split) <;> simp [OnlyOwnPwrPav]

@[simp] theorem attempt_only (s : State) : OnlyOwnPwrPav s (attempt s) := by
  simp only [attempt] <;> (repeat' split) <;> simp [OnlyOwnPwrPav]

@[simp] theorem raiseFail_only (k : Nat) (s : State) (src : BitVec 12) : OnlyOutBootAonMbxFltHubZon s (raiseFail k s src) := by
  simp only [raiseFail] <;> (repeat' split) <;> simp [OnlyOutBootAonMbxFltHubZon]

@[simp] theorem closeRun_only (r : PavRun) (reason : Nat) (s : State) : OnlyPwrPav s (closeRun r reason s) := by
  simp only [closeRun] <;> (repeat' split) <;> simp [OnlyPwrPav]

@[simp] theorem keepMargins_only (r : PavRun) (s : State) : OnlyPav s (keepMargins r s) := by
  simp only [keepMargins] <;> (repeat' split) <;> simp [OnlyPav]

@[simp] theorem completeRun_only (r : PavRun) (s : State) : OnlyPwrPav s (completeRun r s) := by
  simp only [completeRun] <;> (repeat' split) <;> simp [OnlyPwrPav]

@[simp] theorem postReplan_only (l : Nat) (s : State) : OnlyOutBootMbxHub s (postReplan l s) := by
  simp only [postReplan] <;> (repeat' split) <;> simp [OnlyOutBootMbxHub]

@[simp] theorem setMargin_only (l m : Nat) (s : State) : OnlyPav s (setMargin l m s) := by
  simp only [setMargin] <;> (repeat' split) <;> simp [OnlyPav]

@[simp] theorem raiseOffset_only (l old m : Nat) (s : State) : OnlyOutBootMbxHubPwrPav s (raiseOffset l old m s) := by
  simp only [raiseOffset] <;> (repeat' split) <;> simp [OnlyOutBootMbxHubPwrPav]

@[simp] theorem retirePl0_only (s : State) : OnlyOutBootMbxHubPwrSec s (retirePl0 s) := by
  simp only [retirePl0] <;> (repeat' split) <;> simp [OnlyOutBootMbxHubPwrSec]

@[simp] theorem burnOffsets_only (s : State) : OnlyPavSec s (burnOffsets s) := by
  simp only [burnOffsets] <;> (repeat' split) <;> simp [OnlyPavSec]

@[simp] theorem revertOffsets_only (s : State) : OnlyPwrPav s (revertOffsets s) := by
  simp only [revertOffsets] <;> (repeat' split) <;> simp [OnlyPwrPav]

@[simp] theorem setRun_only (r : PavRun) (s : State) : OnlyPav s (setRun r s) := by
  simp only [setRun] <;> (repeat' split) <;> simp [OnlyPav]

@[simp] theorem stepDone_only (r : PavRun) (s : State) : OnlyOwnPwrPav s (stepDone r s) := by
  simp only [stepDone] <;> (repeat' split) <;> simp [OnlyOwnPwrPav]

@[simp] theorem otherStep_only (k : Nat) (r : PavRun) (rep : StepReport) (s : State) :
    OnlyOutBootAonMbxFltHubOwnZonMsgPwrPav s (otherStep k r rep s) := by
  simp only [otherStep] <;> (repeat' split) <;> simp [OnlyOutBootAonMbxFltHubOwnZonMsgPwrPav]

/-! ## Cfg -/

@[simp] theorem putSevWord_only (w : Word) (s : State) : OnlyFlt s (putSevWord w s) := by
  simp only [putSevWord] <;> (repeat' split) <;> simp [OnlyFlt]

@[simp] theorem dropSev_only (src : Nat) (s : State) : OnlyFlt s (dropSev src s) := by
  simp only [dropSev] <;> (repeat' split) <;> simp [OnlyFlt]

@[simp] theorem loadSeverity_only (s : State) : OnlyFlt s (loadSeverity s) := by
  simp only [loadSeverity] <;> (repeat' split) <;> simp [OnlyFlt]

@[simp] theorem changeSeverity_only (old : List Table) (cs : List Change) (s : State) : OnlyFlt s (changeSeverity old cs s) := by
  simp only [changeSeverity] <;> (repeat' split) <;> simp [OnlyFlt]

@[simp] theorem changeQuiet_only (cs : List Change) (s : State) : OnlyFlt s (changeQuiet cs s) := by
  simp only [changeQuiet] <;> (repeat' split) <;> simp [OnlyFlt]

@[simp] theorem writeOverlayRegion_only (bs : List Byte) (s : State) :
    OnlyOutBootAonMbxFltMemHubZon s (writeOverlayRegion bs s) := by
  simp only [writeOverlayRegion] <;> (repeat' split) <;> simp [OnlyOutBootAonMbxFltMemHubZon]

@[simp] theorem rejectImage_only (slot reason : Nat) (s : State) : OnlyOutBootAonMbxFltHubZon s (rejectImage slot reason s) := by
  simp only [rejectImage] <;> (repeat' split) <;> simp [OnlyOutBootAonMbxFltHubZon]

@[simp] theorem fwEnds_only (w : FwWrite) (ok : Bool) (s : State) : OnlyOutBootAonMbxFltCfgMemHubZon s (fwEnds w ok s) := by
  simp only [fwEnds] <;> (repeat' split) <;> simp [OnlyOutBootAonMbxFltCfgMemHubZon]

/-! ## Security -/

@[simp] theorem postSession_only (b : Box) (scope opened : Bool) (reason : Nat) (s : State) :
    OnlyOutBootMbxHub s (postSession b scope opened reason s) := by
  simp only [postSession] <;> (repeat' split) <;> simp [OnlyOutBootMbxHub]

@[simp] theorem closeSession_only (b : Box) (reason : Nat) (s : State) : OnlyOutBootMbxHubSec s (closeSession b reason s) := by
  simp only [closeSession] <;> (repeat' split) <;> simp [OnlyOutBootMbxHubSec]

@[simp] theorem openSession_only (c : Command) (s : State) : OnlyOutFreeBootMbxHubSec s (openSession c s).2 := by
  simp only [openSession] <;> (repeat' split) <;> simp [OnlyOutFreeBootMbxHubSec]

@[simp] theorem secOpen_only (s : State) : OnlyOutFreeBootAonMbxFltHubZonPwrSec s (secOpen s) := by
  simp only [secOpen] <;> (repeat' split) <;> simp [OnlyOutFreeBootAonMbxFltHubZonPwrSec]

@[simp] theorem placeItem_only (op : SecOp) (s : State) : OnlySec s (placeItem op s) := by
  simp only [placeItem] <;> (repeat' split) <;> simp [OnlySec]

@[simp] theorem alarmA1_only (s : State) : OnlyOutBootMbxHubSec s (alarmA1 s) := by
  simp only [alarmA1] <;> (repeat' split) <;> simp [OnlyOutBootMbxHubSec]

@[simp] theorem debugFail_only (s : State) : OnlySec s (debugFail s) := by
  simp only [debugFail] <;> (repeat' split) <;> simp [OnlySec]

/-! ## Boot -/

@[simp] theorem outsideKept_only (straps : Straps) (s : State) :
    OnlyOutClkBootAonWinMbxFltCfgMemHubPortsOwnSwAudZonMsgFlexRailsSnapPwrPavSec s (outsideKept straps s) := by
  simp only [outsideKept] <;> (repeat' split) <;> simp [OnlyOutClkBootAonWinMbxFltCfgMemHubPortsOwnSwAudZonMsgFlexRailsSnapPwrPavSec]

@[simp] theorem resetByPin_only (periods : Nat) (straps : Straps) (s : State) :
    OnlyOutClkBootAonWinMbxFltCfgMemHubPortsOwnSwAudZonMsgFlexRailsSnapPwrPavSec s (resetByPin periods straps s) := by
  simp only [resetByPin] <;> (repeat' split) <;> simp [OnlyOutClkBootAonWinMbxFltCfgMemHubPortsOwnSwAudZonMsgFlexRailsSnapPwrPavSec]

@[simp] theorem runBootRom_only (s : State) : OnlyOutBootAon s (runBootRom s) := by
  simp only [runBootRom] <;> (repeat' split) <;> simp [OnlyOutBootAon]

@[simp] theorem timeToLock_only (periods : Nat) (s : State) :
    OnlyOutFreeClkBootAonWinMbxFltHubZonPwr s (timeToLock periods s) := by
  simp only [timeToLock] <;> (repeat' split) <;> simp [OnlyOutFreeClkBootAonWinMbxFltHubZonPwr]

@[simp] theorem finishStart_only (outcome : Nat) (s : State) : OnlyOutBootMbxHubPwr s (finishStart outcome s) := by
  simp only [finishStart] <;> (repeat' split) <;> simp [OnlyOutBootMbxHubPwr]

@[simp] theorem discardLoads_only (s : State) : OnlyMem s (discardLoads s) := by
  simp only [discardLoads] <;> (repeat' split) <;> simp [OnlyMem]

@[simp] theorem takeOverlay_only (a : Activation) (img : Image) (s : State) :
    OnlyOutBootAonMbxFltMemHubZon s (takeOverlay a img s).2 := by
  simp only [takeOverlay] <;> (repeat' split) <;> simp [OnlyOutBootAonMbxFltMemHubZon]

@[simp] theorem settleCommit_only (same : Bool) (s : State) : OnlyOutBootMbxCfgHub s (settleCommit same s) := by
  simp only [settleCommit] <;> (repeat' split) <;> simp [OnlyOutBootMbxCfgHub]

@[simp] theorem takeImage_only (a : Activation) (img : Image) (s : State) :
    OnlyOutBootAonMbxFltCfgMemHubZon s (takeImage a img s) := by
  simp only [takeImage] <;> (repeat' split) <;> simp [OnlyOutBootAonMbxFltCfgMemHubZon]

@[simp] theorem activateZones_only (a : Activation) (old : List Table) (s : State) : OnlyZonMsg s (activateZones a old s) := by
  simp only [activateZones] <;> (repeat' split) <;> simp [OnlyZonMsg]

@[simp] theorem clearDest_only (s : State) (d0 : Dest) : OnlyMemAud s (clearDest s d0) := by
  simp only [clearDest] <;> (repeat' split) <;> simp [OnlyMemAud]

@[simp] theorem activateAudio_only (a : Activation) (old : List Table) (s : State) : OnlyMemAud s (activateAudio a old s) := by
  simp only [activateAudio] <;> (repeat' split) <;> simp [OnlyMemAud]

@[simp] theorem assignPairs_only (s : State) : OnlyFreeAud s (assignPairs s) := by
  simp only [assignPairs] <;> (repeat' split) <;> simp [OnlyFreeAud]

@[simp] theorem activateTdm_only (a : Activation) (old : List Table) (s : State) : OnlyOwn s (activateTdm a old s) := by
  simp only [activateTdm] <;> (repeat' split) <;> simp [OnlyOwn]

@[simp] theorem softReset_only (s : State) (n : Nat) : OnlyOutFlex s (softReset s n) := by
  simp only [softReset] <;> (repeat' split) <;> simp [OnlyOutFlex]

@[simp] theorem concludeStart_only (a : Activation) (s : State) : OnlyClkBootFltHubPav s (concludeStart a s) := by
  simp only [concludeStart] <;> (repeat' split) <;> simp [OnlyClkBootFltHubPav]

@[simp] theorem reportActivation_only (a : Activation) (s : State) : OnlyOutBootMbxHubPwr s (reportActivation a s) := by
  simp only [reportActivation] <;> (repeat' split) <;> simp [OnlyOutBootMbxHubPwr]

@[simp] theorem activateReturn_only (old : List Table) (s : State) : OnlyHub s (activateReturn old s) := by
  simp only [activateReturn] <;> (repeat' split) <;> simp [OnlyHub]

@[simp] theorem recheckWaiting_only (s : State) : OnlyMbx s (recheckWaiting s) := by
  simp only [recheckWaiting] <;> (repeat' split) <;> simp [OnlyMbx]

/-! ## Block -/

@[simp] theorem latchTrigger_only (s : State) : OnlyPav s (latchTrigger s) := by
  simp only [latchTrigger] <;> (repeat' split) <;> simp [OnlyPav]

@[simp] theorem keepRecord_only (s : State) : OnlyZon s (keepRecord s) := by
  simp only [keepRecord] <;> (repeat' split) <;> simp [OnlyZon]

@[simp] theorem deadlineCheck_only (missed : List Nat) (s : State) :
    OnlyOutBootAonMbxFltHubAudZon s (deadlineCheck missed s) := by
  simp only [deadlineCheck] <;> (repeat' split) <;> simp [OnlyOutBootAonMbxFltHubAudZon]

@[simp] theorem pairFaults_only (m : BitVec 4) (s : State) : OnlyOutBootAonMbxFltHubZon s (pairFaults m s) := by
  simp only [pairFaults] <;> (repeat' split) <;> simp [OnlyOutBootAonMbxFltHubZon]

@[simp] theorem settleRp_only (s : State) : OnlyFlex s (settleRp s) := by
  simp only [settleRp] <;> (repeat' split) <;> simp [OnlyFlex]

@[simp] theorem takeSnapshot_only (inp : BlockInputs) (s : State) : OnlyPortsSnap s (takeSnapshot inp s) := by
  simp only [takeSnapshot] <;> (repeat' split) <;> simp [OnlyPortsSnap]

@[simp] theorem takeUpset_only (s : State) (u : Upset) : OnlyFreeAonWinMbxFltMemOwnSwZonSec s (takeUpset s u) := by
  simp only [takeUpset] <;> (repeat' split) <;> simp [OnlyFreeAonWinMbxFltMemOwnSwZonSec]

@[simp] theorem settleCommands_only (s : State) : OnlyOutBootMbxHubOwnZonPwrPav s (settleCommands s) := by
  simp only [settleCommands] <;> (repeat' split) <;> simp [OnlyOutBootMbxHubOwnZonPwrPav]

@[simp] theorem kickWatchdog_only (done : Bool) (s : State) : OnlyBoot s (kickWatchdog done s) := by
  simp only [kickWatchdog] <;> (repeat' split) <;> simp [OnlyBoot]

@[simp] theorem releaseLines_only (l : List (BitVec 12)) (s : State) : OnlyFlt s (releaseLines l s) := by
  simp only [releaseLines] <;> (repeat' split) <;> simp [OnlyFlt]

@[simp] theorem readOverCurrent_only (low : BitVec 6) (s : State) : OnlyPorts s (readOverCurrent low s) := by
  simp only [readOverCurrent] <;> (repeat' split) <;> simp [OnlyPorts]

@[simp] theorem newBlock_only (s : State) : OnlyFlt s (newBlock s) := by
  simp only [newBlock] <;> (repeat' split) <;> simp [OnlyFlt]

@[simp] theorem startBlock_only (inp : BlockInputs) (s : State) :
    OnlyOutFreeClkBootAonWinMbxFltMemHubPortsOwnSwZonSnapSec s (startBlock inp s) := by
  simp only [startBlock] <;> (repeat' split) <;> simp [OnlyOutFreeClkBootAonWinMbxFltMemHubPortsOwnSwZonSnapSec]

end Sys2Proof.Machine
end

