-- ==== Sys2Proof/Laws/Memory.lean ====
section
/-!
SUPPORT. Stash and flash as canonical lists of cells: what a read gives after a write or an erasure, and that every memory
operation keeps the canonical form.
-/

namespace Sys2Proof.Machine

open Sys2Proof
open Sys2Proof.Safety

/-! ## Reads -/

theorem Memory.read_above {d : Byte} {m : Memory} {lo a : Nat} (h : Memory.above lo m = true) (ha : a < lo) : Memory.read d m a = d := by
  induction m generalizing lo with
  | nil => rfl
  | cons c m ih =>
    obtain ⟨k, v⟩ := c
    simp only [Memory.above, Bool.and_eq_true, decide_eq_true_eq] at h
    rw [Memory.read, if_neg (by omega)]
    exact ih h.2 (by omega)

theorem Memory.read_write {d : Byte} {m : Memory} {lo : Nat} (h : Memory.above lo m = true) (a x : Nat) (b : Byte) :
    Memory.read d (Memory.write d m a b) x = if x = a then b else Memory.read d m x := by
  induction m generalizing lo with
  | nil =>
    simp only [Memory.write]
    by_cases hb : b = d
    · rw [if_pos hb]; split <;> simp [Memory.read, hb]
    · rw [if_neg hb]; simp only [Memory.read, eq_comm]
  | cons c m ih =>
    obtain ⟨k, v⟩ := c
    simp only [Memory.above, Bool.and_eq_true, decide_eq_true_eq] at h
    have habove : ∀ y ≤ k, Memory.read d m y = d := fun y hy => Memory.read_above h.2 (by omega)
    rw [Memory.write]
    by_cases h1 : k = a
    · subst h1
      rw [if_pos rfl]
      by_cases hx : x = k
      · subst hx
        rw [if_pos rfl]
        split
        · rename_i h2; rw [habove x (Nat.le_refl _), h2]
        · rw [Memory.read, if_pos rfl]
      · have hk : Memory.read d ((k, v) :: m) x = Memory.read d m x := by rw [Memory.read, if_neg (fun e => hx e.symm)]
        rw [if_neg hx, hk]
        split
        · rfl
        · rw [Memory.read, if_neg (fun e => hx e.symm)]
    · rw [if_neg h1]
      by_cases h3 : a < k
      · rw [if_pos h3]
        by_cases hx : x = a
        · subst hx
          rw [if_pos rfl]
          split
          · rename_i h2; rw [Memory.read, if_neg (fun e => h1 e), habove x (by omega), h2]
          · rw [Memory.read, if_pos rfl]
        · rw [if_neg hx]
          split
          · rfl
          · rw [Memory.read, if_neg (fun e => hx e.symm)]
      · rw [if_neg h3, Memory.read, Memory.read, ih h.2]
        by_cases hx : k = x
        · subst hx; rw [if_pos rfl, if_pos rfl, if_neg h1]
        · rw [if_neg hx, if_neg hx]

/-! ## The canonical form -/

theorem Memory.above_mono {m : Memory} {lo k : Nat} (h : Memory.above lo m = true) (hk : k ≤ lo) : Memory.above k m = true := by
  cases m with
  | nil => rfl
  | cons c m =>
    obtain ⟨a, v⟩ := c
    simp only [Memory.above, Bool.and_eq_true, decide_eq_true_eq] at h ⊢
    exact ⟨by omega, h.2⟩

theorem Memory.above_write {d : Byte} {m : Memory} {lo a : Nat} {b : Byte} (h : Memory.above lo m = true) (ha : lo ≤ a) :
    Memory.above lo (Memory.write d m a b) = true := by
  induction m generalizing lo with
  | nil =>
    simp only [Memory.write]
    split_ifs
    · rfl
    · simp [Memory.above, ha]
  | cons c m ih =>
    obtain ⟨k, v⟩ := c
    have h' := h
    simp only [Memory.above, Bool.and_eq_true, decide_eq_true_eq] at h
    simp only [Memory.write]
    split_ifs with h1 h2 h3 h4
    · exact Memory.above_mono h.2 (by omega)
    · simp only [Memory.above, Bool.and_eq_true, decide_eq_true_eq]; exact ⟨by omega, h1 ▸ h.2⟩
    · exact h'
    · simp only [Memory.above, Bool.and_eq_true, decide_eq_true_eq]; exact ⟨ha, by omega, h.2⟩
    · simp only [Memory.above, Bool.and_eq_true, decide_eq_true_eq]; exact ⟨h.1, ih h.2 (by omega)⟩

theorem Memory.listed_write {d : Byte} {m : Memory} {a : Nat} {b : Byte} (h : m.all (fun c => c.2 != d) = true) :
    (Memory.write d m a b).all (fun c => c.2 != d) = true := by
  induction m with
  | nil =>
    simp only [Memory.write]
    split_ifs with hb
    · rfl
    · simpa using hb
  | cons c m ih =>
    obtain ⟨k, v⟩ := c
    simp only [List.all_cons, Bool.and_eq_true] at h
    simp only [Memory.write]
    split_ifs with h1 h2 h3 h4
    · exact h.2
    · simp only [List.all_cons, Bool.and_eq_true]; exact ⟨by simpa using h2, h.2⟩
    · simp only [List.all_cons, Bool.and_eq_true]; exact h
    · simp only [List.all_cons, Bool.and_eq_true]; exact ⟨by simpa using h4, h⟩
    · simp only [List.all_cons, Bool.and_eq_true]; exact ⟨h.1, ih h.2⟩

theorem Memory.wf_nil (d : Byte) : Memory.wf d [] = true := rfl

theorem Memory.wf_above {d : Byte} {m : Memory} (h : Memory.wf d m = true) : Memory.above 0 m = true := by
  simp only [Memory.wf, Bool.and_eq_true] at h; exact h.1

theorem Memory.wf_write {d : Byte} {m : Memory} (a : Nat) (b : Byte) (h : Memory.wf d m = true) : Memory.wf d (Memory.write d m a b) = true := by
  simp only [Memory.wf, Bool.and_eq_true] at h ⊢
  exact ⟨Memory.above_write h.1 (Nat.zero_le a), Memory.listed_write h.2⟩

theorem Memory.wf_writeBytes {d : Byte} {m : Memory} (a : Nat) (bs : List Byte) (h : Memory.wf d m = true) :
    Memory.wf d (Memory.writeBytes d m a bs) = true := by
  induction bs generalizing m a with
  | nil => exact h
  | cons b bs ih => exact ih (a + 1) (Memory.wf_write a b h)

theorem Memory.above_filter {m : Memory} {lo : Nat} (p : Host.Cell → Bool) (h : Memory.above lo m = true) :
    Memory.above lo (m.filter p) = true := by
  induction m generalizing lo with
  | nil => rfl
  | cons c m ih =>
    obtain ⟨k, v⟩ := c
    simp only [Memory.above, Bool.and_eq_true, decide_eq_true_eq] at h
    rw [List.filter_cons]
    split
    · simp only [Memory.above, Bool.and_eq_true, decide_eq_true_eq]; exact ⟨h.1, ih h.2⟩
    · exact ih (Memory.above_mono h.2 (by omega))

theorem Memory.wf_erase {d : Byte} {m : Memory} (a n : Nat) (h : Memory.wf d m = true) : Memory.wf d (Memory.erase m a n) = true := by
  simp only [Memory.wf, Bool.and_eq_true] at h ⊢
  refine ⟨Memory.above_filter _ h.1, ?_⟩
  rw [List.all_eq_true] at h ⊢
  exact fun c hc => h.2 c (List.mem_of_mem_filter hc)

/-- A byte reads as the last value written to it, and every other byte as before. -/
theorem Memory.read_writeBytes {d : Byte} {m : Memory} (h : Memory.wf d m = true) (a x : Nat) (bs : List Byte) :
    Memory.read d (Memory.writeBytes d m a bs) x = if a ≤ x ∧ x < a + bs.length then bs.getD (x - a) 0 else Memory.read d m x := by
  induction bs generalizing m a with
  | nil => rw [if_neg (by simp only [List.length_nil]; omega)]; rfl
  | cons b bs ih =>
    rw [Memory.writeBytes, ih (Memory.wf_write a b h), Memory.read_write (Memory.wf_above h)]
    simp only [List.length_cons]
    by_cases hx : x = a
    · subst hx
      rw [if_neg (by omega), if_pos rfl, if_pos (by omega), Nat.sub_self]; rfl
    · rw [if_neg hx]
      by_cases hr : a + 1 ≤ x ∧ x < a + 1 + bs.length
      · rw [if_pos hr, if_pos (by omega), show x - a = (x - (a + 1)) + 1 by omega]; rfl
      · rw [if_neg hr, if_neg (by omega)]

/-- An erased byte reads as erased, and every other byte as before. -/
theorem Memory.read_erase (d : Byte) (m : Memory) (a n x : Nat) :
    Memory.read d (Memory.erase m a n) x = if a ≤ x ∧ x < a + n then d else Memory.read d m x := by
  induction m with
  | nil => simp [Memory.erase, Memory.read]
  | cons c m ih =>
    obtain ⟨k, v⟩ := c
    unfold Memory.erase at ih ⊢
    rw [List.filter_cons]
    by_cases hk : (decide (k < a) || decide (a + n ≤ k)) = true
    · rw [if_pos hk]
      simp only [Memory.read, ih]
      simp only [Bool.or_eq_true, decide_eq_true_eq] at hk
      by_cases hx : k = x
      · subst hx; rw [if_pos rfl, if_pos rfl, if_neg (by omega)]
      · rw [if_neg hx, if_neg hx]
    · rw [if_neg hk, ih]
      simp only [Bool.or_eq_true, decide_eq_true_eq] at hk
      simp only [Memory.read]
      by_cases hx : k = x
      · subst hx; rw [if_pos (by omega), if_pos (by omega)]
      · rw [if_neg hx]

/-! ## The operations on the state -/

theorem reset_canonical : MemoryCanonical State.reset := ⟨rfl, rfl⟩

theorem flashWrite_canonical {s : State} (a : Nat) (bs : List Byte) (h : MemoryCanonical s) : MemoryCanonical (flashWrite a bs s) :=
  ⟨h.1, Memory.wf_writeBytes a bs h.2⟩

theorem flashErase_canonical {s : State} (a n : Nat) (h : MemoryCanonical s) : MemoryCanonical (flashErase a n s) :=
  ⟨h.1, Memory.wf_erase a n h.2⟩

theorem stashWrite_canonical {s : State} (a : Nat) (bs : List Byte) (h : MemoryCanonical s) : MemoryCanonical (stashWrite a bs s) :=
  ⟨Memory.wf_writeBytes a bs h.1, h.2⟩

theorem stashClear_canonical {s : State} (a n : Nat) (h : MemoryCanonical s) : MemoryCanonical (stashClear a n s) :=
  ⟨Memory.wf_erase a n h.1, h.2⟩

/-- An operation that leaves the memories alone keeps their form. -/
theorem MemoryCanonical_of_mem {s t : State} (h : MemoryCanonical s) (he : t.mem = s.mem) : MemoryCanonical t := by
  unfold MemoryCanonical at h ⊢; rw [he]; exact h

end Sys2Proof.Machine
end

