-- ==== Sys2Proof/Laws/State.lean ====
section
/-!
SUPPORT. The state's fields under its updates: lists and tables by position and key, each named field update read back, and the
lengths that `Shape` fixes.
-/

namespace Sys2Proof

/-! ## Lists by position, tables by key -/

@[simp] theorem listSet_length {α : Type} (l : List α) (n : Nat) (a : α) : (listSet l n a).length = l.length := by
  induction l generalizing n with
  | nil => rfl
  | cons x l ih => cases n <;> simp [listSet, ih]

@[simp] theorem listModify_length {α : Type} (l : List α) (n : Nat) (f : α → α) : (listModify l n f).length = l.length := by
  induction l generalizing n with
  | nil => rfl
  | cons x l ih => cases n <;> simp [listModify, ih]

theorem listSet_getD {α : Type} (l : List α) (n m : Nat) (a d : α) :
    (listSet l n a).getD m d = if m = n ∧ n < l.length then a else l.getD m d := by
  induction l generalizing n m with
  | nil => simp [listSet]
  | cons x l ih =>
    cases n with
    | zero => cases m <;> simp [listSet]
    | succ n => cases m with
      | zero => simp [listSet]
      | succ m => simpa [listSet] using ih n m

theorem listModify_getD {α : Type} (l : List α) (n m : Nat) (f : α → α) (d : α) :
    (listModify l n f).getD m d = if m = n ∧ n < l.length then f (l.getD m d) else l.getD m d := by
  induction l generalizing n m with
  | nil => simp [listModify]
  | cons x l ih =>
    cases n with
    | zero => cases m <;> simp [listModify]
    | succ n => cases m with
      | zero => simp [listModify]
      | succ m => simpa [listModify] using ih n m

theorem listSet_getD_same {α : Type} {l : List α} {n : Nat} (h : n < l.length) (a d : α) : (listSet l n a).getD n d = a := by
  rw [listSet_getD, if_pos ⟨rfl, h⟩]

theorem listSet_getD_other {α : Type} {n m : Nat} (h : m ≠ n) (l : List α) (a d : α) : (listSet l n a).getD m d = l.getD m d := by
  rw [listSet_getD, if_neg (fun x => h x.1)]

theorem listModify_getD_same {α : Type} {l : List α} {n : Nat} (h : n < l.length) (f : α → α) (d : α) :
    (listModify l n f).getD n d = f (l.getD n d) := by
  rw [listModify_getD, if_pos ⟨rfl, h⟩]

theorem listModify_getD_other {α : Type} {n m : Nat} (h : m ≠ n) (l : List α) (f : α → α) (d : α) :
    (listModify l n f).getD m d = l.getD m d := by
  rw [listModify_getD, if_neg (fun x => h x.1)]

theorem lookupD_insertKey {α : Type} (l : List (Nat × α)) (k j : Nat) (v d : α) :
    lookupD (insertKey l k v) j d = if k = j then v else lookupD l j d := by
  induction l with
  | nil => rfl
  | cons p l ih =>
    obtain ⟨a, b⟩ := p
    rw [insertKey]
    by_cases h1 : a = k
    · subst h1
      rw [if_pos rfl]
      simp only [lookupD]
      split <;> rfl
    · rw [if_neg h1]
      by_cases h2 : k < a
      · rw [if_pos h2]; rfl
      · rw [if_neg h2, lookupD, ih, lookupD]
        by_cases h3 : a = j
        · rw [if_pos h3, if_pos h3, if_neg (fun e => h1 (h3.trans e.symm))]
        · rw [if_neg h3, if_neg h3]

namespace Machine

/-! ## Named updates read back -/

@[simp] theorem fresh_out (s : State) : (fresh s).out = [] := rfl

@[simp] theorem emit_out (o : Out) (s : State) : (emit o s).out = s.out ++ [o] := rfl

@[simp] theorem fresh_pending (s : State) : (fresh s).pending = s.pending := rfl

@[simp] theorem fresh_free (s : State) : (fresh s).free = s.free := rfl

@[simp] theorem fresh_clk (s : State) : (fresh s).clk = s.clk := rfl

@[simp] theorem fresh_boot (s : State) : (fresh s).boot = s.boot := rfl

@[simp] theorem fresh_aon (s : State) : (fresh s).aon = s.aon := rfl

@[simp] theorem fresh_win (s : State) : (fresh s).win = s.win := rfl

@[simp] theorem fresh_mbx (s : State) : (fresh s).mbx = s.mbx := rfl

@[simp] theorem fresh_flt (s : State) : (fresh s).flt = s.flt := rfl

@[simp] theorem fresh_cfg (s : State) : (fresh s).cfg = s.cfg := rfl

@[simp] theorem fresh_mem (s : State) : (fresh s).mem = s.mem := rfl

@[simp] theorem fresh_hub (s : State) : (fresh s).hub = s.hub := rfl

@[simp] theorem fresh_ports (s : State) : (fresh s).ports = s.ports := rfl

@[simp] theorem fresh_own (s : State) : (fresh s).own = s.own := rfl

@[simp] theorem fresh_sw (s : State) : (fresh s).sw = s.sw := rfl

@[simp] theorem fresh_aud (s : State) : (fresh s).aud = s.aud := rfl

@[simp] theorem fresh_zon (s : State) : (fresh s).zon = s.zon := rfl

@[simp] theorem fresh_msg (s : State) : (fresh s).msg = s.msg := rfl

@[simp] theorem fresh_flex (s : State) : (fresh s).flex = s.flex := rfl

@[simp] theorem fresh_rails (s : State) : (fresh s).rails = s.rails := rfl

@[simp] theorem fresh_snap (s : State) : (fresh s).snap = s.snap := rfl

@[simp] theorem fresh_pwr (s : State) : (fresh s).pwr = s.pwr := rfl

@[simp] theorem fresh_pav (s : State) : (fresh s).pav = s.pav := rfl

@[simp] theorem fresh_sec (s : State) : (fresh s).sec = s.sec := rfl

@[simp] theorem emit_pending (o : Out) (s : State) : (emit o s).pending = s.pending := rfl

@[simp] theorem emit_free (o : Out) (s : State) : (emit o s).free = s.free := rfl

@[simp] theorem emit_clk (o : Out) (s : State) : (emit o s).clk = s.clk := rfl

@[simp] theorem emit_boot (o : Out) (s : State) : (emit o s).boot = s.boot := rfl

@[simp] theorem emit_aon (o : Out) (s : State) : (emit o s).aon = s.aon := rfl

@[simp] theorem emit_win (o : Out) (s : State) : (emit o s).win = s.win := rfl

@[simp] theorem emit_mbx (o : Out) (s : State) : (emit o s).mbx = s.mbx := rfl

@[simp] theorem emit_flt (o : Out) (s : State) : (emit o s).flt = s.flt := rfl

@[simp] theorem emit_cfg (o : Out) (s : State) : (emit o s).cfg = s.cfg := rfl

@[simp] theorem emit_mem (o : Out) (s : State) : (emit o s).mem = s.mem := rfl

@[simp] theorem emit_hub (o : Out) (s : State) : (emit o s).hub = s.hub := rfl

@[simp] theorem emit_ports (o : Out) (s : State) : (emit o s).ports = s.ports := rfl

@[simp] theorem emit_own (o : Out) (s : State) : (emit o s).own = s.own := rfl

@[simp] theorem emit_sw (o : Out) (s : State) : (emit o s).sw = s.sw := rfl

@[simp] theorem emit_aud (o : Out) (s : State) : (emit o s).aud = s.aud := rfl

@[simp] theorem emit_zon (o : Out) (s : State) : (emit o s).zon = s.zon := rfl

@[simp] theorem emit_msg (o : Out) (s : State) : (emit o s).msg = s.msg := rfl

@[simp] theorem emit_flex (o : Out) (s : State) : (emit o s).flex = s.flex := rfl

@[simp] theorem emit_rails (o : Out) (s : State) : (emit o s).rails = s.rails := rfl

@[simp] theorem emit_snap (o : Out) (s : State) : (emit o s).snap = s.snap := rfl

@[simp] theorem emit_pwr (o : Out) (s : State) : (emit o s).pwr = s.pwr := rfl

@[simp] theorem emit_pav (o : Out) (s : State) : (emit o s).pav = s.pav := rfl

@[simp] theorem emit_sec (o : Out) (s : State) : (emit o s).sec = s.sec := rfl

@[simp] theorem fresh_fresh (s : State) : fresh (fresh s) = fresh s := rfl

@[simp] theorem effect_next (f : State → State) (s : State) : effect f s = .next (f (fresh s)) := rfl

@[simp] theorem sessionOf_setSession (b : Box) (v : Option Session) (s : State) : sessionOf b (setSession b v s) = v := by cases b <;> rfl

@[simp] theorem sessionOf_setSession_other (b : Box) (v : Option Session) (s : State) :
    sessionOf (otherBox b) (setSession b v s) = sessionOf (otherBox b) s := by cases b <;> rfl

@[simp] theorem guardOf_setGuard (p : Path) (g : Guard) (s : State) : guardOf p (setGuard p g s) = g := by cases p <;> rfl

theorem guardOf_setGuard_other {p q : Path} (h : q ≠ p) (g : Guard) (s : State) : guardOf q (setGuard p g s) = guardOf q s := by
  cases p <;> cases q <;> first | exact absurd rfl h | rfl

@[simp] theorem mbxOf_setMbx (p : Path) (m : MbxRegs) (s : State) : mbxOf p (setMbx p m s) = m := by cases p <;> rfl

theorem mbxOf_setMbx_other {p q : Path} (h : q ≠ p) (m : MbxRegs) (s : State) : mbxOf q (setMbx p m s) = mbxOf q s := by
  cases p <;> cases q <;> first | exact absurd rfl h | rfl

@[simp] theorem records_setRecords (b : Box) (l : List Completion) (s : State) : records b (setRecords b l s) = l := by cases b <;> rfl

@[simp] theorem subQueues_setSubQueue (b : Box) (k : Nat) (q : SubQueue) (s : State) :
    subQueues b (setSubQueue b k q s) = listSet (subQueues b s) k q := by cases b <;> rfl

theorem subQueue_setSubQueue {b : Box} {k : Nat} {s : State} (h : k < (subQueues b s).length) (q : SubQueue) :
    subQueue b k (setSubQueue b k q s) = q := by
  rw [subQueue, subQueues_setSubQueue, listSet_getD_same h]

theorem subQueue_setSubQueue_other {k j : Nat} (h : j ≠ k) (b : Box) (q : SubQueue) (s : State) :
    subQueue b j (setSubQueue b k q s) = subQueue b j s := by
  rw [subQueue, subQueues_setSubQueue, listSet_getD_other h, subQueue]

theorem voiceOf_setVoice {v : Nat} {s : State} (h : v < s.msg.voices.length) (x : Option Voice) : voiceOf v (setVoice v x s) = x :=
  listSet_getD_same h x none

theorem voiceOf_setVoice_other {v w : Nat} (h : w ≠ v) (x : Option Voice) (s : State) : voiceOf w (setVoice v x s) = voiceOf w s :=
  listSet_getD_other h _ x none

theorem queueOf_setQueue {e k : Nat} {s : State} (h : 3 * e + k < s.sw.queues.length) (q : List Nat) : queueOf e k (setQueue e k q s) = q :=
  listSet_getD_same h q []

theorem queueOf_setQueue_other {e k e' k' : Nat} (h : 3 * e' + k' ≠ 3 * e + k) (q : List Nat) (s : State) :
    queueOf e' k' (setQueue e k q s) = queueOf e' k' s :=
  listSet_getD_other h _ q []

theorem flexAt_modified {n : Nat} {s : State} (h : n < s.flex.length) (f : Flex → Flex) :
    flexAt n { s with flex := listModify s.flex n f } = f (flexAt n s) :=
  listModify_getD_same h f {}

theorem flexAt_modified_other {n m : Nat} (h : m ≠ n) (f : Flex → Flex) (s : State) :
    flexAt m { s with flex := listModify s.flex n f } = flexAt m s :=
  listModify_getD_other h _ f {}

theorem portOf_modified {k : Nat} {s : State} (h : k < s.ports.length) (f : DownPortState → DownPortState) :
    portOf k { s with ports := listModify s.ports k f } = f (portOf k s) :=
  listModify_getD_same h f {}

theorem portOf_modified_other {k j : Nat} (h : j ≠ k) (f : DownPortState → DownPortState) (s : State) :
    portOf j { s with ports := listModify s.ports k f } = portOf j s :=
  listModify_getD_other h _ f {}

/-! ## Triplicated registers -/

@[simp] theorem Trip.agrees_of {n : Nat} (v : BitVec n) : (Trip.of v).agrees = true := by simp [Trip.of, Trip.agrees]

@[simp] theorem Trip.vote_of {n : Nat} (v : BitVec n) : (Trip.of v).vote = v := by simp [Trip.of, Trip.vote]

/-! ## Lengths -/

theorem reset_shape : Safety.Shape State.reset := by unfold Safety.Shape; decide

/-- An operation that leaves these groups alone keeps the shape. -/
theorem Shape_of_same {s t : State} (h : Safety.Shape s) (h1 : t.ports = s.ports) (h2 : t.flex = s.flex) (h3 : t.sw = s.sw)
    (h4 : t.msg = s.msg) (h5 : t.mbx = s.mbx) (h6 : t.own = s.own) (h7 : t.win = s.win) (h8 : t.aon = s.aon) : Safety.Shape t := by
  unfold Safety.Shape at h ⊢; rw [h1, h2, h3, h4, h5, h6, h7, h8]; exact h

end Machine

end Sys2Proof
end

