-- ==== Sys2Proof/Laws/Window.lean ====
section
/-!
SUPPORT. Where a path serves a register, its read and its write are the register window's own, with the path's answer put out.
-/

namespace Sys2Proof.Machine

open Sys2Proof
open Sys2Proof.Safety

theorem pathWrite_sup {r op : Nat} {d : Word} {s : State} (h : Served .sup r s) :
    pathWrite .sup r op d (fresh s) = writeReg .sup r op d (onPath .sup s) := by
  obtain ⟨h1, h2⟩ := h
  have h1' : fwRuns (fresh s) = true := h1
  have h2' : awake (fresh s) = true := h2
  simp only [pathWrite, h1', h2']; rfl

theorem pathWrite_mspi {r op : Nat} {d : Word} {s : State} (h : Served .mspi r s) :
    pathWrite .mspi r op d (fresh s) = writeReg .mspi r op d (onPath .mspi s) := by
  obtain ⟨h1, h2⟩ := h
  have h1' : mspiMode (fresh s) = .serving := h1
  have h2' : inReach r (fresh s) = true := h2
  simp only [pathWrite, mspiWrite, h1', h2']; rfl

theorem pathWrite_usb {r op : Nat} {d : Word} {s : State} (h : Served .usb r s) (hr : isAon r = false ∨ s.win.posted.length < 8) :
    pathWrite .usb r op d (fresh s) = emit (.handshake .ack) (writeReg .usb r op d (fresh s)) := by
  have h1 : usbReach (fresh s) = true := h
  have h2 : ¬ (isAon r = true ∧ 8 ≤ (fresh s).win.posted.length) := by
    rintro ⟨a, b⟩
    rcases hr with hr | hr
    · rw [hr] at a; exact absurd a (by decide)
    · exact absurd hr (Nat.not_lt.mpr b)
  simp only [pathWrite, h1, if_neg h2]; rfl

theorem pathRead_sup {r : Nat} {s : State} (h : Served .sup r s) :
    pathRead .sup r (fresh s) = emit (.value (readReg .sup r (fresh s)).1) (readReg .sup r (fresh s)).2 := by
  obtain ⟨h1, h2⟩ := h
  have h1' : fwRuns (fresh s) = true := h1
  have h2' : awake (fresh s) = true := h2
  simp only [pathRead, h1', h2']; rfl

theorem pathRead_mspi {r : Nat} {s : State} (h : Served .mspi r s) :
    pathRead .mspi r (fresh s) = sendFrame false (readReg .mspi r { fresh s with win := flagsShown .mspi s.win }).1 s.win.ferr s.win.gdisc
      s.win.wdrop (readReg .mspi r { fresh s with win := flagsShown .mspi s.win }).2 := by
  obtain ⟨h1, h2⟩ := h
  have h1' : mspiMode (fresh s) = .serving := h1
  have h2' : inReach r (fresh s) = true := h2
  simp only [pathRead, mspiRead, h1', h2']; rfl

theorem pathRead_usb {r : Nat} {s : State} (h : Served .usb r s) :
    pathRead .usb r (fresh s) = emit (.usbData (toBytesLE 3 (readReg .usb r (fresh s)).1.toNat))
      (fillControl (toBytesLE 3 (readReg .usb r (fresh s)).1.toNat) { (readReg .usb r (fresh s)).2 with
        win := { (readReg .usb r (fresh s)).2.win with usbRead := some (BitVec.ofNat 24 (readReg .usb r (fresh s)).1.toNat) } }) := by
  have h1 : usbReach (fresh s) = true := h
  simp only [pathRead, h1]; rfl

/-- A path that does not serve a register changes nothing of the supervisor's and the host's access. -/
theorem pathWrite_unserved_sup {r op : Nat} {d : Word} {s : State} (h : (fwRuns s && awake s) = false) : pathWrite .sup r op d s = s := by
  simp only [pathWrite, h]; rfl

theorem pathWrite_unserved_usb {r op : Nat} {d : Word} {s : State} (h : usbReach s = false) : pathWrite .usb r op d s = s := by
  simp only [pathWrite, h]; rfl

end Sys2Proof.Machine
end

