-- ==== Sys2Proof/WellFormed.lean ====
section
/-!
DEFINITION. The checks on a command's operands that the types leave open: an operand that fails one belongs to no occurrence
on this hardware, and the command's meaning stops on it by name.
-/

namespace Sys2Proof

/-- The register that an address names holds an RWG field: FLT_SAFECTL, FLT_SEV, WAKE_POL or TAMP_POL, whatever bits the
decoding of R81 ignores. -/
def guardedAddress (a : BitVec 13) : Bool :=
  let block := a.toNat / 128 % 8
  let off := a.toNat % 128
  (block == 2 && (off % 32 == 10 || off % 32 == 13)) || (block == 4 && (off % 16 == 1 || off % 16 == 3))

/-- The operands of a command can occur. -/
def Instr.wellFormed : Instr → Bool
  | .tdmFrameIn _ slots _ => slots.length == 16
  | .mspiFrameError mosi => mosi.length != 32
  | .guardedWrite _ a _ => guardedAddress a
  | .bulkOutPacket bytes => decide (bytes.length ≤ 1024)
  | .blockBoundary inp => inp.temps.length == 4
  | .adcSampleSet adc => adc.iA.length == 4 && adc.iB.length == 4 && adc.vbus.length == 4
  | .dbgResp pk sig => pk.length == 64 && sig.length == 64
  | .cellIngress pkts => pkts.all (fun p => decide (p.payload.length ≤ 1024) && p.dest != 0)
  | _ => true

end Sys2Proof
end

