-- ==== Sys2Proof/Tests/Slice0.lean ====
section
/-!
SUPPORT. Small tests: ill-formed operands refused, values from the published standards and the manual, and for each statement
with hypotheses a state and operands that meet them, clause by clause.
-/

namespace Sys2Proof.Tests

set_option Elab.async false

open Sys2Proof
open Sys2Proof.Machine
open Sys2Proof.Safety

/-! ## Fixtures -/

/-- A configured device whose firmware runs, in RUN, with the upstream host connected at high speed, at a tick that is a block
boundary. -/
def running : State := { State.reset with
  clk := { State.reset.clk with tick := 0x1000000, rootLocked := true, slowRc := false, ssLocked := true, slowAcc := 0 }
  boot := { State.reset.boot with
    phase := .running, started := true, ctiUp := true, resetOut := false, wdArmed := true, fw := some ⟨0, 1, 1, 0⟩ }
  cfg := { State.reset.cfg with active := some 0 }
  hub := { State.reset.hub with
    connected := true, face := some .a, vbus := true, highSpeed := true, availA := true, ssLink := .u0
    function := { configured := true } } }

/-- Every path reaches every register of the running device, and of one that differs in nothing that the paths look at. -/
theorem served {p : Path} {r : Nat} {s : State} (hb : s.boot = running.boot) (hh : s.hub = running.hub) (hp : s.pwr = running.pwr)
    (hc : s.clk.rootLocked = true) : Served p r s := by
  cases p <;> simp [Served, fwRuns, awake, mspiMode, inReach, usbReach, hb, hh, hp, hc, running, State.reset]

/-- A state with one packet in sub-queue 0 of a mailbox. -/
def withPacket (b : Box) (ws : List Word) (s : State) : State :=
  setSubQueue b 0 { packets := [{ words := packetWords ws, arrival := 0 }] } s

/-- A packet in MBX-S on the running device. -/
def sent (ws : List Word) : State := withPacket .s ws running

/-- An open session of the supervisor, for HOST or for provisioning. -/
def session (prov : Bool) : Session := { key := List.replicate 32 7, enc := List.replicate 32 8, counter := 0, provisioning := prov }

/-- A packet with the authentication trailer of counter n under that session (R111). -/
def signed (n : Nat) (ws : List Word) : List Word :=
  let body := ws ++ [w18 n]
  body ++ pairWords ((hmac (session false).key (authMessage .s body)).take 16)

/-- An authenticated packet in MBX-S on a state with the session open. -/
def authed (prov : Bool) (ws : List Word) (s : State) : State :=
  withPacket .s (signed 1 ws) { s with sec := { s.sec with sessS := some (session prov) } }

/-- Decides whether a command is taken next and passes the checks before its own, with a further condition on it. -/
def meets (code : Nat) (v : Command → Bool) (n : Command → State → Bool) (s : State) (P : Command → State → Prop)
    [∀ c u, Decidable (P c u)] : Bool :=
  match takesThis code v (fresh s) with
  | none => false
  | some (b, k, p, c) =>
    let r := authCheck (n c (takePacket b k p (fresh s))) (groupOf c.word0 == 0o13) c (takePacket b k p (fresh s))
    r.1 == stOk && decide (P c r.2)

theorem taken_of_meets {code : Nat} {v : Command → Bool} {n : Command → State → Bool} {s : State} {P : Command → State → Prop}
    [∀ c u, Decidable (P c u)] (h : meets code v n s P = true := by decide +kernel) : ∃ c u, Taken code v n s c u ∧ P c u := by
  unfold meets at h
  split at h
  · cases h
  · rename_i b k p c hx
    simp only [Bool.and_eq_true, beq_iff_eq, decide_eq_true_eq] at h
    exact ⟨c, _, ⟨b, k, p, hx, Prod.ext h.1 rfl⟩, h.2⟩

theorem packetWords_data : ∀ ws : List Word, (packetWords ws).map (·.data) = ws
  | [] => rfl
  | [_] => rfl
  | w :: x :: ws => by
    have := packetWords_data (x :: ws)
    simp only [packetWords, List.map_cons, mbxWord] at this ⊢
    rw [this]

theorem packetWords_clean : ∀ ws : List Word, (packetWords ws).any MbxWord.poisoned = false
  | [] => rfl
  | [w] => by simp [packetWords, MbxWord.poisoned, mbxWord]
  | w :: x :: ws => by
    have := packetWords_clean (x :: ws)
    simp only [packetWords, List.any_cons, this, Bool.or_false]
    simp [MbxWord.poisoned, mbxWord]

theorem pairWords_spec : ∀ (k : Nat) (bs : List Byte), bs.length = 2 * k → (pairWords bs).length = k ∧ pairBytes (pairWords bs) = bs ∧
    ∀ w ∈ pairWords bs, w.toNat < 65536
  | 0, bs, h => by
    have : bs = [] := List.eq_nil_of_length_eq_zero (by omega)
    subst this; exact ⟨rfl, rfl, fun w hw => absurd hw (by simp [pairWords])⟩
  | k + 1, [], h => by simp at h
  | k + 1, [a], h => by simp at h; omega
  | k + 1, a :: b :: bs, h => by
    obtain ⟨h1, h2, h3⟩ := pairWords_spec k bs (by simp only [List.length_cons] at h; omega)
    have ha := a.isLt
    have hb := b.isLt
    have e : (w18 (a.toNat * 256 + b.toNat)).toNat = a.toNat * 256 + b.toNat := by
      simp only [w18, BitVec.toNat_ofNat]; omega
    refine ⟨by simp [pairWords, h1], ?_, ?_⟩
    · simp only [pairBytes, pairWords, List.flatMap_cons] at h2 ⊢
      rw [h2, e]
      simp only [List.cons_append, List.nil_append, List.cons.injEq, and_true]
      constructor <;> apply BitVec.eq_of_toNat_eq <;> simp only [BitVec.toNat_ofNat] <;> omega
    · intro w hw
      rcases List.mem_cons.mp hw with rfl | hw
      · rw [e]; omega
      · exact h3 w hw

theorem sha256_length (m : List Byte) : (sha256 m).length = 32 := by
  have blk : ∀ h b, h.length = 8 → (shaBlock h b).length = 8 := by
    intro h b hh
    have rnd : ∀ (l : List (W32 × W32)) (v : List W32), v.length = 8 → (l.foldl shaRound v).length = 8 := by
      intro l
      induction l with
      | nil => intro v hv; exact hv
      | cons x l ih =>
        intro v hv
        refine ih _ ?_
        match v, hv with
        | [_, _, _, _, _, _, _, _], _ => rfl
    simp only [shaBlock, List.length_zipWith, hh, rnd _ _ hh, Nat.min_self]
  have fold : ∀ (k : Nat) (h : List W32) (l : List Byte), h.length = 8 → (foldChunks 64 shaBlock k h l).length = 8 := by
    intro k
    induction k with
    | zero => intro h l hh; exact hh
    | succ k ih =>
      intro h l hh
      simp only [foldChunks]
      split
      · exact hh
      · exact ih _ _ (blk _ _ hh)
  have flat : ∀ l : List W32, (l.flatMap (fun w => beBytes 4 w.toNat)).length = 4 * l.length := by
    intro l
    induction l with
    | nil => rfl
    | cons x l ih => simp only [List.flatMap_cons, List.length_append, ih, List.length_cons]; simp [beBytes]; omega
  simp only [sha256]
  rw [flat, fold _ _ _ rfl]

/-- The command that an authenticated packet is. -/
def authedCmd (ws : List Word) : Command := ⟨ws.getD 0 0, ws.getD 1 0, .s, 0, ws.drop 2, signed 1 ws, false, false⟩

/-- The state after its packet is taken. -/
def authedTook (prov : Bool) (ws : List Word) (s : State) : State :=
  let t := fresh (authed prov ws s)
  let q := subQueue .s 0 t
  let t := setSubQueue .s 0 { q with packets := q.packets.drop 1 } t
  let t := if keepsReenter (cmdCode (ws.getD 0 0)) then t else { t with pwr := { t.pwr with reenter := none } }
  { t with mbx := { t.mbx with lastServed := some .s } }

/-- The state after its counter is accepted too. -/
def authedTaken (prov : Bool) (ws : List Word) (s : State) : State :=
  setSession .s (some { session prov with counter := 1 }) (authedTook prov ws s)

theorem taken_of_authed {code : Nat} {v : Command → Bool} {n : Command → State → Bool} {prov : Bool} {ws : List Word} {s : State}
    {P : Command → State → Prop}
    (hn : nextPacket (fresh (authed prov ws s)) = some (.s, 0, { words := packetWords (signed 1 ws), arrival := 0 }) := by rfl)
    (hl : 2 ≤ ws.length := by decide) (ha : authFlag (ws.getD 0 0) = true := by decide)
    (hc : ((ws.getD 0 0).toNat % 16 == 0 && (lengthOk (cmdCode (ws.getD 0 0)) (ws.drop 2) == some true)
      && cmdCode (ws.getD 0 0) == code && v (authedCmd ws)) = true := by decide +kernel)
    (hp : (prov && !(groupOf (ws.getD 0 0) == 0o13)) = false := by decide)
    (h : P (authedCmd ws) (authedTaken prov ws s) := by decide +kernel) :
    ∃ c u, Taken code v n (authed prov ws s) c u ∧ P c u := by
  simp only [Bool.and_eq_true, beq_iff_eq] at hc
  have hm : ∀ k m, ((hmac k m).take 16).length = 2 * 8 := by intro k m; rw [List.length_take, hmac, sha256_length]; rfl
  obtain ⟨m1, m2, m3⟩ := pairWords_spec 8 _ (hm (session false).key (authMessage .s (ws ++ [w18 1])))
  have hs : signed 1 ws = (ws ++ [w18 1]) ++ pairWords ((hmac (session false).key (authMessage .s (ws ++ [w18 1]))).take 16) := rfl
  have hlen : (signed 1 ws).length = ws.length + 9 := by rw [hs]; simp [m1]
  have hdrop : (signed 1 ws).drop 2 = ws.drop 2 ++ (w18 1 :: pairWords ((hmac (session false).key (authMessage .s (ws ++ [w18 1]))).take 16)) := by
    rw [hs, List.append_assoc, List.drop_append_of_le_length hl]; rfl
  have hget : ∀ k < ws.length, (signed 1 ws).getD k 0 = ws.getD k 0 := by
    intro k hk
    rw [hs, List.append_assoc, List.getD_eq_getElem?_getD, List.getElem?_append_left hk, List.getD_eq_getElem?_getD]
  have hcmd : commandOf .s { words := packetWords (signed 1 ws), arrival := 0 } = authedCmd ws := by
    simp only [commandOf, packetWords_data, packetWords_clean, authedCmd, hget 0 (by omega), hget 1 (by omega), ha, if_true, hdrop, trailerLen]
    rw [List.length_append, List.length_cons, m1, Nat.add_sub_cancel, List.take_left]
  have htail : (signed 1 ws).drop ((signed 1 ws).length - 8) = pairWords ((hmac (session false).key (authMessage .s (ws ++ [w18 1]))).take 16) := by
    rw [hlen, hs, List.drop_left' (by simp)]
  have hbody : (signed 1 ws).take ((signed 1 ws).length - 8) = ws ++ [w18 1] := by
    rw [hlen, hs, List.take_left' (by simp)]
  have hctr : (signed 1 ws).getD ((signed 1 ws).length - 9) 0 = w18 1 := by
    rw [hlen, hs, Nat.add_sub_cancel, List.append_assoc, List.getD_eq_getElem?_getD, List.getElem?_append_right (Nat.le_refl _), Nat.sub_self]
    rfl
  have hok : commandOk (authedCmd ws) = true := by
    simp only [commandOk, authedCmd, ha, hc.1.1, hlen, Bool.and_eq_true, beq_iff_eq, Bool.or_eq_true, decide_eq_true_eq]
    exact ⟨⟨trivial, Or.inr (by omega)⟩, trivial⟩
  have hclean : ∀ x : State, inboundParity .s { words := packetWords (signed 1 ws), arrival := 0 } x = x := fun x =>
    Laws.inboundParity_clean _ _ _ (packetWords_clean _)
  have hkey : ((packetWords (signed 1 ws)).map (·.data)).getD 0 0 = ws.getD 0 0 := by rw [packetWords_data, hget 0 (by omega)]
  have htake : takePacket .s 0 { words := packetWords (signed 1 ws), arrival := 0 } (fresh (authed prov ws s)) = authedTook prov ws s := by
    simp only [takePacket, hclean, hkey, authedTook]
  have hsess : sessionOf .s (authedTook prov ws s) = some (session prov) := by
    simp only [authedTook]; split <;> rfl
  unfold authedTaken at h
  generalize authedTook prov ws s = t0 at *
  have htr : trailerOk (authedCmd ws) t0 = true := by
    have hm3 : (pairWords ((hmac (session false).key (authMessage .s (ws ++ [w18 1]))).take 16)).all (fun w => decide (w.toNat < 65536)) = true := by
      simpa using m3
    simp only [trailerOk, authedCmd, hctr, htail, hbody, hsess, hm3, m2]
    simp [session, w18]
  have hacc : acceptCounter (authedCmd ws) t0 = setSession .s (some { session prov with counter := 1 }) t0 := by
    simp only [acceptCounter, authedCmd, hctr, hsess]; rfl
  refine ⟨authedCmd ws, _, ⟨.s, 0, { words := packetWords (signed 1 ws), arrival := 0 }, ?_, ?_⟩, h⟩
  · simp only [takesThis, hn, hcmd]
    rw [if_pos]
    exact ⟨by rw [show (packetWords (signed 1 ws)).length = ((packetWords (signed 1 ws)).map (·.data)).length by simp,
      packetWords_data, hlen]; omega, rfl, hok, hc.1.2, hc.2⟩
  · rw [htake]
    have hw : (authedCmd ws).word0 = ws.getD 0 0 := rfl
    have hb : (authedCmd ws).box = .s := rfl
    simp only [authCheck, hw, hb, ha, htr, if_true, hacc, hsess]
    rw [if_neg (by
      have hp' : (session prov).provisioning = prov := rfl
      rw [hp', Bool.and_right_comm, hp]; simp)]

/-! ## Flash contents -/

/-- The cells of bytes in flash from an address on. -/
def cells : Nat → List Byte → Memory
  | _, [] => []
  | a, b :: bs => if b = flashErased then cells (a + 1) bs else (a, b) :: cells (a + 1) bs

theorem read_below (bs : List Byte) (a x : Nat) (m : Memory) (hx : x < a) :
    Memory.read flashErased (cells a bs ++ m) x = Memory.read flashErased m x := by
  induction bs generalizing a with
  | nil => rfl
  | cons b bs ih =>
    by_cases hb : b = flashErased
    · simp only [cells, hb, if_true]; exact ih _ (by omega)
    · simp only [cells, hb, if_false, List.cons_append, Memory.read]
      rw [if_neg (by omega)]; exact ih _ (by omega)

theorem read_above (bs : List Byte) (a x : Nat) (m : Memory) (hx : a + bs.length ≤ x) :
    Memory.read flashErased (cells a bs ++ m) x = Memory.read flashErased m x := by
  induction bs generalizing a with
  | nil => rfl
  | cons b bs ih =>
    have hx' : a + 1 + bs.length ≤ x := by simp only [List.length_cons] at hx; omega
    by_cases hb : b = flashErased
    · simp only [cells, hb, if_true]; exact ih _ hx'
    · simp only [cells, hb, if_false, List.cons_append, Memory.read]
      rw [if_neg (by omega)]; exact ih _ hx'

theorem read_cells (bs : List Byte) (a k : Nat) (m : Memory) (hk : k < bs.length)
    (hm : ∀ x < a + bs.length, Memory.read flashErased m x = flashErased) :
    Memory.read flashErased (cells a bs ++ m) (a + k) = bs.getD k 0 := by
  induction bs generalizing a k with
  | nil => simp at hk
  | cons b bs ih =>
    have hm' : ∀ x < a + 1 + bs.length, Memory.read flashErased m x = flashErased := fun x hx => hm x (by
      simp only [List.length_cons]; omega)
    cases k with
    | zero =>
      by_cases hb : b = flashErased
      · simp only [cells, hb, if_true, Nat.add_zero]; rw [read_below _ _ _ _ (by omega), hm' a (by omega)]; rfl
      · simp only [cells, hb, if_false, List.cons_append, Memory.read]; rw [if_pos (by omega)]; rfl
    | succ k =>
      have e := ih (a + 1) k (by simpa using hk) hm'
      rw [show a + 1 + k = a + (k + 1) by omega] at e
      by_cases hb : b = flashErased
      · simp only [cells, hb, if_true]; rw [e]; rfl
      · simp only [cells, hb, if_false, List.cons_append, Memory.read]
        rw [if_neg (by omega), e]; rfl

theorem flashBytes_cells {bs : List Byte} {a n : Nat} {m : Memory} {s : State} (h : s.mem.flash = cells a bs ++ m)
    (hn : bs.length = n) (hm : ∀ x < a + n, Memory.read flashErased m x = flashErased) : flashBytes a n s = bs := by
  subst hn
  unfold flashBytes Memory.readBytes
  rw [h]
  apply List.ext_getElem
  · simp
  · intro k h1 h2
    simp only [List.getElem_map, List.getElem_range]
    rw [read_cells bs a k m h2 hm, List.getD_eq_getElem?_getD, List.getElem?_eq_getElem h2, Option.getD_some]

theorem flashBytes_above {bs : List Byte} {a c n : Nat} {m : Memory} {s t : State} (h : s.mem.flash = cells a bs ++ m)
    (ht : t.mem.flash = m) (hc : a + bs.length ≤ c) : flashBytes c n s = flashBytes c n t := by
  unfold flashBytes Memory.readBytes
  rw [h, ht]
  exact List.map_congr_left fun k _ => read_above bs a (c + k) m (by omega)

/-- The bytes of a directory copy before its CRC, with one entry for each quadruple (R274). -/
def dirBody (es : List DirEntry) : List Byte :=
  [0x4A, 0x44, 0x49, 0x52] ++ toBytesLE 4 1 ++ toBytesLE 2 es.length ++ List.replicate 6 0 ++
    es.flatMap (fun e => toBytesLE 1 e.typ ++ toBytesLE 1 e.index ++ [0, 0] ++ toBytesLE 4 e.offset ++ toBytesLE 4 e.size ++ [0, 0, 0, 0]) ++
    List.replicate (4076 - 16 * es.length) 0

/-- A directory copy. -/
def dirImage (es : List DirEntry) : List Byte := dirBody es ++ toBytesLE 4 (crc32 (dirBody es))

theorem xor_ofBits (bs : List Bool) (h : bs.length = 32) : ofBits bs ^^^ 0xFFFFFFFF < 2 ^ 32 := by
  have g : ∀ (l : List Bool) (a : Nat), l.foldl (fun a b => a * 2 + bit b) a < (a + 1) * 2 ^ l.length := by
    intro l
    induction l with
    | nil => intro a; simp
    | cons b l ih =>
      intro a
      have := ih (a * 2 + bit b)
      simp only [List.foldl_cons, List.length_cons, Nat.pow_succ]
      have hb : bit b ≤ 1 := by cases b <;> decide
      calc _ < (a * 2 + bit b + 1) * 2 ^ l.length := this
        _ ≤ ((a + 1) * 2) * 2 ^ l.length := Nat.mul_le_mul_right _ (by omega)
        _ = _ := by ring
  have := g bs 0
  rw [h] at this
  exact Nat.xor_lt_two_pow (by simpa [ofBits] using this) (by decide)

theorem ofBytesLE_four (v : Nat) (h : v < 2 ^ 32) : ofBytesLE (toBytesLE 4 v) = v := by
  simp only [toBytesLE, List.range_succ, List.range_zero, List.nil_append, List.cons_append, List.map_cons, List.map_nil, ofBytesLE,
    BitVec.toNat_ofNat]
  omega

/-- A directory copy whose bytes are these reads as its entries. -/
theorem dirCopy_dirImage {es : List DirEntry} {s : State} (h : flashBytes 0 4096 s = dirImage es) (hl : (dirBody es).length = 4092)
    (h1 : slice (dirImage es) 0 4 = [0x4A, 0x44, 0x49, 0x52]) (h2 : leField (dirImage es) 8 2 = es.length) (h3 : 1 ≤ es.length ∧ es.length ≤ 254)
    (h4 : leField (dirImage es) 4 4 = 1) (h5 : (List.range es.length).map (dirEntry (dirImage es)) = es) : dirCopy 0 s = some (1, es) := by
  have hc : leField (dirImage es) 4092 4 = crc32 ((dirImage es).take 4092) := by
    rw [dirImage, ← hl, List.take_left, leField, slice, List.drop_left, List.take_of_length_le (by simp [toBytesLE]), ofBytesLE_four]
    exact xor_ofBits _ (by simp [lsbBits])
  unfold dirCopy
  simp only [h, h1, hc, h2, h3, h4, h5, and_self, if_true]

/-- A directory of these regions, and bytes at 65536. -/
def flashOf (es : List DirEntry) (bs : List Byte) : Memory := cells 0 (dirImage es) ++ (cells 65536 bs ++ [])

/-- The parts of a directory copy before its CRC read as its entries. -/
def dirReads (es : List DirEntry) : Bool :=
  (dirBody es).length == 4092 && slice (dirImage es) 0 4 == [0x4A, 0x44, 0x49, 0x52] && leField (dirImage es) 8 2 == es.length &&
    decide (1 ≤ es.length ∧ es.length ≤ 254) && leField (dirImage es) 4 4 == 1 && (List.range es.length).map (dirEntry (dirImage es)) == es

theorem directory_flashOf {es : List DirEntry} {bs : List Byte} {s : State} (hk : dirReads es = true) (h : s.mem.flash = flashOf es bs) :
    directory s = some (0, 1, es) := by
  simp only [dirReads, Bool.and_eq_true, beq_iff_eq, decide_eq_true_eq] at hk
  obtain ⟨⟨⟨⟨⟨k1, k2⟩, k3⟩, k4⟩, k5⟩, k6⟩ := hk
  have hl : (dirImage es).length = 4096 := by
    simp only [dirImage, List.length_append, k1, toBytesLE, List.length_map, List.length_range]
  have h0 : dirCopy 0 s = some (1, es) := dirCopy_dirImage
    (flashBytes_cells h hl (fun x hx => by rw [read_below _ _ _ _ (by omega)]; rfl)) k1 k2 k3 k4 k5 k6
  have h1 : dirCopy 4096 s = none := by
    have e : ∀ x, x < 65536 → 4096 ≤ x → Memory.read flashErased s.mem.flash x = flashErased := by
      intro x h1 h2
      rw [h, flashOf, read_above _ _ _ _ (by omega), read_below _ _ _ _ (by omega)]; rfl
    have : slice (flashBytes 4096 4096 s) 0 4 = [0xFF, 0xFF, 0xFF, 0xFF] := by
      unfold flashBytes Memory.readBytes slice
      rw [show (4096 : Nat) = 4 + 4092 by rfl, List.range_add, List.map_append, List.drop_zero, List.take_left' (by simp)]
      simp only [List.range_succ, List.range_zero, List.nil_append, List.cons_append, List.map_cons, List.map_nil]
      rw [e _ (by omega) (by omega), e _ (by omega) (by omega), e _ (by omega) (by omega), e _ (by omega) (by omega)]; rfl
    unfold dirCopy
    rw [if_neg]
    rw [this]; intro x; exact absurd x.1 (by decide)
  unfold directory
  rw [h0, h1]

theorem regionOf_flashOf {es : List DirEntry} {bs : List Byte} {s : State} (hk : dirReads es = true) (h : s.mem.flash = flashOf es bs)
    (i j : Nat) : regionOf i j s = es.find? (fun e => e.typ == i && e.index == j) := by
  unfold regionOf dirEntries; rw [directory_flashOf hk h]

theorem flashBytes_flashOf {es : List DirEntry} {bs : List Byte} {s : State} {n : Nat} (hk : dirReads es = true)
    (h : s.mem.flash = flashOf es bs) (hn : bs.length = n) : flashBytes 65536 n s = bs := by
  simp only [dirReads, Bool.and_eq_true, beq_iff_eq, decide_eq_true_eq] at hk
  have hl : (dirImage es).length = 4096 := by
    simp only [dirImage, List.length_append, hk.1.1.1.1.1, toBytesLE, List.length_map, List.length_range]
  rw [flashBytes_above (t := { s with mem := { s.mem with flash := cells 65536 bs ++ [] } }) h rfl (by omega)]
  exact flashBytes_cells rfl hn (fun x _ => rfl)

/-- Both firmware slots, both CTI slots, both overlay regions and library 3. -/
def regions : List DirEntry := [⟨1, 0, 65536, 2097152⟩, ⟨1, 1, 2162688, 2097152⟩, ⟨2, 0, 4259840, 262144⟩, ⟨2, 1, 4521984, 262144⟩,
  ⟨3, 0, 4784128, 131072⟩, ⟨3, 1, 4915200, 131072⟩, ⟨4, 3, 5046272, 65536⟩]

theorem regions_reads : dirReads regions = true := by decide +kernel

/-- The running device over that directory, with tables 0, 64 and 320. -/
def stored : State := { running with
  mem := { running.mem with flash := flashOf regions [] }
  cfg := { running.cfg with
    signed := [⟨0, 5, [0]⟩, ⟨64, 5, [0]⟩, ⟨320, 5, [1, 0]⟩], live := [⟨0, 5, [0]⟩, ⟨64, 5, [0]⟩, ⟨320, 5, [1, 0]⟩] } }

/-- A firmware bundle of 200 bytes with its vendor signature (R277, R427). -/
def bundle : List Byte := beBytes 32 0x4a4e4c0101010000c8000000ffffffffffffffff04020000030003ffffffffff ++
    beBytes 32 0xffffffffffffffffffffffffffffffffffffffffffffffffffffffffffffffff ++
    beBytes 32 0x0001ffffffffffff1f0a9b2b30894aa4ace2e22247bf60094566a97d0b22eab5 ++
    beBytes 32 0x2d7ca149aa3496b51f4a2a80a3e2ef495e682e903701119b29dc52d0609f9a1f ++
    beBytes 32 0x221f609e0b945a02d1d78812991bd0529ce416f0a68057cd8c9062a511a61dff ++
    beBytes 32 0xeaa4bc099d7d4801d1d78812991bd0529ce416f0a68057cd8c9062a511a61dff ++
    beBytes 8 0xeaa4bc099d7d4801

/-- A device in the boot ROM over that directory, with the bundle in firmware slot A and the hash of its key in OTP. -/
def booting : State := { State.reset with
  clk := running.clk
  boot := { State.reset.boot with phase := .bootRom }
  mem := { State.reset.mem with flash := flashOf regions bundle }
  sec := { State.reset.sec with otp := { State.reset.sec.otp with
    vendorHash := 0xd3479f5071196664cedc555a516dea9e6de5d4b77d94e63b2083e92b2b6565b3 } } }

/-! ## Register window -/

theorem meets_UnlockOpensOnlyWithKey (p : Path) :
    (Served p 0o1400 running ∧ (guardOf p running).unlocked.agrees = true) ∧ 480 ≤ since (guardOf p running).since running ∧
    since (guardOf p (setGuard p { since := 0x1000000 - 479 } running)).since (setGuard p { since := 0x1000000 - 479 } running) < 480 := by
  refine ⟨⟨served rfl rfl rfl rfl, ?_⟩, ?_, ?_⟩ <;> cases p <;> decide +kernel

/-- A guard opened 10 ms ago less one tick. -/
def opened (p : Path) : State := setGuard p { unlocked := Trip.of 1, since := 0x1000000 - 479 } running

theorem meets_GuardedWriteOutcomes (p : Path) :
    (Served p (regOf 0o0412) running ∧ (guardOf p running).unlocked.agrees = true ∧ running.win.posted.length < 8 ∧
      isGuarded (regOf 0o0412) = true ∧ guardOpen p running = false) ∧
    (Served p (regOf 0o0415) (opened p) ∧ (guardOf p (opened p)).unlocked.agrees = true ∧ (opened p).win.posted.length < 8 ∧
      guardOpen p (opened p) = true ∧ aliasOf 0o0415 = 0) ∧
    (0o772005 : Word).bits 17 9 = 511 - (0o772005 : Word).bits 8 0 ∧ (opened p).win.safectl.agrees = true ∧
    (0o772005 : Word).bits 8 0 % 8 < 6 ∧ (sourceDef ({ opened p with win := { (opened p).win with sevSel := 0o0160 } }).win.sevSel.toNat).isSome = true ∧
    fixedSource 0o0160 = false ∧ (sevEntry 0o0160 (opened p)).agrees = true ∧
    (regOf 0o1001 = 0o1001 ∧ regOf 0o1003 = 0o1003) ∧ aliasOf 0o4412 ≠ 0 ∧ isGuarded (regOf 0o4412) = true ∧
    (5 : Word).bits 17 9 ≠ 511 - (5 : Word).bits 8 0 ∧ blockOff 0o0221 (opened p) = false := by
  refine ⟨⟨served rfl rfl rfl rfl, ?_⟩, ⟨?_, ?_⟩, ?_⟩
  · cases p <;> decide +kernel
  · cases p <;> exact served rfl rfl rfl rfl
  · cases p <;> decide +kernel
  · cases p <;> decide +kernel

theorem meets_RegisterReadsAndWrites (p : Path) (a : BitVec 13) :
    Served p (regOf a) running ∧ (∀ r ∈ [0o200, 0o407, 0o414, 0o416, 0o605, 0o213, 0o1200, 0o3, 0o420, 0o1007, 0o1011, 0o1614,
      0o1624, 0o1634, 0o1644, 0o4, 0o1645], regOf (BitVec.ofNat 13 r) = r) ∧
    (isAon (regOf 0o0007) = false ∧ regOf 0o0007 = 7 ∧ isMaintained (regOf 0o0007) = false) ∧ (regOf 0o0002 = 2 ∧ aliasOf 0o0002 = 0) ∧ isCompanion 0o1645 = true ∧ aliasOf 0o4200 = 1 ∧ regOf 0o4200 = 0o200 :=
  ⟨served rfl rfl rfl rfl, by decide +kernel⟩

/-- The running device with n posted writes of this one. -/
def posted (n : Nat) (w : Posted) : State := { running with win := { running.win with posted := List.replicate n w } }

theorem meets_AonWritesArePosted (p : Path) :
    (Served p (regOf 0o1000) (posted 7 ⟨0o1000, 0, 1, 0⟩) ∧ isAon (regOf 0o1000) = true ∧ isGuarded (regOf 0o1000) = false ∧
      isMaintained (regOf 0o1000) = false ∧ (posted 7 ⟨0o1000, 0, 1, 0⟩).win.posted.length < 8) ∧
    (Served p (regOf 0o1000) (posted 8 ⟨0o1000, 0, 1, 0⟩) ∧ 8 ≤ (posted 8 ⟨0o1000, 0, 1, 0⟩).win.posted.length) ∧
    (∀ r ∈ [0o1000, 0o1002, 0o1005, 0o1001, 0o1003], (posted 1 ⟨r, 0, 1, 0⟩).win.posted = [⟨r, 0, 1, 0⟩]) ∧
    (posted 1 ⟨0o1002, 3, 1, 0⟩).win.posted = [⟨0o1002, 3, 1, 0⟩] ∧ (posted 1 ⟨0o1001, 0, 1, 0⟩).aon.wakePol.agrees = true ∧
    (posted 1 ⟨0o1003, 0, 1, 0⟩).aon.tampPol.agrees = true := by
  refine ⟨⟨served rfl rfl rfl rfl, ?_⟩, ⟨served rfl rfl rfl rfl, ?_⟩, ?_⟩ <;> decide +kernel

/-- The running device with one unacknowledged fault that has been quiet for this many ticks. -/
def faulted (src : BitVec 12) (sev quiet : Nat) : State := { running with flt := { running.flt with
  unacked := [⟨src, sev, 0x1000000 - BitVec.ofNat 54 quiet⟩] } }

theorem meets_AcknowledgeClearsFaults (p : Path) (c : Fin 6) :
    Served p (0o401 + c.val) (faulted 0o0160 3 2880000) ∧
    (⟨0o0160, 3, 0x1000000 - 2880000⟩ : Unacked) ∈ (faulted 0o0160 3 2880000).flt.unacked ∧ autoAck (faulted 0o0160 3 2880000) ≠ 0 ∧
    autoAck (faulted 0o0160 3 2880000) * 48000 ≤ since (0x1000000 - 2880000) (faulted 0o0160 3 2880000) ∧
    (sourceDef (0o0160 : BitVec 12).toNat).isSome = true ∧ blockOff 0o0160 (faulted 0o0160 3 2880000) = false := by
  refine ⟨served rfl rfl rfl rfl, ?_⟩
  decide +kernel

/-! ## Mailboxes -/

/-- The running device with this sub-queue of MBX-S selected and filled so. -/
def filled (k : Fin 4) (q : SubQueue) : State := setSubQueue .s k.val q
  { running with win := { running.win with mbxMspi := { prio := BitVec.ofNat 2 k.val } } }

/-- Packets that hold n words of 256 each. -/
def packets (n : Nat) : List Packet := List.replicate n { words := List.replicate 256 (mbxWord 0 true), arrival := 0 }

theorem meets_InboundWordsEnterOrDrop (k : Fin 4) :
    (Served .mspi 0o201 (filled k { part := List.replicate 255 (mbxWord 0 false) }) ∧
      takesWords (subQueue .s k.val (filled k { part := List.replicate 255 (mbxWord 0 false) })) ∧
      (filled k { part := List.replicate 255 (mbxWord 0 false) }).mbx.inS.length = 4) ∧
    isFreeHeartbeat ([mbxWord 0o010320 false] ++ [mbxWord 1 true]) = true ∧
    isFreeHeartbeat ([mbxWord 0o010320 false] ++ [mbxWord 1 false, mbxWord 1 true]) = false ∧
    (Path.sup ≠ .mspi ∧ Served .sup 0o201 running ∧ Path.usb ≠ .mspi ∧ Served .usb 0o201 running) ∧
    (∀ b : Box, takesWords (subQueue b k.val running) ∧ (subQueues b running).length = 4) ∧
    (Served .mspi 0o201 (filled k { packets := packets 2 }) ∧ (subQueue .s k.val (filled k { packets := packets 2 })).discard = false ∧
      512 ≤ (subQueue .s k.val (filled k { packets := packets 2 })).used) ∧
    (subQueue .s k.val (filled k { part := List.replicate 256 (mbxWord 0 false) })).part.length = 256 ∧
    (Served .mspi 0o201 (filled k { discard := true }) ∧ (subQueue .s k.val (filled k { discard := true })).discard = true) := by
  refine ⟨⟨served rfl rfl rfl rfl, ?_, ?_⟩, ?_, ?_, ⟨?_, served rfl rfl rfl rfl, ?_, served rfl rfl rfl rfl⟩, ?_,
    ⟨served rfl rfl rfl rfl, ?_⟩, ?_, ⟨served rfl rfl rfl rfl, ?_⟩⟩
  · unfold takesWords; revert k; decide +kernel
  · revert k; decide +kernel
  · decide
  · decide
  · decide
  · decide
  · intro b; unfold takesWords; cases b <;> revert k <;> decide +kernel
  · revert k; decide +kernel
  · revert k; decide +kernel
  · revert k; decide +kernel

/-- The running device with this packet at the front of the reply queue. -/
def replying (w : MbxWord) (ws : List MbxWord) : State := { running with mbx := { running.mbx with reply := [{ words := w :: ws }] } }

theorem meets_FlushedAndReadQueues :
    (Served .mspi 0o205 running ∧ running.mbx.inS.length = 4) ∧ (Served .mspi 0o207 running ∧ outQueue .mspi running = []) ∧
    (Served .mspi 0o207 (replying (mbxWord 3 true) []) ∧
      outQueue .mspi (replying (mbxWord 3 true) []) = [{ words := [mbxWord 3 true] }] ∧ (mbxWord 3 true).poisoned = false) := by
  refine ⟨⟨served rfl rfl rfl rfl, ?_⟩, ⟨served rfl rfl rfl rfl, ?_⟩, served rfl rfl rfl rfl, ?_⟩ <;> decide +kernel

/-- A cell with this many references. -/
def cell (refs : Nat) : Cell :=
  { dest := 8, src := 0, cls := .iso, len := 1, last := true, deadline := 0, addr := 1, ep := 1, dirIn := false, ctx := none, payload := [7]
    refs := refs, pool := 0, bad := false, refBad := false, suspect := false, off := 0, frames := 1, stream := (0, 0, 0) }

/-- The core with every queue full, no shared cell free and every cell of the ISO reserve in use. -/
def crowded (s : State) : State := { s with sw := { s.sw with
  queues := List.replicate 54 (List.replicate 512 0), leaked := List.replicate 5632 (0, false), cells := List.replicate 2048 (0, cell 1) } }

theorem meets_AccessPaths :
    ((List.replicate 31 false).length ≠ 32 ∧ mspiMode running = .serving ∧ (List.replicate 31 false).getD 0 false = false) ∧
    ((List.replicate 13 true).length < 14) ∧ ((List.replicate 14 true).getD 0 false = true ∧ 14 ≤ (List.replicate 14 true).length) ∧
    (usbReach running = true ∧ vendorForm true ⟨0xC0, 0x41, 8191, 0, 3⟩ = true ∧ vendorForm true ⟨0xC0, 0x41, 8192, 0, 3⟩ = false ∧
      vendorForm false ⟨0x40, 0x42, 0, 0, 3⟩ = true ∧ vendorForm false ⟨0x40, 0x42, 0, 0, 2⟩ = false ∧
      ({ running with win := { running.win with usbRead := some 5 } }).win.usbRead = some 5 ∧
      (0x3FFFF : BitVec 24).toNat < 2 ^ 18 ∧ 2 ^ 18 ≤ (0x40000 : BitVec 24).toNat ∧ coreRoom .ctrl 11 1 1 running = true ∧
      coreRoom .ctrl 0 0x800 1 running = true) ∧
    (usbReach (crowded running) = true ∧ coreRoom .ctrl 11 1 1 (crowded running) = false) := by decide +kernel

/-- The running device with the reply queue's, or the event queue's, first packet of n words. -/
def sending (n : Nat) : State := { running with mbx := { running.mbx with
  reply := [{ words := List.replicate n (mbxWord 0 true) }], event := [{ words := List.replicate n (mbxWord 0 true) }] } }

theorem meets_BulkEndpoints :
    (usbUp running = true ∧ (running.mbx.usbBytes ++ [1, 2]).length < 3 ∧ coreRoom .bulk 0 0x800 (cellCount 2) running = true ∧
      coreRoom .bulk 0 0x800 1 running = true) ∧
    (running.mbx.usbBytes = [] ∧ running.mbx.usbOpen = none ∧ bitOf (0xB0 : Byte).toNat 7 = true ∧
      takesWords (subQueue .u 3 running) ∧ running.mbx.inU.length = 4) ∧
    (usbUp (setSubQueue .u 0 { packets := packets 2 } running) = true ∧
      roomFor (addressed none (containers ([] ++ [0, 0, 0x80])).1) (setSubQueue .u 0 { packets := packets 2 } running) = false) ∧
    (running.mbx.reply = [] ∧ running.mbx.replyTail = false ∧ running.mbx.event = [] ∧ running.mbx.eventTail = false) ∧
    ((sending 170).mbx.reply = [{ words := List.replicate 170 (mbxWord 0 true) }] ∧ (sending 170).mbx.replyXfer = [] ∧
      (∀ w ∈ List.replicate 170 (mbxWord 0 true), w.poisoned = false) ∧ 3 * (List.replicate 170 (mbxWord 0 true)).length < bulkMax (sending 170) ∧
      coreRoom .bulk 11 1 (cellCount ((List.replicate 170 (mbxWord 0 true)).flatMap containerOf).length) (sending 170) = true ∧
      (sending 170).mbx.event = [{ words := List.replicate 170 (mbxWord 0 true) }] ∧ (sending 170).mbx.eventXfer = []) := by
  unfold takesWords; decide +kernel

/-! ## The step and command packets -/

theorem meets_StepRunsFrontCommand : ({ State.reset with pending := [.sysInfo] }).pending = .sysInfo :: [] ∧ State.reset.pending = [] :=
  ⟨rfl, rfl⟩

theorem meets_ExecKeepsQueue : ∃ t, exec .microframeStart State.reset = .next t := ⟨_, rfl⟩

theorem meets_StepKeepsMemoryCanonical : MemoryCanonical State.reset ∧ step State.reset = .next State.reset := by
  unfold MemoryCanonical; exact ⟨⟨rfl, rfl⟩, rfl⟩

theorem meets_StepKeepsShape : Shape State.reset ∧ step State.reset = .next State.reset := by
  unfold Shape; exact ⟨by decide, rfl⟩

theorem meets_TakenPacketLeavesItsQueue :
    (∃ c u, Taken 0o0101 anyVariant noAuth (sent [0o010100, 1, 0]) c u ∧ authFlag c.word0 = false ∧ keepsReenter (cmdCode c.word0) = false) ∧
    (∃ c u, Taken 0o0103 anyVariant noAuth (sent [0o010300, 1]) c u ∧ keepsReenter (cmdCode c.word0) = true) ∧
    (∃ c u, Taken 0o0204 anyVariant needsAuth (authed false [0o020440, 1] running) c u ∧ authFlag c.word0 = true) :=
  ⟨taken_of_meets, taken_of_meets, taken_of_meets⟩

/-- What a packet on the running device is taken as. -/
def taking (ws : List Word) : Box × Nat × Packet × Command :=
  (.s, 0, { words := packetWords ws, arrival := 0 }, commandOf .s { words := packetWords ws, arrival := 0 })

theorem meets_RefusedPacketsAnswered :
    (Authenticated .cfgDiscard 0o0204 anyVariant false ∧
      takesThis 0o0204 anyVariant (fresh (sent [0o020400, 1])) = some (taking [0o020400, 1]) ∧
      authFlag (taking [0o020400, 1]).2.2.2.word0 = false) ∧
    (takesThis 0o0204 anyVariant (fresh (sent (0o020440 :: List.replicate 10 0))) = some (taking (0o020440 :: List.replicate 10 0)) ∧
      authFlag (taking (0o020440 :: List.replicate 10 0)).2.2.2.word0 = true ∧
      trailerOk (taking (0o020440 :: List.replicate 10 0)).2.2.2 (fresh (sent (0o020440 :: List.replicate 10 0))) = false) ∧
    (∀ ws ∈ [[(0 : Word)], [0o010101, 1], [0o017600, 1], [0o010100, 1], [0o010100, 1, 0, 0]],
      nextPacket (fresh (sent ws)) = some (.s, 0, { words := packetWords ws, arrival := 0 })) ∧
    (∀ ws ∈ [[0o010101, (1 : Word)], [0o017600, 1], [0o010100, 1], [0o010100, 1, 0, 0]],
      (commandOf .s { words := packetWords ws, arrival := 0 }).poisoned = false ∧
      commandOk (commandOf .s { words := packetWords ws, arrival := 0 }) = false) ∧
    (nextPacket (fresh (setSubQueue .s 3 { packets := [{ words := [⟨0, false, false⟩, ⟨0, true, true⟩], arrival := 0 }] } running)) =
        some (.s, 3, { words := [⟨0, false, false⟩, ⟨0, true, true⟩], arrival := 0 }) ∧
      (commandOf .s { words := [⟨0, false, false⟩, ⟨0, true, true⟩], arrival := 0 }).poisoned = true) := by
  refine ⟨⟨.cfgDiscard, ?_⟩, ?_⟩ <;> decide +kernel

/-! ## SYS -/

theorem meets_SysInfoPages :
    (∃ c u, Taken 0o0101 anyVariant noAuth (sent [0o010100, 1, 0]) c u ∧ c.p 1 = 0) ∧ running.boot.fw = some ⟨0, 1, 1, 0⟩ ∧
    (∃ c u, Taken 0o0101 anyVariant noAuth (sent [0o010100, 1, 1]) c u ∧ c.p 1 = 1) ∧
    (∃ c u, Taken 0o0101 anyVariant noAuth (sent [0o010100, 1, 2]) c u ∧ c.p 1 = 2) ∧
    (∃ c u, Taken 0o0101 anyVariant noAuth (sent [0o010100, 1, 5]) c u ∧ c.p 1 = 3 + 2) ∧
    (∃ c u, Taken 0o0101 anyVariant noAuth (sent [0o010100, 1, 6]) c u ∧ 5 < c.p 1) ∧
    running.sec.otp.agrees = true ∧ running.sec.otp.wrong = [] :=
  ⟨taken_of_meets, rfl, taken_of_meets, taken_of_meets, taken_of_meets, taken_of_meets, by decide +kernel, rfl⟩

/-- A state whose records of path S are one with sequence number 7 behind one with 8. -/
def recorded (ws : List Word) : State := withPacket .s ws { running with mbx := { running.mbx with
  doneS := [⟨0o010300, 8, 0, false, false⟩, ⟨0o010100, 7, 0, false, false⟩] } }

theorem meets_SysStatusFindsNewestRecord :
    (∃ c u, Taken 0o0102 anyVariant noAuth (recorded [0o010200, 1, 7, 1]) c u ∧ c.p 2 ≤ 1 ∧ c.p 1 = 7) ∧
    ((recorded [0o010200, 1, 7, 1]).mbx.doneS = [⟨0o010300, 8, 0, false, false⟩] ++ ⟨0o010100, 7, 0, false, false⟩ :: [] ∧
      (∀ x ∈ [(⟨0o010300, 8, 0, false, false⟩ : Completion)], x.seq.toNat ≠ 7)) ∧
    (∃ c u, Taken 0o0102 anyVariant noAuth (recorded [0o010200, 1, 9, 1]) c u ∧ c.p 2 ≤ 1 ∧
      ∀ x ∈ (recorded [0o010200, 1, 9, 1]).mbx.doneS, x.seq.toNat ≠ c.p 1) ∧
    (∃ c u, Taken 0o0102 anyVariant noAuth (recorded [0o010200, 1, 9, 2]) c u ∧ 1 < c.p 2) :=
  ⟨taken_of_meets, by decide +kernel, taken_of_meets, taken_of_meets⟩

theorem meets_SysHeartbeatResetAndTime :
    (∃ c u, Taken 0o0103 anyVariant noAuth (sent [0o010300, 1]) c u ∧ c.word0 ≠ 0o010320) ∧
    (∃ c u, Taken 0o0103 anyVariant noAuth (sent [0o010320, 1]) c u ∧ c.word0 = 0o010320) ∧
    (∃ c u, Taken 0o0104 anyVariant noAuth (sent [0o010400, 1, 0]) c u ∧ c.p 1 = 0) ∧
    (loadBlocked (sent [0o010400, 1, 0]) = false ∧ (sent [0o010400, 1, 0]).pwr.entry = .none ∧ longOf 1 (sent [0o010400, 1, 0]) = none) ∧
    (∃ c u, Taken 0o0105 anyVariant noAuth (withPacket .s [0o010500, 1, 0, 0] (posted 5 ⟨0o1000, 0, 0, 0⟩)) c u ∧
      (withPacket .s [0o010500, 1, 0, 0] (posted 5 ⟨0o1000, 0, 0, 0⟩)).win.posted.length ≤ 5) :=
  ⟨taken_of_meets, taken_of_meets, taken_of_meets, by decide +kernel, taken_of_meets⟩

/-- A CTI image of 25 rows with tables 0 and 64, and its signature (R115 to R118). -/
def image : List Byte := beBytes 32 0x54c6004090018000000700000040710000000000000000000000000000000000 ++
    beBytes 32 0x0000000000801a00100000000040801e00100000000000000000000000000000 ++
    beBytes 32 0x000000000000000072e80000f0c471d602176bc847c312ce9110bcf8949b433a ++
    beBytes 32 0x863c10037704f6b1de02e80ca1f414e580898da530e34f880ba1e1cfe61fe78e ++
    beBytes 32 0x28adf3c0878527ce2b5ccd10b386b317b6cba001f17b437d14176bc847c312ce ++
    beBytes 32 0x9110bcf8949b433a863c10037704f6b1de02e80ca1f414e580898da530aa26b8 ++
    beBytes 32 0x35b2cf48753f1fab145ba04ac32004dfc9ac9bc0aa80d0332f36ccb9b231c11d ++
    beBytes 1 0x1c

/-- The running device with that image in CTI slot A and the hash of its key in OTP. -/
def unloaded : State := { running with
  cfg := { running.cfg with active := some 1 }
  mem := { running.mem with flash := flashOf [⟨2, 0, 65536, 262144⟩] (image ++ List.replicate 261919 flashErased) }
  sec := { running.sec with otp := { running.sec.otp with intHash := [some
    0xd875db7def232236aec738c6b0bb3e80142f5d0fd8f4df24fed6eef5cbb50d9f, none, none, none] } } }

/-- The reason, or none for an image that passes. -/
def reasonOf (r : Nat ⊕ Image) : Option Nat := match r with | .inl n => some n | .inr _ => none

theorem checkImage_of_otp {s t : State} (h : s.sec.otp = t.sec.otp) (k : Nat) (ok : Bool) (bs : List Byte) :
    checkImage k ok bs s = checkImage k ok bs t := by
  unfold checkImage keyInSlot; rw [h]

theorem image_passes : reasonOf (checkImage 0 true (image ++ List.replicate 261919 flashErased) unloaded) = none := by decide +kernel

/-- A CFG.LOAD of slot A on that device, accepted. -/
def loadAccepted : State := accepted (authedCmd [0o020540, 1, 1]) (authedTaken false [0o020540, 1, 1] unloaded)

theorem checkSlot_of_region {k : Nat} {ok : Bool} {s : State} {e : DirEntry} (h : regionOf 2 k s = some e) :
    checkSlot k ok s = checkImage k ok (flashBytes e.offset Config.ctiSlotSize s) s := by
  unfold checkSlot; rw [h]

theorem accepted_keeps (c : Command) (u : State) : (accepted c u).mem = u.mem ∧ (accepted c u).sec = u.sec := by
  simp only [accepted, answer, postReply, fileRecord, setRecords]
  split <;> cases c.box <;> exact ⟨rfl, rfl⟩

theorem authedTaken_keeps (prov : Bool) (ws : List Word) (s : State) :
    (authedTaken prov ws s).mem = s.mem ∧ (authedTaken prov ws s).sec.otp = s.sec.otp := by
  simp only [authedTaken, setSession, authedTook]
  split <;> exact ⟨rfl, rfl⟩

theorem checkSlot_passes : ∃ img, checkSlot 0 true loadAccepted = .inr img := by
  have hr : dirReads [⟨2, 0, 65536, 262144⟩] = true := by decide +kernel
  have hl : (image ++ List.replicate 261919 flashErased).length = Config.ctiSlotSize := by
    rw [List.length_append, List.length_replicate]; rfl
  have hf : loadAccepted.mem.flash = flashOf [⟨2, 0, 65536, 262144⟩] (image ++ List.replicate 261919 flashErased) := by
    rw [loadAccepted, (accepted_keeps _ _).1, (authedTaken_keeps _ _ _).1, unloaded]
  have ho : loadAccepted.sec.otp = unloaded.sec.otp := by
    rw [loadAccepted, (accepted_keeps _ _).2, (authedTaken_keeps _ _ _).2]
  have h : reasonOf (checkSlot 0 true loadAccepted) = none := by
    have hg : regionOf 2 0 loadAccepted = some ⟨2, 0, 65536, 262144⟩ := by rw [regionOf_flashOf hr hf]; rfl
    have hb : flashBytes 65536 Config.ctiSlotSize loadAccepted = image ++ List.replicate 261919 flashErased := flashBytes_flashOf hr hf hl
    rw [checkSlot_of_region hg, hb, checkImage_of_otp ho]
    exact image_passes
  cases hx : checkSlot 0 true loadAccepted with
  | inl n => rw [hx] at h; exact absurd h (by simp [reasonOf])
  | inr img => exact ⟨img, rfl⟩

/-! ## CFG -/

/-- The running device with the commit of these changes accepted at this tick. -/
def committing (start : Tick) : State := { stored with cfg := { stored.cfg with commit := some ⟨0, 1, [⟨384, 0, 5⟩], start⟩ } }

/-- An authenticated CFG command on the device with tables and directory. -/
def cfgSent (ws : List Word) : State := authed false ws stored

theorem meets_CfgTableCommands :
    (∃ c u, Taken 0o0201 anyVariant needsAuth (cfgSent [0o020140, 1, 320, 0, 2, 0]) c u ∧ u.cfg.unconfigured = false ∧ c.p 3 = 2 ∧
      c.p 3 ≤ 252 ∧ c.p 4 ≤ 2 ∧ viewWords (c.p 1) (c.p 4) u = some [1, 0] ∧ c.p 2 + c.p 3 ≤ ([1, 0] : List Word).length) ∧
    (∃ c u, Taken 0o0202 anyVariant needsAuth (cfgSent [0o020240, 1, 320, 1, 1, 2]) c u ∧ checkWrite c u = stOk ∧ cmdCode c.word0 = 0o0202) ∧
    (∃ c u, Taken 0o0204 anyVariant needsAuth (cfgSent [0o020440, 1]) c u ∧ u.cfg.unconfigured = false ∧ cmdCode c.word0 = 0o0204) ∧
    (∃ c u, Taken 0o0203 anyVariant needsAuth (cfgSent [0o020340, 1]) c u ∧ u.cfg.unconfigured = false ∧ longOf 2 u = none) ∧
    (∃ c u, Taken 0o0201 anyVariant needsAuth (authed false [0o020140, 1, 320, 0, 1, 2]
      { running with cfg := { running.cfg with unconfigured := true } }) c u ∧ u.cfg.unconfigured = true ∧ 1 ≤ c.p 3 ∧ c.p 3 ≤ 252 ∧ c.p 4 ≤ 2) ∧
    (∃ c u, Taken 0o0202 anyVariant needsAuth (authed false [0o020240, 1, 320, 1, 1, 2]
      { running with cfg := { running.cfg with unconfigured := true } }) c u ∧ u.cfg.unconfigured = true ∧ 1 ≤ c.p 3 ∧ c.p 3 ≤ 240) ∧
    (∃ c u, Taken 0o0203 anyVariant needsAuth (authed false [0o020340, 1]
      { running with cfg := { running.cfg with unconfigured := true } }) c u ∧ u.cfg.unconfigured = true) ∧
    (∃ c u, Taken 0o0204 anyVariant needsAuth (authed false [0o020440, 1]
      { running with cfg := { running.cfg with unconfigured := true } }) c u ∧ u.cfg.unconfigured = true) :=
  ⟨taken_of_authed, taken_of_authed, taken_of_authed, taken_of_authed, taken_of_authed, taken_of_authed, taken_of_authed, taken_of_authed⟩

/-- The device with this flash-backed operation of CFG in progress. -/
def cfgBusy (op : CfgOp) : State := { stored with cfg := { stored.cfg with
  op := some op, slotWrite := some ⟨1, [], false⟩, fwWrite := some ⟨1, []⟩ } }

theorem meets_CommitAndFlashOperationsEnd :
    ((committing (0x1000000 - 95999)).cfg.commit = some ⟨0, 1, [⟨384, 0, 5⟩], 0x1000000 - 95999⟩ ∧
      since (0x1000000 - 95999) (committing (0x1000000 - 95999)) < 96000 ∧
      regionOf 3 0 (committing (0x1000000 - 95999)) = some ⟨3, 0, 4784128, 131072⟩ ∧
      commitChanges ⟨0, 1, [], 0x1000000⟩ { stored with cfg := { stored.cfg with commit := some ⟨0, 1, [], 0x1000000⟩ } } = []) ∧
    (96000 ≤ since (0x1000000 - 96000) (committing (0x1000000 - 96000))) ∧
    ((cfgBusy (.ctiBegin 1)).cfg.op = some (.ctiBegin 1) ∧ (cfgBusy (.ctiData 0 [1, 2, 3, 4])).cfg.op = some (.ctiData 0 [1, 2, 3, 4]) ∧
      (cfgBusy (.ctiData 0 [1, 2, 3, 4])).cfg.slotWrite = some ⟨1, [], false⟩ ∧ (cfgBusy (.fwData 0 [1])).cfg.op = some (.fwData 0 [1]) ∧
      (cfgBusy (.fwData 0 [1])).cfg.fwWrite = some ⟨1, []⟩) ∧
    ({ stored with sec := { stored.sec with op := some .csig } }).sec.op = some .csig := by
  refine ⟨⟨rfl, by decide +kernel, ?_, by decide +kernel⟩, by decide +kernel, ⟨rfl, rfl, rfl, rfl, rfl⟩, rfl⟩
  rw [regionOf_flashOf (bs := []) regions_reads rfl]; rfl

theorem meets_FlashLoadsAndWritesAccepted :
    (∃ c u, Taken 0o0206 (fun c => opIs 0 c || decide (2 < c.p 1)) needsAuth (cfgSent [0o020640, 1, 0, 1]) c u ∧ c.p 1 = 0 ∧
      beginSlot c u = 1 ∧ u.cfg.active ≠ some 1 ∧ longOf 2 u = none) ∧
    (regionOf 2 1 (cfgSent [0o020640, 1, 0, 1])).isSome = true ∧
    (∃ c u, Taken 0o0206 (opIs 1) needsAuth (authed false [0o020640, 1, 1, 29119, 0, 0, 0, 0] (cfgBusy .ctiEnd)) c u ∧
      (c.params.length - 2) % 4 = 0 ∧ c.p 2 + (c.params.length - 2) / 4 ≤ 29120 ∧ u.cfg.slotWrite = some ⟨1, [], false⟩ ∧
      wasWritten [] (c.p 2) ((c.params.length - 2) / 4) = false) ∧
    (∃ c u, Taken 0o0206 (opIs 2) needsAuth (authed false [0o020640, 1, 2] (cfgBusy .ctiEnd)) c u ∧ u.cfg.slotWrite = some ⟨1, [], false⟩) ∧
    (∃ c u, Taken 0o0207 (fun c => opIs 0 c || decide (3 < c.p 1)) needsAuth (cfgSent [0o020740, 1, 0, 1]) c u ∧ c.p 1 = 0 ∧ c.p 2 = 1 ∧
      runsFrom (c.p 2) u = false ∧ u.cfg.fwWrite = none) ∧
    (regionOf 1 1 (cfgSent [0o020740, 1, 0, 1])).isSome = true ∧
    (∃ c u, Taken 0o0207 (opIs 1) needsAuth (authed false [0o020740, 1, 1, 196607, 7, 1, 0] (cfgBusy .ctiEnd)) c u ∧ 1 ≤ dataCount c ∧
      dataCount c ≤ 480 ∧ dataOffset c + dataCount c = 2031616 ∧ u.cfg.fwWrite = some ⟨1, []⟩ ∧
      wasWritten [] (dataOffset c) (dataCount c) = false) ∧
    (∃ c u, Taken 0o0207 (opIs 2) needsAuth (authed false [0o020740, 1, 2] (cfgBusy .ctiEnd)) c u ∧ u.cfg.fwWrite = some ⟨1, []⟩) ∧
    (∃ c u, Taken 0o0207 (opIs 3) needsAuth (authed false [0o020740, 1, 3] (cfgBusy .ctiEnd)) c u ∧ u.cfg.fwWrite = some ⟨1, []⟩) ∧
    (∃ c u, Taken 0o0205 anyVariant needsAuth (cfgSent [0o020540, 1, 2]) c u ∧ longOf 2 u = none ∧ loadBlocked u = false ∧ c.p 1 = 2 ∧
      slotOpen u ≠ some 1) ∧
    (∃ c u, Taken 0o0205 anyVariant needsAuth (authed false [0o020540, 1, 2] running) c u ∧ longOf 2 u = none ∧ loadBlocked u = false ∧ c.p 1 = 2 ∧
      slotOpen u ≠ some 1 ∧ checkSlot (c.p 1 - 1) true (accepted c u) = .inl 11) ∧
    (∃ c u, Taken 0o0205 anyVariant needsAuth (authed false [0o020540, 1, 1] unloaded) c u ∧ (longOf 2 u = none ∧ loadBlocked u = false ∧
      c.p 1 = 1 ∧ slotOpen u ≠ some 0) ∧ ∃ img, checkSlot 0 true (accepted c u) = .inr img) := by
  refine ⟨taken_of_authed, ?_, taken_of_authed, taken_of_authed, taken_of_authed, ?_, taken_of_authed, taken_of_authed, taken_of_authed, taken_of_authed, ?_, ?_⟩
  · rw [regionOf_flashOf (bs := []) regions_reads rfl]; rfl
  · rw [regionOf_flashOf (bs := []) regions_reads rfl]; rfl
  · exact taken_of_authed
  · exact taken_of_authed (h := ⟨by decide +kernel, checkSlot_passes⟩)

/-! ## Owned ports -/

/-- A stored device with port k changed. -/
def withPort (k : Nat) (f : DownPortState → DownPortState) (s : State) : State := { s with ports := listModify s.ports k f }

/-- An owned, powered port 5. -/
def owning : State := withPort 4 (fun p => { p with owned := true, powered := true }) running

theorem meets_PortQueriesAnswer :
    (∃ c u, Taken 0o0301 anyVariant noAuth (sent [0o030100, 1, 1]) c u ∧ c.p 1 = 1 ∧ (portOf (c.p 1 - 1) u).owned = false) ∧
    (∃ c u, Taken 0o0301 anyVariant noAuth (withPacket .s [0o030100, 1, 5] owning) c u ∧ c.p 1 = 5 ∧ (portOf (c.p 1 - 1) u).owned = true) ∧
    (∃ c u, Taken 0o0301 anyVariant noAuth (sent [0o030100, 1, 0]) c u ∧ c.p 1 < 1) ∧
    (∃ c u, Taken 0o0301 anyVariant noAuth (sent [0o030100, 1, 11]) c u ∧ 10 < c.p 1) ∧
    (∃ c u, Taken 0o0303 anyVariant noAuth (withPacket .s [0o030300, 1, 5] owning) c u ∧ c.p 1 = 5 ∧ (portOf (c.p 1 - 1) u).owned = true) ∧
    (∃ c u, Taken 0o0303 anyVariant noAuth (sent [0o030300, 1, 10]) c u ∧ c.p 1 = 10 ∧ (portOf (c.p 1 - 1) u).owned = false) :=
  ⟨taken_of_meets, taken_of_meets, taken_of_meets, taken_of_meets, taken_of_meets, taken_of_meets⟩

theorem meets_PortOwnershipChanges :
    (∃ c u, Taken 0o0302 anyVariant noAuth (sent [0o030200, 1, 10, 1, 0]) c u ∧ longOf 3 u = none ∧ c.p 1 = 10 ∧ c.p 2 = 1 ∧ c.p 3 = 0 ∧
      fitted (c.p 1 - 1) u = true ∧ cannotOwn (c.p 1 - 1) u = false ∧ zoneHoldsPort (c.p 1 - 1) u = false ∧
      (portOf (c.p 1 - 1) u).owned ≠ (c.p 2 == 1)) ∧
    (∃ c u, Taken 0o0302 anyVariant noAuth (sent [0o030200, 1, 1, 0, 0]) c u ∧ longOf 3 u = none ∧ c.p 1 = 1 ∧ c.p 2 = 0 ∧ c.p 3 = 0 ∧
      fitted (c.p 1 - 1) u = true ∧ cannotOwn (c.p 1 - 1) u = false ∧ zoneHoldsPort (c.p 1 - 1) u = false ∧
      (portOf (c.p 1 - 1) u).owned = (c.p 2 == 1)) ∧
    (∃ c u, Taken 0o0304 anyVariant noAuth (withPacket .s [0o030400, 1, 5, 0] (withPort 4 (fun p => { p with attached := true }) owning)) c u ∧
      longOf 3 u = none ∧ (portOf (c.p 1 - 1) u).owned = true ∧ c.p 2 = 0 ∧ (portOf (c.p 1 - 1) u).attached = true ∧
      u.own.devs.all (fun d => d.port != c.p 1 - 1) = true) ∧
    (∀ p : DownPort, fwRuns running = true ∧ awake running = true ∧ p.val < running.ports.length ∧ atBlock running = true) ∧
    (∀ p : DownPort, (portOf p.val (withPort p.val (fun x => { x with change := .requested true, powered := true, attached := true }) running)).change =
        .requested true ∧
      (portOf p.val (withPort p.val (fun x => { x with change := .requested false }) running)).change = .requested false ∧
      (portOf p.val (withPort p.val (fun x => { x with change := .toPass, changeRef := 0x1000000 - 480 }) running)).change = .toPass) ∧
    480 ≤ since (0x1000000 - 480) running ∧
    (let s := withPort 4 (fun x => { x with change := .toOwned, attached := true, speed := some .hs, enumDone := false, ownReset := false
                                            changeRef := 0x1000000 - 48 }) running
     (portOf 4 s).change = .toOwned ∧ (portOf 4 s).attached = true ∧ (portOf 4 s).speed.isSome = true ∧ (portOf 4 s).enumDone = false ∧
      (portOf 4 s).ownReset = false ∧ 48 ≤ since (portOf 4 s).changeRef s) ∧
    (∀ p : DownPort, cannotOwn p.val running = false) ∧
    ({ withPort 9 (fun x => { x with change := .toOwned, changeRef := 0x1000000 - 96000 }) running with own := { running.own with ownerCmd := some 9 } }).own.ownerCmd = some 9 ∧
    96000 ≤ since (0x1000000 - 96000) running := by
  refine ⟨taken_of_meets, taken_of_meets, taken_of_meets, ?_⟩
  decide +kernel

/-- A device with one HID interface, and one without anything that the device serves. -/
def keypad : UsbDevice := { speed := .hs, vendor := 1, product := 2, bcdUsb := 0x200, config := 1, platformCap := [], audio := []
                            hid := [⟨0, 10, 8, 8, 10⟩], hubPorts := none, multiTt := false, remoteWake := false, serial := [] }

/-- A served device on port 5 with address 9. -/
def console (hub asleep : Bool) : OwnedDev :=
  { port := 4, hubPort := 0, addr := 9, speed := .hs, vendor := 1, product := 2, reason := 0, hub := hub, hubPorts := 4
    multiTt := false, tagAware := false, remoteWake := false, endpoints := 1, hids := [⟨0, 10, 8, 8, 10⟩], buttons := [], asleep := asleep
    cached := asleep, conn := 0, payload := 0 }

theorem meets_EnumerationRecordsDevice :
    ((4 : DownPort).val < owning.ports.length ∧ canEnumerate (4 : DownPort).val 0 keypad.speed owning = true ∧ keypad.audio = [] ∧
      ({ keypad with hid := [] }).hid = [] ∧ keypad.hubPorts = none) ∧
    (∀ f ∈ (portOf 4 owning).failures, f.1 ≠ 0) ∧
    (∃ f ∈ (portOf 4 (withPort 4 (fun p => { p with failures := [(0, 0x1000000 - 48000)] }) owning)).failures, f.1 = 0) ∧
    canEnumerate (4 : DownPort).val 0 .hs (withPort 4 (fun p => { p with failures := [(0, 0x1000000 - 48000)] }) owning) = true ∧
    (let s := withPort 4 (fun p => { p with failures := [(0, 0x1000000 - 47999)] }) owning
     (portOf 4 s).failures.find? (fun f => f.1 == 0) = some (0, 0x1000000 - 47999) ∧ since (0x1000000 - 47999) s < 48000) ∧
    (let s := { owning with own := { owning.own with devs := [{ console true false with conn := 2 }] } }
     canEnumerate (4 : DownPort).val 1 .hs s = true ∧ ({ keypad with hubPorts := some 4 }).hubPorts.isSome = true) := by decide +kernel

/-- The running device with that device, and key binding 3 to it on a usage when bound. -/
def consoled (hub asleep bound : Bool) : State := { withPort 4 (fun p => { p with attached := true }) owning with
  own := { running.own with devs := [console hub asleep] }
  cfg := { running.cfg with
    live := if bound then [⟨576, 3, [1, 0, 0, 0, 0, 0]⟩, ⟨256, 4, [0o030000, 1, 0o006000, 5]⟩] else [] } }

theorem meets_OwnedTreeEvents :
    (leRuns (4 : DownPort).val (consoled false false false) = true ∧ (portOf 4 (consoled false false false)).attached = true ∧
      (4 : DownPort).val < (consoled false false false).ports.length) ∧
    (devByAddr 4 (9 : BitVec 7).toNat (consoled false false false) = some (console false false) ∧ (console false false).reason = 0 ∧
      (console false false).asleep = false ∧ (console false false).hids.any (fun h => h.iface == 0) = true ∧
      boundKeys (console false false) (consoled false false false).own.devs (consoled false false false).own.streams
        (consoled false false false) = []) ∧
    (leRuns 4 (consoled false false true) = true ∧ devByAddr 4 9 (consoled false false true) = some (console false false) ∧
      boundKeys (console false false) (consoled false false true).own.devs (consoled false false true).own.streams
        (consoled false false true) = [⟨3, 0, 5⟩] ∧
      (console false false).buttons.any (fun x => x.2.2 == 5) = false ∧
      ((console false false).buttons.filter (fun b => !(b.1 == 0 && b.2.1 == 0)) ++ ([5] : List (BitVec 16)).map (fun u => ((0 : Nat), (0 : Nat), u.toNat))).any
        (fun x => x.2.2 == 5) = true ∧
      ({ console false false with buttons := [(0, 0, 5)] }).buttons.any (fun x => x.2.2 == 5) = true) ∧
    (leRuns 4 (consoled true false false) = true ∧
      (devsAt 4 0 (consoled true false false)).any (fun d => d.hub && d.reason == 0 && !d.asleep) = true ∧
      bitOf (0x8000 : BitVec 16).toNat 15 = true ∧ (devsAt 4 15 (consoled true false false)).isEmpty = true) ∧
    (leRuns 4 (consoled false true false) = true ∧ resumed (consoled false true false) = true ∧ (console false true).cached = true ∧
      (consoled false true false).own.cacheOk = true ∧ (devsAt 4 0 (consoled false true false)).filter (·.asleep) = [console false true] ∧
      (devsAt 4 0 (consoled false true false)).any (·.asleep) = true) := by
  decide +kernel

/-! ## Upstream face and hubs -/

/-- The running device with no host connected, or with flex port 4 as upstream B, and the face given. -/
def unplugged : State := { running with hub := { State.reset.hub with vbus := true } }

/-- The running device with F4 as upstream B and its face settings, and its hub so. -/
def withB (h : Hub → Hub) : State := { running with
  cfg := { running.cfg with live := [⟨320, 5, [4, 0, 0, 0, 2]⟩, ⟨448, 5, [3, 100, 1, 1]⟩] }
  hub := h running.hub }

theorem meets_UpstreamConnectAndVbusLoss :
    (mayConnect unplugged = true ∧ unplugged.hub.connected = false ∧ unplugged.hub.swTo = none ∧ upstreamB unplugged = none) ∧
    running.hub.connected = true ∧ mayConnect State.reset = false ∧ (running.hub.face = some .a ∧ upstreamB running = none) ∧
    running.hub.vbus = true ∧ (2000 < (2001 : Nat) ∧ (1599 : Nat) < 1600) := by decide +kernel

theorem meets_BusResetAndFunctionMove :
    running.hub.connected = true ∧ ({ running.hub with functionUsb3 := true }).functionUsb3 = true :=
  ⟨rfl, rfl⟩

theorem meets_HubPortRequests :
    (∀ usb3, hubAnswers usb3 running = true) ∧ (∀ usb3, situation usb3 4 (withPort 4 (fun p => { p with forceOff := true }) running) = .forced) ∧
    situation true 4 running = .noPort ∧ situation false 0 { running with cfg := { running.cfg with unconfigured := true } } = .absent ∧
    situation false 10 running = .internal ∧
    situation false 4 owning = .owned ∧ (4 < (withPort 4 id running).ports.length) ∧ situation false 4 running = .pass ∧
    situation false 9 running = .pass ∧ (portOf 4 running).powered = false ∧
    (let s := withPort 4 (fun p => { p with hostPower := true, usb2 := { connection := true } }) running
     hubAnswers false s = true ∧ situation false 4 s = .pass ∧ (portOf 4 s).hostPower = true ∧ (sideOf false (portOf 4 s)).connection = true) := by
  decide +kernel

/-- The running device suspended by its host, with remote wake enabled on both hubs and this wake mask on port 4. -/
def suspended (report : Bool) (mask : Nat) : State := withPort 3 (fun p => { p with usb3 := { wakeMask := mask } }) { running with
  hub := { running.hub with suspended := true, wakeReport := report, hub2 := { remoteWake := true }, hub3 := { remoteWake := true } } }

theorem meets_TtLpmSuspendResumeWake :
    (hubAnswers false running = true ∧ (∀ c ∈ running.sw.cells, c.2.refBad = false) ∧ (portOf 0 running).owned = false) ∧
    ({ running.hub with altHub := 1 }).altHub ≠ 0 ∧
    (usbReach running = true ∧ running.hub.altPlay = 0 ∧ running.hub.altCap = 0) ∧
    (running.hub.connected = true ∧ running.hub.suspended = false) ∧
    (∀ r, (suspended r 0).hub.connected = true ∧ (suspended r 0).hub.suspended = true ∧ awake (suspended r 0) = true ∧
      (suspended r 0).hub.wakeReport = r) ∧
    ({ running.hub with l1 := true }).l1 = true ∧
    (∀ m ∈ [0, 7], (suspended false m).hub.hub2.remoteWake = true ∧ (suspended false m).hub.hub3.remoteWake = true ∧
      (suspended false m).hub.wakePending = false ∧ (∀ usb3, situation usb3 (3 : DownPort).val (suspended false m) = .pass) ∧
      (sideOf true (portOf 3 (suspended false m))).wakeMask = m) ∧
    (∀ k < 3, bitOf 0 k = false ∧ bitOf 7 k = true) := by decide +kernel

/-- The running device with HS port 5 owned or not, powered since this tick, with these over-currents before. -/
def hsPort (owned powered : Bool) (from_ : Tick) (times : List Tick) : State :=
  withPort 4 (fun p => { p with owned := owned, powered := powered, powerTick := from_, ocTimes := times, repower := !powered }) running

theorem meets_HsPowerAndOverCurrent :
    (fwRuns running = true ∧ (5 : HsPort).val + 4 < running.ports.length ∧ (portOf 4 (hsPort false true (0x1000000 - 960) [])).powered = true ∧
      960 ≤ since (portOf 4 (hsPort false true (0x1000000 - 960) [])).powerTick (hsPort false true (0x1000000 - 960) []) ∧
      (portOf 4 (hsPort false true 0 [])).owned = false) ∧
    ((portOf 4 (hsPort true true 0 [0x1000000, 0x1000000])).owned = true ∧
      2 ≤ ((portOf 4 (hsPort true true 0 [0x1000000, 0x1000000])).ocTimes.filter (fun x => decide (since x running ≤ 2880000))).length) ∧
    since (portOf 4 (hsPort false true (0x1000000 - 959) [])).powerTick running < 960 ∧
    (let s := hsPort true false 0 [0x1000000 - 48000]
     (portOf 4 s).owned = true ∧ (portOf 4 s).repower = true ∧ (portOf 4 s).ocLatch = false ∧ (portOf 4 s).forceOff = false ∧
      (portOf 4 s).powered = false ∧ (portOf 4 s).ocTimes = [0x1000000 - 48000] ∧ 48000 ≤ since (0x1000000 - 48000) s ∧ fitted 4 s = true ∧
      s.cfg.active.isSome = true ∧ powerAllowed 4 s = true) ∧
    (∃ c u, Taken 0o0305 (fun c => c.p 2 != 1 && c.p 2 != 2) noAuth (sent [0o030500, 1, 5, 0, 0]) c u ∧ c.p 1 = 5 ∧
      fitted (c.p 1 - 1) u = true ∧ c.p 1 - 1 < u.ports.length ∧ c.p 2 = 0 ∧ c.p 3 = 0) ∧
    (∃ c u, Taken 0o0305 (fun c => c.p 2 == 1) noAuth (sent [0o030500, 1, 10, 1, 0]) c u ∧ c.p 1 = 10 ∧
      fitted (c.p 1 - 1) u = true ∧ c.p 1 - 1 < u.ports.length ∧ c.p 3 = 0) ∧
    (∃ c u, Taken 0o0305 (fun c => c.p 2 == 2) noAuth (sent [0o030500, 1, 5, 2, 100]) c u ∧ c.p 1 = 5 ∧
      fitted (c.p 1 - 1) u = true ∧ c.p 1 - 1 < u.ports.length ∧ c.p 3 = 100) ∧
    (let s := withPort 4 (fun p => { p with cycleEnd := some 0x1000000 }) running
     (portOf (4 : DownPort).val s).cycleEnd = some 0x1000000 ∧ fwRuns s = true ∧ (0x1000000 : Tick).toNat ≤ s.clk.tick.toNat ∧
      (4 : DownPort).val < s.ports.length) := by
  refine ⟨by decide +kernel, by decide +kernel, by decide +kernel, by decide +kernel, taken_of_meets, taken_of_meets, taken_of_meets, ?_⟩
  decide +kernel

theorem meets_FunctionRequestsAndStreams :
    usbReach running = true ∧ (UsbTarget.function ≠ .hub3 ∧ hubAnswers true running = true ∧ running.hub.port11.suspend = false ∧
      coreRoom .ctrl 11 1 1 running = true) ∧
    running.hub.function.configured = true ∧ running.hub.highSpeed = true ∧ ({ running.hub.function with configured := false }).configured = false ∧
    (let s := { running with hub := { running.hub with altPlay := 1, altCap := 1, playRing := List.replicate 55 [] } }
     usbReach s = true ∧ s.hub.altPlay = 1 ∧ s.hub.altCap = 1 ∧ (List.replicate 288 (0 : Byte)).length = 288 * 1 ∧ s.hub.playRing.length + 1 ≤ 56 ∧
      coreRoom .iso 0 0x800 (cellCount 288) s = true ∧ coreRoom .iso 0 0x800 (cellCount 288) (crowded s) = false ∧
      coreRoom .iso 11 1 (cellCount 0) s = true ∧ s.hub.capRing.take 7 = []) ∧
    (List.replicate 287 (0 : Byte)).length % 288 ≠ 0 := by decide +kernel

/-- Flex port 4 with an upstream face attached and VBUS on it. -/
def attachedB (s : State) : State := { s with flex := listSet s.flex 3 { role := .sinkB, cc := .rd, vbus := 4400 } }

theorem meets_GalliardFaces :
    (let s := withB (fun h => { h with face := some .b })
     flexRuns s = true ∧ s.hub.face = some .b ∧ awake s = true ∧ fwRuns s = true ∧ (upstreamB s).isSome = true ∧ carries .a s = false ∧
      s.hub.vbus = true ∧ s.hub.absentA = false) ∧
    (flexRuns running = true ∧ running.hub.face = some .a ∧ hsTraffic .a running = true) ∧
    (withB (fun h => { h with face := some .b, availA := false })).hub.availA = false ∧
    (let s := attachedB (withB (fun h => { h with availB := false }))
     awake s = true ∧ fwRuns s = true ∧ upstreamB s = some 3 ∧ carries .b s = false ∧ s.hub.availB = false ∧ s.hub.absentB = false ∧
      (flexAt 3 s).role = .sinkB ∧ 4400 ≤ (flexAt 3 s).vbus) ∧
    (let s := withB (fun h => { h with availB := true, vbus := false })
     watchesLoss s = true ∧ s.hub.face = some .a ∧ s.hub.availB = true ∧ s.hub.vbus = false) ∧
    (let s := withB (fun h => { h with availB := true, ssLink := .rxDetect, absentA := true, highSpeed := false })
     watchesLoss s = true ∧ s.hub.face = some .a ∧ s.hub.availB = true ∧ s.hub.ssLink ≠ .u0 ∧ s.hub.ssLink ≠ .recovery ∧ hostAbsent .a s = true) ∧
    (let s := withB id
     watchesLoss s = true ∧ s.hub.face = some .a ∧ s.hub.vbus = true ∧ s.hub.ssLink = .u0) ∧
    (let s := withB (fun h => { h with connected := false, face := none, swTo := some (some .b, some .a, 1) })
     s.hub.swTo = some (some .b, some .a, 1) ∧ awake s = true ∧ (1 : Nat) ≤ 1 ∧ available .a s = true) ∧
    (let s := withB (fun h => { h with face := some .b, swTo := some (some .b, some .a, 2), swFrom := 0x1000000 })
     s.hub.swTo = some (some .b, some .a, 2) ∧ atBlock s = true ∧ s.hub.swFrom.toNat ≤ s.clk.tick.toNat ∧ available .a s = true) ∧
    (let s := withB (fun h => { h with face := some .b, availSince := some (0x1000000 - 48000) })
     s.hub.availSince = some (0x1000000 - 48000) ∧ watchesLoss s = true ∧ carries .b s = true ∧ s.hub.availA = true ∧ param 448 2 0 s = 1 ∧
      s.hub.autoArmed = true ∧ s.hub.swTo = none ∧ param 448 3 60 s * 48000 ≤ since (0x1000000 - 48000) s) ∧
    (∃ c u, Taken 0o0106 anyVariant noAuth (withPacket .s [0o010600, 1, 0] (withB (fun h => { h with face := some .b }))) c u ∧
      longOf 1 u = none ∧ u.hub.swTo = none ∧ c.p 1 = 0 ∧ available .a u = true ∧ carries .a u = false) ∧
    (∃ c u, Taken 0o0106 anyVariant noAuth (withPacket .s [0o010600, 1, 1] (withB (fun h => { h with availB := true }))) c u ∧
      longOf 1 u = none ∧ u.hub.swTo = none ∧ c.p 1 = 1 ∧ (upstreamB u).isSome = true ∧ available .b u = true ∧ carries .b u = false) := by
  refine ⟨by decide +kernel, by decide +kernel, by decide +kernel, by decide +kernel, by decide +kernel, by decide +kernel, by decide +kernel,
    by decide +kernel, by decide +kernel, by decide +kernel, taken_of_meets, taken_of_meets⟩

/-! ## Resets and start -/

/-- A device in the recovery loader with this packet. -/
def loader (ws : List Word) : State := withPacket .s ws { State.reset with
  clk := running.clk, boot := { State.reset.boot with phase := .loader }, sec := { State.reset.sec with otp := booting.sec.otp } }

/-- The loader's packet as a command. -/
def loaderCmd (ws : List Word) : Command := commandOf .s { words := packetWords ws, arrival := 0 }

theorem bundle_accepted : acceptFirmware bundle 0 booting = true := by decide +kernel

theorem acceptFirmware_of_otp {s t : State} (h : s.sec.otp = t.sec.otp) (b : List Byte) (n : Nat) :
    acceptFirmware b n s = acceptFirmware b n t := by
  unfold acceptFirmware keyInSlot; rw [h]

/-- The loader with the bundle staged (R447). -/
def staged : State := { loader [0o770200, 1, 200, 0] with
  mem := { State.reset.mem with stash := (bundle.zipIdx.map (fun x => (stashAddr 1 0 + x.2, x.1))).filter (fun c => c.2 != stashErased) } }

theorem slotFirmware_unread (k : Nat) (s : State) : slotFirmware k false s = none := by
  unfold slotFirmware
  cases regionOf 1 k s with
  | none => rfl
  | some e =>
    show (if _ then (if (false && _) = true then _ else none) else none) = none
    simp only [Bool.false_and, Bool.false_eq_true, if_false, ite_self]

theorem slotFirmware_of {k : Nat} {s : State} {e : DirEntry} {b : List Byte} {n : Nat} (h : regionOf 1 k s = some e)
    (h1 : flashBytes e.offset 64 s = b.take 64) (hn : bundleLen (b.take 64) = n) (h2 : flashBytes e.offset n s = b)
    (h3 : n ≤ Config.fwLimit) (h4 : acceptFirmware b s.sec.otp.antiroll s = true) : slotFirmware k true s = some (fwInfoOf k b) := by
  unfold slotFirmware
  rw [h]
  show (if bundleLen (flashBytes e.offset 64 s) ≤ _ then (if (true && _) = true then _ else none) else none) = _
  rw [h1, hn, h2, if_pos h3, h4, if_pos (by decide)]

theorem flashBytes_take (a m n : Nat) (s : State) (h : m ≤ n) : flashBytes a m s = (flashBytes a n s).take m := by
  unfold flashBytes Memory.readBytes
  rw [← List.map_take, List.take_range, Nat.min_eq_left h]

theorem booting_flash : booting.mem.flash = flashOf regions bundle := rfl

theorem booting_region : regionOf 1 0 booting = some ⟨1, 0, 65536, 2097152⟩ := by
  rw [regionOf_flashOf regions_reads booting_flash]; rfl

theorem booting_bytes : flashBytes 65536 200 booting = bundle := flashBytes_flashOf regions_reads booting_flash (by decide +kernel)

theorem slotFirmware_booting : slotFirmware 0 true booting = some (fwInfoOf 0 bundle) :=
  slotFirmware_of booting_region (by rw [flashBytes_take 65536 64 200 _ (by decide), booting_bytes]) (n := 200) (by decide +kernel)
    booting_bytes (by decide) bundle_accepted

theorem selectFirmware_of {a b : Bool} {s : State} {f : FwInfo} (h0 : slotFirmware 0 a s = some f) (h1 : slotFirmware 1 b s = none) :
    selectFirmware a b s = some f := by
  unfold selectFirmware; rw [h0, h1]

theorem bundle_info : fwInfoOf 0 bundle = ⟨0, 3, 4, 2⟩ := by decide +kernel

theorem selectFirmware_booting : selectFirmware true false booting = some ⟨0, 3, 4, 2⟩ := by
  rw [← bundle_info]; exact selectFirmware_of slotFirmware_booting (slotFirmware_unread 1 booting)

theorem meets_ResetsKeepWhatSurvives :
    ((2649 : Nat) < 2650 ∧ (2000 : Nat) ≤ 2000) ∧ (1999 : Nat) < 2000 ∧ (2650 ≤ (2650 : Nat) ∧ 470 ≤ (470 : Nat)) ∧ (469 : Nat) < 470 ∧
    (1000 ≤ (1000 : Nat)) ∧ ((99 : Nat) < 100) ∧ (100 ≤ (100 : Nat) ∧ (999 : Nat) < 1000) ∧
    (∀ b, let s := { running with boot := { running.boot with warmReq := [.fault] }, clk := { running.clk with relock := b } }
     fwRuns s = true ∧ awake s = true ∧ s.boot.warmReq ≠ [] ∧ s.boot.straps = ⟨false, false, false⟩ ∧ s.clk.relock = b) := by decide +kernel

/-- The state that the verified firmware of path 2 stands in, over the directory or over none. -/
def verified (flash : Memory) : State := { booting with
  boot := { booting.boot with phase := .verified, fw := some ⟨2, 3, 4, 2⟩ }, mem := { booting.mem with flash := flash } }

theorem meets_BootRomAndLoader :
    (State.reset.boot.phase = .oscillator ∧ State.reset.clk.refOk = true ∧ State.reset.boot.fromHibernate = false) ∧
    (running.boot.phase ≠ .oscillator ∧ ({ State.reset.clk with refOk := false }).refOk = false) ∧ (booting.boot.phase = .bootRom ∧ selectFirmware true false booting = some ⟨0, 3, 4, 2⟩) ∧
    selectFirmware true true { booting with mem := {} } = none ∧
    (loaderTakes 0o7701 (fresh (loader [0o770100, 1, 196128, 7, 480] )) = none) ∧
    (loaderTakes 0o7701 (fresh (loader ([0o770100, 1, 196128, 7, 480] ++ List.replicate 240 0))) =
        some (0, loaderCmd ([0o770100, 1, 196128, 7, 480] ++ List.replicate 240 0)) ∧
      (loaderCmd ([0o770100, 1, 196128, 7, 480] ++ List.replicate 240 0)).p 1 +
        2 ^ 18 * (loaderCmd ([0o770100, 1, 196128, 7, 480] ++ List.replicate 240 0)).p 2 + 480 = 2031616) ∧
    (loaderTakes 0o7702 (fresh staged) = some (0, loaderCmd [0o770200, 1, 200, 0]) ∧
      (loaderCmd [0o770200, 1, 200, 0]).p 1 + 2 ^ 18 * (loaderCmd [0o770200, 1, 200, 0]).p 2 = 200 ∧
      acceptFirmware (stashBytes (stashAddr 1 0) (min 200 2031616) staged) staged.sec.otp.antiroll staged = true ∧
      bundleLen (stashBytes (stashAddr 1 0) (min 200 2031616) staged) ≤ 200) ∧
    acceptFirmware (stashBytes (stashAddr 1 0) (min 200 2031616) (loader [0o770200, 1, 200, 0])) 0 (loader [0o770200, 1, 200, 0]) = false ∧
    ((verified []).boot.phase = .verified ∧ (verified []).boot.fw = some ⟨2, 3, 4, 2⟩ ∧ directory (verified []) = none ∧
      (verified []).boot.rebuilt = false) :=
  ⟨by decide +kernel, by decide +kernel, ⟨rfl, selectFirmware_booting⟩, by decide +kernel, by decide +kernel, by decide +kernel, by decide +kernel, by decide +kernel,
    by decide +kernel⟩

/-- An image that takes effect next. -/
def nextImage : Image := { slot := 0, gen := 7, crc := 0, header := [], tables := [], bytes := [] }

theorem meets_FirmwareStartAndActivation :
    ((verified (flashOf regions [])).boot.phase = .verified ∧ (directory (verified (flashOf regions []))).isSome = true ∧
      (verified (flashOf regions [])).boot.warmBusy = false) ∧
    (let s := { running with cfg := { running.cfg with next := some nextImage } }
     s.cfg.next = some nextImage ∧ fwRuns s = true ∧ awake s = true ∧ entering s = false ∧ atBlock s = true ∧ s.clk.lastBlock ≠ some s.clk.tick) ∧
    (let s := { running with boot := { running.boot with phase := .starting }, cfg := { running.cfg with next := some nextImage } }
     s.boot.phase = .starting ∧ fwRuns s = true) ∧
    (let s := { running with cfg := { running.cfg with reloading := true } }
     s.cfg.reloading = true ∧ s.cfg.next = none ∧ s.boot.phase = .running ∧ awake s = true) := by
  refine ⟨⟨rfl, ?_, rfl⟩, ?_⟩
  · rw [directory_flashOf regions_reads rfl]; rfl
  · decide +kernel

/-! ## Watchdog, clocks and time -/

/-- The running device with its last kick this many ticks ago. -/
def unkicked (n : Nat) (busy : Bool) : State := { running with
  boot := { running.boot with lastKick := 0x1000000 - BitVec.ofNat 54 n, warmBusy := busy } }

theorem meets_WatchdogClocksAndFrames :
    ((unkicked 480 false).boot.wdArmed = true ∧ (unkicked 480 false).boot.kickMissed = false ∧
      480 ≤ since (unkicked 480 false).boot.lastKick (unkicked 480 false)) ∧
    (4800 ≤ since (unkicked 4800 false).boot.lastKick (unkicked 4800 false) ∧ (unkicked 4800 false).boot.warmBusy = false ∧
      (unkicked 4800 true).boot.warmBusy = true) ∧
    (running.boot.phase = .running ∧ running.boot.ctiUp = true ∧ awake running = true ∧ running.clk.rootLocked = true) ∧
    (let s := { running with clk := { running.clk with refOk := false } }
     s.clk.refOk = false ∧ s.clk.rootLocked = true ∧ s.boot.warmBusy = false) ∧ State.reset.clk.rootLocked = false ∧
    ({ running.pwr with state := .sleep }).state = .sleep ∧
    (let s := withPort 4 (fun p => { p with attached := true, speed := some .hs }) { owning with clk := { owning.clk with tick := 0x1000002 } }
     s.clk.tick.toNat % 6 = 0 ∧ frameTimerRuns 4 s = true ∧ (portOf 4 s).speedOn false = some .hs) ∧
    (let s := { withPort 0 (fun p => { p with owned := true, attached := true, speed := some .ss }) running with
       clk := { running.clk with tick := 0x1000002 }
       flex := listModify running.flex 0 (fun f => { f with role := .source, gate5 := .full }) }
     frameTimerRuns 0 s = true ∧ ((portOf 0 s).speedOn true).isSome = true) := by decide +kernel

/-! ## Faults and safe state -/

theorem meets_NewFaultIsAppliedAtItsSeverity :
    (sourceDef (0o0160 : BitVec 12).toNat).isSome = true ∧ blockOff 0o0160 running = false ∧ isUnacked 0o0160 running = false ∧
    (sourceDef (0o0221 : BitVec 12).toNat).isSome = true ∧
    (∀ v ∈ [0, 4, 5], ∃ src ∈ [(0o5200 : BitVec 12), 0o0160], (sourceDef src.toNat).isSome = true ∧
      appliedSeverity src ((sevEntry src.toNat { running with flt := { running.flt with
        sev := [(0o0160, Trip.of (BitVec.ofNat 4 v))] } }).vote.toNat % 8) 0 = v) := by decide +kernel

theorem meets_RepeatedFaultOnlyCounts :
    ((sourceDef (0o0160 : BitVec 12).toNat).isSome = true ∧ blockOff 0o0160 (faulted 0o0160 1 5) = false ∧
      isUnacked 0o0160 (faulted 0o0160 1 5) = true ∧ (∀ u ∈ (faulted 0o0160 1 5).flt.unacked, u.source = 0o0160 → u.severity ≠ 5)) ∧
    (∃ u ∈ (faulted 0o0160 5 5).flt.unacked, u.source = 0o0160 ∧ u.severity = 5) ∧
    ({ faulted 0o0160 5 5 with aon := { running.aon with safeActive := true } }).aon.safeActive = true := by decide +kernel

/-- The running device in safe state or not. -/
def safe (active : Bool) : State := { running with aon := { running.aon with safeActive := active } }

theorem meets_SafeAndLogCommands :
    (∃ c u, Taken 0o1101 anyVariant needsAuth (authed false [0o110140, 1] running) c u ∧ c.seq = 1) ∧
    (∃ c u, Taken 0o1102 anyVariant needsAuth (authed false [0o110240, 1, 1] (safe true)) c u ∧ u.aon.safeActive = true ∧ bitOf (c.p 1) 0 = true) ∧
    (∃ c u, Taken 0o1102 anyVariant needsAuth (authed false [0o110240, 1, 0] (safe false)) c u ∧ u.aon.safeActive = false ∧
      isUnacked 0o5200 u = false) ∧
    (∃ c u, Taken 0o1103 anyVariant needsAuth (authed false [0o110340, 1] (safe true)) c u ∧ u.aon.safeActive = true ∧ fiveAsserted u = false ∧
      cmdCode c.word0 = 0o1103 ∧ u.flt.releaseBroken = false) ∧
    (∃ c u, Taken 0o1103 anyVariant needsAuth (authed false [0o110340, 1] (safe false)) c u ∧ u.aon.safeActive = false ∧ cmdCode c.word0 = 0o1103) ∧
    (∃ c u, Taken 0o1104 anyVariant needsAuth (authed false [0o110440, 1, 10, 15, 1440, 0] running) c u ∧ c.p 1 = 10 ∧ c.p 2 = 15 ∧
      c.p 3 = 1440 ∧ bitOf (c.p 4) 0 = false) ∧
    (∃ c u, Taken 0o1104 anyVariant needsAuth (authed false [0o110440, 1, 60000, 1, 1, 0] running) c u ∧ c.p 1 = 60000 ∧ c.p 2 = 1 ∧
      c.p 3 = 1 ∧ bitOf (c.p 4) 0 = false) ∧
    (∃ c u, Taken 0o1104 anyVariant needsAuth (authed false [0o110440, 1, 60000, 1, 1, 1]
        { stored with cfg := { stored.cfg with live := [⟨384, 5, [0, 2000, 3, 60]⟩], signed := [⟨384, 5, [0, 2000, 3, 60]⟩] } }) c u ∧
      checkSetQuiet c u = 0 ∧ bitOf (c.p 4) 0 = true) ∧
    (∃ c u, Taken 0o1401 anyVariant noAuth (sent [0o140100, 1]) c u ∧ c.seq = 1) ∧
    (∃ c u, Taken 0o1402 anyVariant noAuth (sent [0o140200, 1, 4095, 125]) c u ∧ c.p 1 = 4095 ∧ c.p 2 = 125) :=
  ⟨taken_of_authed, taken_of_authed, taken_of_authed, taken_of_authed, taken_of_authed, taken_of_authed, taken_of_authed, taken_of_authed,
    taken_of_meets, taken_of_meets⟩

theorem meets_MonitorsRaiseTheirSources :
    (let s := { safe true with flt := { running.flt with quietFrom := 0x1000000 - 96000 } }
     atBlock s = true ∧ quietPassed s = true) ∧
    (isUnacked 0o5201 running = false ∧ blockOff 0o5201 running = false ∧ 5 ≤ (sevEntry 0o5201 running).vote.toNat % 8) ∧
    (let s := { running with zon := { running.zon with hbLost := false, hbTick := 0x1000000 - 48000 } }
     s.boot.phase = .running ∧ awake s = true ∧ atBlock s = true ∧ s.zon.hbLost = false ∧ hbTimeout s ≤ since s.zon.hbTick s) ∧
    (120000 ≤ since running.mem.stashPass running ∧ 14400 ≤ since running.mem.cellPass running ∧ 4800 ≤ since running.sw.lastAudit running) ∧
    ((sending 1000).boot.started = true ∧ eventFits (List.replicate 14 0) (sending 1000) = false) := by decide +kernel

/-! ## Routing, zones and processing -/

/-- A state with zone 3 configured. -/
def zoned (s : State) : State := { s with zon := { s.zon with zones := [{ num := 3, inst := 0, prot := false }] } }

/-- A packet on the running device with zone 3 configured. -/
def zoneSent (ws : List Word) : State := zoned (sent ws)

theorem meets_RouteAndZoneCommands :
    (∃ c u, Taken 0o0401 anyVariant (fun c s => destProtected (c.p 2) s) (sent [0o040100, 1, 5, 7, 0, 63]) c u ∧
      numberOk (c.p 1) = true ∧ numberOk (c.p 2) = true ∧ (sent [0o040100, 1, 5, 7, 0, 63]).cfg.unconfigured = false ∧ c.p 4 = 63 ∧
      gainOk (signedField (c.p 3) 18) = true ∧ cmdCode c.word0 = 0o0401) ∧
    (∃ c u, Taken 0o0402 anyVariant (fun c s => destProtected (c.p 1) s) (sent [0o040200, 1, 7, 1]) c u ∧
      numberOk (c.p 1) = true ∧ numberOk (c.p 2) = true) ∧
    (∃ c u, Taken 0o0403 anyVariant clearNeedsAuth (sent [0o040300, 1, 0, 0]) c u ∧ c.p 1 = 0 ∧ bitOf (c.p 2) 16 = false ∧
      cmdCode c.word0 = 0o0403) ∧
    (∃ c u, Taken 0o0403 anyVariant clearNeedsAuth (sent [0o040300, 1, 192, 0]) c u ∧ c.p 1 ≤ 192 ∧ bitOf (c.p 2) 16 = false) ∧
    (∃ c u, Taken 0o0501 anyVariant zoneNeedsAuth (zoneSent [0o050100, 1, 3, 8195]) c u ∧ cmdCode c.word0 = 0o0501 ∧
      ∃ z ∈ (zoneSent [0o050100, 1, 3, 8195]).zon.zones, z.num = c.p 1 ∧ z.num < 64) ∧
    (∃ c u, Taken 0o0501 anyVariant zoneNeedsAuth (zoneSent [0o050100, 1, 64, 3]) c u ∧ c.p 1 = 64) ∧
    (∃ c u, Taken 0o0502 anyVariant zoneNeedsAuth (zoneSent [0o050200, 1, 3]) c u ∧ cmdCode c.word0 = 0o0502 ∧
      ∃ z ∈ (zoneSent [0o050200, 1, 3]).zon.zones, z.num = c.p 1 ∧ z.num < 64) ∧
    (∃ c u, Taken 0o0502 anyVariant zoneNeedsAuth (zoneSent [0o050200, 1, 64]) c u ∧ c.p 1 = 64) ∧
    (∃ c u, Taken 0o0504 anyVariant zoneNeedsAuth (zoneSent [0o050400, 1, 3, 1]) c u ∧ cmdCode c.word0 = 0o0504 ∧
      ∃ z ∈ (zoneSent [0o050400, 1, 3, 1]).zon.zones, z.num = c.p 1 ∧ z.num < 64) ∧
    (∃ c u, Taken 0o0504 anyVariant zoneNeedsAuth (zoneSent [0o050400, 1, 64, 0]) c u ∧ c.p 1 = 64) ∧
    (∃ c u, Taken 0o0503 anyVariant noAuth (zoneSent [0o050300, 1, 3]) c u ∧ ∃ z ∈ (zoneSent [0o050300, 1, 3]).zon.zones,
      z.num = c.p 1 ∧ z.num < 64 ∧ ∀ y ∈ (zoneSent [0o050300, 1, 3]).zon.zones, y.num = z.num → y = z) :=
  ⟨taken_of_meets, taken_of_meets, taken_of_meets, taken_of_meets, taken_of_meets, taken_of_meets, taken_of_meets, taken_of_meets,
    taken_of_meets, taken_of_meets, taken_of_meets⟩

theorem meets_ProcessingCommands :
    (∃ c u, Taken 0o0601 (fun c => eqModeIs 0 c || eqModeIs 3 c) noAuth (sent [0o060100, 1, 7, 2, 0, 100]) c u ∧ eqMode c = 0 ∧
      checkSetEq c u = 0 ∧ cmdCode c.word0 = 0o0601 ∧ eqPersist c = false ∧ eqMode c ≠ 1 ∧ (eqCoefs c).isSome = true) ∧
    (∃ c u, Taken 0o0601 (eqModeIs 1) noAuth (sent [0o060100, 1, 7, 16]) c u ∧ checkSetEq c u = 0 ∧ cmdCode c.word0 = 0o0601 ∧
      eqPersist c = false ∧ eqMode c = 1) ∧
    (∃ c u, Taken 0o0601 (eqModeIs 2) noAuth (sent [0o060100, 1, 7, 32, 65536, 0, 0, 0, 0, 0]) c u ∧ checkSetEq c u = 0 ∧
      eqPersist c = false ∧ eqMode c ≠ 1 ∧ (eqCoefs c).isSome = true) ∧
    (∃ c u, Taken 0o0602 anyVariant noAuth (sent [0o060200, 1, 7, 0, 0, 0]) c u ∧ checkSetDelay c u = 0 ∧ cmdCode c.word0 = 0o0602 ∧
      bitOf (c.p 4) 17 = false) ∧
    (∃ c u, Taken 0o0605 anyVariant noAuth (sent [0o060500, 1, 7, 2, 0]) c u ∧ checkDelayFormat c u = 0 ∧ cmdCode c.word0 = 0o0605 ∧
      bitOf (c.p 3) 17 = false) ∧
    (∃ c u, Taken 0o0603 anyVariant noAuth (sent [0o060300, 1, 7, 0, 0]) c u ∧ checkSetDynamics c u = 0 ∧ cmdCode c.word0 = 0o0603 ∧
      bitOf (c.p 3) 1 = false) ∧
    (∃ c u, Taken 0o0604 anyVariant noAuth (sent [0o060400, 1, 65536 + 68, 125]) c u ∧ meterKind c = 1 ∧ c.p 2 = 125 ∧ 1 ≤ c.p 1 % 256 ∧
      c.p 1 % 256 + c.p 2 = 193 ∧ (sent [0o060400, 1, 65536 + 68, 125]).cfg.unconfigured = false) ∧
    (∃ c u, Taken 0o0604 anyVariant noAuth (sent [0o060400, 1, 1, 1]) c u ∧ meterKind c = 0 ∧ c.p 2 = 1 ∧ c.p 1 % 256 = 1) :=
  ⟨taken_of_meets, taken_of_meets, taken_of_meets, taken_of_meets, taken_of_meets, taken_of_meets, taken_of_meets, taken_of_meets⟩

theorem meets_BlockBoundaryRuns :
    (blockDue running = true ∧ running.pwr.entry = .none) ∧
    (let s := { running with boot := { running.boot with phase := .starting } }
     s.boot.phase ≠ .running ∧ blockBegins s = true ∧ s.boot.wdArmed = true) ∧
    ({ running.clk with lastBlock := some 0x1000000 }).lastBlock = some running.clk.tick := by decide +kernel

/-! ## Switch core, streams and TDM -/

/-- A packet of n bytes for these egresses. -/
def packet (cls : CellClass) (dest : BitVec 18) (n : Nat) : IngressPacket :=
  { src := 0, dest := dest, cls := cls, interval := 0, addr := 1, ep := 1, dirIn := false, ctx := none, block := 0, frames := 1, ss := false
    payload := List.replicate n 0 }

/-- The running device with that cell at the head of the ISO queue of egress 3. -/
def queued (refs : Nat) : State := { running with sw := { running.sw with cells := [(5, cell refs)], queues := listSet running.sw.queues 9 [5] } }

/-- The running device with link k held, and down since this tick with this hold time. -/
def linked (k : Fin 5) (down : Option (Tick × Nat)) : State := { running with sw := { running.sw with
  links := listSet running.sw.links k.val { hold := true, holdMs := 50, state := .u0, down := down } } }

theorem meets_SwitchCore :
    (∀ cls ∈ [CellClass.iso, .ctrl, .bulk], (packet cls 0x2EFFF 1024).payload.length ≤ 1024 ∧ (packet cls 0x2EFFF 1024).dest ≠ 0 ∧
      running.sw.waiting = [] ∧ isLate (packet cls 0x2EFFF 1024) running = false ∧ admits (packet cls 0x2EFFF 1024) running = true ∧
      admits (packet cls 0x2EFFF 1024) (crowded running) = false ∧
      (packet cls 0x2EFFF 1024).src.val ≤ 11 ∧ running.sw.queues.length = 54 ∧ bitOf (packet cls 0x2EFFF 1024).dest.toNat 12 = false ∧
      ∀ e ∈ egresses (packet cls 0x2EFFF 1024).dest, (queueOf e (classCode cls) running).length + cellCount 1024 ≤ depthOf cls) ∧
    isLate (packet .iso 0x1000 1) running = true ∧
    (1024 < (packet .iso 1 1025).payload.length ∧ (packet .iso 0 1).dest = 0) ∧
    (∀ n ∈ [1, 2], (queued n).sw.queues.length = 54 ∧ readGrant 8 (queued n) = some (0, 3) ∧ queueOf 3 0 (queued n) = 5 :: [] ∧
      cellAt 5 (queued n) = some (cell n) ∧ (cell n).bad = false ∧ (cell n).refBad = false ∧ (∀ x ∈ (queued n).sw.errs, x.1 / 8 ≠ 5) ∧
      (cell n).ctx = none ∧ (queued n).sw.waiting = []) ∧
    (∃ c u, Taken 0o0306 anyVariant noAuth (sent [0o030600, 1, 4, 1, 50]) c u ∧ c.p 1 = 4 ∧ c.p 2 = 1 ∧ c.p 3 = 50) ∧
    (∃ c u, Taken 0o0306 anyVariant noAuth (sent [0o030600, 1, 0, 0, 0]) c u ∧ c.p 1 = 0 ∧ c.p 2 = 0 ∧ c.p 3 = 0) ∧
    (∀ k : Fin 5, (linked k none).sw.links.length = 5 ∧ (linked k none).sw.queues.length = 54 ∧ linkState k.val (linked k none) = .u0 ∧
      ((linked k none).sw.links.getD k.val {}).hold = true ∧ ((linked k none).sw.links.getD k.val {}).down = none ∧
      ((linked k (some (0x1000000 - 2400, 50))).sw.links.getD k.val {}).down = some (0x1000000 - 2400, 50)) ∧
    since (0x1000000 - 2400) running = 50 * 48 := by
  refine ⟨by decide +kernel, by decide +kernel, by decide +kernel, by decide +kernel, taken_of_meets, taken_of_meets, by decide +kernel,
    by decide +kernel⟩

/-- The running device with an input of TDM port p in its stream formats and a frame with counter 4 seen last. -/
def tdmReady (p : Nat) : State := { running with
  cfg := { running.cfg with live := [⟨576, 5, [1, 0o100001, 0o000003, BitVec.ofNat 18 p, 0]⟩] }
  own := { running.own with tdm := List.replicate 2 { checkIn := some 0, lastCtr := some 4 } } }

/-- An untagged IN stream of two channels on port 5. -/
def micIn : Stream :=
  { port := 4, hubPort := 0, addr := 9, iface := 1, ep := 2, alt := 1, entry := 0, dirOut := false, ch := 2, first := 1, res := 16, interval := 1
    maxPacket := 24, fullSpeed := false, ctx := none, tagEntry := false, speed := .hs, running := true, begun := false, fifo := []
    fifoTick := 0, got := [] }

/-- An owned port 5 with the console and that stream. -/
def streamed : State := { consoled false false false with own := { (consoled false false false).own with streams := [micIn] } }

theorem meets_StreamsAndTdmFrames :
    (running.clk.rootLocked = true ∧ awake running = true ∧ running.boot.phase = .running ∧ running.win.posted = []) ∧
    (∀ p : Fin 2, ∃ u, (tdmReady p.val).own.tdm.length = 2 ∧ (tdmReady p.val).boot.phase = .running ∧ awake (tdmReady p.val) = true ∧
      tdmEntries p.val 0 (tdmReady p.val) ≠ [] ∧ u = (tdmReady p.val).own.tdm.getD p.val {} ∧ u.checkIn = some 0 ∧ u.lastCtr = some 4 ∧
      (∃ tr : BitVec 12, tr.toNat / 16 = tdmCrc (List.replicate 16 0) ∧ tr.toNat % 16 = (4 + u.since + 1) % 16) ∧
      ∃ tr : BitVec 12, tr.toNat / 16 ≠ tdmCrc (List.replicate 16 0) ∧ tr.toNat / 16 ≠ tdmCrc (List.replicate 16 0) ^^^ 0xFF) ∧
    (List.replicate 15 (0 : Word)).length ≠ 16 ∧
    (streamed.own.streams.find? (fun x => x.port == (4 : DownPort).val && x.addr == (9 : BitVec 7).toNat && x.iface == 1 && !x.dirOut) =
        some micIn ∧ streamRuns micIn streamed = true ∧ micIn.ctx = none ∧
      coreRoom .iso 5 dspDest (cellCount (6 * micIn.ch * subslotBytes micIn.res)) streamed = true ∧
      (queueOf 12 0 streamed).length + cellCount (6 * micIn.ch * subslotBytes micIn.res) ≤ 256 ∧ (0 : Nat) < micIn.perPacket ∧
      streamRuns micIn (crowded streamed) = true ∧
      coreRoom .iso 5 dspDest (cellCount (6 * micIn.ch * subslotBytes micIn.res)) (crowded streamed) = false) ∧
    (let s := withPort 4 (fun p => { p with powered := true }) running
     4 < s.ports.length ∧ situation false 4 s = .pass ∧ portLive 4 s = true) ∧
    (let s := withPort 4 (fun p => { p with usb2 := { p.usb2 with connection := true } }) running
     situation false 4 s = .pass ∧ (sideOf false (portOf 4 s)).connection = true) := by
  refine ⟨by decide +kernel, ?_, by decide, by decide +kernel, by decide +kernel, by decide +kernel⟩
  intro p
  refine ⟨_, ?_, ?_, ?_, ?_, rfl, ?_, ?_, ⟨BitVec.ofNat 12 (tdmCrc (List.replicate 16 0) * 16 + 5), ?_⟩,
    ⟨BitVec.ofNat 12 ((tdmCrc (List.replicate 16 0) ^^^ 1) * 16), ?_⟩⟩ <;> revert p <;> decide +kernel

/-! ## Messages -/

/-- A frame of one sample (R283), and its message at flash address 0. -/
def marl : List Byte := [0, 11, 0, 0, 0, 0, 0, 0, 0, 0xF1, 0xA8]

/-- Message 5 of one sample. -/
def message : Msg :=
  { lib := 3, number := 5, emergency := false, e := 0, pin := 0, samples := 1, frames := 1, addr := 0, bytes := 11, record := [], pubkey := []
    region := (0, 4096) }

/-- A state with message 5 loaded. -/
def told (s : State) : State := { s with
  mem := { s.mem with flash := cells 0 marl }
  msg := { s.msg with msgs := [message] } }

/-- A state with this voice on voice v. -/
def voiced (v : Nat) (x : Voice) (s : State) : State := { s with msg := { s.msg with voices := listSet s.msg.voices v (some x) } }

/-- A load of library 3 in progress. -/
def loading (s : State) : State := { s with msg := { s.msg with load := some { lib := 3, size := 960, offset := 65536, ranges := [] } } }

theorem meets_MessageCommands :
    (∃ c u, Taken 0o0701 anyVariant noAuth (told (sent [0o070100, 1, 8191, 62])) c u ∧ c.p 1 = 8191 ∧ c.p 2 = 62) ∧
    (∃ c u, Taken 0o0702 anyVariant noAuth (told (sent [0o070200, 1, 5, 31])) c u ∧ msgOf (c.p 1) (told (sent [0o070200, 1, 5, 31])) = some message ∧
      message.failed = false ∧ playVoice c (told (sent [0o070200, 1, 5, 31])) = some 0 ∧ c.p 2 % 32 = 31 ∧ cmdCode c.word0 = 0o0702 ∧
      msgOf (c.p 1) u = some message ∧ playVoice c u = some 0 ∧ 0 < u.msg.voices.length) ∧
    (∃ c u, Taken 0o0702 anyVariant noAuth (told (sent [0o070200, 1, 5, 15])) c u ∧ msgOf (c.p 1) u = some message ∧ playVoice c u = some 15 ∧
      15 < u.msg.voices.length) ∧
    (∃ c u, Taken 0o0703 anyVariant noAuth (sent [0o070300, 1, 31]) c u ∧ c.p 1 = 31 ∧ cmdCode c.word0 = 0o0703) ∧
    (∃ c u, Taken 0o0703 anyVariant noAuth (voiced 15 { msg := message } (sent [0o070300, 1, 15])) c u ∧ c.p 1 = 15 ∧
      voiceProtected (c.p 1) (voiced 15 { msg := message } (sent [0o070300, 1, 15])) = false ∧ cmdCode c.word0 = 0o0703 ∧
      voiceOf (c.p 1) u = some { msg := message }) ∧
    (∃ c u, Taken 0o0703 anyVariant noAuth (sent [0o070300, 1, 0]) c u ∧ c.p 1 = 0 ∧ cmdCode c.word0 = 0o0703 ∧ voiceOf (c.p 1) u = none) ∧
    (∃ c u, Taken 0o0704 anyVariant noAuth (told (sent [0o070400, 1, 5, 8])) c u ∧ longOf 7 (told (sent [0o070400, 1, 5, 8])) = none ∧
      msgOf (c.p 1) (told (sent [0o070400, 1, 5, 8])) = some message ∧ c.p 2 = 8 ∧ pinFits message (c.p 2) (told (sent [0o070400, 1, 5, 8])) = true) ∧
    (∃ c u, Taken 0o0704 anyVariant noAuth (told (sent [0o070400, 1, 5, 0])) c u ∧ c.p 2 = 0 ∧ msgOf (c.p 1) u = some message) ∧
    ({ running.msg with op := some (.pin 5 8 (0x1000000 - 96000)) }).op = some (.pin 5 8 (0x1000000 - 96000)) ∧
    96000 ≤ since (0x1000000 - 96000) running ∧
    (let s := told { running with msg := { running.msg with op := some (.pin 5 8 0x1000000) } }
     s.msg.op = some (.pin 5 8 0x1000000) ∧ msgOf 5 s = some message ∧ pinFramesGood message 8 s = true ∧ since 0x1000000 s < 96000) ∧
    (let s := loading { running with msg := { running.msg with op := some (.data 0 [1]) } }
     s.msg.op = some (.data 0 [1]) ∧ s.msg.load = some { lib := 3, size := 960, offset := 65536, ranges := [] }) ∧
    (MsgOp.abort ≠ .finish ∧ ∀ n secs st, MsgOp.abort ≠ .pin n secs st) ∧
    (∃ c u, Taken 0o0705 (fun c => opIs 0 c || decide (4 < c.p 1)) noAuth (sent [0o070500, 1, 0, 15, 960, 0]) c u ∧ c.p 1 = 0 ∧ c.p 2 = 15 ∧
      loadSize c = 960 ∧ u.msg.load = none ∧ longOf 7 u = none) ∧
    (freeRegion (roundRegion 960) (sent [0o070500, 1, 0, 15, 960, 0]) = some 65536 ∧
      (dirEntries (sent [0o070500, 1, 0, 15, 960, 0])).length < 254) ∧
    (∃ c u, Taken 0o0705 (opIs 1) noAuth (loading (sent ([0o070500, 1, 1, 480, 0, 480] ++ List.replicate 240 0))) c u ∧
      u.msg.load = some { lib := 3, size := 960, offset := 65536, ranges := [] } ∧ dataCount c = 480 ∧ dataOffset c + dataCount c = 960 ∧
      wasWritten [] (dataOffset c) (dataCount c) = false) ∧
    (∃ c u, Taken 0o0705 (opIs 2) noAuth (loading (sent [0o070500, 1, 2])) c u ∧ u.msg.load = some { lib := 3, size := 960, offset := 65536, ranges := [] } ∧
      longOf 7 u = none) ∧
    (∃ c u, Taken 0o0705 (opIs 3) noAuth (withPacket .s [0o070500, 1, 3, 3] stored) c u ∧ c.p 2 = 3 ∧ longOf 7 u = none) ∧
    (regionOf 4 3 (withPacket .s [0o070500, 1, 3, 3] stored)).isSome = true ∧
    (∃ c u, Taken 0o0705 (opIs 4) noAuth (loading (sent [0o070500, 1, 4])) c u ∧ u.msg.load = some { lib := 3, size := 960, offset := 65536, ranges := [] } ∧
      longOf 7 u = none) := by
  refine ⟨taken_of_meets, taken_of_meets, taken_of_meets, taken_of_meets, taken_of_meets, taken_of_meets, taken_of_meets, taken_of_meets,
    rfl, by decide +kernel, by decide +kernel, by decide +kernel, ⟨by simp, by simp⟩, taken_of_meets, by decide +kernel, taken_of_meets,
    taken_of_meets, taken_of_meets, ?_, taken_of_meets⟩
  rw [regionOf_flashOf regions_reads rfl]; rfl

/-- A message record with its library's key: signed over its own hash. -/
def record : List Byte := beBytes 32 0x050000000000000001000000010000000000000000000000e3b0c44298fc1c14 ++
    beBytes 32 0x9afbf4c8996fb92427ae41e4649b934ca495991b7852b855e7e591a18b058312 ++
    beBytes 32 0xc6e916a98a64d5297c47379147730200bac0655c3b674493e7e591a18b058312 ++
    beBytes 24 0xc6e916a98a64d5297c47379147730200bac0655c3b674493

/-- That library's key. -/
def libraryKey : List Byte := beBytes 32 0x4e494a4ac93140611fefc49d0997090eacdbd7a80ba1ac5abde9f791172d4ea5 ++
    beBytes 32 0x8bb5d5ef17ac41c828dc84b9a06594a0e7bbc3bcf6b836c260ab2e9ec8012eb2

/-- The message of that record. -/
def genuine (good : Bool) : Msg := { message with bytes := 0, record := if good then record else [], pubkey := libraryKey }

/-- The running device with that message to be verified. -/
def unheard (good : Bool) : State := { running with msg := { running.msg with msgs := [genuine good] } }

theorem meets_LibrariesAndVoices :
    (regionOf 4 (3 : Fin 16).val stored = some ⟨4, 3, 5046272, 65536⟩ ∧ fwRuns stored = true ∧ stored.msg.checked.contains 3 = false) ∧
    (∀ v : Fin 16, (voiced v.val { msg := message } running).msg.voices.length = 16 ∧
      voiceOf v.val (voiced v.val { msg := message } running) = some { msg := message } ∧ ({ msg := message } : Voice).started = false ∧
      atBlock (voiced v.val { msg := message } running) = true ∧ ({ msg := message } : Voice).holding = true ∧
      96000 ≤ since ({ msg := message, start := 0x1000000 - 96000 } : Voice).start running ∧
      voiceOf v.val (voiced v.val { msg := message, ending := some 1 } running) = some { msg := message, ending := some 1 } ∧
      ({ msg := message, ending := some 1 } : Voice).buffer = []) ∧
    (∀ v : Fin 16, voiceOf v.val (told (voiced v.val { msg := message, started := true } running)) = some { msg := message, started := true } ∧
      (told (voiced v.val { msg := message, started := true } running)).msg.cache = [] ∧
      ({ msg := message, started := true } : Voice).ending = none ∧
      (decodeFrame message 0 0 (payloadFrom message 0 (told (voiced v.val { msg := message, started := true } running)))).isSome = true ∧
      coreRoom .iso 15 dspDest (cellCount (payloadFrom message 0 (told (voiced v.val { msg := message, started := true } running))).length)
        (told (voiced v.val { msg := message, started := true } running)) = true ∧
      (queueOf 12 0 (told (voiced v.val { msg := message, started := true } running))).length +
        cellCount (payloadFrom message 0 (told (voiced v.val { msg := message, started := true } running))).length ≤ 256) ∧
    (decodeFrame message 0 0 (payloadFrom message 0 (voiced 0 { msg := message, started := true } running)) = none ∧
      coreRoom .iso 15 dspDest (cellCount (payloadFrom message 0 (voiced 0 { msg := message, started := true } running)).length)
        (voiced 0 { msg := message, started := true } running) = true) ∧
    (∀ good, fwRuns (unheard good) = true ∧ librariesChecked (unheard good) = true ∧ nextToVerify (unheard good) = some (5 : BitVec 13).toNat ∧
      msgOf (5 : BitVec 13).toNat (unheard good) = some (genuine good)) ∧
    messageGood (genuine true) (unheard true) = true ∧ messageGood (genuine false) (unheard false) = false := by
  refine ⟨⟨?_, by decide +kernel⟩, by decide +kernel, by decide +kernel, by decide +kernel, by decide +kernel, by decide +kernel,
    by decide +kernel⟩
  rw [regionOf_flashOf regions_reads rfl]; rfl
/-! ## Power states, levels and Pavane -/

/-- A running device with this power state entered. -/
def asleep (st : PowerState) : State := { running with pwr := { running.pwr with state := st } }

theorem meets_PowerCommands :
    (∃ c u, Taken 0o1001 anyVariant noAuth (sent [0o100100, 1]) c u ∧ c.seq = 1) ∧
    (∃ c u, Taken 0o1003 anyVariant noAuth (sent [0o100300, 1, 255]) c u ∧ c.p 1 = 255 ∧ entering (sent [0o100300, 1, 255]) = false) ∧
    (∃ c u, Taken 0o1002 (fun c => c.p 1 == 0 || decide (3 < c.p 1)) enterNeedsAuth (sent [0o100200, 1, 0, 0, 0]) c u ∧
      longOf 8 (sent [0o100200, 1, 0, 0, 0]) = none ∧ c.p 1 = 0 ∧ c.p 2 = 0 ∧ c.p 3 = 0) ∧
    (∃ c u, Taken 0o1002 (opIs 1) enterNeedsAuth (sent [0o100200, 1, 1, 0, 0]) c u ∧ longOf 8 (sent [0o100200, 1, 1, 0, 0]) = none ∧
      c.p 2 = 0 ∧ c.p 3 = 0) ∧
    ({ running.pwr with request := some .doze }.request = some .doze ∧ running.pav.run = none) ∧
    (∃ c u, Taken 0o1002 (opIs 2) enterNeedsAuth (authed false [0o100240, 1, 2, 60000, 1] running) c u ∧ longOf 8 u = none ∧ c.p 2 = 60000 ∧
      c.p 3 = 1 ∧ lowPowerBlocked u = false) ∧
    (let s := { running with pwr := { running.pwr with entry := .waitSleep 0x1000000 } }
     s.pwr.entry = .waitSleep 0x1000000 ∧ (0x1000000 : Tick).toNat ≤ s.clk.tick.toNat ∧ s.hub.suspended = false ∧ s.hub.connected = true) ∧
    (∀ m, ∃ c u, Taken 0o1002 (opIs 3) enterNeedsAuth (authed false [0o100240, 1, 3, 0, 0]
        { running with pwr := { running.pwr with moving := m } }) c u ∧ longOf 8 u = none ∧ c.p 2 = 0 ∧ c.p 3 = 0 ∧
      lowPowerBlocked u = false ∧ u.pwr.moving = m) := by
  refine ⟨taken_of_meets, taken_of_meets, taken_of_meets, taken_of_meets, by decide +kernel, taken_of_authed, by decide +kernel, ?_⟩
  intro m
  cases m <;> exact taken_of_authed

theorem meets_SleepWakeAndLevels :
    (let s := { running with pwr := { running.pwr with entry := .waitSleep 0 }, hub := { running.hub with suspended := true } }
     awake s = true ∧ s.pwr.entry = .waitSleep 0 ∧ atBlock s = true ∧ s.hub.suspended = true ∧ s.pwr.moving = false) ∧
    (let s := { running with pwr := { running.pwr with entry := .sleeping 0 } }
     awake s = true ∧ s.pwr.entry = .sleeping 0 ∧ s.aon.safeActive = false ∧ zoneRaised s = false) ∧
    ((asleep .sleep).pwr.state = .sleep ∧ (asleep .hibernate).pwr.state = .hibernate ∧ (0 : Fin 8).val ≠ 4 ∧ (0 : Fin 8).val ≠ 5) ∧
    (∀ k : Fin 8, ∀ b : Bool, bitOf (asleepTime 3 (fresh { asleep .sleep with aon := { running.aon with wakeEn := if b then 0xFF else 0 } })).aon.wakeEn.toNat
      k.val = b) ∧ entering (asleep .sleep) = false ∧
    ((0o5201 : BitVec 12).toNat / 512 = 5 ∧ (sourceDef (0o5201 : BitVec 12).toNat).isSome = true ∧
      1 ≤ (sevEntry (0o5201 : BitVec 12).toNat (asleepTime 3 (fresh (asleep .sleep)))).vote.toNat % 8 ∧ (asleep .sleep).win.posted = []) ∧
    (∀ st, { (asleep st).pwr with waking := true }.waking = true) ∧
    (∀ st ∈ [PowerState.sleep, .hibernate], ∃ s : State, s = { running with pwr := { running.pwr with reenter := some st, wokeBy := 0x80 } } ∧
      s.pwr.state = .run ∧ s.boot.phase = .running ∧ s.pav.run = none ∧ s.pwr.entry = .none ∧ s.pwr.wokeBy = 0x80 ∧
      lowPowerBlocked s = false ∧ s.pwr.reenter = some st) ∧
    (let s := { running with pwr := { running.pwr with moving := true, target := 3 } }
     s.pwr.moving = true ∧ atBlock s = true ∧ awake s = true ∧ (voutSteps s.pwr.vcore (levelVoltage s.pwr.target s)).length ≤ 2 ∧
     ∀ x ∈ (voutSteps s.pwr.vcore (levelVoltage s.pwr.target s)).zip ((voutSteps s.pwr.vcore (levelVoltage s.pwr.target s)).map (fun v => (⟨0, v⟩ : VoutResult))),
       x.2.failures = 0 ∧ 100 * (max x.2.settled x.1 - min x.2.settled x.1) ≤ 3 * x.1) := by
  refine ⟨by decide +kernel, by decide +kernel, by decide +kernel, by decide +kernel, by decide +kernel, by decide +kernel, fun _ => rfl, ?_,
    by decide +kernel⟩
  intro st h
  refine ⟨_, rfl, ?_⟩
  revert st
  decide +kernel

/-- The running device at 03:00:00 of its first day, with this power state. -/
def night (s : State) : State := { s with aon := { s.aon with rtcSec := 10800 } }

/-- A run of all steps with this step passed already. -/
def nightly (passed : Nat) (byCommand : Bool) : PavRun := ⟨0x1000000, 0o3777, byCommand, false, { passed := passed }, 0⟩

/-- A state with that run in progress. -/
def testing (s : State) : State := { s with pav := { s.pav with run := some (nightly 0 false) } }

/-- A report without findings. -/
def clean : StepReport :=
  { admitted := true, failed := [], skipped := 0, partner8 := 0, partner9 := 0, margins := [], ratios := [], badMessages := [] }

theorem meets_PavaneRunsAndTestCommands :
    ((night running).boot.phase = .running ∧ atBlock (night running) = true ∧ attemptDue (night running) = true ∧
      (night running).pav.run = none ∧ pavaneReady (night running) = true ∧ (night running).pav.resume = none) ∧
    (attemptDue (night (safe true)) = true ∧ pavaneReady (night (safe true)) = false) ∧
    ((testing running).pav.run = some (nightly 0 false) ∧ clean.admitted = true ∧ (nightly 0 false).levels = 0 ∧ clean.failed = [] ∧
      clean.badMessages = [] ∧ clean.skipped = 0 ∧ stepsLeft (nightly 0 false) = 0 :: 1 :: [2, 3, 4, 5, 6, 7, 8, 9, 10]) ∧
    (∀ reason ∈ [(0 : Fin 6), 1, 2, 3, 4, 5], ∃ s : State, s.pav.run.isSome = true ∧ atBlock s = true ∧ abortHolds reason.val s = true) ∧
    ({ running.pav with doneDue := true }.doneDue = true) ∧
    (let s := { running with pav := { running.pav with lastComplete := 0x1000000 - 24 * 3600 * 48000 } }
     s.boot.phase = .running ∧ 24 ≤ hoursSince s ∧ s.pav.overdueH < hoursSince s) ∧
    (∃ c u, Taken 0o1201 anyVariant noAuth (sent [0o120100, 1, 0]) c u ∧ longOf 10 (sent [0o120100, 1, 0]) = none ∧ c.p 1 = 0 ∧
      pavaneReady (sent [0o120100, 1, 0]) = true ∧ u.pav.run = none) ∧
    (∃ c u, Taken 0o1201 anyVariant noAuth (sent [0o120100, 1, 0o3777]) c u ∧ c.p 1 = 0o3777) ∧
    (∃ c u, Taken 0o1202 anyVariant noAuth (testing (sent [0o120200, 1])) c u ∧ u.pav.run.isSome = true) ∧
    (∃ c u, Taken 0o1203 anyVariant noAuth (sent [0o120300, 1]) c u ∧ c.seq = 1) ∧
    (∃ c u, Taken 0o1204 anyVariant noAuth (sent [0o120400, 1, 3]) c u ∧ c.p 1 = 3) := by
  refine ⟨by decide +kernel, by decide +kernel, by decide +kernel, ?_, rfl, by decide +kernel, taken_of_meets, taken_of_meets, taken_of_meets,
    taken_of_meets, taken_of_meets⟩
  intro r hr
  rcases List.mem_cons.mp hr with rfl | hr
  · exact ⟨testing { running with pav := { running.pav with trigger := true } }, by decide +kernel⟩
  rcases List.mem_cons.mp hr with rfl | hr
  · exact ⟨testing (voiced 0 { msg := message, started := true } running), by decide +kernel⟩
  rcases List.mem_cons.mp hr with rfl | hr
  · exact ⟨testing (safe true), by decide +kernel⟩
  rcases List.mem_cons.mp hr with rfl | hr
  · exact ⟨testing { running with pav := { running.pav with abortReq := true } }, by decide +kernel⟩
  rcases List.mem_cons.mp hr with rfl | hr
  · exact ⟨testing { running with pwr := { running.pwr with tp := 8 * 105 } }, by decide +kernel⟩
  rcases List.mem_cons.mp hr with rfl | hr
  · exact ⟨{ running with pav := { running.pav with run := some { nightly 0 false with start := 0x1000000 - 24 * 3600 * 48000 } } }, by decide +kernel⟩
  · cases hr
/-! ## Security -/

/-- The base point of P-256 as a host's ephemeral public key. -/
def basePoint : List Byte := beBytes 32 0x6b17d1f2e12c4247f8bce6e563a440f277037d812deb33a0f4a13945d898c296 ++
    beBytes 32 0x4fe342e2fe1a7f9b8ee7eb4a7c0f9e162bce33576b315ececbb6406837bf51f5

/-- A SEC.OPEN for HOST under the key of 32 bytes of 5, with its authentication (R111). -/
def opening : List Word := [0o130100, 1, 0] ++ pairWords basePoint ++ List.replicate 8 0 ++ pairWords (beBytes 16 0xf1e4ca1c8f1fcd594f3105a6e830061c)

/-- The running device with that key in its vault, and this packet. -/
def keyed (ws : List Word) : State := withPacket .s ws { running with sec := { running.sec with hak := some (List.replicate 32 5) } }

/-- A running device with 16 words of a key under a provisioning session. -/
def provisioned : List Word := List.replicate 16 0x0707

/-- The bytes that its host authenticates. -/
def openMessage : List Byte := beBytes 32 0x0200b040000001000000006b1700d1f200e12c00424700f8bc00e6e50063a400 ++
    beBytes 32 0x40f2007703007d81002deb0033a000f4a100394500d89800c296004fe30042e2 ++
    beBytes 32 0x00fe1a007f9b008ee700eb4a007c0f009e16002bce003357006b31005ece00cb ++
    beBytes 32 0xb60040680037bf0051f500000000000000000000000000000000000000000000 ++
    beBytes 2 0x0000

theorem hmac_openMessage : (hmac (List.replicate 32 5) openMessage).take 16 = beBytes 16 0xf1e4ca1c8f1fcd594f3105a6e830061c := by decide +kernel

theorem opening_authorised {c : Command} {s : State} (h1 : c.p 1 = 0) (h2 : c.words = opening) (h3 : c.box = .s)
    (hk : s.sec.hak = some (List.replicate 32 5)) : openAuthorised c s = true := by
  have ho : openScope c = false := by rw [openScope, h1]; rfl
  have hm : authMessage .s (opening.take 43) = openMessage := by decide +kernel
  unfold openAuthorised packetBytes
  rw [ho, hk, h2, h3]
  show (_ == (hmac (List.replicate 32 5) (authMessage .s (opening.take 43))).take 16) = true
  rw [hm, hmac_openMessage]
  decide +kernel

theorem hostKey_opening {c : Command} (h2 : c.words = opening) : (pointOf (hostKey c)).isSome = true := by
  unfold hostKey packetBytes; rw [h2]; decide +kernel

theorem taken_opening : ∃ c u, Taken 0o1301 anyVariant noAuth (keyed opening) c u ∧ c.p 1 = 0 ∧ c.words = opening ∧ c.box = .s :=
  taken_of_meets

theorem taken_actions : ∃ c u, Taken 0o1303 (opIs 1) needsAuth (authed true [0o130340, 1, 1, 2, 0, 1, 2] running) c u ∧
    u.sec.otp.exhausted = false ∧ inProvisioning c u = true ∧ (∀ w ∈ c.params.drop 1, w.toNat ≤ 2) ∧ longOf 11 u = none :=
  (taken_of_authed (P := fun c u => u.sec.otp.exhausted = false ∧ inProvisioning c u = true ∧
    (c.params.drop 1).all (fun w => decide (w.toNat ≤ 2)) = true ∧ longOf 11 u = none)).imp fun _ h => h.imp fun _ h =>
    ⟨h.1, h.2.1, h.2.2.1, fun w hw => of_decide_eq_true (List.all_eq_true.mp h.2.2.2.1 w hw), h.2.2.2.2⟩

theorem meets_SecurityCommands :
    (∃ c u, Taken 0o1301 anyVariant noAuth (keyed opening) c u ∧ (pointOf (hostKey c)).isSome = true ∧ (keyed opening).sec.hak.isSome = true ∧
      openAuthorised c (keyed opening) = true) ∧
    (∃ c u, Taken 0o1302 anyVariant needsAuth (authed false [0o130240, 1] running) c u ∧ c.seq = 1) ∧
    longOf 11 running = none ∧
    (∃ c u, Taken 0o1303 (fun c => opIs 0 c || decide (4 < c.p 1)) needsAuth (authed true ([0o130340, 1, 0] ++ provisioned) running) c u ∧
      c.p 1 = 0 ∧ u.sec.otp.exhausted = false ∧ inProvisioning c u = true ∧ longOf 11 u = none) ∧
    (∃ c u, Taken 0o1303 (opIs 1) needsAuth (authed true [0o130340, 1, 1, 2, 0, 1, 2] running) c u ∧ u.sec.otp.exhausted = false ∧
      inProvisioning c u = true ∧ (∀ w ∈ c.params.drop 1, w.toNat ≤ 2) ∧ longOf 11 u = none) ∧
    (∃ c u, Taken 0o1303 (opIs 2) needsAuth (authed true [0o130340, 1, 2, 64] running) c u ∧ u.sec.otp.exhausted = false ∧
      inProvisioning c u = true ∧ c.p 2 = 64 ∧ longOf 11 u = none) ∧
    (∃ c u, Taken 0o1303 (opIs 3) needsAuth (authed true ([0o130340, 1, 3, 3] ++ provisioned) running) c u ∧ inProvisioning c u = true ∧
      c.p 2 = 3 ∧ u.sec.otp.intHash.getD (c.p 2) none = none ∧ longOf 11 u = none) ∧
    (∃ c u, Taken 0o1303 (opIs 4) needsAuth (authed true [0o130340, 1, 4] running) c u ∧ inProvisioning c u = true ∧ longOf 11 u = none) ∧
    (∃ c u, Taken 0o1304 anyVariant needsAuth (authed false [0o130440, 1, 15] running) c u ∧ c.p 1 = 15 ∧
      (c.p 1 % 4) &&& (0 : BitVec 2).toNat = 0) ∧
    (∃ c u, Taken 0o1305 anyVariant needsAuth (authed false [0o130540, 1, 1] running) c u ∧ c.p 1 = 1) ∧
    (∃ c u, Taken 0o1305 anyVariant needsAuth (authed false [0o130540, 1, 2] running) c u ∧ c.p 1 = 2) :=
  ⟨taken_opening.imp fun _ h => h.imp fun _ h =>
    ⟨h.1, hostKey_opening h.2.2.1, rfl, opening_authorised h.2.1 h.2.2.1 h.2.2.2 rfl⟩, taken_of_authed, rfl, taken_of_authed, taken_actions, taken_of_authed, taken_of_authed, taken_of_authed, taken_of_authed,
    taken_of_authed, taken_of_authed⟩

/-- A debug tool's key and its response to the challenge below. -/
def debugTool : List Byte := beBytes 32 0x9ab9950ba2dc9050d3d933ed1ec818c166e4c616b82bd86b793a7f444846aca3 ++
    beBytes 32 0x0d5647d4db356ca1ff45123680e5a74619051d77624e533be2af80532cfe65f4

/-- That response's signature. -/
def response : List Byte := beBytes 32 0x5dfadd0e50910f561636c47335ecf8316251cbd85964eadb5c00103502edf177 ++
    beBytes 32 0x5dfadd0e50910f561636c47335ecf8316251cbd85964eadb5c00103502edf177

/-- The running device with a challenge for the vendor's scope made at this tick, and that key's hash in OTP. -/
def challenged (start : Tick) : State := { running with sec := { running.sec with
  challenge := some ⟨List.replicate 15 0 ++ [1], 2, start⟩
  otp := { running.sec.otp with die := 0, vendorHash := 0xfdbcb143f15fddd46c2f03ee80a037a991dce2491374665e063dbb0930e09988 } } }

theorem debugTool_key : sha256 debugTool = otpBytes 0xfdbcb143f15fddd46c2f03ee80a037a991dce2491374665e063dbb0930e09988 := by decide +kernel

theorem basePoint_key : sha256 basePoint ≠ otpBytes 0xfdbcb143f15fddd46c2f03ee80a037a991dce2491374665e063dbb0930e09988 := by decide +kernel

theorem response_good : ecdsaVerify debugTool (sha256 (debugMessage ⟨List.replicate 15 0 ++ [1], 2, 0x1000000⟩ (challenged 0x1000000)))
    (response.take 32) (response.drop 32) = true := by decide +kernel

theorem meets_SecurityEvents :
    (∀ b : Box, sessionOf b { running with sec := { running.sec with
        sessU := some { session false with counter := 262143 }, sessS := some { session false with counter := 262143 } } } =
      some { session false with counter := 262143 }) ∧
    (since 0x1000000 (challenged 0x1000000) < 2880000 ∧ debugKey debugTool 2 (challenged 0x1000000) = true ∧
      ecdsaVerify debugTool (sha256 (debugMessage ⟨List.replicate 15 0 ++ [1], 2, 0x1000000⟩ (challenged 0x1000000)))
        (response.take 32) (response.drop 32) = true) ∧
    2880000 ≤ since (0x1000000 - 2880000) (challenged (0x1000000 - 2880000)) ∧
    debugKey basePoint 2 (challenged 0x1000000) = false ∧
    ecdsaVerify debugTool [] [] [] = false ∧
    (bitOf ({ running.sec with tamperDue := 8 }).tamperDue.toNat (3 : Fin 4).val = true ∧
      (∀ k : Fin 4, ∀ a ∈ [0, 1, 2], ({ running.sec with actions := List.replicate 4 a }).actions.getD k.val 0 = a)) ∧
    (running.boot.fw = some ⟨0, 1, 1, 0⟩ ∧ running.boot.phase = .running ∧ (⟨0, 1, 1, 0⟩ : FwInfo).source ≠ 2 ∧
      running.sec.otp.antiroll < (⟨0, 1, 1, 0⟩ : FwInfo).rollback ∧ running.cfg.active.isSome = true ∧ awake running = true ∧
      running.aon.safeActive = false ∧ 2880000 ≤ since running.sec.stableFrom running) := by
  refine ⟨?_, ⟨by decide +kernel, ?_, response_good⟩, by decide +kernel, ?_, by decide +kernel, by decide +kernel⟩
  · intro b; cases b <;> rfl
  · show (sha256 debugTool == _) = true
    rw [debugTool_key]; exact beq_self_eq_true _
  · show (sha256 basePoint == _) = false
    exact beq_false_of_ne basePoint_key
/-! ## Flex ports -/

/-- A state with flex port n so. -/
def flexed (n : Nat) (f : Flex) (s : State) : State := { s with flex := listModify s.flex n (fun _ => f) }

/-- A Source with a contract of 5 V, 3 A, whose partner speaks revision 3. -/
def source : Flex :=
  { role := .source, cc := .rp, pd := true, spoken := true, contract := some ⟨5, 300, false⟩, offered := [(5, 300)], capsCount := 1
    gate5 := .full }

theorem meets_PdCommands :
    (∃ c u, Taken 0o1501 anyVariant noAuth (sent [0o150100, 1, 4]) c u ∧ u.flex.length = 4 ∧ c.p 1 = 4 ∧ fitted (c.p 1 - 1) u = true) ∧
    (∃ c u, Taken 0o1502 anyVariant noAuth (sent [0o150200, 1, 1, 450, 0]) c u ∧ c.p 1 = 1 ∧ c.p 2 = 450 ∧ bitOf (c.p 3) 0 = false) ∧
    (∃ c u, Taken 0o1503 anyVariant noAuth (flexed 0 source (sent [0o150300, 1, 1, 1])) c u ∧ longOf 13 u = none ∧ c.p 1 = 1 ∧ c.p 2 = 1 ∧
      (flexAt (c.p 1 - 1) u).contract = some ⟨5, 300, false⟩ ∧ (flexAt (c.p 1 - 1) u).trans = none ∧
      (flexAt (c.p 1 - 1) u).vconn ≠ (c.p 2 == 1) ∧ vconnPort (c.p 1 - 1) u = true ∧ (flexAt (c.p 1 - 1) u).vconnTrip = false) ∧
    (∃ c u, Taken 0o1503 anyVariant noAuth (flexed 3 { source with vconn := true } (sent [0o150300, 1, 4, 0])) c u ∧ c.p 1 = 4 ∧ c.p 2 = 0 ∧
      (flexAt (c.p 1 - 1) u).vconn ≠ (c.p 2 == 1)) ∧
    (∃ c u, Taken 0o1504 (fun c => c.p 2 != 0) noAuth (flexed 0 source (sent [0o150400, 1, 1, 1])) c u ∧ longOf 13 u = none ∧ c.p 2 = 1 ∧
      (flexAt (c.p 1 - 1) u).role = .source ∧ (flexAt (c.p 1 - 1) u).contract = some ⟨5, 300, false⟩ ∧ (flexAt (c.p 1 - 1) u).altMode = false) ∧
    (∃ c u, Taken 0o1504 (fun c => c.p 2 == 0) noAuth (flexed 0 source (sent [0o150400, 1, 1, 0])) c u ∧ longOf 13 u = none ∧
      (flexAt (c.p 1 - 1) u).role = .source ∧ (flexAt (c.p 1 - 1) u).contract = some ⟨5, 300, false⟩) ∧
    (∀ r ∈ [PdRole.source, .sinkB, .sinkRefused], ∃ c u, Taken 0o1505 anyVariant noAuth (flexed 0 { source with role := r } (sent [0o150500, 1, 1])) c u ∧
      longOf 13 u = none ∧ carriesFace (c.p 1 - 1) u = false ∧ (flexAt (c.p 1 - 1) u).role = r) := by
  refine ⟨taken_of_meets, taken_of_meets, taken_of_meets, taken_of_meets, taken_of_meets, taken_of_meets, ?_⟩
  intro r h
  rcases List.mem_cons.mp h with rfl | h
  · exact taken_of_meets
  rcases List.mem_cons.mp h with rfl | h
  · exact taken_of_meets
  rcases List.mem_cons.mp h with rfl | h
  · exact taken_of_meets
  · cases h

/-- The running device with flex port n unattached with this terminator, powered by the host's will, under a table of this role. -/
def open_ (n : Nat) (cc : CcState) (role : Nat) : State :=
  withPort n (fun p => { p with hostPower := true })
    (flexed n { cc := cc } { running with cfg := { running.cfg with live := [⟨320, 5, BitVec.ofNat 18 4 :: List.replicate 4 (BitVec.ofNat 18 role)⟩] } })

theorem meets_TypeCAttachAndDetach :
    (∀ n : FlexPort, ∀ cc ∈ [CcState.rp, .rd], ∀ role ∈ [0, 1], (open_ n.val cc role).flex.length = 4 ∧ flexRuns (open_ n.val cc role) = true ∧
      ccAllowed n.val (open_ n.val cc role) = true ∧ (flexAt n.val (open_ n.val cc role)).role = .unattached ∧
      (flexAt n.val (open_ n.val cc role)).cc = cc ∧ flexRole n.val (open_ n.val cc role) = role ∧ flexRole n.val (open_ n.val cc role) ≠ 2 ∧
      trying n.val (open_ n.val cc role) = false ∧ triesSource n.val (open_ n.val cc role) = false) ∧
    (let s := { open_ 0 .rd 1 with cfg := { running.cfg with live := [⟨320, 5, [7, 1, 1, 1, 1, 0, 0, 1]⟩] } }
     triesSource 0 s = true ∧ flexRole 0 s = 1 ∧ ccAllowed 0 s = true) ∧
    (∀ n : FlexPort, ∀ r ∈ [PdRole.source, .accessory, .sinkB, .sinkRefused], flexRuns (flexed n.val { source with role := r } running) = true ∧
      (flexAt n.val (flexed n.val { source with role := r } running)).role = r ∧
      inTransition (flexAt n.val (flexed n.val { source with role := r } running)) = false ∧
      (flexAt n.val (flexed n.val { source with role := r } running)).removed = none ∧
      carriesFace n.val (flexed n.val { source with role := r } running) = false) ∧
    (∀ n : FlexPort, inTransition (flexAt n.val (flexed n.val { source with trans := some ⟨⟨9, 300, false⟩, 0, true, false, none⟩ } running)) = true) := by
  decide +kernel

theorem meets_ContractsAreNegotiated :
    (∀ n : FlexPort, ∀ t ∈ [none, some (⟨⟨9, 300, false⟩, 0, false, false, none⟩ : Trans)],
      let s := flexed n.val { source with trans := t } running
      s.flex.length = 4 ∧ flexRuns s = true ∧ heard n.val s = true ∧ (flexAt n.val s).role = .source ∧ (flexAt n.val s).hardFrom = none ∧
      (flexAt n.val s).offered ≠ [] ∧ (flexAt n.val s).trans = t ∧
      acceptable (flexAt n.val s) ⟨1, 300, 300, false, false⟩ = some 5 ∧ acceptable (flexAt n.val s) ⟨1, 301, 300, false, false⟩ = none ∧
      acceptable (flexAt n.val s) ⟨2, 300, 300, false, false⟩ = none ∧ acceptable (flexAt n.val s) ⟨0, 300, 300, false, false⟩ = none) ∧
    (∀ t ∈ [(⟨⟨5, 100, false⟩, 0, false, true, none⟩ : Trans), ⟨⟨9, 300, false⟩, 0, true, false, some 100⟩],
      (t.same = true ∨ (t.hand = some 100 ∧ 100 ≤ 100)) ∧ (flexAt 0 (flexed 0 { source with trans := some t } running)).trans = some t ∧
      (flexAt 0 (flexed 0 { source with trans := some t } running)).removed = none) ∧
    (let s := flexed 0 { source with contract := none, capsCount := 49 } running
     (flexAt 0 s).role = .source ∧ (flexAt 0 s).ramp = none ∧ (flexAt 0 s).gate5 = .full ∧ (flexAt 0 s).contract = none ∧
      (flexAt 0 s).trans = none ∧ (flexAt 0 s).awaiting = false ∧ (flexAt 0 s).hardFrom = none ∧ (flexAt 0 s).capsCount < 50) ∧
    (∀ n : FlexPort, awake (flexed n.val source running) = true ∧ renegotiates n.val (flexed n.val source running) = true) ∧
    (∀ h ∈ [1, 2], (flexAt 3 (flexed 3 { source with awaiting := true, hardResets := h } running)).role = .source ∧
      (flexAt 3 (flexed 3 { source with awaiting := true, hardResets := h } running)).awaiting = true ∧
      (flexAt 3 (flexed 3 { source with awaiting := true, hardResets := h } running)).hardResets = h) := by
  decide +kernel

theorem meets_PdMessagesAndLoop :
    (∀ n : FlexPort, let s := flexed n.val { source with vconn := true, discover := true } running
      heard n.val s = true ∧ s.pwr.state ≠ .sleep ∧ s.pwr.state ≠ .hibernate ∧ (flexAt n.val s).trans = none ∧ (flexAt n.val s).swap = none ∧
      (flexAt n.val s).vconn = true ∧ (flexAt n.val s).role = .source ∧ (flexAt n.val s).rev3 = true ∧ (flexAt n.val s).spoken = true ∧
      (flexAt n.val s).hardFrom = none ∧ awake s = true ∧ (flexAt n.val s).contract = some ⟨5, 300, false⟩ ∧ (flexAt n.val s).discover = true) ∧
    (∀ n : FlexPort, heard n.val (flexed n.val source (asleep .sleep)) = true ∧ (asleep .sleep).pwr.state = .sleep) ∧
    (let s := flexed 3 { source with role := .sinkB } (withB id)
     upstreamB s = some 3 ∧ heard 3 s = true ∧ (flexAt 3 s).role = .sinkB ∧ (flexAt 3 s).role ≠ .source ∧ s.pwr.state ≠ .sleep) ∧
    (∀ n : FlexPort, ∀ b : Bool, let s := flexed n.val { source with altMode := true, loop := true, faultRet := b } running
      flexRuns s = true ∧ (flexAt n.val s).altMode = true ∧ (flexAt n.val s).loop = true ∧ (flexAt n.val s).faultRet = b) := by
  decide +kernel

/-- A set of readings with four of each kind, or three. -/
def readings (n : Nat) : AdcSet := { iA := List.replicate n 0, iB := List.replicate n 0, vbus := List.replicate n 5000, vsrc5 := 5000, vsrch := 0, vin := 0 }

theorem meets_PortFusing :
    (running.flex.length = 4 ∧ (readings 4).iA.length = 4 ∧ (readings 4).iB.length = 4 ∧ (readings 4).vbus.length = 4 ∧
      running.pwr.state ≠ .hibernate) ∧ (readings 3).iA.length ≠ 4 ∧
    (∀ n : FlexPort, ∀ k ∈ [1, 2], anyOn (flexAt n.val (flexed n.val { source with shorts := k } running)) (flexed n.val { source with shorts := k } running) = true ∧
      shortI n.val (flexed n.val { source with shorts := k } running) ≤ 8000 ∧
      (flexAt n.val (flexed n.val { source with shorts := k } running)).shorts = k) ∧
    (∀ n : FlexPort, (flexAt n.val (flexed n.val { backoff := some 0x1000000 } running)).backoff = some 0x1000000 ∧
      cooled n.val (flexed n.val { backoff := some 0x1000000 } running) = true) ∧
    (∀ n : FlexPort, (flexAt n.val (flexed n.val { latched := true, absent := 3 } running)).latched = true ∧
      3 ≤ (flexAt n.val (flexed n.val { latched := true, absent := 3 } running)).absent) ∧
    (∀ n : FlexPort, (flexAt n.val (flexed n.val { source with steadyFrom := some (0x1000000 - 60 * 48000) } running)).steadyFrom =
        some (0x1000000 - 60 * 48000) ∧
      efuseParam n.val 15 (flexed n.val { source with steadyFrom := some (0x1000000 - 60 * 48000) } running) * 48000 ≤
        since (0x1000000 - 60 * 48000) running) ∧
    (let s := { running with cfg := { running.cfg with live := [⟨0, 5, [4, 0, 0, 0, 100]⟩] } }
     (99 : BitVec 12).toNat < pfailTh s ∧ s.pwr.state ≠ .hibernate ∧ s.rails.pfail = false) ∧
    (let s := { running with cfg := { running.cfg with live := [⟨0, 5, [4, 0, 0, 0, 100]⟩] }, rails := { running.rails with pfail := true, vin := 169 } }
     s.rails.pfail = true ∧ s.pwr.state ≠ .hibernate ∧ 1200 * pfailTh s + 20 * 4096 < 1200 * s.rails.vin) ∧ pfailTh running = 0 := by
  decide +kernel

/-! ## Output balls -/

theorem meets_OutputBallsFollowPowerAndReset :
    ((2649 : Nat) < 2650 ∧ (2000 : Nat) ≤ 2000) ∧
    (∃ c u, Taken 0o1002 (opIs 3) enterNeedsAuth (authed false [0o100240, 1, 3, 0, 0] running) c u ∧ longOf 8 u = none ∧ c.p 2 = 0 ∧
      c.p 3 = 0 ∧ lowPowerBlocked u = false ∧ u.pwr.moving = false) ∧
    (let s := { running with boot := { running.boot with warmReq := [.fault] } }
     fwRuns s = true ∧ awake s = true ∧ s.boot.warmReq ≠ []) := by
  refine ⟨by decide, taken_of_authed, by decide +kernel⟩

/-! ## Ill-formed operands -/

theorem test_wf_tdm_slots : Instr.wellFormed (.tdmFrameIn 0 (List.replicate 15 0) 0) = false := by decide

theorem test_wf_mspi_cycles : Instr.wellFormed (.mspiFrameError (List.replicate 32 false)) = false := by decide

theorem test_wf_guarded_address : Instr.wellFormed (.guardedWrite .mspi 0o0200 0) = false := by decide

theorem test_wf_bulk_size : Instr.wellFormed (.bulkOutPacket (List.replicate 1025 0)) = false := by decide +kernel

theorem test_wf_block_temps : Instr.wellFormed (.blockBoundary
    { wake := 0, gpio := 0, temps := [0, 0, 0], pFix := 0, pLast := 0, tasksDone := true, missed := [], mismatch := 0, upsets := [], hsOc := 0
      released := [] }) = false := by decide

theorem test_wf_adc_currents : Instr.wellFormed (.adcSampleSet (readings 3)) = false := by decide

theorem test_wf_response_sizes : Instr.wellFormed (.dbgResp (List.replicate 63 0) (List.replicate 64 0)) = false := by decide +kernel

theorem test_wf_packet_size : Instr.wellFormed (.cellIngress [packet .iso 1 1025]) = false := by decide +kernel

theorem test_wf_packet_destination : Instr.wellFormed (.cellIngress [packet .iso 0 1]) = false := by decide

theorem test_wf_good : Instr.wellFormed (.cellIngress [packet .iso 1 1024]) = true ∧ Instr.wellFormed (.adcSampleSet (readings 4)) = true ∧
    Instr.wellFormed (.guardedWrite .mspi 0o0415 0) = true ∧ Instr.wellFormed .sysInfo = true := by decide +kernel

/-! ## Published values -/

/-- FIPS 180-4: the hash of "abc". -/
theorem test_sha256 : sha256 [0x61, 0x62, 0x63] =
    beBytes 32 0xba7816bf8f01cfea414140de5dae2223b00361a396177a9cb410ff61f20015ad := by decide +kernel

/-- The check value of CRC-32/ISO-HDLC. -/
theorem test_crc32 : crc32 [0x31, 0x32, 0x33, 0x34, 0x35, 0x36, 0x37, 0x38, 0x39] = 0xCBF43926 := by decide +kernel

/-! ## The manual's examples -/

/-- R7, R215. -/
theorem test_gain : gainCoef (-48) = 32846 ∧ gainCoef (-960) = 0 ∧ gainCoef 48 = 130762 ∧ gainCoef 0 = 65536 := by decide +kernel

/-- R218's example: three crosspoints. -/
theorem test_mix : sampleOf (100000 * 65536 + 60000 * 32846 + 5000 * 130762) = 131071 := by decide

/-- R229's example in Loam-5, packed and read back. -/
theorem test_loam5 : packRow 1 6 [5000, -6001, 8190, -8192, 17] = 0x620098003FFE88E9C4 ∧
    (List.range 5).map (rowSample 1 0x620098003FFE88E9C4) = [5000, -6002, 8190, -8192, 18] := by decide +kernel

/-- R229's example in Loam-6. -/
theorem test_loam6 : (List.range 6).map (rowSample 2 (packRow 2 0 [131071, 130000, -500, 64, -1, 0])) =
    [130944, 130048, -512, 128, 0, 0] := by decide +kernel

/-- The example under R259: a silent group on channel 3, its tag and the tag with the FAIL mark. -/
theorem test_tag : tagCounter 252 = 0x3F ∧ tagBits 3 0x3F [0, 0, 0, 0] = 0x3F3390 ∧ tagCrc 3 0x3F [0, 0, 0, 0] ^^^ 0xFFFF = 0xCC6F := by
  decide +kernel

/-- R283's example of Marl with E = 2. -/
theorem test_marl : marlSamples 4 2 4 0 0 (msbBits 24 0xD14821) = [100, 135, 170, 160] := by decide +kernel

/-- The curve example under R120. -/
theorem test_curve : evalCurve [0o014042, 0o777040, 0o000000, 0o777420, 0o000060, 0o777540, 0o000140, 0] (-199) = 73 := by decide +kernel

/-- R97's example: a SYS.HEARTBEAT packet in its containers. -/
theorem test_containers : containers [0xC0, 0x10, 0x30, 0x05, 0x00, 0x80] = ([0x3010C0, 0x800005], []) := by decide +kernel

/-- R154's example: 3 840 384 cycles in 128 microframes. -/
theorem test_feedback : feedbackOf 3840384 = 393255 := by decide +kernel

/-- R325's example of PDOs. -/
theorem test_pdos : pdoObject (5, 300) = 0x0401912C ∧ pdoObject (12, 166) = 0x0003C0A6 := by decide +kernel

/-- R85's example: the third write has severity 5 and FAULT_N enabled in its low bits and their complement above. -/
theorem test_guarded : (254989 : Word) = 0o762015 ∧ (254989 : Word).bits 17 9 = 511 - (254989 : Word).bits 8 0 := by decide

/-- No row gives bits, so no word spells a command. -/
theorem test_decode (n w : Nat) : decodeTableWord n w = none := rfl

end Sys2Proof.Tests
end

section
/-!
Family 21_reset_and_startup: what a taken command packet leaves alone, and from it the results of SYS.INFO (R448) and of
SYS.STATUS (R449).
-/

namespace Sys2Proof.Proofs

open Sys2Proof
open Sys2Proof.Machine
open Sys2Proof.Safety
open Sys2Proof.Laws

/-! ## What a taken packet leaves alone -/

@[simp] theorem setSession_otp (b : Box) (v : Option Session) (s : State) : (setSession b v s).sec.otp = s.sec.otp := by
  cases b <;> rfl

theorem acceptCounter_otp (c : Command) (s : State) : (acceptCounter c s).sec.otp = s.sec.otp := by
  unfold acceptCounter
  split
  · rfl
  · exact setSession_otp ..

theorem authCheck_otp (needs sec : Bool) (c : Command) (s : State) : (authCheck needs sec c s).2.sec.otp = s.sec.otp := by
  unfold authCheck
  split
  · split
    · exact acceptCounter_otp c s
    · rfl
  · rfl

@[simp] theorem records_setSubQueue (b b' : Box) (k : Nat) (q : SubQueue) (s : State) :
    records b' (setSubQueue b k q s) = records b' s := by
  cases b <;> cases b' <;> rfl

theorem records_congr {s t : State} (h : t.mbx = s.mbx) (b : Box) : records b t = records b s := by
  cases b <;> simp only [records, h]

/-- A clean packet raises no parity fault: taking it touches its sub-queue, the mailbox served last and the armed re-entry. -/
theorem takePacket_clean (b : Box) (k : Nat) {p : Packet} (s : State) (h : p.words.any MbxWord.poisoned = false) :
    Frame [.mbx, .pwr] s (takePacket b k p s) ∧ ∀ b', records b' (takePacket b k p s) = records b' s := by
  unfold takePacket
  rw [inboundParity_clean b p _ h]
  split
  all_goals
    constructor
    · intro g hg
      cases g <;> simp_all [same]
    · intro b'
      have hr := records_setSubQueue b b' k { subQueue b k s with packets := (subQueue b k s).packets.drop 1 } s
      cases b' <;> exact hr

section Taken

variable {code : Nat} {v : Command → Bool} {n : Command → State → Bool} {s u : State} {c : Command}

/-- A taken command comes from a clean packet, and `u` is the state that its accepted authentication leaves. -/
theorem Taken_inv (h : Taken code v n s c u) : ∃ b k p needs sec, p.words.any MbxWord.poisoned = false ∧
    u = (authCheck needs sec c (takePacket b k p (fresh s))).2 := by
  obtain ⟨b, k, p, htakes, hauth⟩ := h
  obtain ⟨-, rfl, hclean, -⟩ := takesThis_spec htakes
  exact ⟨b, k, p, _, _, hclean, (congrArg Prod.snd hauth).symm⟩

theorem Frame_of_Taken (h : Taken code v n s c u) : Frame [.mbx, .pwr, .sec] (fresh s) u := by
  obtain ⟨b, k, p, needs, sec, hclean, rfl⟩ := Taken_inv h
  have hauth : Frame [.sec] (takePacket b k p (fresh s)) (authCheck needs sec c (takePacket b k p (fresh s))).2 := by
    intro g hg
    cases g <;> simp_all [same]
  exact Frame_trans (takePacket_clean b k (fresh s) hclean).1 hauth

theorem otp_of_Taken (h : Taken code v n s c u) : u.sec.otp = s.sec.otp := by
  obtain ⟨b, k, p, needs, sec, hclean, rfl⟩ := Taken_inv h
  have hsec := (takePacket_clean b k (fresh s) hclean).1 .sec (by decide)
  exact (authCheck_otp ..).trans (congrArg Security.otp hsec)

/-- R449: the command being executed has no completion record yet. -/
theorem records_of_Taken (h : Taken code v n s c u) (b : Box) : records b u = records b s := by
  obtain ⟨b', k, p, needs, sec, hclean, rfl⟩ := Taken_inv h
  have htake := (takePacket_clean b' k (fresh s) hclean).2 b
  have hmbx : (authCheck needs sec c (takePacket b' k p (fresh s))).2.mbx = (takePacket b' k p (fresh s)).mbx := by simp
  exact (records_congr hmbx b).trans htake

end Taken

theorem firstStatus_single_ok {a : Bool} (st : Nat) (h : a = false) : firstStatus [(a, st)] = stOk := by
  subst h; rfl

theorem firstStatus_single_bad {a : Bool} (st : Nat) (h : a = true) : firstStatus [(a, st)] = st := by
  subst h; rfl

/-! ## SYS.INFO -/

theorem bit_le_one (b : Bool) : bit b ≤ 1 := by cases b <;> decide

theorem strapWord_toNat (s : State) :
    (strapWord s).toNat = bit s.boot.straps.testEn * 4 + bit s.boot.straps.boot1 * 2 + bit s.boot.straps.boot0 := by
  have h2 := bit_le_one s.boot.straps.testEn
  have h1 := bit_le_one s.boot.straps.boot1
  have h0 := bit_le_one s.boot.straps.boot0
  simp only [strapWord, w18, BitVec.toNat_ofNat]
  omega

/-- The words of page 0 field by field, as R448 gives them: ID_STRAP's bits stand in the low three of the OTP word. -/
theorem infoPage_zero {s : State} {fw : FwInfo} (h : s.boot.fw = some fw) : infoPage 0 s =
    [1812, 0o020000, s.win.idFw] ++ wordsOf s.sec.otp.die.toNat 3 ++
      [w18 (s.sec.otp.antiroll % 64 * 8 + s.sec.otp.epoch % 8),
       w18 (bit s.sec.otp.exhausted * 16 + bit s.sec.otp.csigReq * 8 + bit s.boot.straps.testEn * 4
         + bit s.boot.straps.boot1 * 2 + bit s.boot.straps.boot0),
       w18 s.boot.causeAtStart.toNat, w18 (s.cfg.active.getD 3)] ++ wordsOf s.cfg.gen 2 ++
      [w18 (fw.rollback * 4096 + fw.source)] := by
  have hpart : w18 Config.part = 1812 := rfl
  simp only [infoPage, infoPage0, h, hpart, otpStatWord, strapWord_toNat, Option.getD_some, ← Nat.add_assoc]

/-- The pages read start-up, register window, configuration and OTP only, which a taken packet leaves alone. -/
theorem infoPage_of_Taken {code : Nat} {v : Command → Bool} {n : Command → State → Bool} {s u : State} {c : Command}
    (h : Taken code v n s c u) (page : Nat) : infoPage page u = infoPage page s := by
  have hframe := Frame_of_Taken h
  have hboot : u.boot = s.boot := hframe .boot (by decide)
  have hwin : u.win = s.win := hframe .win (by decide)
  have hcfg : u.cfg = s.cfg := hframe .cfg (by decide)
  simp only [infoPage, infoPage0, otpStatWord, strapWord, hboot, hwin, hcfg, otp_of_Taken h]

theorem readOtp_sound {s : State} (hagrees : s.sec.otp.agrees = true) (hwrong : s.sec.otp.wrong = []) : readOtp s = s := by
  simp [readOtp, hagrees, hwrong]

section SysInfo

variable {s u : State} {c : Command} (h : Taken 0o0101 anyVariant noAuth s c u)
include h

theorem exec_sysInfo_page (hpage : c.p 1 ≤ 5) :
    exec .sysInfo s = .next (replied c (infoPage (c.p 1) s) (readOtp u)) := by
  rw [← infoPage_of_Taken h]
  exact immediate_taken _ _ h (firstStatus_single_ok stBadParam (decide_eq_false (Nat.not_lt.mpr hpage)))

theorem exec_sysInfo_badParam (hpage : 5 < c.p 1) : exec .sysInfo s = .next (answer c stBadParam [] false false u) := by
  have hstatus := firstStatus_single_bad stBadParam (decide_eq_true hpage)
  rw [← hstatus]
  exact immediate_refused _ _ h (hstatus.trans_ne (by decide))

end SysInfo

/-- Settles O18: the pages of the taken command's state are those of the state before it. -/
theorem sysInfoPages : Obligations.SysInfoPages := by
  intro s u c h
  refine ⟨fun hp fw hfw => ?_, fun hp => ?_, fun k hk hp => ?_, fun hagrees hwrong => ?_, exec_sysInfo_badParam h⟩
  · rw [exec_sysInfo_page h (by omega), hp, infoPage_zero hfw]
  · rw [exec_sysInfo_page h (by omega), hp]
    rfl
  · rw [exec_sysInfo_page h (by omega), hp]
    rfl
  · exact readOtp_sound (by rw [otp_of_Taken h, hagrees]) (by rw [otp_of_Taken h, hwrong])

/-! ## SYS.STATUS -/

/-- Records stand newest first, so the first match is the newest record of the number (R109, R449). -/
theorem recordWords_newest {b : Box} {seq : Nat} {s : State} {newer older : List Completion} {r : Completion}
    (hrecs : records b s = newer ++ r :: older) (hnewer : ∀ x ∈ newer, x.seq.toNat ≠ seq) (hseq : r.seq.toNat = seq) :
    recordWords b seq s = [w18 (4 + 2 * bit r.inProgress + bit r.long), r.word0, r.status] := by
  have hfind : (records b s).find? (fun x => x.seq.toNat == seq) = some r := by
    rw [hrecs, List.find?_eq_some_iff_append]
    exact ⟨by simpa using hseq, newer, older, rfl, by simpa using hnewer⟩
  rw [recordWords, hfind]

theorem recordWords_absent {b : Box} {seq : Nat} {s : State} (hrecs : ∀ x ∈ records b s, x.seq.toNat ≠ seq) :
    recordWords b seq s = [0, 0, 0] := by
  have hfind : (records b s).find? (fun x => x.seq.toNat == seq) = none := by
    rw [List.find?_eq_none]
    simpa using hrecs
  rw [recordWords, hfind]

theorem recordWords_of_Taken {code : Nat} {v : Command → Bool} {n : Command → State → Bool} {s u : State} {c : Command}
    (h : Taken code v n s c u) (b : Box) (seq : Nat) : recordWords b seq u = recordWords b seq s := by
  rw [recordWords, records_of_Taken h, recordWords]

/-- The path that SYS.STATUS asks for (R449). -/
def statusBox (c : Command) : Box := if c.p 2 = 0 then .u else .s

theorem records_statusBox (c : Command) (s : State) :
    records (statusBox c) s = if c.p 2 = 0 then s.mbx.doneU else s.mbx.doneS := by
  unfold statusBox
  split <;> rfl

section SysStatus

variable {s u : State} {c : Command} (h : Taken 0o0102 anyVariant noAuth s c u)
include h

theorem exec_sysStatus_path (hpath : c.p 2 ≤ 1) :
    exec .sysStatus s = .next (replied c (recordWords (statusBox c) (c.p 1) s) u) := by
  rw [← recordWords_of_Taken h]
  exact immediate_taken _ _ h (firstStatus_single_ok stBadParam (decide_eq_false (Nat.not_lt.mpr hpath)))

theorem exec_sysStatus_badParam (hpath : 1 < c.p 2) : exec .sysStatus s = .next (answer c stBadParam [] false false u) := by
  have hstatus := firstStatus_single_bad stBadParam (decide_eq_true hpath)
  rw [← hstatus]
  exact immediate_refused _ _ h (hstatus.trans_ne (by decide))

end SysStatus

/-- Settles O19: the query sees the records that stood before the command, newest first. -/
theorem sysStatusFindsNewestRecord : Obligations.SysStatusFindsNewestRecord := by
  intro s u c h
  rw [← records_statusBox]
  refine ⟨fun newer older r hpath hrecs hnewer hseq => ?_, fun hpath hrecs => ?_, exec_sysStatus_badParam h⟩
  · rw [exec_sysStatus_path h hpath, recordWords_newest hrecs hnewer hseq]
  · rw [exec_sysStatus_path h hpath, recordWords_absent hrecs]

end Sys2Proof.Proofs
end

section
/-!
The register window: the commands of a served path as the window's own write and read, and from them the register rows.
-/

namespace Sys2Proof.Proofs

open Sys2Proof
open Sys2Proof.Machine
open Sys2Proof.Safety
open Sys2Proof.Laws

/-! ## A step -/

/-- Settles O1: the two branches of a step. -/
theorem stepRunsFrontCommand : Obligations.StepRunsFrontCommand := by
  refine ⟨fun c rest s h => ?_, fun s h => ?_⟩ <;> simp only [step, h]

/-- Settles O5, field by field at the reset state. -/
theorem resetValues : Obligations.ResetValues := by
  refine ⟨reset_canonical, rfl, rfl, reset_shape, rfl, rfl, rfl, rfl, rfl, rfl, rfl, rfl, rfl, rfl, rfl, fun f hf => ?_, fun p hp => ?_⟩
  · obtain rfl : f = {} := List.eq_of_mem_replicate hf
    exact ⟨rfl, rfl, rfl, rfl⟩
  · obtain rfl : p = {} := List.eq_of_mem_replicate hp
    exact ⟨rfl, rfl⟩

/-! ## Writes of a served path -/

/-- The state that a write on a path finds: MSPI has answered and shown its flags, USB acknowledges afterwards. -/
def writeFrom (p : Path) (s : State) : State :=
  match p with
  | .usb => fresh s
  | _ => onPath p s

/-- The answer of a path after a write is applied. -/
def answered (p : Path) (t : State) : State :=
  match p with
  | .usb => emit (.handshake .ack) t
  | _ => t

/-- The write of a path on which the register is served. -/
def applied (p : Path) (f : State → State) (s : State) : State := answered p (f (writeFrom p s))

/-- No full posted-write buffer turns the write away on USB. -/
def hasRoom (p : Path) (r : Nat) (s : State) : Prop := p = .usb → isAon r = false ∨ s.win.posted.length < 8

theorem pathWrite_applied {p : Path} {r : Nat} {s : State} (op : Nat) (d : Word) (h : Served p r s) (room : hasRoom p r s) :
    pathWrite p r op d (fresh s) = applied p (writeReg p r op d) s := by
  cases p with
  | sup => exact pathWrite_sup h
  | mspi => exact pathWrite_mspi h
  | usb => exact pathWrite_usb h (room rfl)

theorem exec_registerWrite {p : Path} {a : BitVec 13} {s : State} (d : Word) (h : Served p (regOf a) s) (room : hasRoom p (regOf a) s) :
    exec (.registerWrite p a d) s = .next (applied p (writeReg p (regOf a) (aliasOf a) d) s) :=
  congrArg _ (pathWrite_applied _ d h room)

/-- A register that stands outside the guard, the supervisor's own fields, the AON domain and the inbound mailbox words. -/
theorem writeReg_plain {p : Path} {r op : Nat} (d : Word) (s : State) (hg : isGuarded r = false)
    (hm : p = .sup → isMaintained r = false) (ha : isAon r = false) (hmbx : r ∉ [0o201, 0o202, 0o205]) :
    writeReg p r op d s = pokePlain p r op d s := by
  simp only [List.mem_cons, List.not_mem_nil, or_false, not_or] at hmbx
  obtain ⟨hdata, hlast, hflush⟩ := hmbx
  cases p with
  | sup => simp [writeReg, hg, ha, hm rfl]
  | usb => simp [writeReg, hg, ha]
  | mspi =>
    simp only [writeReg, hg, ha]
    simp
    split <;> simp_all

/-- A supervisor's write at a second address of a field that it maintains. -/
theorem writeReg_maintained_alias {r op : Nat} (d : Word) (s : State) (hg : isGuarded r = false) (hm : isMaintained r = true)
    (hop : op ≠ 0) : writeReg .sup r op d s = s := by
  simp [writeReg, hg, hm, hop]

/-- The registers with a field that a plain write reaches. -/
def plainRegs : List Nat :=
  [0o200, 0o206, 0o213, 0o401, 0o402, 0o403, 0o404, 0o405, 0o406, 0o407, 0o414, 0o416, 0o605, 0o1400, 0o1401]

theorem pokePlain_other {p : Path} {r op : Nat} (d : Word) (s : State) (hr : r ∉ plainRegs) : pokePlain p r op d s = s := by
  simp only [plainRegs, List.mem_cons, List.not_mem_nil, or_false, not_or] at hr
  unfold pokePlain
  split <;> simp_all

theorem applied_id (p : Path) (s : State) : applied p (fun t => t) s = onPath p s := by cases p <;> rfl

/-- A write that the window ignores. -/
theorem exec_registerWrite_ignored {p : Path} {a : BitVec 13} {s : State} {d : Word} (h : Served p (regOf a) s)
    (room : hasRoom p (regOf a) s) (hw : ∀ t, writeReg p (regOf a) (aliasOf a) d t = t) :
    exec (.registerWrite p a d) s = .next (onPath p s) := by
  rw [exec_registerWrite d h room, show writeReg p (regOf a) (aliasOf a) d = fun t => t from funext hw, applied_id]

section PlainWrites

variable {p : Path} {a : BitVec 13} {s : State} (d : Word) (h : Served p (regOf a) s)
include h

theorem exec_write_mbxPrio (hr : regOf a = 0o200) : exec (.registerWrite p a d) s = .next (setMbx p { mbxOf p s with
    prio := BitVec.ofNat 2 (applyAlias (aliasOf a) (mbxOf p s).prio.toNat d.toNat) } (onPath p s)) := by
  rw [exec_registerWrite d h (fun _ => .inl (by rw [hr]; rfl)), hr]
  cases p <;> rfl

theorem exec_write_csel (hr : regOf a = 0o407) : exec (.registerWrite p a d) s = .next { onPath p s with
    win := { (onPath p s).win with csel := BitVec.ofNat 3 (applyAlias (aliasOf a) s.win.csel.toNat d.toNat) } } := by
  rw [exec_registerWrite d h (fun _ => .inl (by rw [hr]; rfl)), hr]
  cases p <;> rfl

theorem exec_write_sevSel (hr : regOf a = 0o414) : exec (.registerWrite p a d) s = .next { onPath p s with
    win := { (onPath p s).win with sevSel := BitVec.ofNat 12 (applyAlias (aliasOf a) s.win.sevSel.toNat d.toNat) } } := by
  rw [exec_registerWrite d h (fun _ => .inl (by rw [hr]; rfl)), hr]
  cases p <;> rfl

theorem exec_write_histSel (hr : regOf a = 0o416) : exec (.registerWrite p a d) s = .next { onPath p s with
    win := { (onPath p s).win with histSel := BitVec.ofNat 4 (applyAlias (aliasOf a) s.win.histSel.toNat d.toNat) } } := by
  rw [exec_registerWrite d h (fun _ => .inl (by rw [hr]; rfl)), hr]
  cases p <;> rfl

theorem exec_write_retain (hr : regOf a = 0o605) : exec (.registerWrite p a d) s = .next { onPath p s with
    pwr := { s.pwr with retain := BitVec.ofNat 8 (applyAlias (aliasOf a) s.pwr.retain.toNat d.toNat) &&& 0xFE } } := by
  rw [exec_registerWrite d h (fun _ => .inl (by rw [hr]; rfl)), hr]
  cases p <;> rfl

theorem exec_write_mbxErr (hr : regOf a = 0o213) : exec (.registerWrite p a d) s =
    .next (if aliasOf a = 0 then setMbx p { mbxOf p s with
      inOverrun := (mbxOf p s).inOverrun && !d.bit 1, outUnderrun := (mbxOf p s).outUnderrun && !d.bit 0 } (onPath p s)
      else onPath p s) := by
  rw [exec_registerWrite d h (fun _ => .inl (by rw [hr]; rfl)), hr]
  by_cases hop : aliasOf a = 0
  · rw [if_pos hop, hop]
    cases p <;> rfl
  · rw [if_neg hop, show writeReg p 0o213 (aliasOf a) d = fun t => t from funext fun t => ?_, applied_id]
    rw [writeReg_plain d t rfl (fun _ => rfl) rfl (by decide)]
    simp [pokePlain, hop]

theorem exec_write_idFw (hp : p = .sup) (hr : regOf a = 2) (hop : aliasOf a = 0) : exec (.registerWrite p a d) s =
    .next { fresh s with win := { s.win with idFw := w18 (d.toNat / 64 * 64) } } := by
  subst hp
  rw [exec_registerWrite d h (fun e => nomatch e), hr, hop]
  rfl

/-- The registers that no clause names hold no field that a path writes. -/
theorem exec_write_readOnly (haon : isAon (regOf a) = false)
    (hr : regOf a ∉ [0o200, 0o201, 0o202, 0o205, 0o206, 0o213, 0o401, 0o402, 0o403, 0o404, 0o405, 0o406,
        0o407, 0o412, 0o414, 0o415, 0o416, 0o605, 0o1400, 0o1401])
    (hm : p = .sup → isMaintained (regOf a) = true → aliasOf a ≠ 0) :
    exec (.registerWrite p a d) s = .next (onPath p s) := by
  simp only [List.mem_cons, List.not_mem_nil, or_false, not_or] at hr
  have hg : isGuarded (regOf a) = false := by
    by_contra hguarded
    have posted : regOf a = 0o1001 ∨ regOf a = 0o1003 := by simpa [isGuarded, hr, Decidable.or_iff_not_imp_left] using hguarded
    rcases posted with e | e <;> simp [e, isAon] at haon
  refine exec_registerWrite_ignored h (fun _ => .inl haon) (fun t => ?_)
  by_cases hsup : p = .sup ∧ isMaintained (regOf a) = true
  · obtain ⟨rfl, hmain⟩ := hsup
    exact writeReg_maintained_alias d t hg hmain (hm rfl hmain)
  · rw [writeReg_plain d t hg (fun e => by simpa [e] using hsup) haon (by simp [hr]), pokePlain_other d t (by simp [plainRegs, hr])]

end PlainWrites

/-! ## Reads of a served path -/

theorem shadowOf_setShadow (p : Path) (l : List (Nat × Word)) (s : State) : shadowOf p (setShadow p l s) = l := by cases p <;> rfl

theorem shadowOf_setShadow_other {p q : Path} (h : q ≠ p) (l : List (Nat × Word)) (s : State) :
    shadowOf q (setShadow p l s) = shadowOf q s := by
  cases p <;> cases q <;> simp_all [shadowOf, setShadow]

/-- The registers that a read votes, and MBX_OUT_DATA, whose read takes a word. -/
def specialReads : List Nat := [0o207, 0o412, 0o415, 0o1001, 0o1003, 0o1401]

theorem readReg_plain {p : Path} {r : Nat} (s : State) (hr : r ∉ specialReads) :
    readReg p r s = (peek p r s, if companions r s = [] then s
      else setShadow p ((companions r s).foldl (fun l c => insertKey l c.1 c.2) (shadowOf p s)) s) := by
  simp only [specialReads, List.mem_cons, List.not_mem_nil, or_false, not_or] at hr
  have voted : voteReg p r s = s := by
    unfold voteReg
    split <;> simp_all
  simp only [readReg, voted, if_neg hr.1]

/-- The state in which a read on a path takes effect. -/
def readFrom (p : Path) (s : State) : State := { fresh s with win := flagsShown p s.win }

theorem peek_readFrom (p q : Path) (r : Nat) (s : State) : peek q r (readFrom p s) = peek q r s := by cases p <;> rfl

theorem companions_readFrom (p : Path) (r : Nat) (s : State) : companions r (readFrom p s) = companions r s := by cases p <;> rfl

theorem shadowOf_readFrom (p q : Path) (s : State) : shadowOf q (readFrom p s) = shadowOf q s := by cases p <;> cases q <;> rfl

/-- The shadow of a path after a read of a register. -/
def shadowAfter (p : Path) (r : Nat) (s : State) : Shadow := (companions r s).foldl (fun l c => insertKey l c.1 c.2) (shadowOf p s)

/-- A read latches the companions into the path's own shadow. -/
theorem readReg_from {p : Path} {r : Nat} (s : State) (hr : r ∉ specialReads) :
    (readReg p r (readFrom p s)).1 = peek p r s ∧ Frame [.win] (readFrom p s) (readReg p r (readFrom p s)).2 ∧
      shadowOf p (readReg p r (readFrom p s)).2 = shadowAfter p r s ∧
      ∀ q, q ≠ p → shadowOf q (readReg p r (readFrom p s)).2 = shadowOf q s := by
  rw [readReg_plain _ hr, peek_readFrom, companions_readFrom, shadowOf_readFrom]
  refine ⟨rfl, ?_, ?_, fun q hq => ?_⟩
  · split
    · exact Frame_mono (Frame_refl [] _) (by simp)
    · intro g hg
      cases p <;> cases g <;> simp_all [same, setShadow]
  · split
    · rename_i hnone
      rw [shadowAfter, hnone]
      exact shadowOf_readFrom p p s
    · exact shadowOf_setShadow ..
  · split
    · exact shadowOf_readFrom ..
    · rw [shadowOf_setShadow_other hq, shadowOf_readFrom]

/-- The state after a path's answer to a read: `s` is the state before the read, `t` the one that the read leaves. -/
def readAnswer (p : Path) (v : Word) (s t : State) : State :=
  match p with
  | .sup => emit (.value v) t
  | .mspi => sendFrame false v s.win.ferr s.win.gdisc s.win.wdrop t
  | .usb => emit (.usbData (toBytesLE 3 v.toNat)) (fillControl (toBytesLE 3 v.toNat)
      { t with win := { t.win with usbRead := some (BitVec.ofNat 24 v.toNat) } })

theorem pathRead_answer {p : Path} {r : Nat} {s : State} (h : Served p r s) :
    pathRead p r (fresh s) = readAnswer p (readReg p r (readFrom p s)).1 s (readReg p r (readFrom p s)).2 := by
  cases p with
  | sup => exact pathRead_sup h
  | mspi => exact pathRead_mspi h
  | usb => exact pathRead_usb h

theorem readAnswer_frame (p : Path) (v : Word) (s t : State) : Frame [.out, .win, .hub] t (readAnswer p v s t) := by
  intro g hg
  cases p <;> cases g <;> simp_all [same, readAnswer, sendFrame, fillControl]

theorem readAnswer_hub {p : Path} (h : p ≠ .usb) (v : Word) (s t : State) : (readAnswer p v s t).hub = t.hub := by
  cases p with
  | usb => exact absurd rfl h
  | _ => rfl

theorem readAnswer_out (p : Path) (v : Word) (s : State) {t : State} (h : t.out = []) : (readAnswer p v s t).out = readOut p v s := by
  cases p with
  | mspi =>
    simp only [readAnswer, sendFrame, emit_out, h, readOut]
    rfl
  | _ => simp [readAnswer, h, readOut, fillControl]

theorem shadowOf_readAnswer (p q : Path) (v : Word) (s t : State) : shadowOf q (readAnswer p v s t) = shadowOf q t := by
  cases p <;> cases q <;> rfl

/-- A read on a path that serves the register: its value is put out, and only the path's own shadow takes companions. -/
theorem exec_shadowLatchRead {p : Path} {a : BitVec 13} {s : State} (h : Served p (regOf a) s) (hr : regOf a ∉ specialReads) :
    ∃ t, exec (.shadowLatchRead p a) s = .next t ∧ Frame [.out, .win, .hub] (fresh s) t ∧ (p ≠ .usb → t.hub = s.hub) ∧
      t.out = readOut p (peek p (regOf a) s) s ∧ shadowOf p t = shadowAfter p (regOf a) s ∧
      ∀ q, q ≠ p → shadowOf q t = shadowOf q s := by
  have started : Frame [.win] (fresh s) (readFrom p s) := by
    intro g hg
    cases g <;> simp_all [same, readFrom]
  obtain ⟨hvalue, hframe, hown, hother⟩ := readReg_from (p := p) s hr
  have kept := Frame_trans (Frame_trans started hframe) (readAnswer_frame p (peek p (regOf a) s) s _)
  refine ⟨_, congrArg Host.Outcome.next ((pathRead_answer h).trans (by rw [hvalue])), Frame_mono kept (by decide), fun hp => ?_, ?_, ?_, fun q hq => ?_⟩
  · exact (readAnswer_hub hp ..).trans (hframe .hub (by decide))
  · exact readAnswer_out _ _ _ (hframe .out (by decide))
  · rw [shadowOf_readAnswer, hown]
  · rw [shadowOf_readAnswer, hother q hq]

/-- Keys that differ are all found after their insertion. -/
theorem lookupD_foldl_insertKey {cs l : List (Nat × Word)} (hn : (cs.map (·.1)).Nodup) {kv : Nat × Word} (h : kv ∈ cs) :
    lookupD (cs.foldl (fun l c => insertKey l c.1 c.2) l) kv.1 0 = kv.2 := by
  have kept (ds l : List (Nat × Word)) (k : Nat) (hk : k ∉ ds.map (·.1)) :
      lookupD (ds.foldl (fun l c => insertKey l c.1 c.2) l) k 0 = lookupD l k 0 := by
    induction ds generalizing l with
    | nil => rfl
    | cons d ds ih =>
      simp only [List.map_cons, List.mem_cons, not_or] at hk
      rw [List.foldl_cons, ih _ hk.2, lookupD_insertKey, if_neg (Ne.symm hk.1)]
  induction cs generalizing l with
  | nil => cases h
  | cons c cs ih =>
    rw [List.map_cons, List.nodup_cons] at hn
    rcases List.mem_cons.mp h with rfl | h
    · rw [List.foldl_cons, kept _ _ _ hn.1, lookupD_insertKey, if_pos rfl]
    · exact ih hn.2 h

theorem companions_nodup (r : Nat) (s : State) : ((companions r s).map (·.1)).Nodup := by
  unfold companions
  split <;> simp

/-- A companion word has no companions of its own and shows the path's shadow. -/
theorem companion_read {p : Path} {r : Nat} (s : State) (hr : isCompanion r = true) :
    r ∉ specialReads ∧ peek p r s = lookupD (shadowOf p s) r 0 ∧ shadowAfter p r s = shadowOf p s := by
  simp only [isCompanion, List.contains_eq_mem, List.mem_cons, List.not_mem_nil, or_false, decide_eq_true_eq] at hr
  rcases hr with rfl | rfl | rfl | rfl | rfl | rfl | rfl | rfl | rfl | rfl | rfl | rfl <;> exact ⟨by decide, rfl, rfl⟩

/-- Settles O8: each plain register by its write, and the reads by what they latch. -/
theorem registerReadsAndWrites : Obligations.RegisterReadsAndWrites := by
  refine ⟨fun p a d s h => ⟨exec_write_mbxPrio d h, exec_write_csel d h, exec_write_sevSel d h, exec_write_histSel d h,
    exec_write_retain d h, exec_write_mbxErr d h, exec_write_readOnly d h, exec_write_idFw d h⟩, fun p a s h => ⟨fun hr => ?_, fun hr => ?_, fun hr => ?_⟩⟩
  · obtain ⟨t, ht, hframe, hhub, hout, hown, hother⟩ := exec_shadowLatchRead (p := p) h (by rw [hr]; decide)
    refine ⟨t, ht, hframe, hhub, ?_, ?_, ?_, hother⟩
    · rw [hout, hr]
      rfl
    · rw [hown, hr]
      simp [shadowAfter, companions, lookupD_insertKey]
    · rw [hown, hr]
      simp [shadowAfter, companions, lookupD_insertKey]
  · obtain ⟨t, ht, hframe, hhub, hout, hown, hother⟩ := exec_shadowLatchRead (p := p) h (by
      simp only [List.mem_cons, List.not_mem_nil, or_false] at hr
      simp only [specialReads, List.mem_cons, List.not_mem_nil, or_false, not_or]
      omega)
    refine ⟨t, ht, hframe, hhub, hout, fun kv hkv => ?_, hother⟩
    rw [hown]
    exact lookupD_foldl_insertKey (companions_nodup ..) hkv
  · obtain ⟨hspecial, hpeek, hkept⟩ := companion_read (p := p) s hr
    obtain ⟨t, ht, hframe, hhub, hout, hown, hother⟩ := exec_shadowLatchRead h hspecial
    refine ⟨t, ht, hframe, hhub, hpeek ▸ hout, fun q => ?_⟩
    by_cases hq : q = p
    · rw [hq, hown, hkept]
    · exact hother q hq

end Sys2Proof.Proofs
end

section
/-!
The fault collector: what each of its operations leaves of the counts, the unacknowledged faults and the history, and from it the
taking of one newly latched fault (R387 to R393).
-/

namespace Sys2Proof.Proofs

open Sys2Proof
open Sys2Proof.Machine
open Sys2Proof.Safety
open Sys2Proof.Laws

/-! ## What the collector's operations leave -/

/-- Counts and unacknowledged faults are the same. -/
def SameTally (s t : State) : Prop := t.flt.counts = s.flt.counts ∧ t.flt.unacked = s.flt.unacked

theorem SameTally.trans {s t u : State} (h : SameTally s t) (h' : SameTally t u) : SameTally s u :=
  ⟨h'.1.trans h.1, h'.2.trans h.2⟩

theorem SameTally.of_flt {s t : State} (h : t.flt = s.flt) : SameTally s t := ⟨congrArg _ h, congrArg _ h⟩

theorem latchStatus_tally (src : BitVec 12) (s : State) : SameTally s (latchStatus src s) := ⟨rfl, rfl⟩

theorem settleStatus_tally (s : State) : SameTally s (settleStatus s) := ⟨rfl, rfl⟩

theorem setLine_tally (src : BitVec 12) (on : Bool) (s : State) : SameTally s (setLine src on s) := ⟨rfl, rfl⟩

theorem countingFault_tally (s : State) : SameTally s (countingFault s) := by
  simp only [countingFault]
  split <;> exact ⟨rfl, rfl⟩

theorem enterSafe_tally (src : BitVec 12) (reason : Nat) (s : State) : SameTally s (enterSafe src reason s) := by
  unfold enterSafe
  split
  · exact ⟨rfl, rfl⟩
  · exact ⟨rfl, rfl⟩

theorem enterSafe_active (src : BitVec 12) (reason : Nat) (s : State) : (enterSafe src reason s).aon.safeActive = true := by
  unfold enterSafe
  split
  · assumption
  · rfl

theorem enterSafe_hist (src : BitVec 12) (reason : Nat) (s : State) : (enterSafe src reason s).aon.hist = s.aon.hist := by
  unfold enterSafe
  split <;> rfl

theorem requestWarm_flt (c : WarmCause) (s : State) : (requestWarm c s).flt = s.flt := by simp

/-- A request for a warm chip reset leaves the history and safe state. -/
theorem requestWarm_aon (c : WarmCause) (s : State) :
    (requestWarm c s).aon.hist = s.aon.hist ∧ (requestWarm c s).aon.safeActive = s.aon.safeActive := by
  unfold requestWarm
  split <;> exact ⟨rfl, rfl⟩

theorem requestWarm_warmReq {c : WarmCause} {s : State} (h : s.boot.warmBusy = false) :
    (requestWarm c s).boot.warmReq = s.boot.warmReq ++ [c] := by
  simp [requestWarm, h]

/-- An event held back until SYS.STARTED leaves the requests for a warm chip reset. -/
theorem post_warm (w0 : Word) (ps : List Word) (s : State) :
    (post w0 ps s).boot.warmReq = s.boot.warmReq ∧ (post w0 ps s).boot.warmBusy = s.boot.warmBusy := by
  unfold post
  split
  · simp
  · exact ⟨rfl, rfl⟩

/-- The reactions leave the tally, the history and safe state. -/
theorem react_tally (src : BitVec 12) (cls sev : Nat) (esc : Bool) (s : State) : SameTally s (react src cls sev esc s) := by
  simp only [react]
  (repeat' split) <;> constructor <;> simp

theorem react_aon (src : BitVec 12) (cls sev : Nat) (esc : Bool) (s : State) :
    (react src cls sev esc s).aon.hist = s.aon.hist ∧ (react src cls sev esc s).aon.safeActive = s.aon.safeActive := by
  simp only [react]
  (repeat' split) <;> constructor <;> simp [requestWarm_aon]

theorem react_warmReq (src : BitVec 12) (cls : Nat) (esc : Bool) {s : State} (hbusy : s.boot.warmBusy = false) (hsrc : src ≠ 0o0160) :
    (react src cls 4 esc s).boot.warmReq = s.boot.warmReq ++ [.fault] := by
  simp only [react, if_neg hsrc, if_true, or_true]
  rw [requestWarm_warmReq]
  all_goals (repeat' split) <;> simp [post_warm, hbusy]

/-! ## One newly latched fault -/

/-- The steps of the collector for a new fault of severity 1 or above, safe state apart (R393). -/
def applyFault (src : BitVec 12) (cls sev : Nat) (esc : Bool) (s : State) : State :=
  let s := { s with flt := { s.flt with unacked := s.flt.unacked ++ [⟨src, sev, s.clk.tick⟩] } }
  zoneOcc 5 cls 0 none (countingFault (react src cls sev esc (addHistory src cls sev esc s)))

section NewFault

variable {src : BitVec 12} {conf : Nat} (reason : Nat) {s : State} (hnew : isUnacked src s = false)
include hnew

/-- The collector's handling of a source that is not unacknowledged. -/
theorem takeFault_new : takeFault src conf reason s =
    let sev := appliedSeverity src conf (sameClassUnacked src s)
    let t := countFault src (latchStatus src s)
    if sev = 0 then zoneOcc 5 (sourceClass src.toNat) 0 none (settleStatus t)
    else
      let u := applyFault src (sourceClass src.toNat) sev (decide (0 < sameClassUnacked src s)) t
      if sev = 5 then enterSafe src reason u else u := by
  have hlatched : isUnacked src (latchStatus src s) = false := hnew
  have hsame : sameClassUnacked src (latchStatus src s) = sameClassUnacked src s := rfl
  simp only [takeFault, hlatched, hsame]
  rfl

end NewFault

theorem applyFault_facts (src : BitVec 12) (cls sev : Nat) (esc : Bool) (s : State) :
    (applyFault src cls sev esc s).flt.counts = s.flt.counts ∧
    (applyFault src cls sev esc s).flt.unacked = s.flt.unacked ++ [⟨src, sev, s.clk.tick⟩] ∧
    (applyFault src cls sev esc s).aon.hist = (⟨BitVec.ofNat 34 (s.clk.tick.toNat / 16), src, BitVec.ofNat 4 cls, BitVec.ofNat 3 sev, esc⟩
      :: s.aon.hist).take 16 ∧
    (applyFault src cls sev esc s).aon.safeActive = s.aon.safeActive ∧
    (sev = 4 → s.boot.warmBusy = false → src ≠ 0o0160 → (applyFault src cls sev esc s).boot.warmReq = s.boot.warmReq ++ [.fault]) := by
  let t := addHistory src cls sev esc { s with flt := { s.flt with unacked := s.flt.unacked ++ [⟨src, sev, s.clk.tick⟩] } }
  have htally : SameTally t (applyFault src cls sev esc s) :=
    ((react_tally src cls sev esc t).trans (countingFault_tally _)).trans (.of_flt (by simp [applyFault, t]))
  have haon : (applyFault src cls sev esc s).aon = (react src cls sev esc t).aon := by simp [applyFault, t]
  have hboot : (applyFault src cls sev esc s).boot = (react src cls sev esc t).boot := by simp [applyFault, t]
  refine ⟨htally.1, htally.2, ?_, ?_, fun hsev hbusy hsrc => ?_⟩
  · rw [haon, (react_aon ..).1]
    rfl
  · rw [haon, (react_aon ..).2]
    rfl
  · subst hsev
    exact (congrArg Boot.warmReq hboot).trans (react_warmReq (s := t) src cls esc hbusy hsrc)

/-- A fault of a defined source whose block runs. -/
theorem raiseFault_on {src : BitVec 12} {s : State} (hdef : (sourceDef src.toNat).isSome = true) (hoff : blockOff src s = false) :
    raiseFault src s = takeFault src ((sevEntry src.toNat s).vote.toNat % 8) (if src = 0o5201 then 2 else 0) s := by
  simp [raiseFault, hoff, Option.isNone_eq_false_iff.mpr hdef]

theorem latchFaults_single {src : BitVec 12} {s : State} (line : Bool) (hdef : (sourceDef src.toNat).isSome = true)
    (hoff : blockOff src s = false) : latchFaults [(src, line)] s = raiseFault src (setLine src line s) := by
  show (if (sourceDef src.toNat).isSome && !blockOff src s then raiseFault src (setLine src line s) else s) = _
  simp [hdef, hoff]

theorem exec_faultLatch_single {src : BitVec 12} {line : Bool} {s : State} (hdef : (sourceDef src.toNat).isSome = true)
    (hoff : blockOff src s = false) : exec (.faultLatch [(src, line)]) s = .next (raiseFault src (setLine src line (fresh s))) :=
  congrArg Host.Outcome.next (latchFaults_single (s := fresh s) line hdef hoff)

theorem lookupD_countFault (src : BitVec 12) (s : State) :
    lookupD (countFault src s).flt.counts src.toNat 0 = min 262143 (lookupD s.flt.counts src.toNat 0 + 1) := by
  simp [countFault, lookupD_insertKey]

/-- What taking a new fault of a severity leaves, by the severity applied (R390, R393, R396). -/
theorem takeFault_facts {src : BitVec 12} (conf reason : Nat) {s : State} (hnew : isUnacked src s = false) :
    let v := appliedSeverity src conf (sameClassUnacked src s)
    let t := takeFault src conf reason s
    lookupD t.flt.counts src.toNat 0 = min 262143 (lookupD s.flt.counts src.toNat 0 + 1) ∧
    (v = 0 → t.flt.unacked = s.flt.unacked ∧ t.aon = s.aon) ∧
    (v ≠ 0 → t.flt.unacked = s.flt.unacked ++ [⟨src, v, s.clk.tick⟩] ∧
      t.aon.hist = (⟨BitVec.ofNat 34 (s.clk.tick.toNat / 16), src, BitVec.ofNat 4 (sourceClass src.toNat), BitVec.ofNat 3 v,
        decide (0 < sameClassUnacked src s)⟩ :: s.aon.hist).take 16) ∧
    (v = 5 → t.aon.safeActive = true) ∧ (v ≠ 5 → t.aon.safeActive = s.aon.safeActive) ∧
    (v = 4 → s.boot.warmBusy = false → src ≠ 0o0160 → t.boot.warmReq = s.boot.warmReq ++ [.fault]) := by
  intro v t
  let base := countFault src (latchStatus src s)
  let u := applyFault src (sourceClass src.toNat) v (decide (0 < sameClassUnacked src s)) base
  have ht : t = if v = 0 then zoneOcc 5 (sourceClass src.toNat) 0 none (settleStatus base) else if v = 5 then enterSafe src reason u else u :=
    takeFault_new reason hnew
  have hcount : lookupD base.flt.counts src.toNat 0 = min 262143 (lookupD s.flt.counts src.toNat 0 + 1) :=
    lookupD_countFault src (latchStatus src s)
  obtain ⟨hcounts, hunacked, hhist, hactive, hwarm⟩ :=
    applyFault_facts src (sourceClass src.toNat) v (decide (0 < sameClassUnacked src s)) base
  by_cases h0 : v = 0
  · rw [if_pos h0] at ht
    rw [ht]
    simp only [h0, ne_eq, not_true_eq_false, false_imp_iff, true_and]
    exact ⟨hcount, fun _ => ⟨rfl, rfl⟩, fun h => absurd h (by decide), fun _ => rfl, fun h => absurd h (by decide)⟩
  · rw [if_neg h0] at ht
    by_cases h5 : v = 5
    · rw [if_pos h5] at ht
      obtain ⟨htc, htu⟩ := enterSafe_tally src reason u
      rw [ht, htc, htu, enterSafe_hist, hcounts, hunacked]
      exact ⟨hcount, fun h => absurd h h0, fun _ => ⟨rfl, hhist⟩, fun _ => enterSafe_active .., fun h => absurd h5 h,
        fun h => absurd (h5.symm.trans h) (by decide)⟩
    · rw [if_neg h5] at ht
      rw [ht, hcounts, hunacked]
      exact ⟨hcount, fun h => absurd h h0, fun _ => ⟨rfl, hhist⟩, fun h => absurd h h5, fun _ => hactive, hwarm⟩

theorem repeatFault_counts (src : BitVec 12) (s : State) : (repeatFault src s).flt.counts = (countFault src s).flt.counts := by
  simp only [repeatFault]
  split
  · exact (countingFault_tally _).1
  · rfl

/-- Every fault that is raised counts, new or repeated (R392, R393, R402). -/
theorem raiseFault_count {src : BitVec 12} {s : State} (hdef : (sourceDef src.toNat).isSome = true) (hoff : blockOff src s = false) :
    lookupD (raiseFault src s).flt.counts src.toNat 0 = min 262143 (lookupD s.flt.counts src.toNat 0 + 1) := by
  rw [raiseFault_on hdef hoff]
  by_cases hnew : isUnacked src s = false
  · exact (takeFault_facts _ _ hnew).1
  · have hrepeat : isUnacked src (latchStatus src s) = true := Bool.eq_true_of_not_eq_false hnew
    rw [takeFault, if_pos hrepeat, repeatFault_counts]
    exact lookupD_countFault src (latchStatus src s)

/-- Settles O39, from the collector's handling of one new fault. -/
theorem newFaultIsAppliedAtItsSeverity : Obligations.NewFaultIsAppliedAtItsSeverity := by
  intro src s cls sev fn line hdef hoff hnew conf v
  have hraised := raiseFault_on (s := setLine src line (fresh s)) (hdef ▸ rfl) hoff
  have hclass : sourceClass src.toNat = cls := by simp [sourceClass, hdef]
  have facts := takeFault_facts (src := src) (s := setLine src line (fresh s)) conf (if src = 0o5201 then 2 else 0) hnew
  rw [hclass] at facts
  refine ⟨_, (exec_faultLatch_single (hdef ▸ rfl) hoff).trans (congrArg _ hraised), fun g hg => ?_, facts⟩
  cases g <;> simp_all [same, setLine]

end Sys2Proof.Proofs
end

section
/-!
Acknowledgement: the unacknowledged faults that a write or AUTO_ACK clears, and the status bits that follow them (R88, R391).
-/

namespace Sys2Proof.Proofs

open Sys2Proof
open Sys2Proof.Machine
open Sys2Proof.Safety
open Sys2Proof.Laws

/-! ## A word given bit by bit -/

/-- The number of a word's selected bits. -/
def bitSum (f : Nat → Bool) (n : Nat) : Nat := ((List.range n).map (fun b => if f b then 2 ^ b else 0)).sum

theorem bitSum_succ (f : Nat → Bool) (n : Nat) : bitSum f (n + 1) = bitSum f n + if f n then 2 ^ n else 0 := by
  simp [bitSum, List.range_succ]

theorem bitSum_lt (f : Nat → Bool) (n : Nat) : bitSum f n < 2 ^ n := by
  induction n with
  | zero => exact Nat.one_pos
  | succ n ih =>
    rw [bitSum_succ, pow_succ]
    split <;> omega

theorem bitOf_testBit (n k : Nat) : bitOf n k = n.testBit k := by
  simp [bitOf, Nat.testBit_eq_decide_div_mod_eq, beq_eq_decide]

theorem bitOf_bitSum (f : Nat → Bool) {n b : Nat} (h : b < n) : bitOf (bitSum f n) b = f b := by
  rw [bitOf_testBit]
  induction n with
  | zero => cases h
  | succ n ih =>
    have hlow : (bitSum f n).testBit n = false := Nat.testBit_lt_two_pow (bitSum_lt f n)
    rw [bitSum_succ, Nat.add_comm]
    rcases Nat.lt_succ_iff_lt_or_eq.mp h with hb | rfl
    · split
      · rw [Nat.testBit_two_pow_add_gt hb, ih hb]
      · rw [Nat.zero_add, ih hb]
    · split
      · rw [Nat.testBit_two_pow_add_eq, hlow]
        simp [*]
      · rw [Nat.zero_add, hlow]
        simp_all

/-! ## Acknowledgement -/

/-- A status bit stays while a fault of its block is unacknowledged or a line of it is asserted (R391). -/
theorem settleStatus_bit (s : State) {k b : Nat} (hk : k < 6) (hb : b < 18) :
    bitOf ((settleStatus s).flt.status.getD k 0).toNat b =
      (bitOf (s.flt.status.getD k 0).toNat b && (unackedOfBlock k b s || lineOfBlock k b s)) := by
  let f := fun b => bitOf (s.flt.status.getD k 0).toNat b && (unackedOfBlock k b s || lineOfBlock k b s)
  have hword : (settleStatus s).flt.status.getD k 0 = BitVec.ofNat 18 (bitSum f 18) := by
    simp [settleStatus, bitSum, f, hk]
  rw [hword, BitVec.toNat_ofNat, Nat.mod_eq_of_lt (bitSum_lt f 18)]
  exact bitOf_bitSum f hb

theorem acknowledge_flt (p : Unacked → Bool) (s : State) : (acknowledge p s).flt =
    (settleStatus { s with flt := { s.flt with unacked := s.flt.unacked.filter (fun u => !p u) } }).flt := by
  simp [acknowledge]

theorem acknowledge_unacked (p : Unacked → Bool) (s : State) :
    (acknowledge p s).flt.unacked = s.flt.unacked.filter (fun u => !p u) := by
  rw [acknowledge_flt]
  rfl

theorem acknowledge_bit (p : Unacked → Bool) (s : State) {k b : Nat} (hk : k < 6) (hb : b < 18) :
    bitOf ((acknowledge p s).flt.status.getD k 0).toNat b =
      (bitOf (s.flt.status.getD k 0).toNat b && (unackedOfBlock k b (acknowledge p s) || lineOfBlock k b s)) := by
  have hunacked : unackedOfBlock k b (acknowledge p s) =
      unackedOfBlock k b { s with flt := { s.flt with unacked := s.flt.unacked.filter (fun u => !p u) } } := by
    simp only [unackedOfBlock, acknowledge_unacked]
  rw [hunacked, acknowledge_flt, settleStatus_bit _ hk hb]
  rfl

/-! ## A write of a status word -/

theorem latchFaults_nil (s : State) : latchFaults [] s = s := rfl

theorem pathWrite_status {p : Path} {c : Fin 6} {s : State} (d : Word) (h : Served p (0o401 + c.val) s) :
    pathWrite p (0o401 + c.val) 0 d (fresh s) = applied p (ackCluster c.val d) s := by
  refine (pathWrite_applied 0 d h (fun _ => .inl ?_)).trans (congrArg (fun f => applied p f s) (funext fun t => ?_))
  · fin_cases c <;> rfl
  · cases p <;> fin_cases c <;> rfl

/-- Settles O10: the write, a fault latched at its clock edge, and AUTO_ACK. -/
theorem acknowledgeClearsFaults : Obligations.AcknowledgeClearsFaults := by
  refine ⟨fun p c d s h => ?_, fun src s u hu hsrc hsev hauto hsince => ?_⟩
  · let sel := fun (u : Unacked) => u.source.toNat / 512 == c.val && d.bit (u.source.toNat / 16 % 32)
    have hwrite := pathWrite_status d h
    have hflt : (applied p (ackCluster c.val d) s).flt = (acknowledge sel (writeFrom p s)).flt := by cases p <;> rfl
    have hbase : (writeFrom p s).flt = s.flt := by cases p <;> rfl
    refine ⟨_, congrArg Host.Outcome.next ((latchFaults_nil _).trans hwrite), fun src line hdef hoff => ?_, ?_, ?_, ?_, ?_⟩
    · exact congrArg Host.Outcome.next ((congrArg _ hwrite).trans (latchFaults_single line hdef hoff))
    · intro g hg
      cases p <;> cases g <;> simp_all [same, applied, answered, writeFrom, ackCluster, onPath]
    · cases p <;> simp [applied, answered, writeFrom, ackCluster, onPath, flagsShown]
    · rw [hflt, acknowledge_unacked, hbase]
    · intro k hk b hb
      have hu : unackedOfBlock k b (applied p (ackCluster c.val d) s) = unackedOfBlock k b (acknowledge sel (writeFrom p s)) := by
        simp only [unackedOfBlock, hflt]
      rw [hflt, hu, acknowledge_bit _ _ hk hb, hbase]
      simp only [lineOfBlock, hbase]
  · have hdue : autoAckDue src (fresh s) = true := by
      simp only [autoAckDue, Bool.and_eq_true, List.any_eq_true]
      exact ⟨bne_iff_ne.mpr hauto, u, hu, by simp [hsrc, hsev]; exact hsince⟩
    refine ⟨acknowledge (fun v => v.source == src) (fresh s), ?_, fun g hg => ?_, acknowledge_unacked ..⟩
    · show Host.Outcome.next (if autoAckDue src (fresh s) then _ else _) = _
      rw [if_pos hdue]
    · cases g <;> simp_all [same]

end Sys2Proof.Proofs
end

section
/-!
The guard and the posted AON writes: UNLOCK and its expiry, guarded writes, and writes through the posted-write buffer.
-/

namespace Sys2Proof.Proofs

open Sys2Proof
open Sys2Proof.Machine
open Sys2Proof.Safety
open Sys2Proof.Laws

/-! ## What a write finds -/

theorem answered_writeFrom (p : Path) (s : State) : answered p (writeFrom p s) = onPath p s := by cases p <;> rfl

@[simp] theorem guardOf_writeFrom (p q : Path) (s : State) : guardOf q (writeFrom p s) = guardOf q s := by
  cases p <;> cases q <;> rfl

@[simp] theorem writeFrom_clk (p : Path) (s : State) : (writeFrom p s).clk = s.clk := by cases p <;> rfl

@[simp] theorem writeFrom_posted (p : Path) (s : State) : (writeFrom p s).win.posted = s.win.posted := by cases p <;> rfl

theorem answered_setGuard (p q : Path) (g : Guard) (s : State) : answered p (setGuard q g s) = setGuard q g (answered p s) := by
  cases p <;> cases q <;> rfl

/-! ## UNLOCK -/

theorem voteGuard_agrees {p : Path} {s : State} (h : (guardOf p s).unlocked.agrees = true) : voteGuard p s = s := by
  simp [voteGuard, h]

theorem exec_unlock {p : Path} {s : State} (d : Word) (h : Served p 0o1400 s) :
    exec (.unlock p d) s = .next (applied p (writeUnlock p d) s) := by
  refine congrArg Host.Outcome.next ((pathWrite_applied 0 d h (fun _ => .inl rfl)).trans ?_)
  cases p <;> rfl

theorem exec_guardUnlockExpiry (p : Path) (s : State) : exec (.guardUnlockExpiry p) s =
    .next (if 480 ≤ since (guardOf p s).since s then setGuard p { guardOf p s with unlocked := {} } (fresh s) else fresh s) := rfl

/-- Settles O6: the key, any other value, and the two sides of the 10 ms. -/
theorem unlockOpensOnlyWithKey : Obligations.UnlockOpensOnlyWithKey := by
  refine ⟨fun p d s h hagrees => ?_, fun p s => ?_⟩
  · have voted : voteGuard p (writeFrom p s) = writeFrom p s := voteGuard_agrees (by rwa [guardOf_writeFrom])
    rw [exec_unlock d h, applied, writeUnlock, voted]
    constructor <;> intro hd <;>
      simp only [hd, if_true, if_false, answered_setGuard, answered_writeFrom, guardOf_writeFrom, writeFrom_clk]
  · rw [exec_guardUnlockExpiry]
    exact ⟨fun ht => by rw [if_pos ht], fun ht => by rw [if_neg (Nat.not_le.mpr ht)]⟩

/-! ## Guarded writes -/

theorem frame_out_win {s t : State} (h : t = { s with out := t.out, win := t.win }) : Frame [.out, .win] s t := by
  intro g hg
  rw [h]
  cases g <;> simp_all [same]

theorem frame_out_win_flt {s t : State} (h : t = { s with out := t.out, win := t.win, flt := t.flt }) : Frame [.out, .win, .flt] s t := by
  intro g hg
  rw [h]
  cases g <;> simp_all [same]

theorem exec_guardedWrite {p : Path} {a : BitVec 13} {s : State} (d : Word) (hg : isGuarded (regOf a) = true)
    (h : Served p (regOf a) s) (hroom : s.win.posted.length < 8) :
    exec (.guardedWrite p a d) s = .next (applied p (guardedWriteReg p (regOf a) (aliasOf a) d) s) := by
  have hwrite : writeReg p (regOf a) (aliasOf a) d = guardedWriteReg p (regOf a) (aliasOf a) d :=
    funext fun t => by simp only [writeReg, hg, if_true]
  show (if isGuarded (regOf a) then _ else _) = _
  rw [if_pos hg, effect_next, pathWrite_applied _ d h (fun _ => .inr hroom), hwrite]

theorem guardOpen_writeFrom (p : Path) (s : State) : guardOpen p (writeFrom p s) = guardOpen p s := by cases p <;> rfl

section GuardedWrite

variable {p : Path} {r op : Nat} {d : Word} {s : State} (hagrees : (guardOf p s).unlocked.agrees = true)
include hagrees

theorem guardedWriteReg_locked (hopen : guardOpen p s = false) : guardedWriteReg p r op d s =
    discardMark p (setGuard p { guardOf p s with unlocked := {}, lockedWr := true } (lockPath p s)) := by
  simp [guardedWriteReg, voteGuard_agrees hagrees, hopen, lockPath]

theorem guardedWriteReg_pair (hopen : guardOpen p s = true) (hop : op = 0) (hpair : d.bits 17 9 = 511 - d.bits 8 0) :
    guardedWriteReg p r op d s = applyGuarded p r (d.bits 8 0) d (lockPath p s) := by
  simp [guardedWriteReg, voteGuard_agrees hagrees, hopen, hop, hpair]

theorem guardedWriteReg_badPair (hopen : guardOpen p s = true) (hpair : op ≠ 0 ∨ d.bits 17 9 ≠ 511 - d.bits 8 0) :
    guardedWriteReg p r op d s = badPair p (lockPath p s) := by
  have hbad : ¬(op = 0 ∧ d.bits 17 9 = 511 - d.bits 8 0) := by tauto
  simp [guardedWriteReg, voteGuard_agrees hagrees, hopen, hbad]

end GuardedWrite

section GuardedOutcomes

variable {p : Path} {a : BitVec 13} {d : Word} {s : State} (h : Served p (regOf a) s) (hagrees : (guardOf p s).unlocked.agrees = true)
  (hroom : s.win.posted.length < 8)
include h hagrees hroom

/-- A guarded write over a locked path is discarded (R85). -/
theorem exec_guardedWrite_locked (hg : isGuarded (regOf a) = true) (hopen : guardOpen p s = false) :
    ∃ t, exec (.guardedWrite p a d) s = .next t ∧ Frame [.out, .win] (fresh s) t ∧
      guardOf p t = { guardOf p s with unlocked := {}, lockedWr := true } ∧
      t.win.safectl = s.win.safectl ∧ t.win.posted = s.win.posted ∧ (p = .mspi → t.win.gdisc = true) := by
  refine ⟨_, exec_guardedWrite d hg h hroom, ?_⟩
  rw [applied, guardedWriteReg_locked (by rwa [guardOf_writeFrom]) (by rwa [guardOpen_writeFrom])]
  refine ⟨frame_out_win ?_, ?_, ?_, ?_, fun hp => ?_⟩
  · cases p <;> rfl
  · cases p <;> rfl
  · cases p <;> rfl
  · cases p <;> rfl
  · subst hp
    rfl

/-- The state that a guarded write over an unlocked path with value and complement leaves. -/
theorem exec_guardedWrite_open (hg : isGuarded (regOf a) = true) (hopen : guardOpen p s = true) (hop : aliasOf a = 0)
    (hpair : d.bits 17 9 = 511 - d.bits 8 0) : exec (.guardedWrite p a d) s =
      .next (answered p (applyGuarded p (regOf a) (d.bits 8 0) d (lockPath p (writeFrom p s)))) := by
  rw [exec_guardedWrite d hg h hroom, applied, guardedWriteReg_pair (by rwa [guardOf_writeFrom]) (by rwa [guardOpen_writeFrom]) hop hpair]

theorem exec_guardedWrite_safectl (hopen : guardOpen p s = true) (hop : aliasOf a = 0) (hpair : d.bits 17 9 = 511 - d.bits 8 0)
    (hr : regOf a = 0o412) (hctl : s.win.safectl.agrees = true) :
    ∃ t, exec (.guardedWrite p a d) s = .next t ∧ Frame [.out, .win] (fresh s) t ∧
      guardOf p t = { guardOf p s with unlocked := {} } ∧ t.win.safectl = Trip.of (BitVec.ofNat 4 (d.bits 8 0)) ∧
      t.win.posted = s.win.posted := by
  refine ⟨_, exec_guardedWrite_open h hagrees hroom (by rw [hr]; rfl) hopen hop hpair, ?_⟩
  have hvoted : voteSafectl (lockPath p (writeFrom p s)) = lockPath p (writeFrom p s) := by
    rw [voteSafectl, if_pos]
    cases p <;> exact hctl
  have happly : applyGuarded p (regOf a) (d.bits 8 0) d (lockPath p (writeFrom p s)) =
      { lockPath p (writeFrom p s) with win :=
        { (lockPath p (writeFrom p s)).win with safectl := Trip.of (BitVec.ofNat 4 (d.bits 8 0)) } } := by
    rw [hr]
    simp only [applyGuarded, hvoted]
  rw [happly]
  refine ⟨frame_out_win ?_, ?_, ?_, ?_⟩ <;> cases p <;> rfl

theorem exec_guardedWrite_sev (hopen : guardOpen p s = true) (hop : aliasOf a = 0) (hpair : d.bits 17 9 = 511 - d.bits 8 0)
    (hr : regOf a = 0o415) (hsev : d.bits 8 0 % 8 < 6) (hdef : (sourceDef s.win.sevSel.toNat).isSome = true)
    (hfixed : fixedSource s.win.sevSel.toNat = false) (hentry : (sevEntry s.win.sevSel.toNat s).agrees = true) :
    ∃ t, exec (.guardedWrite p a d) s = .next t ∧ Frame [.out, .win, .flt] (fresh s) t ∧
      guardOf p t = { guardOf p s with unlocked := {} } ∧
      t.flt = { s.flt with sev := insertKey s.flt.sev s.win.sevSel.toNat (Trip.of (BitVec.ofNat 4 (d.bits 8 0))) } := by
  refine ⟨_, exec_guardedWrite_open h hagrees hroom (by rw [hr]; rfl) hopen hop hpair, ?_⟩
  have hsel : (lockPath p (writeFrom p s)).win.sevSel = s.win.sevSel := by cases p <;> rfl
  have hvoted : voteSev s.win.sevSel.toNat (lockPath p (writeFrom p s)) = lockPath p (writeFrom p s) := by
    rw [voteSev, if_pos]
    cases p <;> exact hentry
  have happly : applyGuarded p (regOf a) (d.bits 8 0) d (lockPath p (writeFrom p s)) =
      { lockPath p (writeFrom p s) with flt := { (lockPath p (writeFrom p s)).flt with
        sev := insertKey (lockPath p (writeFrom p s)).flt.sev s.win.sevSel.toNat (Trip.of (BitVec.ofNat 4 (d.bits 8 0))) } } := by
    rw [hr]
    simp [applyGuarded, hsel, hvoted, hfixed, Option.isNone_eq_false_iff.mpr hdef, Nat.not_le.mpr hsev]
  rw [happly]
  refine ⟨frame_out_win_flt ?_, ?_, ?_⟩ <;> cases p <;> rfl

theorem exec_guardedWrite_posted (hopen : guardOpen p s = true) (hop : aliasOf a = 0) (hpair : d.bits 17 9 = 511 - d.bits 8 0)
    (hr : regOf a = 0o1001 ∨ regOf a = 0o1003) :
    ∃ t, exec (.guardedWrite p a d) s = .next t ∧ Frame [.out, .win] (fresh s) t ∧
      guardOf p t = { guardOf p s with unlocked := {} } ∧
      t.win.posted = s.win.posted ++ [⟨regOf a, 0, w18 (d.toNat % 512), 0⟩] := by
  have hg : isGuarded (regOf a) = true := by rcases hr with e | e <;> rw [e] <;> rfl
  refine ⟨_, exec_guardedWrite_open h hagrees hroom hg hopen hop hpair, ?_⟩
  have hlen : (lockPath p (writeFrom p s)).win.posted.length < 8 := by cases p <;> exact hroom
  have happly : applyGuarded p (regOf a) (d.bits 8 0) d (lockPath p (writeFrom p s)) =
      { lockPath p (writeFrom p s) with win := { (lockPath p (writeFrom p s)).win with
        posted := (lockPath p (writeFrom p s)).win.posted ++ [⟨regOf a, 0, w18 (d.toNat % 512), 0⟩], wpend := true } } := by
    rcases hr with e | e <;> simp [e, applyGuarded, postAon, hlen]
  rw [happly]
  refine ⟨frame_out_win ?_, ?_, ?_⟩ <;> cases p <;> rfl

/-- A guarded write without its complement, or at a second address, raises the configuration-integrity fault (R85). -/
theorem exec_guardedWrite_badPair (hg : isGuarded (regOf a) = true) (hopen : guardOpen p s = true)
    (hpair : aliasOf a ≠ 0 ∨ d.bits 17 9 ≠ 511 - d.bits 8 0) :
    ∃ t, exec (.guardedWrite p a d) s = .next t ∧ Frame [.out, .boot, .aon, .win, .mbx, .flt, .hub, .zon] (fresh s) t ∧
      guardOf p t = { guardOf p s with unlocked := {}, badPair := true } ∧ t.win.safectl = s.win.safectl ∧
      t.win.posted = s.win.posted ∧ (p = .mspi → t.win.gdisc = true) ∧
      (blockOff 0o0221 s = false →
        lookupD t.flt.counts 0o0221 0 = min 262143 (lookupD s.flt.counts 0o0221 0 + 1)) := by
  refine ⟨_, exec_guardedWrite d hg h hroom, ?_⟩
  rw [applied, guardedWriteReg_badPair (by rwa [guardOf_writeFrom]) (by rwa [guardOpen_writeFrom]) hpair]
  refine ⟨fun g hg => ?_, ?_, ?_, ?_, fun hp => ?_, fun hoff => ?_⟩
  · cases p <;> cases g <;> simp_all [same, answered, badPair, discardMark, writeFrom, onPath, lockPath, setGuard]
  · cases p <;> simp [guardOf, answered, badPair, discardMark, setGuard, lockPath, writeFrom, onPath, flagsShown]
  · cases p <;> simp [answered, badPair, discardMark, setGuard, lockPath, writeFrom, onPath, flagsShown]
  · cases p <;> simp [answered, badPair, discardMark, setGuard, lockPath, writeFrom, onPath, flagsShown]
  · subst hp
    rfl
  · cases p <;> exact raiseFault_count (src := 0o0221) rfl hoff

end GuardedOutcomes

/-- Settles O7, outcome by outcome. -/
theorem guardedWriteOutcomes : Obligations.GuardedWriteOutcomes := by
  intro p a d s h hagrees hroom
  refine ⟨exec_guardedWrite_locked h hagrees hroom, fun hopen hop hpair => ⟨?_, ?_, ?_⟩, exec_guardedWrite_badPair h hagrees hroom⟩
  · exact exec_guardedWrite_safectl h hagrees hroom hopen hop hpair
  · exact exec_guardedWrite_sev h hagrees hroom hopen hop hpair
  · exact exec_guardedWrite_posted h hagrees hroom hopen hop hpair

/-! ## Posted writes -/

theorem writeReg_aon {p : Path} {r op : Nat} (d : Word) (s : State) (hg : isGuarded r = false) (hm : p = .sup → isMaintained r = false)
    (ha : isAon r = true) : writeReg p r op d s = postAon p r op d s := by
  cases p with
  | sup => simp [writeReg, hg, ha, hm rfl]
  | _ => simp [writeReg, hg, ha]

section Posted

variable {p : Path} {a : BitVec 13} {s : State} (d : Word) (h : Served p (regOf a) s) (ha : isAon (regOf a) = true)
  (hg : isGuarded (regOf a) = false) (hm : p = .sup → isMaintained (regOf a) = false)
include h ha hg hm

theorem exec_write_posted (hroom : s.win.posted.length < 8) :
    exec (.registerWrite p a d) s = .next { onPath p s with win := { (onPath p s).win with
      posted := s.win.posted ++ [⟨regOf a, aliasOf a, d, 0⟩], wpend := true } } := by
  rw [exec_registerWrite d h (fun _ => .inr hroom), applied, writeReg_aon d _ hg hm ha]
  simp only [postAon, writeFrom_posted, hroom, if_true]
  cases p <;> rfl

theorem exec_write_dropped (hfull : 8 ≤ s.win.posted.length) (hp : p = .mspi) :
    exec (.registerWrite p a d) s = .next { onPath p s with win := { (onPath p s).win with wdrop := true } } := by
  subst hp
  rw [exec_registerWrite d h (fun e => nomatch e), applied, writeReg_aon d _ hg hm ha, postAon, writeFrom_posted,
    if_neg (Nat.not_lt.mpr hfull)]
  rfl

theorem exec_write_stalls (hfull : 8 ≤ s.win.posted.length) (hp : p = .sup) :
    exec (.registerWrite p a d) s = .next { applyOldest (fresh s) with win := { (applyOldest (fresh s)).win with
      posted := (applyOldest (fresh s)).win.posted ++ [⟨regOf a, aliasOf a, d, 0⟩], wpend := true } } := by
  subst hp
  rw [exec_registerWrite d h (fun e => nomatch e), applied, writeReg_aon d _ hg hm ha, postAon, writeFrom_posted,
    if_neg (Nat.not_lt.mpr hfull)]
  rfl

omit hg hm in
theorem exec_write_nak (hfull : 8 ≤ s.win.posted.length) (hp : p = .usb) :
    exec (.registerWrite p a d) s = .next { fresh s with out := [.handshake .nak] } := by
  subst hp
  have hreach : usbReach (fresh s) = true := h
  show Host.Outcome.next (pathWrite .usb (regOf a) (aliasOf a) d (fresh s)) = _
  simp only [pathWrite, hreach, if_true]
  rw [if_pos ⟨ha, hfull⟩]
  rfl

end Posted

theorem exec_aonPostedWrite {w : Posted} {rest : List Posted} {s : State} (h : s.win.posted = w :: rest) :
    exec .aonPostedWrite s = .next (applyPosted w { fresh s with win := { s.win with posted := rest } }) := by
  show Host.Outcome.next (applyOldest (fresh s)) = _
  simp only [applyOldest, fresh_win, h]

/-- Settles O9: the four outcomes of a write, and the oldest write register by register. -/
theorem aonWritesArePosted : Obligations.AonWritesArePosted := by
  refine ⟨fun p a d s h ha hg hm => ⟨exec_write_posted d h ha hg hm, exec_write_dropped d h ha hg hm, exec_write_nak d h ha,
    exec_write_stalls d h ha hg hm⟩, fun w rest s h => ?_⟩
  rw [exec_aonPostedWrite h]
  refine ⟨fun ha => ?_, fun ha hop => ?_, fun ha hop => ?_, fun ha hop => ?_, fun ha hpol => ?_, fun ha hpol => ?_⟩
  · simp [applyPosted, ha]
  · simp [applyPosted, ha, hop, w1c]
  · simp [applyPosted, ha, hop, w1c]
  · rcases ha with ha | ha <;> simp [applyPosted, ha, hop]
  · simp [applyPosted, ha, voteWakePol, hpol]
  · simp [applyPosted, ha, voteTampPol, hpol]

end Sys2Proof.Proofs
end

section
/-!
The mailboxes: a word that arrives at a sub-queue, the flush, and the outbound word that a read takes (R89 to R101).
-/

namespace Sys2Proof.Proofs

open Sys2Proof
open Sys2Proof.Machine
open Sys2Proof.Safety
open Sys2Proof.Laws

/-! ## An event and the mailbox -/

/-- An event touches the event queue, its sequence number and the count of lost events, nothing else of the mailboxes. -/
def SameBoxes (s t : State) : Prop :=
  t.mbx = { s.mbx with event := t.mbx.event, eventSeq := t.mbx.eventSeq, lost := t.mbx.lost }

theorem SameBoxes.trans {s t u : State} (h : SameBoxes s t) (h' : SameBoxes t u) : SameBoxes s u := by
  unfold SameBoxes at *
  rw [h', h]

theorem SameBoxes.of_eq {s t : State} (h : t.mbx = s.mbx) : SameBoxes s t := by
  rw [SameBoxes, h]

theorem enqueueEvent_boxes (w0 : Word) (ps : List Word) (t : Tick) (s : State) : SameBoxes s (enqueueEvent w0 ps t s) := by
  have queued : SameBoxes s (queueEvent w0 ps t s) := rfl
  have woken (u : State) : SameBoxes u (requestWake u) := .of_eq (by simp)
  have resumed (u : State) : SameBoxes u (resumeFunction u) := by
    simp only [resumeFunction]
    (repeat' split) <;> rfl
  simp only [enqueueEvent]
  split
  · exact queued
  · split
    · exact queued.trans (woken _)
    · split
      · exact queued.trans (resumed _)
      · exact queued

theorem postAt_boxes (w0 : Word) (ps : List Word) (t : Tick) (s : State) : SameBoxes s (postAt w0 ps t s) := by
  have lost (u : State) (n : Nat) : SameBoxes u { u with mbx := { u.mbx with lost := n } } := rfl
  simp only [postAt]
  split
  · split
    · exact enqueueEvent_boxes ..
    · exact ((enqueueEvent_boxes ..).trans (lost _ 0)).trans (enqueueEvent_boxes ..)
  · rfl

theorem post_boxes (w0 : Word) (ps : List Word) (s : State) : SameBoxes s (post w0 ps s) := by
  simp only [post]
  split
  · exact postAt_boxes ..
  · rfl

theorem SameBoxes.subQueue {s t : State} (h : SameBoxes s t) (b : Box) (k : Nat) : subQueue b k t = subQueue b k s := by
  unfold SameBoxes at h
  cases b <;> simp only [Machine.subQueue, subQueues] <;> rw [h]

theorem SameBoxes.inU {s t : State} (h : SameBoxes s t) : t.mbx.inU = s.mbx.inU := by
  unfold SameBoxes at h
  rw [h]

theorem post_win (w0 : Word) (ps : List Word) (s : State) : (post w0 ps s).win = s.win := by simp

/-! ## A word arrives -/

section Arrival

variable {b : Box} {k : Nat} {w : MbxWord} {s : State}

theorem acceptWord_discarded (h : (subQueue b k s).discard = true) :
    acceptWord b k w s = setSubQueue b k { subQueue b k s with discard := !w.endMark } s := by
  simp [acceptWord, h]

theorem acceptWord_stored (h : takesWords (subQueue b k s)) (hend : w.endMark = false) :
    acceptWord b k w s = setSubQueue b k { subQueue b k s with part := (subQueue b k s).part ++ [w] } s := by
  obtain ⟨hd, hu, hp⟩ := h
  simp [acceptWord, hd, Nat.not_le.mpr hu, Nat.not_le.mpr hp, hend]

theorem acceptWord_completed (h : takesWords (subQueue b k s)) (hend : w.endMark = true) :
    acceptWord b k w s = completePacket b k (subQueue b k s) w s := by
  obtain ⟨hd, hu, hp⟩ := h
  simp [acceptWord, hd, Nat.not_le.mpr hu, Nat.not_le.mpr hp, hend]

end Arrival

theorem exec_mbxInData {s : State} (d : Word) (h : Served .mspi 0o201 s) :
    exec (.mbxInData .mspi d) s = .next (acceptWord .s s.win.mbxMspi.prio.toNat (mbxWord d false) (onPath .mspi s)) :=
  congrArg Host.Outcome.next (pathWrite_mspi h)

theorem exec_mbxInLast {s : State} (d : Word) (h : Served .mspi 0o201 s) :
    exec (.mbxInLast .mspi d) s = .next (acceptWord .s s.win.mbxMspi.prio.toNat (mbxWord d true) (onPath .mspi s)) := by
  have hlast : Served .mspi 0o202 s := by
    obtain ⟨hmode, -⟩ := h
    exact ⟨hmode, by simp [inReach]⟩
  exact congrArg Host.Outcome.next (pathWrite_mspi hlast)

theorem onPath_subQueue (p : Path) (b : Box) (k : Nat) (s : State) : subQueue b k (onPath p s) = subQueue b k s := by
  cases b <;> rfl

/-- The two registers of inbound words take nothing on the other paths. -/
theorem exec_mbxIn_ignored {p : Path} {s : State} (d : Word) (hp : p ≠ .mspi) (h : Served p 0o201 s) :
    exec (.mbxInData p d) s = .next (onPath p s) ∧ exec (.mbxInLast p d) s = .next (onPath p s) := by
  have hlast : Served p 0o202 s := by
    cases p with
    | mspi => exact absurd rfl hp
    | _ => exact h
  have ignored (r : Nat) (hr : r = 0o201 ∨ r = 0o202) (hserved : Served p r s) : pathWrite p r 0 d (fresh s) = onPath p s := by
    have haon : isAon r = false := by rcases hr with rfl | rfl <;> rfl
    have hw (t : State) : writeReg p r 0 d t = t := by
      cases p with
      | mspi => exact absurd rfl hp
      | _ => rcases hr with rfl | rfl <;> rfl
    rw [pathWrite_applied 0 d hserved (fun _ => .inl haon), applied, hw, answered_writeFrom]
  exact ⟨congrArg Host.Outcome.next (ignored _ (.inl rfl) h), congrArg Host.Outcome.next (ignored _ (.inr rfl) hlast)⟩

theorem restartHeartbeat_zon (a : Tick) (s : State) :
    (restartHeartbeat a s).zon = { s.zon with hbTick := a, hbReturn := s.zon.hbReturn || s.zon.hbLost } := rfl

/-- An end mark completes the packet in its sub-queue; a free heartbeat alone touches the zones. -/
theorem completePacket_facts (b : Box) (k : Nat) (q : SubQueue) (w : MbxWord) (s : State) :
    let t := completePacket b k q w s
    Frame [.mbx, .zon] s t ∧
    t.mbx = (setSubQueue b k { q with packets := q.packets ++ [{ words := q.part ++ [w], arrival := s.clk.tick }], part := [] } s).mbx ∧
    (isFreeHeartbeat (q.part ++ [w]) = false → t.zon = s.zon) ∧
    (isFreeHeartbeat (q.part ++ [w]) = true → t.zon = { s.zon with hbTick := s.clk.tick, hbReturn := s.zon.hbReturn || s.zon.hbLost }) := by
  intro t
  have hframe : Frame [.mbx, .zon] s t := by
    intro g hg
    cases g <;> simp_all [same, t]
  simp only [t, completePacket] at hframe ⊢
  cases hb : isFreeHeartbeat (q.part ++ [w]) with
  | false => exact ⟨by simpa [hb] using hframe, rfl, fun _ => by cases b <;> rfl, fun h => nomatch h⟩
  | true => exact ⟨by simpa [hb] using hframe, rfl, fun h => (nomatch h), fun _ => by cases b <;> rfl⟩

theorem subQueue_of_mbx {s t : State} (h : t.mbx = s.mbx) (b : Box) (k : Nat) : subQueue b k t = subQueue b k s := by
  cases b <;> simp only [subQueue, subQueues, h]

theorem subQueue_setSubQueue_ne {b b' : Box} {k j : Nat} (h : (b', j) ≠ (b, k)) (q : SubQueue) (s : State) :
    subQueue b' j (setSubQueue b k q s) = subQueue b' j s := by
  by_cases hb : b' = b
  · subst hb
    exact subQueue_setSubQueue_other (fun e => h (by rw [e])) ..
  · cases b <;> cases b' <;> simp_all [subQueue, subQueues, setSubQueue]

theorem takesWords_onPath {p : Path} {b : Box} {k : Nat} {s : State} (h : takesWords (subQueue b k s)) :
    takesWords (subQueue b k (onPath p s)) := by rwa [onPath_subQueue]

section MspiWord

variable {s : State} (d : Word) (h : Served .mspi 0o201 s)
include h

theorem exec_mbxInData_stored (htakes : takesWords (subQueue .s s.win.mbxMspi.prio.toNat s)) :
    ∃ t, exec (.mbxInData .mspi d) s = .next t ∧ Frame [.out, .win, .mbx] (fresh s) t ∧ t.win = flagsShown .mspi s.win ∧
      t.mbx = { s.mbx with inS := listSet s.mbx.inS s.win.mbxMspi.prio.toNat { subQueue .s s.win.mbxMspi.prio.toNat s with
        part := (subQueue .s s.win.mbxMspi.prio.toNat s).part ++ [mbxWord d false] } } := by
  refine ⟨_, exec_mbxInData d h, ?_⟩
  rw [acceptWord_stored (takesWords_onPath htakes) rfl]
  refine ⟨fun g hg => ?_, rfl, rfl⟩
  cases g <;> simp_all [same, onPath]

theorem exec_mbxInLast_completed (htakes : takesWords (subQueue .s s.win.mbxMspi.prio.toNat s)) :
    ∃ t, exec (.mbxInLast .mspi d) s = .next t ∧ Frame [.out, .win, .mbx, .zon] (fresh s) t ∧ t.win = flagsShown .mspi s.win ∧
      t.mbx = { s.mbx with inS := listSet s.mbx.inS s.win.mbxMspi.prio.toNat { subQueue .s s.win.mbxMspi.prio.toNat s with
        packets := (subQueue .s s.win.mbxMspi.prio.toNat s).packets ++
          [{ words := (subQueue .s s.win.mbxMspi.prio.toNat s).part ++ [mbxWord d true], arrival := s.clk.tick }]
        part := [] } } ∧
      (isFreeHeartbeat ((subQueue .s s.win.mbxMspi.prio.toNat s).part ++ [mbxWord d true]) = false → t.zon = s.zon) ∧
      (isFreeHeartbeat ((subQueue .s s.win.mbxMspi.prio.toNat s).part ++ [mbxWord d true]) = true →
        t.zon = { s.zon with hbTick := s.clk.tick, hbReturn := s.zon.hbReturn || s.zon.hbLost }) := by
  refine ⟨_, exec_mbxInLast d h, ?_⟩
  rw [acceptWord_completed (takesWords_onPath htakes) rfl]
  obtain ⟨hframe, hmbx, hzon, hbeat⟩ := completePacket_facts .s s.win.mbxMspi.prio.toNat (subQueue .s s.win.mbxMspi.prio.toNat s)
    (mbxWord d true) (onPath .mspi s)
  refine ⟨fun g hg => ?_, hframe .win (by decide), hmbx, hzon, hbeat⟩
  have hkept := hframe g (fun hm => hg (by simp_all))
  cases g <;> simp_all [same, onPath]

/-- The command that writes a word of MBX_IN over MSPI, with or without the end mark. -/
def wordInstr (last : Bool) (d : Word) : Instr := if last then .mbxInLast .mspi d else .mbxInData .mspi d

theorem exec_wordInstr (last : Bool) : exec (wordInstr last d) s = .next (acceptWord .s s.win.mbxMspi.prio.toNat (mbxWord d last) (onPath .mspi s)) := by
  cases last with
  | false => exact exec_mbxInData d h
  | true => exact exec_mbxInLast d h

theorem exec_word_discarded (last : Bool) (hd : (subQueue .s s.win.mbxMspi.prio.toNat s).discard = true) :
    ∃ t, exec (wordInstr last d) s = .next t ∧ Frame [.out, .win, .mbx] (fresh s) t ∧ t.win = flagsShown .mspi s.win ∧
      t.mbx = { s.mbx with inS := listSet s.mbx.inS s.win.mbxMspi.prio.toNat { subQueue .s s.win.mbxMspi.prio.toNat s with
        discard := !last } } := by
  refine ⟨_, exec_wordInstr d h last, ?_⟩
  rw [acceptWord_discarded (by rw [onPath_subQueue]; exact hd)]
  refine ⟨fun g hg => ?_, rfl, rfl⟩
  cases g <;> simp_all [same, onPath]

omit h in
/-- A word that drops its packet: over a full sub-queue the overrun flag is set, and the packet's words go (R93). -/
theorem acceptWord_dropped {k : Nat} {w : MbxWord} (hd : (subQueue .s k s).discard = false)
    (hover : 512 ≤ (subQueue .s k s).used ∨ (subQueue .s k s).part.length = 256) :
    ∃ reason, acceptWord .s k w s = dropPacket .s k (subQueue .s k s) w reason
      (setMbx .mspi { s.win.mbxMspi with inOverrun := s.win.mbxMspi.inOverrun || decide (512 ≤ (subQueue .s k s).used) } s) := by
  by_cases hfull : 512 ≤ (subQueue .s k s).used
  · exact ⟨2, by simp [acceptWord, hd, hfull]⟩
  · have hlong : 256 ≤ (subQueue .s k s).part.length := by omega
    exact ⟨1, by simp [acceptWord, hd, hfull, hlong, setMbx]⟩

theorem exec_word_dropped (last : Bool) (hsize : s.mbx.inS.length = 4)
    (hd : (subQueue .s s.win.mbxMspi.prio.toNat s).discard = false)
    (hover : 512 ≤ (subQueue .s s.win.mbxMspi.prio.toNat s).used ∨ (subQueue .s s.win.mbxMspi.prio.toNat s).part.length = 256) :
    ∃ t, exec (wordInstr last d) s = .next t ∧ Frame [.out, .boot, .win, .mbx, .hub] (fresh s) t ∧
      subQueue .s s.win.mbxMspi.prio.toNat t =
        { subQueue .s s.win.mbxMspi.prio.toNat s with part := [], discard := !last } ∧
      (∀ j, j ≠ s.win.mbxMspi.prio.toNat → subQueue .s j t = subQueue .s j s) ∧ t.mbx.inU = s.mbx.inU ∧
      t.win.mbxMspi.inOverrun = (s.win.mbxMspi.inOverrun || decide (512 ≤ (subQueue .s s.win.mbxMspi.prio.toNat s).used)) := by
  obtain ⟨reason, hdrop⟩ := acceptWord_dropped (s := onPath .mspi s) (w := mbxWord d last) hd hover
  refine ⟨_, exec_wordInstr d h last, ?_⟩
  rw [hdrop]
  have hprio : s.win.mbxMspi.prio.toNat < s.mbx.inS.length := hsize ▸ s.win.mbxMspi.prio.isLt
  have hboxes := post_boxes 0o010201
    [w18 (boxCode .s * 65536 + s.win.mbxMspi.prio.toNat * 16384 + reason)]
  refine ⟨fun g hg => ?_, ?_, fun j hj => ?_, ?_, ?_⟩
  · cases g <;> simp_all [same, dropPacket, onPath, setMbx]
  · rw [dropPacket, (hboxes _).subQueue, subQueue_setSubQueue hprio]
    rfl
  · rw [dropPacket, (hboxes _).subQueue, subQueue_setSubQueue_other hj]
    rfl
  · rw [dropPacket, (hboxes _).inU]
    rfl
  · rw [dropPacket, post_win]
    rfl

end MspiWord

theorem frame_mbx (s : State) (m : Mailbox) : Frame [.mbx] s { s with mbx := m } := by
  intro g hg
  cases g <;> simp_all [same]

/-- PACKET_COMPLETE over either mailbox (R91). -/
theorem exec_packetComplete {b : Box} {k : Fin 4} {s : State} (d : Word) (htakes : takesWords (subQueue b k.val s))
    (hsize : (subQueues b s).length = 4) :
    ∃ t, exec (.packetComplete b k d) s = .next t ∧ Frame [.mbx, .zon] (fresh s) t ∧
      subQueue b k.val t = { subQueue b k.val s with
        packets := (subQueue b k.val s).packets ++
          [{ words := (subQueue b k.val s).part ++ [mbxWord d true], arrival := s.clk.tick }]
        part := [] } ∧
      (∀ (b' : Box) (j : Nat), (b', j) ≠ (b, k.val) → subQueue b' j t = subQueue b' j s) := by
  have hk : k.val < (subQueues b (fresh s)).length := lt_of_lt_of_eq k.isLt hsize.symm
  have htakes' : takesWords (subQueue b k.val (fresh s)) := htakes
  obtain ⟨hframe, hmbx, -⟩ := completePacket_facts b k.val (subQueue b k.val (fresh s)) (mbxWord d true) (fresh s)
  let t := completePacket b k.val (subQueue b k.val (fresh s)) (mbxWord d true) (fresh s)
  have hqueues : subQueue b k.val t = { subQueue b k.val s with
        packets := (subQueue b k.val s).packets ++ [{ words := (subQueue b k.val s).part ++ [mbxWord d true], arrival := s.clk.tick }]
        part := [] } ∧ ∀ (b' : Box) (j : Nat), (b', j) ≠ (b, k.val) → subQueue b' j t = subQueue b' j s := by
    refine ⟨?_, fun b' j hne => ?_⟩
    · rw [subQueue_of_mbx hmbx, subQueue_setSubQueue hk]
      rfl
    · rw [subQueue_of_mbx hmbx, subQueue_setSubQueue_ne hne]
      rfl
  cases b with
  | s => exact ⟨t, congrArg Host.Outcome.next (acceptWord_completed htakes' rfl), hframe, hqueues⟩
  | u =>
    have hroom := htakes'.2.1
    have hexec : exec (.packetComplete .u k d) s = .next (if t.mbx.usbOpen = some k then { t with mbx := { t.mbx with usbOpen := none } } else t) := by
      show Host.Outcome.next (if 512 ≤ (subQueue .u k.val (fresh s)).used then _ else _) = _
      rw [if_neg (Nat.not_le.mpr hroom), acceptWord_completed htakes' rfl]
    refine ⟨_, hexec, ?_⟩
    split
    · exact ⟨Frame_mono (Frame_trans hframe (frame_mbx t _)) (by decide), hqueues⟩
    · exact ⟨hframe, hqueues⟩

/-- Settles O11, case by case of the word that arrives. -/
theorem inboundWordsEnterOrDrop : Obligations.InboundWordsEnterOrDrop := by
  refine ⟨⟨fun d s h htakes _ => ⟨exec_mbxInData_stored d h htakes, exec_mbxInLast_completed d h htakes⟩,
    fun p d s hp h => exec_mbxIn_ignored d hp h, fun b k d s htakes hsize => exec_packetComplete d htakes hsize⟩, fun last d s h hsize => ?_⟩
  exact ⟨exec_word_dropped d h last hsize, exec_word_discarded d h last⟩

/-! ## The flush -/

/-- A flush of listed sub-queues changes nothing of the state but the sub-queues of MBX-S. -/
theorem flush_only (mask : Nat) (l : List Nat) (s : State) :
    let t := l.foldl (fun s k => if bitOf mask k then setSubQueue .s k {} s else s) s
    t = { s with mbx := { s.mbx with inS := t.mbx.inS } } := by
  induction l generalizing s with
  | nil => rfl
  | cons k l ih =>
    simp only [List.foldl_cons]
    split
    · exact ih (setSubQueue .s k {} s)
    · exact ih s

theorem flush_subQueue (mask : Nat) {j : Nat} (l : List Nat) (s : State) (hj : j < s.mbx.inS.length) :
    subQueue .s j (l.foldl (fun s k => if bitOf mask k then setSubQueue .s k {} s else s) s) =
      if j ∈ l ∧ bitOf mask j then {} else subQueue .s j s := by
  induction l generalizing s with
  | nil => simp
  | cons k l ih =>
    rw [List.foldl_cons]
    by_cases hk : bitOf mask k
    · rw [if_pos hk, ih _ (by simpa [setSubQueue] using hj)]
      by_cases hjk : j = k
      · subst hjk
        simp [hk, subQueue_setSubQueue (b := .s) hj]
      · simp [hjk, subQueue_setSubQueue_other hjk]
    · rw [if_neg hk, ih s hj]
      by_cases hjk : j = k
      · simp [hjk, hk]
      · simp [hjk]

theorem bitOf_lowBits (d : Word) {k : Nat} (hk : k < 4) : bitOf (d.bits 3 0) k = d.bit k := by
  rw [Word.bit, Word.bits, bitsOf, bitOf_testBit, bitOf_testBit, Nat.testBit_mod_two_pow]
  simp [hk]

theorem exec_mbxInFlush {s : State} (d : Word) (h : Served .mspi 0o205 s) :
    exec (.mbxInFlush .mspi d) s = .next (flushS (d.bits 3 0) (onPath .mspi s)) :=
  congrArg Host.Outcome.next (pathWrite_mspi h)

/-! ## The outbound word -/

theorem exec_mbxOutData {s : State} (h : Served .mspi 0o207 s) :
    exec (.mbxOutData .mspi) s = .next (readAnswer .mspi (popOut (readFrom .mspi s)).1 s (popOut (readFrom .mspi s)).2) :=
  congrArg Host.Outcome.next (pathRead_answer h)

/-- Settles O12: the flush sub-queue by sub-queue, and the two outcomes of the read. -/
theorem flushedAndReadQueues : Obligations.FlushedAndReadQueues := by
  refine ⟨fun d s h hsize => ?_, fun s h => ⟨fun hempty => ?_, fun pk rest w ws hqueue hwords hclean => ?_⟩⟩
  · have honly := flush_only (d.bits 3 0) (List.range 4) (onPath .mspi s)
    refine ⟨_, exec_mbxInFlush d h, fun g hg => ?_, ?_, ?_, ?_, ?_, fun k hk => ?_⟩
    · rw [flushS, honly]
      cases g <;> simp_all [same, onPath]
    · rw [flushS, honly]
      rfl
    · rw [flushS, honly]
      rfl
    · rw [flushS, honly]
      rfl
    · rw [flushS, honly]
      rfl
    · rw [flushS, flush_subQueue _ _ _ (by rw [show (onPath .mspi s).mbx.inS.length = 4 from hsize]; exact hk), bitOf_lowBits d hk]
      simp [hk, onPath_subQueue]
  · have hq : outQueue .mspi (readFrom .mspi s) = [] := hempty
    rw [exec_mbxOutData h]
    simp only [popOut, hq]
    rfl
  · have hq : outQueue .mspi (readFrom .mspi s) = pk :: rest := hqueue
    rw [exec_mbxOutData h]
    have hsel : (readFrom .mspi s).win.mbxMspi.outSel = s.win.mbxMspi.outSel := rfl
    simp only [popOut, hq, hwords, hclean, hsel]
    cases s.win.mbxMspi.outSel <;> rfl

end Sys2Proof.Proofs
end

section
/-!
The access paths: short MSPI frames, and vendor requests over USB (R75, R77 to R79).
-/

namespace Sys2Proof.Proofs

open Sys2Proof
open Sys2Proof.Machine
open Sys2Proof.Safety
open Sys2Proof.Laws

/-! ## Short frames -/

section FrameError

variable {m : List Bool} {s : State} (hlen : m.length ≠ 32) (hmode : mspiMode s = .serving)
include hlen

theorem exec_mspiFrameError : exec (.mspiFrameError m) s = .next (frameError m (fresh s)) := by
  show (if m.length = 32 then _ else _) = _
  rw [if_neg hlen]
  rfl

include hmode

theorem exec_shortFrame_write (hbit : m.getD 0 false = false ∨ m.length < 14) :
    exec (.mspiFrameError m) s = .next { fresh s with win := { flagsShown .mspi s.win with ferr := true } } := by
  have hfresh : mspiMode (fresh s) = .serving := hmode
  have hread : ¬(m.getD 0 false = true ∧ 14 ≤ m.length) := by
    rintro ⟨hr, hl⟩
    rcases hbit with hbit | hbit
    · rw [hbit] at hr
      cases hr
    · omega
  rw [exec_mspiFrameError hlen]
  simp only [frameError, hfresh, if_neg hread]
  rfl

theorem exec_shortFrame_read (hbit : m.getD 0 false = true) (hl : 14 ≤ m.length) :
    ∃ t u, exec (.shadowLatchRead .mspi (mosiAddr m)) s = .next u ∧ exec (.mspiFrameError m) s = .next t ∧
      t = { u with win := { u.win with ferr := true } } := by
  have hfresh : mspiMode (fresh s) = .serving := hmode
  refine ⟨_, mspiRead (regOf (mosiAddr m)) (fresh s), rfl, ?_, rfl⟩
  rw [exec_mspiFrameError hlen]
  simp only [frameError, hfresh, if_pos (And.intro hbit hl)]

end FrameError

/-! ## Vendor requests -/

theorem overCore_room {cls : CellClass} {toHost : Bool} {n : Nat} {s : State} (f : State → State)
    (h : coreRoom cls (if toHost then 11 else 0) (if toHost then 1 else 0x800) n s = true) :
    overCore cls toHost n f s = f (crossCore cls (if toHost then 1 else 0x800) n s) := by
  cases toHost <;> exact if_pos h

theorem overCore_noRoom {cls : CellClass} {toHost : Bool} {n : Nat} {s : State} (f : State → State)
    (h : coreRoom cls (if toHost then 11 else 0) (if toHost then 1 else 0x800) n s = false) :
    overCore cls toHost n f s = emit (.handshake (if s.hub.functionUsb3 then .nrdy else .nak)) s := by
  cases toHost <;> exact if_neg (by simpa using h)

section Vendor

variable {u : Setup} {s : State} (h : usbReach s = true)
include h

theorem exec_vendorRead_stall (hform : vendorForm true u = false) (again : Bool) :
    exec (.registerVendorRead u again) s = .next { fresh s with out := [.handshake .stall] } := by
  have hreach : usbReach (fresh s) = true := h
  show Host.Outcome.next (vendorRead u again (fresh s)) = _
  simp only [vendorRead, hreach, hform]
  rfl

theorem exec_vendorWrite_stall (hform : vendorForm false u = false) (d : BitVec 24) (e : Bool) :
    exec (.registerVendorWrite u d e) s = .next { fresh s with out := [.handshake .stall] } := by
  have hreach : usbReach (fresh s) = true := h
  show Host.Outcome.next (vendorWrite u d e (fresh s)) = _
  simp only [vendorWrite, hreach, hform]
  rfl

/-- The data stage of a vendor read. -/
def vendorStage (u : Setup) (again : Bool) (s : State) : State :=
  match again, s.win.usbRead with
  | true, some v => emit (.usbData (toBytesLE 3 v.toNat)) s
  | _, _ => pathRead .usb (regOf (vendorAddr u)) s

theorem exec_vendorRead (hform : vendorForm true u = true) (again : Bool) :
    exec (.registerVendorRead u again) s = .next (overCore .ctrl true 1 (vendorStage u again) (fresh s)) := by
  have hreach : usbReach (fresh s) = true := h
  show Host.Outcome.next (vendorRead u again (fresh s)) = _
  simp only [vendorRead, hreach, hform]
  rfl

/-- The data stage of a vendor write. -/
def vendorData (u : Setup) (d : BitVec 24) (completes : Bool) (s : State) : State :=
  if 2 ^ 18 ≤ d.toNat then emit (.handshake .stall) s
  else if !completes then s
  else pathWrite .usb (regOf (vendorAddr u)) (aliasOf (vendorAddr u)) (w18 d.toNat) s

theorem exec_vendorWrite (hform : vendorForm false u = true) (d : BitVec 24) (completes : Bool) :
    exec (.registerVendorWrite u d completes) s =
      .next (overCore .ctrl false 1 (fun t => vendorData u d completes (fillControl (toBytesLE 3 d.toNat) t)) (fresh s)) := by
  have hreach : usbReach (fresh s) = true := h
  show Host.Outcome.next (vendorWrite u d completes (fresh s)) = _
  simp only [vendorWrite, hreach, hform]
  rfl

end Vendor

/-- A packet of the other classes crosses through free cells, and no queue loses any. -/
theorem crossCore_sw {cls : CellClass} (h : cls ≠ .iso) (dest : BitVec 18) (n : Nat) (s : State) :
    crossCore cls dest n s = { s with sw := (crossCore cls dest n s).sw } := by
  cases cls with
  | iso => exact absurd rfl h
  | _ => rfl

/-- Settles O13: short frames by their first bits, vendor requests by their form and the core's room. -/
theorem accessPaths : Obligations.AccessPaths := by
  refine ⟨fun m s hlen hmode => ⟨exec_shortFrame_write hlen hmode, exec_shortFrame_read hlen hmode⟩, fun u s h =>
    ⟨exec_vendorRead_stall h, exec_vendorWrite_stall h, fun hform hroom w hw => ?_, fun d hform hroom w hw => ?_, fun again hform hroom => ?_⟩⟩
  · have hout : w.out = [] := by rw [hw, crossCore_sw (by decide)]; rfl
    have hstage (again : Bool) : exec (.registerVendorRead u again) s = .next (vendorStage u again w) := by
      rw [exec_vendorRead h hform, overCore_room _ hroom, hw]
      rfl
    refine ⟨hstage false, fun v hv => ?_⟩
    have hv' : w.win.usbRead = some v := by rw [hw, crossCore_sw (by decide)]; exact hv
    rw [hstage true]
    simp only [vendorStage, hv', emit, hout]
    rfl
  · have hout : w.out = [] := by rw [hw, crossCore_sw (by decide)]; rfl
    have hstage (e : Bool) : exec (.registerVendorWrite u d e) s = .next (vendorData u d e w) := by
      rw [exec_vendorWrite h hform, overCore_room _ hroom, hw]
      rfl
    refine ⟨fun hd => ⟨?_, ?_⟩, fun hd e => ?_⟩
    · rw [hstage true, vendorData, if_neg (by omega)]
      rfl
    · rw [hstage false, vendorData, if_neg (by omega)]
      rfl
    · rw [hstage e, vendorData, if_pos hd, emit, hout]
      rfl
  · rw [exec_vendorRead h hform, overCore_noRoom _ hroom]
    rfl

end Sys2Proof.Proofs
end

section
/-!
A command packet: the answer that files its record and its reply (R107, R109), what taking it leaves (R94, R103), and the packets that
are answered by their status alone (R95, R103, R108).
-/

namespace Sys2Proof.Proofs

open Sys2Proof
open Sys2Proof.Machine
open Sys2Proof.Safety
open Sys2Proof.Laws

/-! ## The answer -/

theorem records_setRecords_other (b : Box) (l : List Completion) (s : State) :
    records (otherBox b) (setRecords b l s) = records (otherBox b) s := by
  cases b <;> rfl

theorem setRecords_mbx (b : Box) (l : List Completion) (s : State) :
    (setRecords b l s).mbx = { s.mbx with doneU := (setRecords b l s).mbx.doneU, doneS := (setRecords b l s).mbx.doneS } := by
  cases b <;> rfl

/-- The reply goes, or is appended, and nothing else of the mailboxes changes. -/
theorem postReply_mbx (c : Command) (status : Nat) (results : List Word) (s : State) :
    (postReply c status results s).mbx = { s.mbx with
      reply := if (noReplyFlag c.word0 = true ∧ status = stOk) ∨ c.cut = true then s.mbx.reply
        else s.mbx.reply ++ [{
          words := packetWords (c.word0 :: c.seq :: w18 status :: w18 (boxCode c.box * 65536 + results.length) :: results)
          path := some c.box, arrival := c.arrival }] } := by
  simp only [postReply]
  split <;> rfl

theorem answer_frame (c : Command) (st : Nat) (rs : List Word) (long busy : Bool) (s : State) :
    Frame [.mbx] s (answer c st rs long busy s) := by
  intro g hg
  cases g <;> simp_all [same]

/-- Settles O16: the record is filed first, then the reply. -/
theorem answerFilesRecordAndReply : Obligations.AnswerFilesRecordAndReply := by
  intro c st rs long busy u t
  let v := fileRecord c.box ⟨c.word0, c.seq, w18 st, long, busy⟩ u
  have hmbx : t.mbx = _ := postReply_mbx c st rs v
  have hv : v.mbx = { u.mbx with doneU := v.mbx.doneU, doneS := v.mbx.doneS } := setRecords_mbx ..
  have hreply : v.mbx.reply = u.mbx.reply := by rw [hv]
  have hrecords (b : Box) : records b t = records b v := by
    cases b <;> simp only [records, hmbx]
  refine ⟨?_, ?_, ?_, ?_, ?_⟩
  · exact answer_frame c st rs long busy u
  · exact (hrecords _).trans (records_setRecords ..)
  · exact (hrecords _).trans (records_setRecords_other ..)
  · rw [hmbx, hv]
  · rw [hmbx]
    rw [hreply]
    rfl

/-! ## The packet that a check takes -/

/-- The packet that starts next heads the sub-queue that it came from. -/
theorem startableHead_packets {b : Box} {k : Nat} {s : State} {p : Packet} (h : startableHead b k s = some p) :
    (subQueue b k s).packets = p :: (subQueue b k s).packets.drop 1 := by
  unfold startableHead at h
  split at h
  · nomatch h
  · rename_i hq
    split at h
    · cases h
      simp [hq]
    · nomatch h

theorem nextAt_packets {b : Box} {k j : Nat} {s : State} {p : Packet} (h : nextAt j s = some (b, k, p)) :
    (subQueue b k s).packets = p :: (subQueue b k s).packets.drop 1 := by
  simp only [nextAt] at h
  split at h
  · cases h
    exact startableHead_packets ‹_›
  · obtain ⟨q, hq, he⟩ := Option.map_eq_some_iff.mp h
    cases he
    exact startableHead_packets hq

theorem nextPacket_packets {b : Box} {k : Nat} {s : State} {p : Packet} (h : nextPacket s = some (b, k, p)) :
    (subQueue b k s).packets = p :: (subQueue b k s).packets.drop 1 := by
  unfold nextPacket at h
  split at h
  · split at h
    · cases h
      exact nextAt_packets ‹_›
    · split at h
      · cases h
        exact nextAt_packets ‹_›
      · split at h
        · cases h
          exact nextAt_packets ‹_›
        · exact nextAt_packets h
  · nomatch h

/-- A sub-queue that holds a packet is one of the mailbox's. -/
theorem subQueue_length {b : Box} {k : Nat} {s : State} {p : Packet} {ps : List Packet}
    (h : (subQueue b k s).packets = p :: ps) : k < (subQueues b s).length := by
  by_contra hk
  rw [subQueue, List.getD_eq_default _ _ (Nat.le_of_not_lt hk)] at h
  nomatch h

/-- What a clean packet leaves: its sub-queue without it, the mailbox served last, and the re-entry that its code disarms. -/
theorem takePacket_eq (b : Box) (k : Nat) {p : Packet} (s : State) (h : p.words.any MbxWord.poisoned = false) :
    (takePacket b k p s).mbx = { (setSubQueue b k { subQueue b k s with packets := (subQueue b k s).packets.drop 1 } s).mbx with
      lastServed := some b } ∧
    (takePacket b k p s).pwr =
      (if keepsReenter (cmdCode (commandOf b p).word0) then s.pwr else { s.pwr with reenter := none }) := by
  simp only [takePacket, inboundParity_clean b p _ h, commandOf]
  split
  next hk => cases b <;> exact ⟨rfl, (if_pos hk).symm⟩
  next hk => cases b <;> exact ⟨rfl, (if_neg hk).symm⟩

theorem acceptCounter_only (c : Command) (s : State) :
    (acceptCounter c s).mbx = s.mbx ∧ (acceptCounter c s).pwr = s.pwr := by
  unfold acceptCounter
  split
  · exact ⟨rfl, rfl⟩
  · cases c.box <;> exact ⟨rfl, rfl⟩

/-- A check that answers OK has found no trailer, or a good one whose counter it then noted. -/
theorem authCheck_ok {needs sec : Bool} {c : Command} {s u : State} (h : authCheck needs sec c s = (stOk, u)) :
    (authFlag c.word0 = false → u = s) ∧
    (authFlag c.word0 = true → trailerOk c s = true ∧ u = acceptCounter c s) := by
  unfold authCheck at h
  split at h
  · split at h
    · exact ⟨fun hf => by simp_all, fun _ => ⟨‹_›, (congrArg Prod.snd h).symm⟩⟩
    · exact nomatch congrArg Prod.fst h
  · exact ⟨fun _ => (congrArg Prod.snd h).symm, fun hf => absurd hf ‹_›⟩

/-- A good trailer's counter is above its session's, and takes its place (R110). -/
theorem trailerOk_counter {c : Command} {s : State} (h : trailerOk c s = true) :
    ∃ a b : Session, sessionOf c.box s = some a ∧ sessionOf c.box (acceptCounter c s) = some b ∧
      a.counter < b.counter ∧ b = { a with counter := b.counter } := by
  unfold trailerOk at h
  cases hs : sessionOf c.box s with
  | none => simp [hs] at h
  | some a =>
    simp only [hs, Bool.and_eq_true, decide_eq_true_eq] at h
    obtain ⟨⟨hlt, -⟩, -⟩ := h
    exact ⟨a, { a with counter := (c.words.getD (c.words.length - 9) 0).toNat }, rfl, by simp [acceptCounter, hs], hlt, rfl⟩

theorem sessionOf_of_sec {s t : State} (h : t.sec = s.sec) (b : Box) : sessionOf b t = sessionOf b s := by
  cases b <;> simp only [sessionOf, h]

/-- Settles O15: the packet is the head of its sub-queue, and the check that accepts it touches its session's counter alone. -/
theorem takenPacketLeavesItsQueue : Obligations.TakenPacketLeavesItsQueue := by
  intro code v n s u c htaken
  obtain ⟨b, k, p, htakes, hauth⟩ := id htaken
  obtain ⟨hnext, hc, hclean, -⟩ := takesThis_spec htakes
  have hbox : c.box = b := by rw [hc]; rfl
  have hpoison : p.words.any MbxWord.poisoned = false := by rw [hc] at hclean; exact hclean
  obtain ⟨hmbx, hpwr⟩ := takePacket_eq b k (fresh s) hpoison
  have hsec : (takePacket b k p (fresh s)).sec = s.sec := (takePacket_clean b k (fresh s) hpoison).1 .sec (by decide)
  obtain ⟨hplain, htrailer⟩ := authCheck_ok hauth
  have hu : u.mbx = (takePacket b k p (fresh s)).mbx ∧ u.pwr = (takePacket b k p (fresh s)).pwr := by
    cases hf : authFlag c.word0 with
    | false => rw [hplain hf]; exact ⟨rfl, rfl⟩
    | true => rw [(htrailer hf).2]; exact acceptCounter_only ..
  obtain ⟨humbx, hupwr⟩ := hu
  have hhead : (subQueue b k s).packets = p :: (subQueue b k s).packets.drop 1 := nextPacket_packets hnext
  have hqueue (b' : Box) (j : Nat) : subQueue b' j u = subQueue b' j
      (setSubQueue b k { subQueue b k s with packets := (subQueue b k s).packets.drop 1 } s) := by
    have hm := humbx.trans hmbx
    cases b <;> cases b' <;> simp only [subQueue, subQueues, hm] <;> rfl
  refine ⟨Frame_of_Taken htaken, ⟨k, p, ?_, ?_, ?_, ?_⟩, ?_, ?_, ?_, ?_, ?_, ?_, ?_, ?_⟩
  · rw [hbox, hc]
  · rw [hbox, hqueue, subQueue_setSubQueue (subQueue_length hhead)]
    exact hhead
  · rw [humbx, hmbx, hbox]
  · intro b' j hne
    rw [hqueue]
    exact subQueue_setSubQueue_ne (by rwa [hbox] at hne) _ s
  · rw [hupwr, hpwr, hc]
    rfl
  iterate 5
    rw [humbx, hmbx]
    cases b <;> rfl
  · intro hf
    rw [hplain hf, hsec]
  · intro hf
    obtain ⟨hok, hacc⟩ := htrailer hf
    obtain ⟨a, a', ha, ha', hlt, heq⟩ := trailerOk_counter hok
    exact ⟨a, a', (sessionOf_of_sec hsec c.box).symm.trans ha, hacc ▸ ha', hlt, heq⟩

/-! ## The packets that are answered by their status alone -/

/-- A command whose check of authentication fails is answered by that status, whichever way it would have run. -/
def DeniedBy (i : Instr) (code : Nat) (v : Command → Bool) (long : Bool) : Prop :=
  ∀ (s u : State) (b : Box) (k : Nat) (p : Packet) (c : Command) (st : Nat),
    takesThis code v (fresh s) = some (b, k, p, c) →
    authCheck true (groupOf c.word0 == 0o13) c (takePacket b k p (fresh s)) = (st, u) → st ≠ stOk →
    exec i s = .next (answer c st [] long false u)

section Denied

variable {code : Nat} {v : Command → Bool} {i : Instr}

theorem immediate_denied {check : Command → State → Nat} {run : Command → State → List Word × State}
    (hi : ∀ s, exec i s = effect (immediateCommand code v needsAuth check run) s) : DeniedBy i code v false := by
  intro s u b k p c st htakes hauth hst
  rw [hi]
  simp only [effect, immediateCommand, htakes, needsAuth, hauth, if_neg hst]

theorem long_denied {needs : Command → State → Bool} {check : Command → State → Nat} {run : Command → State → State}
    (hi : ∀ s, exec i s = effect (longCommand code v needs check run) s) (hneeds : ∀ c s, v c = true → needs c s = true) :
    DeniedBy i code v true := by
  intro s u b k p c st htakes hauth hst
  obtain ⟨-, -, -, -, -, hv⟩ := takesThis_spec htakes
  rw [hi]
  simp only [effect, longCommand, htakes, hneeds c _ hv, hauth, if_neg hst]

theorem boundary_denied {check : Command → State → Nat}
    (hi : ∀ s, exec i s = effect (boundaryCommand code v needsAuth check) s) : DeniedBy i code v false := by
  intro s u b k p c st htakes hauth hst
  rw [hi]
  simp only [effect, boundaryCommand, htakes, needsAuth, hauth, if_neg hst]

end Denied

theorem authenticated_denied {i : Instr} {code : Nat} {v : Command → Bool} {long : Bool} (h : Authenticated i code v long) :
    DeniedBy i code v long := by
  cases h with
  | cfgRead | safeStatus | safeEnter | safeSetQuiet | secClose | secTamperClear | secDebugChallenge =>
    exact immediate_denied fun _ => rfl
  | cfgWrite | cfgDiscard | safeRelease => exact boundary_denied fun _ => rfl
  | pwrEnterSleep => exact long_denied (fun _ => rfl) fun c _ hc => by simp_all [enterNeedsAuth, opIs]
  | pwrEnterHibernate => exact long_denied (fun _ => rfl) fun c _ hc => by simp_all [enterNeedsAuth, opIs]
  | _ => exact long_denied (fun _ => rfl) fun _ _ _ => rfl

theorem badCmdPacket_next {s : State} {b : Box} {k : Nat} {p : Packet} (h : nextPacket (fresh s) = some (b, k, p)) :
    exec .badCmdPacket s = .next
      (if p.words.length < 2 then
        post 0o010201 [w18 (boxCode b * 65536 + k * 16384 + 3)] (takePacket b k p (fresh s))
      else if (commandOf b p).poisoned then answer (commandOf b p) stPoison [] false false (takePacket b k p (fresh s))
      else if !commandOk (commandOf b p) then answer (commandOf b p) stBadCmd [] false false (takePacket b k p (fresh s))
      else fresh s) := by
  show Host.Outcome.next (badPacket (fresh s)) = _
  simp only [badPacket, h]

/-- Settles O17: the check of authentication comes before the command's own, and a malformed packet has a step of its own. -/
theorem refusedPacketsAnswered : Obligations.RefusedPacketsAnswered := by
  refine ⟨fun i code v long s b k p c hi htakes => ⟨fun hplain => ?_, fun hauth hbad => ?_⟩, fun s b k p hnext => ?_⟩
  · exact authenticated_denied hi s _ b k p c 4 htakes (by simp [authCheck, hplain, stAuthRequired]) (by decide)
  · exact authenticated_denied hi s _ b k p c 5 htakes (by simp [authCheck, hauth, hbad, stAuthFail]) (by decide)
  · rw [badCmdPacket_next hnext]
    refine ⟨fun hshort => ?_, fun hlen hpoison => ?_, fun hlen hclean hbad => ?_⟩
    · rw [if_pos hshort]
    · rw [if_neg (by omega), if_pos hpoison]
      rfl
    · rw [if_neg (by omega), hclean, hbad]
      rfl

end Sys2Proof.Proofs
end

section
/-!
The chip-level resets: what power-on reset, RESET_N and a warm chip reset keep and lose (R57, R376 to R383).
-/

namespace Sys2Proof.Proofs

open Sys2Proof
open Sys2Proof.Machine
open Sys2Proof.Safety
open Sys2Proof.Laws

/-! ## The straps under posted writes -/

section Straps

variable (s : State)

theorem post_straps (w0 : Word) (ps : List Word) : (post w0 ps s).boot.straps = s.boot.straps := by
  unfold post
  split
  · simp
  · rfl

theorem requestWarm_straps (c : WarmCause) : (requestWarm c s).boot.straps = s.boot.straps := by
  unfold requestWarm
  split <;> rfl

theorem react_straps (src : BitVec 12) (cls sev : Nat) (esc : Bool) : (react src cls sev esc s).boot.straps = s.boot.straps := by
  simp [react, apply_ite State.boot, apply_ite Boot.straps, requestWarm_straps, post_straps]

theorem takeFault_straps (src : BitVec 12) (conf reason : Nat) : (takeFault src conf reason s).boot.straps = s.boot.straps := by
  simp [takeFault, addHistory, apply_ite State.boot, apply_ite Boot.straps, react_straps]

theorem raiseFault_straps (src : BitVec 12) : (raiseFault src s).boot.straps = s.boot.straps := by
  unfold raiseFault
  split
  · rfl
  · exact takeFault_straps ..

theorem applyPosted_straps (w : Posted) : (applyPosted w s).boot.straps = s.boot.straps := by
  have wake : (voteWakePol s).boot.straps = s.boot.straps := by
    unfold voteWakePol
    split
    · rfl
    · exact raiseFault_straps ..
  have tamp : (voteTampPol s).boot.straps = s.boot.straps := by
    unfold voteTampPol
    split
    · rfl
    · exact raiseFault_straps ..
  simp only [applyPosted]
  split
  case h_2 => exact wake
  case h_4 => exact tamp
  all_goals (try split) <;> rfl

theorem drainPosted_straps : (drainPosted s).boot.straps = s.boot.straps := by
  have edge (t : State) : (aonEdge t).boot.straps = t.boot.straps :=
    foldl_keeps (fun s => s.boot.straps) _ (fun s w => applyPosted_straps s w) _ _
  exact (edge _).trans (edge _)

end Straps

/-! ## Owned trees -/

/-- The groups that the removal of a device from an owned tree leaves. -/
abbrev OnlyTree (s t : State) : Prop :=
  t.pending = s.pending ∧ t.free = s.free ∧ t.clk = s.clk ∧ t.boot = s.boot ∧ t.aon = s.aon ∧ t.win = s.win ∧ t.mbx = s.mbx ∧
    t.flt = s.flt ∧ t.cfg = s.cfg ∧ t.mem = s.mem ∧ t.sw = s.sw ∧ t.aud = s.aud ∧ t.msg = s.msg ∧ t.flex = s.flex ∧
    t.rails = s.rails ∧ t.snap = s.snap ∧ t.pwr = s.pwr ∧ t.pav = s.pav ∧ t.sec = s.sec

/-- The context of an ended stream is free again. -/
def freeCtx (s : State) (x : Stream) : State := match x.ctx with | some c => releaseCtx c s | none => s

@[simp] theorem freeCtx_only (s : State) (x : Stream) : OnlyOwn s (freeCtx s x) := by
  unfold freeCtx
  split <;> simp [OnlyOwn]

theorem stopStreams_eq (p : Stream → Bool) (s : State) :
    stopStreams p s = { (s.own.streams.filter p).foldl freeCtx s with
      own := (stopStreams p s).own } := rfl

@[simp] theorem stopStreams_only (p : Stream → Bool) (s : State) : OnlyOwn s (stopStreams p s) := by
  rw [stopStreams_eq]
  simp [OnlyOwn]

@[simp] theorem forgetDevice_only (d : OwnedDev) (s : State) : OnlyTree s (forgetDevice d s) ∧ (forgetDevice d s).hub = s.hub ∧
    (forgetDevice d s).out = s.out := by
  simp [forgetDevice, OnlyTree]

@[simp] theorem forgetTree_only (k hubPort : Nat) (s : State) : OnlyTree s (forgetTree k hubPort s) ∧
    (forgetTree k hubPort s).hub = s.hub ∧ (forgetTree k hubPort s).out = s.out := by
  simp [forgetTree, OnlyTree]

/-- Who owns the ports, which are powered and which are forced off. -/
def powers (s : State) : List (Bool × Bool × Bool) := s.ports.map (fun p => (p.owned, p.powered, p.forceOff))

theorem powers_congr {s t : State} (h : t.ports = s.ports) : powers t = powers s := by rw [powers, h, powers]

theorem powers_mapPort (k : Nat) (f : DownPortState → DownPortState) (s : State)
    (h : ∀ p, (f p).owned = p.owned ∧ (f p).powered = p.powered ∧ (f p).forceOff = p.forceOff) :
    powers (mapPort k f s) = powers s := by
  have modified : ∀ (l : List DownPortState) (n : Nat),
      (listModify l n f).map (fun p => (p.owned, p.powered, p.forceOff)) = l.map (fun p => (p.owned, p.powered, p.forceOff)) := by
    intro l
    induction l with
    | nil => exact fun _ => rfl
    | cons p l ih =>
      intro n
      obtain ⟨ho, hp, hf⟩ := h p
      cases n with
      | zero => simp [listModify, ho, hp, hf]
      | succ n => simp [listModify, ih]
  exact modified ..

theorem powers_forgetDevice (d : OwnedDev) (s : State) : powers (forgetDevice d s) = powers s := by
  have settled (t : State) : powers (settleReserved d.port t) = powers t := powers_mapPort _ _ _ fun _ => ⟨rfl, rfl, rfl⟩
  exact (settled _).trans (powers_congr (by simp))

theorem powers_forgetTree (k hubPort : Nat) (s : State) : powers (forgetTree k hubPort s) = powers s := by
  have cleared (t : State) : powers (clearFailures k hubPort t) = powers t := powers_mapPort _ _ _ fun _ => ⟨rfl, rfl, rfl⟩
  exact (cleared _).trans (foldl_keeps powers _ (fun s d => powers_forgetDevice d s) _ _)

theorem powers_showSide (usb3 : Bool) (k : Nat) (s : State) : powers (showSide usb3 k s) = powers s := by
  unfold showSide
  split
  · have woken (t : State) : powers (wakeOnPort usb3 k .connect t) = powers t := powers_congr (by simp)
    refine (woken _).trans (powers_mapPort _ _ _ fun p => ?_)
    cases usb3 <;> exact ⟨rfl, rfl, rfl⟩
  · rfl

/-- One port whose owner is changing while the chip resets warm: its tree goes, and a removal or a reset shows. -/
def warmChange (s : State) (k : Nat) : State :=
  let s := forgetTree k 0 s
  let p := portOf k s
  let s := if p.owned then s else showSide false k (showSide true k s)
  let s := if (p.speedOn true).isSome then emit (.portReset (k + 1) true) s else s
  if (p.speedOn true).isSome && (p.speedOn false).isNone then s else emit (.portReset (k + 1) false) s

@[simp] theorem warmChange_only (s : State) (k : Nat) : OnlyTree s (warmChange s k) := by
  simp [warmChange, OnlyTree]

theorem powers_warmChange (s : State) (k : Nat) : powers (warmChange s k) = powers s := by
  have emitted (o : Out) (t : State) : powers (emit o t) = powers t := rfl
  simp only [warmChange, apply_ite powers, emitted, powers_showSide, powers_forgetTree, ite_self]

@[simp] theorem warmOwned_only (s : State) : OnlyTree s (warmOwned s) := by
  have changed (l : List Nat) (t : State) : OnlyTree t (l.foldl warmChange t) := by simp [OnlyTree]
  exact changed _ s

theorem powers_warmOwned (s : State) : powers (warmOwned s) = powers s :=
  foldl_keeps powers warmChange powers_warmChange _ s

/-! ## The warm chip reset -/

theorem warmCauses_keeps (s : State) : s.aon.rstCause &&& warmCauses s = s.aon.rstCause := by
  have absorb (x y : BitVec 7) : x &&& (x ||| y) = x := by
    ext i
    simp only [BitVec.getElem_and, BitVec.getElem_or]
    cases x[i] <;> rfl
  have folded : ∀ (l : List WarmCause) (m : BitVec 7), ∃ y, l.foldl (fun m c => m ||| (1#7 <<< warmBit c)) m = m ||| y := by
    intro l
    induction l with
    | nil => exact fun m => ⟨0, by simp⟩
    | cons c l ih =>
      intro m
      obtain ⟨y, hy⟩ := ih (m ||| (1#7 <<< warmBit c))
      exact ⟨(1#7 <<< warmBit c) ||| y, by rw [List.foldl_cons, hy, BitVec.or_assoc]⟩
  obtain ⟨y, hy⟩ := folded s.boot.warmReq s.aon.rstCause
  simp only [warmCauses, hy]
  split
  · rw [BitVec.or_assoc]
    exact absorb ..
  · exact absorb ..

/-- The state that the boot ROM starts from with all straps low: its phase and the flash's reset. -/
theorem runBootRom_flash {s : State} (h : s.boot.straps = ⟨false, false, false⟩) :
    runBootRom s = { s with out := s.out ++ [.xspiReset], boot := { s.boot with phase := .bootRom } } := by
  simp [runBootRom, h, emit]

section Warm

variable (s : State)

theorem warmState_clk : (warmState s).clk = warmClock s.clk := by simp [warmState]

theorem warmState_boot : (warmState s).boot.warmBusy = true ∧ (warmState s).boot.warmReq = [] ∧
    (warmState s).boot.straps = s.boot.straps ∧ (warmState s).boot.phase = .oscillator := by
  refine ⟨rfl, rfl, ?_, rfl⟩
  simp [warmState, drainPosted_straps]

theorem warmState_aon : (warmState s).aon = { (drainPosted s).aon with rstCause := warmCauses (drainPosted s), safeQuiet := false } :=
  rfl

theorem warmState_cfg : (warmState s).cfg = {
    active := s.cfg.active, gen := s.cfg.gen, crc := s.cfg.crc, header := s.cfg.header, signed := s.cfg.signed
    live := s.cfg.live, overlay := s.cfg.overlay, overlaySeq := s.cfg.overlaySeq
    overlayCopy := s.cfg.overlayCopy } := by
  simp [warmState]

theorem warmState_flash : (warmState s).mem.flash = s.mem.flash := by simp [warmState]

theorem warmState_sec : (warmState s).sec = { s.sec with op := none, debug := 0, challenge := none } := by simp [warmState]

theorem warmState_powers : powers (warmState s) = powers s := by
  have shown : powers (warmState s) = powers (warmOwned (drainPosted s)) := by
    simp [powers, warmState, warmPort]
  rw [shown, powers_warmOwned]
  exact powers_congr (by simp)

theorem warmState_energy : (warmState s).flex.map (·.energy) = s.flex.map (·.energy) := by
  simp [warmState, warmFlex]

end Warm

/-- What a warm chip reset keeps and loses, whether or not the boot ROM runs at once. -/
def WarmKept (s t : State) : Prop :=
  t.boot.warmBusy = true ∧ t.boot.warmReq = [] ∧ t.boot.straps = s.boot.straps ∧ t.aon = (warmState s).aon ∧ t.win.posted = [] ∧
    t.clk = warmClock s.clk ∧ t.mem.flash = s.mem.flash ∧ t.sec = { s.sec with op := none, debug := 0, challenge := none } ∧
    t.cfg = (warmState s).cfg ∧ t.mbx = {} ∧ t.aud = {} ∧ t.pwr = {} ∧ t.pav = {} ∧ t.hub.connected = false ∧
    powers t = powers s ∧ t.flex.map (·.energy) = s.flex.map (·.energy)

theorem warmState_kept (s : State) : WarmKept s (warmState s) := by
  obtain ⟨hbusy, hreq, hstraps, -⟩ := warmState_boot s
  exact ⟨hbusy, hreq, hstraps, rfl, rfl, warmState_clk s, warmState_flash s, warmState_sec s, rfl, rfl, rfl, rfl, rfl, rfl,
    warmState_powers s, warmState_energy s⟩

/-- The reset as the command gives it: with the reference back the root PLL relocks first, otherwise the boot ROM runs. -/
theorem exec_warmChipReset {s : State} (hfw : fwRuns s = true) (hawake : awake s = true) (hreq : s.boot.warmReq ≠ [])
    (hstraps : s.boot.straps = ⟨false, false, false⟩) :
    ∃ t, exec .warmChipReset s = .next t ∧ WarmKept (fresh s) t ∧
      (s.clk.relock = false → t.boot.phase = .bootRom ∧ .xspiReset ∈ t.out) ∧ (s.clk.relock = true → t.boot.phase = .oscillator) := by
  have hdue : warmDue (fresh s) = true := by
    cases hl : s.boot.warmReq with
    | nil => exact absurd hl hreq
    | cons c l => simpa [warmDue, fwRuns, awake, hl] using And.intro hfw hawake
  have hexec : exec .warmChipReset s =
      .next (if s.clk.relock then warmState (fresh s) else runBootRom (warmState (fresh s))) := by
    show Host.Outcome.next (if warmDue (fresh s) then _ else _) = _
    rw [if_pos hdue]
    rfl
  obtain ⟨-, -, hkept, hphase⟩ := warmState_boot (fresh s)
  cases hrelock : s.clk.relock with
  | true => exact ⟨_, by rw [hexec, hrelock]; rfl, warmState_kept _, fun h => (nomatch h), fun _ => hphase⟩
  | false =>
    refine ⟨runBootRom (warmState (fresh s)), by rw [hexec, hrelock]; rfl, ?_, fun _ => ?_, fun h => (nomatch h)⟩
    all_goals rw [runBootRom_flash (hkept.trans hstraps)]
    · exact warmState_kept (fresh s)
    · exact ⟨rfl, by simp⟩

/-! ## The resets from outside -/

theorem exec_resetN_pin {ns : Nat} (periods : Nat) (st : Straps) (s : State) (h : 1000 ≤ ns) :
    exec (.resetN ⟨periods, ns⟩ st) s = .next (resetByPin periods st (fresh s)) := by
  show Host.Outcome.next (if ns < 100 then _ else if 1000 ≤ ns then _ else _) = _
  rw [if_neg (by omega), if_pos h]

theorem exec_powerOnReset (v33 vc ns : Nat) (st : Straps) (s : State) :
    exec (.powerOnReset v33 vc ns st) s = .next (if powerFails v33 vc ns then outsideKept st (fresh s) else fresh s) := rfl

/-- Settles O35: the two cold resets start the reset state with what is outside it kept, the warm one keeps field by field. -/
theorem resetsKeepWhatSurvives : Obligations.ResetsKeepWhatSurvives := by
  refine ⟨fun v33 vc ns st s hlow hlong => ?_, fun v33 vc ns st s hsound => ?_, fun ns periods st s hlong => ?_,
    fun ns periods st s hshort => ?_, fun ns periods st s hfrom hto => ?_, fun s hfw hawake hreq hstraps => ?_⟩
  · have hfails : powerFails v33 vc ns = true := by simpa [powerFails] using And.intro hlow hlong
    refine ⟨outsideKept st (fresh s), by rw [exec_powerOnReset, if_pos hfails], ?_⟩
    refine ⟨rfl, rfl, rfl, rfl, rfl, rfl, rfl, rfl, rfl, rfl, rfl, rfl, rfl, rfl, rfl, rfl, rfl, rfl, rfl, rfl, rfl⟩
  · have hholds : ¬ powerFails v33 vc ns = true := by
      simp only [powerFails, Bool.and_eq_true, Bool.or_eq_true, decide_eq_true_eq]
      omega
    rw [exec_powerOnReset, if_neg hholds]
  · exact ⟨_, exec_resetN_pin periods st s hlong, rfl, rfl, rfl, rfl, rfl, rfl, rfl, rfl, rfl, rfl, rfl, rfl, rfl, rfl, rfl⟩
  · show Host.Outcome.next (if ns < 100 then _ else _) = _
    rw [if_pos hshort]
  · have hexec : exec (.resetN ⟨periods, ns⟩ st) s = .next
        (if Config.freeBits 1 s.free = 1 then resetByPin periods st { fresh s with free := s.free + 1 }
          else { fresh s with free := s.free + 1 }) := by
      show Host.Outcome.next (if ns < 100 then _ else if 1000 ≤ ns then _ else _) = _
      rw [if_neg (by omega), if_neg (by omega)]
      rfl
    rw [hexec]
    split
    · exact .inr (exec_resetN_pin periods st { s with free := s.free + 1 } (Nat.le_refl 1000)).symm
    · exact .inl rfl
  · obtain ⟨t, hexec, hkept, hrom, hosc⟩ := exec_warmChipReset hfw hawake hreq hstraps
    obtain ⟨hbusy, hreq', hstr, haon, hposted, hclk, hflash, hsec, hcfg, hmbx, haud, hpwr, hpav, hhub, hports, hflex⟩ := hkept
    have hcfg' := hcfg.trans (warmState_cfg (fresh s))
    have htick : t.clk.tick = s.clk.tick := by
      rw [hclk, warmClock]
      split <;> rfl
    refine ⟨t, hexec, hbusy, hreq', hstr, hrom, fun hrelock => ⟨hosc hrelock, ?_⟩, ?_, hposted, htick, hflash,
      by rw [hsec]; rfl, by rw [hsec]; rfl, by rw [hsec]; rfl, by rw [hsec]; rfl,
      by rw [hcfg']; rfl, by rw [hcfg']; rfl, by rw [hcfg'], hmbx, haud, hpwr, hpav, hhub, hports, hflex⟩
    · rw [hclk]
      simp [warmClock, hrelock]
    · rintro a rfl
      rw [haon]
      exact ⟨rfl, warmCauses_keeps _⟩

end Sys2Proof.Proofs
end

section
/-!
The state that a taken command runs on: only its sub-queue, the mailbox served last, the armed re-entry and its session's counter differ
from the state before, so what reads none of them reads as before.
-/

namespace Sys2Proof.Proofs

open Sys2Proof
open Sys2Proof.Machine
open Sys2Proof.Safety
open Sys2Proof.Laws

/-! ## The state of a taken command -/

/-- A state whose queued packets, mailbox served last, armed re-entry and sessions are the ones given. -/
def consumed (inU inS : List SubQueue) (served : Option Box) (re : Option PowerState) (x y : Option Session) (s : State) : State :=
  { s with
    out := []
    mbx := { s.mbx with inU := inU, inS := inS, lastServed := served }
    pwr := { s.pwr with reenter := re }
    sec := { s.sec with sessU := x, sessS := y } }

/-- An operation that turns a state into one of `consumed`'s. -/
def Consumes (s u : State) : Prop := ∃ inU inS served re x y, u = consumed inU inS served re x y s

theorem takePacket_consumes (b : Box) (k : Nat) {p : Packet} (s : State) (h : p.words.any MbxWord.poisoned = false) :
    Consumes s (takePacket b k p (fresh s)) := by
  simp only [takePacket, inboundParity_clean b p _ h]
  split
  all_goals cases b <;> exact ⟨_, _, _, _, _, _, rfl⟩

theorem acceptCounter_consumes (c : Command) {s u : State} (h : Consumes s u) : Consumes s (acceptCounter c u) := by
  obtain ⟨inU, inS, served, re, x, y, rfl⟩ := h
  unfold acceptCounter
  split
  · exact ⟨_, _, _, _, _, _, rfl⟩
  · cases c.box <;> exact ⟨_, _, _, _, _, _, rfl⟩

section Taken

variable {code : Nat} {v : Command → Bool} {n : Command → State → Bool} {s u : State} {c : Command}

theorem Taken_consumes (h : Taken code v n s c u) : Consumes s u := by
  obtain ⟨b, k, p, htakes, hauth⟩ := h
  obtain ⟨-, rfl, hclean, -⟩ := takesThis_spec htakes
  have htaken := takePacket_consumes b k s hclean
  obtain ⟨hplain, htrailer⟩ := authCheck_ok hauth
  cases hf : authFlag (commandOf b p).word0 with
  | false => rw [hplain hf]; exact htaken
  | true => rw [(htrailer hf).2]; exact acceptCounter_consumes _ htaken

/-- What reads none of the fields that a taken packet changes reads the same after it. -/
theorem Taken_same {α : Type} (h : Taken code v n s c u) (f : State → α)
    (hf : ∀ inU inS served re x y, f (consumed inU inS served re x y s) = f s) : f u = f s := by
  obtain ⟨inU, inS, served, re, x, y, rfl⟩ := Taken_consumes h
  exact hf ..

theorem Taken_code (h : Taken code v n s c u) : cmdCode c.word0 = code := by
  obtain ⟨b, k, p, htakes, -⟩ := h
  exact (takesThis_spec htakes).2.2.2.2.1

theorem Taken_variant (h : Taken code v n s c u) : v c = true := by
  obtain ⟨b, k, p, htakes, -⟩ := h
  exact (takesThis_spec htakes).2.2.2.2.2

/-- A command's group is the upper part of its code (R102). -/
theorem groupOf_code (w : Word) : groupOf w = cmdCode w / 64 := by
  simp only [groupOf, cmdCode]
  omega

theorem Taken_group (h : Taken code v n s c u) : groupOf c.word0 = code / 64 := by
  rw [groupOf_code, Taken_code h]

/-- A long command of a group without one in progress is not turned away as busy. -/
theorem withBusy_free (h : Taken code v n s c u) (hfree : longOf (code / 64) s = none) (st : Nat) : withBusy true c st u = st := by
  have hlong : longOf (groupOf c.word0) u = none := by
    rw [Taken_group h, ← hfree]
    exact Taken_same h (longOf (code / 64)) fun _ _ _ _ _ _ => rfl
  simp [withBusy, hlong]

/-- Other answers than OK, RESOURCE and TIMEOUT come before the busy check. -/
theorem withBusy_refusal (c : Command) {st : Nat} (u : State) (h : st ≠ stOk ∧ st ≠ stResource ∧ st ≠ stTimeout) :
    withBusy true c st u = st := by
  simp [withBusy, h]

section Checks

variable {check : Command → State → Nat} {run : Command → State → List Word × State} {start : Command → State → State}

/-- A long command whose group is free and whose check passes is accepted and begins. -/
theorem long_accepted (h : Taken code v n s c u) (hfree : longOf (code / 64) s = none) (hcheck : check c u = stOk) :
    effect (longCommand code v n check start) s = .next (start c (accepted c u)) :=
  long_taken check start h ((withBusy_free h hfree _).trans hcheck)

/-- A long command that is refused by other than RESOURCE and TIMEOUT is so whether or not its group is free. -/
theorem long_rejected {st : Nat} (h : Taken code v n s c u) (hcheck : check c u = st)
    (hst : st ≠ stOk ∧ st ≠ stResource ∧ st ≠ stTimeout) :
    effect (longCommand code v n check start) s = .next (answer c st [] true false u) := by
  have hbusy : withBusy true c (check c u) u = st := by rw [hcheck, withBusy_refusal c u hst]
  rw [long_refused check start h (by rw [hbusy]; exact hst.1), hbusy]

theorem immediate_rejected {st : Nat} (h : Taken code v n s c u) (hcheck : check c u = st) (hst : st ≠ stOk) :
    effect (immediateCommand code v n check run) s = .next (answer c st [] false false u) := by
  rw [immediate_refused check run h (by rwa [hcheck]), hcheck]

theorem boundary_rejected {st : Nat} (h : Taken code v n s c u) (hcheck : check c u = st) (hst : st ≠ stOk) :
    effect (boundaryCommand code v n check) s = .next (answer c st [] false false u) := by
  rw [boundary_refused check h (by rwa [hcheck]), hcheck]

end Checks

end Taken

/-! ## The state that an accepted command goes on from -/

@[simp] theorem accepted_only (c : Command) (u : State) : OnlyMbx u (accepted c u) := by
  simp [accepted, OnlyMbx]

@[simp] theorem replied_only (c : Command) (rs : List Word) (u : State) : OnlyMbx u (replied c rs u) := by
  simp [replied, OnlyMbx]

/-! ## The boundary that a waiting command meets -/

/-- The state in which a command that waited for the boundary runs. -/
def resumed (u : State) : State := { u with mbx := { u.mbx with waits := none } }

theorem runWaiting_putOff {c : Command} {u t : State} {rs : List Word} (hcode : cmdCode c.word0 ≠ 0o1103)
    (heffect : boundaryEffect c (resumed u) = some (rs, t)) : runWaiting (putOff c u) = replied c rs t := by
  have hresumed : boundaryEffect c { putOff c u with mbx := { (putOff c u).mbx with waits := none } } = some (rs, t) := heffect
  simp only [runWaiting, putOff, if_neg hcode]
  exact hresumed ▸ rfl

theorem runWaiting_release {c : Command} {u : State} (hcode : cmdCode c.word0 = 0o1103) :
    runWaiting (putOff c u) = releaseAtBoundary c (resumed u) := by
  simp only [runWaiting, putOff, if_pos hcode]
  rfl

end Sys2Proof.Proofs
end

section
/-!
SYS.HEARTBEAT, SYS.RESET and SYS.TIME_SET, and the CFG commands on tables and slots (R131, R139, R140, R311, R430, R450, R451).
-/

namespace Sys2Proof.Proofs

open Sys2Proof
open Sys2Proof.Machine
open Sys2Proof.Safety
open Sys2Proof.Laws

/-! ## SYS -/

/-- The firmware's write to an AON register joins the buffer while it has room. -/
theorem postAon_room (p : Path) (r op : Nat) (d : Word) {s : State} (h : s.win.posted.length < 8) :
    postAon p r op d s = { s with win := { s.win with posted := s.win.posted ++ [⟨r, op, d, 0⟩], wpend := true } } :=
  if_pos h

/-- Three writes that all find room. -/
theorem postAon_three (p : Path) {r₁ r₂ r₃ : Nat} {d₁ d₂ d₃ : Word} {s : State} (h : s.win.posted.length ≤ 5) :
    postAon p r₃ 0 d₃ (postAon p r₂ 0 d₂ (postAon p r₁ 0 d₁ s)) =
      { s with win := { s.win with
          posted := s.win.posted ++ [⟨r₁, 0, d₁, 0⟩, ⟨r₂, 0, d₂, 0⟩, ⟨r₃, 0, d₃, 0⟩], wpend := true } } := by
  rw [postAon_room p r₁ 0 d₁ (by omega), postAon_room p r₂ 0 d₂ (by simp; omega), postAon_room p r₃ 0 d₃ (by simp; omega)]
  simp

/-- Settles O20: the heartbeat word and the counts read groups that a taken packet leaves. -/
theorem sysHeartbeatResetAndTime : Obligations.SysHeartbeatResetAndTime := by
  intro s u c
  refine ⟨fun h hform => ?_, fun h hform => ?_, fun h hparam hblocked hentry hfree => ?_, fun h hroom => ?_⟩
  · have hword : heartbeatWord u = heartbeatWord s := Taken_same h heartbeatWord fun _ _ _ _ _ _ => rfl
    have hexec : exec .sysHeartbeat s = .next (replied c [heartbeatWord u]
        (if c.word0 = 0o010320 then u else restartHeartbeat c.arrival u)) := immediate_taken _ _ h rfl
    rw [hexec, if_neg hform, hword]
    rfl
  · have hword : heartbeatWord u = heartbeatWord s := Taken_same h heartbeatWord fun _ _ _ _ _ _ => rfl
    have hexec : exec .sysHeartbeat s = .next (replied c [heartbeatWord u]
        (if c.word0 = 0o010320 then u else restartHeartbeat c.arrival u)) := immediate_taken _ _ h rfl
    rw [hexec, if_pos hform, hword]
  · have hsound : (loadBlocked u || u.pwr.entry != .none) = false := by
      rw [Taken_same h (fun s => loadBlocked s || s.pwr.entry != .none) fun _ _ _ _ _ _ => rfl]
      simp [hblocked, hentry]
    have hclk : u.clk = s.clk := Taken_same h State.clk fun _ _ _ _ _ _ => rfl
    have hexec : exec .sysReset s = .next { accepted c u with boot := { (accepted c u).boot with resetAt := some (accepted c u).clk.tick } } :=
      long_accepted h hfree (by simp only [hparam, hsound]; rfl)
    rw [hexec]
    simp [hclk]
  · have hwin : u.win = s.win := Taken_same h State.win fun _ _ _ _ _ _ => rfl
    have haon : u.aon = s.aon := Taken_same h State.aon fun _ _ _ _ _ _ => rfl
    have hexec : exec .sysTimeSet s = .next (replied c (wordsOf u.aon.rtcSec.toNat 2)
        (postAon .sup 0o2010 0 (w18 (c.p 2)) (postAon .sup 0o2007 0 (w18 (c.p 1)) (postAon .sup 0o2006 0 0 u)))) :=
      immediate_taken _ _ h rfl
    rw [hexec, postAon_three .sup (by rw [hwin]; exact hroom), haon, hwin]

end Sys2Proof.Proofs
end

section
/-!
The CFG commands on tables, slots and images: their acceptance and the boundary that a change waits for (R131, R139, R140, R430).
-/

namespace Sys2Proof.Proofs

open Sys2Proof
open Sys2Proof.Machine
open Sys2Proof.Safety
open Sys2Proof.Laws

theorem firstStatus_pass {a : Bool} {st : Nat} {l : List (Bool × Nat)} (h : a = false) : firstStatus ((a, st) :: l) = firstStatus l := by
  rw [h]
  rfl

theorem firstStatus_stop {a : Bool} {st : Nat} {l : List (Bool × Nat)} (h : a = true) : firstStatus ((a, st) :: l) = st := by
  rw [h]
  rfl

/-! ## Tables -/

section Tables

variable {s u : State} {c : Command} {code : Nat} {v : Command → Bool} {n : Command → State → Bool}

theorem cfg_of_Taken (h : Taken code v n s c u) : u.cfg = s.cfg := Taken_same h State.cfg fun _ _ _ _ _ _ => rfl

theorem clk_of_Taken (h : Taken code v n s c u) : u.clk = s.clk := Taken_same h State.clk fun _ _ _ _ _ _ => rfl

theorem unconfigured_of_Taken (h : Taken code v n s c u) : u.cfg.unconfigured = s.cfg.unconfigured := by rw [cfg_of_Taken h]

/-- The words asked for are in range: 1 to 252 of a view 0 to 2. -/
theorem readBounds_inside (hlow : 1 ≤ c.p 3) (hhigh : c.p 3 ≤ 252) (hview : c.p 4 ≤ 2) :
    (decide (c.p 3 < 1) || decide (252 < c.p 3) || decide (2 < c.p 4)) = false := by
  simp only [Bool.or_eq_false_iff, decide_eq_false_iff_not]
  omega

theorem exec_cfgRead {ws : List Word} (h : Taken 0o0201 anyVariant needsAuth s c u) (hconf : s.cfg.unconfigured = false)
    (hlow : 1 ≤ c.p 3) (hhigh : c.p 3 ≤ 252) (hview : c.p 4 ≤ 2) (hwords : viewWords (c.p 1) (c.p 4) s = some ws)
    (hinside : c.p 2 + c.p 3 ≤ ws.length) : exec .cfgRead s = .next (replied c ((ws.drop (c.p 2)).take (c.p 3)) u) := by
  have hread : viewWords (c.p 1) (c.p 4) u = some ws :=
    (Taken_same h (viewWords (c.p 1) (c.p 4)) fun _ _ _ _ _ _ => rfl).trans hwords
  have hunconf := (unconfigured_of_Taken h).trans hconf
  have hexec : exec .cfgRead s = .next (replied c ((((viewWords (c.p 1) (c.p 4) u).getD []).drop (c.p 2)).take (c.p 3)) u) := by
    refine immediate_taken _ _ h ?_
    simp only [firstStatus_pass (readBounds_inside hlow hhigh hview), readInside, hread, hunconf, decide_eq_true hinside]
    rfl
  rw [hexec, hread, Option.getD_some]

theorem exec_cfgRead_unconfigured (h : Taken 0o0201 anyVariant needsAuth s c u) (hunconf : s.cfg.unconfigured = true)
    (hlow : 1 ≤ c.p 3) (hhigh : c.p 3 ≤ 252) (hview : c.p 4 ≤ 2) : exec .cfgRead s = .next (answer c 6 [] false false u) := by
  refine immediate_rejected h ?_ (by decide)
  simp only [firstStatus_pass (readBounds_inside hlow hhigh hview), (unconfigured_of_Taken h).trans hunconf]
  rfl

theorem configuredOnly_ok (h : Taken code v n s c u) (hconf : s.cfg.unconfigured = false) : configuredOnly c u = stOk := by
  simp [configuredOnly, unconfigured_of_Taken h, hconf]

theorem configuredOnly_state (h : Taken code v n s c u) (hunconf : s.cfg.unconfigured = true) : configuredOnly c u = stState := by
  simp [configuredOnly, unconfigured_of_Taken h, hunconf]

theorem checkWrite_unconfigured (h : Taken code v n s c u) (hunconf : s.cfg.unconfigured = true)
    (hlow : 1 ≤ c.p 3) (hhigh : c.p 3 ≤ 240) : checkWrite c u = stState := by
  simp only [checkWrite, unconfigured_of_Taken h, hunconf]
  rw [if_neg (by omega)]
  rfl

theorem exec_cfgCommit (h : Taken 0o0203 anyVariant needsAuth s c u) (hconf : s.cfg.unconfigured = false) (hfree : longOf 2 s = none) :
    exec .cfgCommit s = .next { accepted c u with cfg := { u.cfg with
      commit := some ⟨commitCopy s, (s.cfg.overlaySeq + 1) % 262144, s.cfg.pending, s.clk.tick⟩ } } := by
  have hcopy : commitCopy u = commitCopy s := Taken_same h commitCopy fun _ _ _ _ _ _ => rfl
  have haccepted : commitCopy (accepted c u) = commitCopy u := by simp [commitCopy]
  have hexec : exec .cfgCommit s = .next { accepted c u with cfg := { (accepted c u).cfg with
      commit := some ⟨commitCopy (accepted c u), ((accepted c u).cfg.overlaySeq + 1) % 262144, (accepted c u).cfg.pending,
        (accepted c u).clk.tick⟩ } } := long_accepted h hfree (configuredOnly_ok h hconf)
  rw [hexec, haccepted, hcopy]
  simp [cfg_of_Taken h, clk_of_Taken h]

end Tables

/-- Settles O21: the changes reach the tables at the boundary, and the pending set with them. -/
theorem cfgTableCommands : Obligations.CfgTableCommands := by
  refine ⟨fun s u c => ⟨fun ws h hconf hlow hhigh hview => exec_cfgRead h hconf hlow hhigh hview, fun h hcheck => ?_, fun hcode => ?_,
    fun h hconf => ?_, fun hcode => ?_, exec_cfgCommit⟩, fun s u c hunconf => ⟨fun h => exec_cfgRead_unconfigured h hunconf,
    fun h hlow hhigh => ?_, fun h => ?_, fun h => ?_⟩⟩
  · exact boundary_taken checkWrite h hcheck
  · exact runWaiting_putOff (by rw [hcode]; decide) (by simp only [boundaryEffect, hcode]; rfl)
  · exact boundary_taken configuredOnly h (configuredOnly_ok h hconf)
  · exact runWaiting_putOff (by rw [hcode]; decide) (by simp only [boundaryEffect, hcode]; rfl)
  · exact boundary_rejected h (checkWrite_unconfigured h hunconf hlow hhigh) (by decide)
  · exact long_rejected h (configuredOnly_state h hunconf) (by decide)
  · exact boundary_rejected h (configuredOnly_state h hunconf) (by decide)

/-! ## Slots -/

/-- The directory stands in flash. -/
theorem dirEntries_congr {s t : State} (h : t.mem = s.mem) : dirEntries t = dirEntries s := by
  have bytes (a n : Nat) : flashBytes a n t = flashBytes a n s := by rw [flashBytes, h, flashBytes]
  have copy (a : Nat) : dirCopy a t = dirCopy a s := by
    unfold dirCopy
    rw [bytes]
  have dir : directory t = directory s := by
    unfold directory
    rw [copy, copy]
  unfold dirEntries
  rw [dir]

theorem regionOf_congr {s t : State} (h : t.mem = s.mem) (typ index : Nat) : regionOf typ index t = regionOf typ index s := by
  rw [regionOf, dirEntries_congr h, regionOf]

section Slots

variable {s u : State} {c : Command} {code : Nat} {v : Command → Bool} {n : Command → State → Bool}

theorem slotWrite_of_Taken (h : Taken code v n s c u) : u.cfg.slotWrite = s.cfg.slotWrite := by rw [cfg_of_Taken h]

theorem fwWrite_of_Taken (h : Taken code v n s c u) : u.cfg.fwWrite = s.cfg.fwWrite := by rw [cfg_of_Taken h]

theorem beginSlot_of_Taken (h : Taken code v n s c u) : beginSlot c u = beginSlot c s :=
  Taken_same h (beginSlot c) fun _ _ _ _ _ _ => rfl

theorem regionOf_of_Taken (h : Taken code v n s c u) (typ index : Nat) : regionOf typ index u = regionOf typ index s :=
  regionOf_congr (Taken_same h State.mem fun _ _ _ _ _ _ => rfl) typ index

theorem exec_cfgFlashWriteBegin (hfree : longOf 2 s = none)
    (h : Taken 0o0206 (fun c => opIs 0 c || decide (2 < c.p 1)) needsAuth s c u) (hop : c.p 1 = 0) (hslot : beginSlot c s ≤ 1)
    (hother : s.cfg.active ≠ some (beginSlot c s)) (hregion : (regionOf 2 (beginSlot c s) s).isSome = true) :
    exec .cfgFlashWriteBegin s = .next { accepted c u with cfg := { u.cfg with
      op := some (.ctiBegin (beginSlot c s)), slotWrite := some ⟨beginSlot c s, [], false⟩ } } := by
  have hsame : beginSlot c (accepted c u) = beginSlot c s := by
    rw [← beginSlot_of_Taken h]
    simp [beginSlot]
  have hexec : exec .cfgFlashWriteBegin s = .next { accepted c u with cfg := { (accepted c u).cfg with
      op := some (.ctiBegin (beginSlot c (accepted c u))), slotWrite := some ⟨beginSlot c (accepted c u), [], false⟩ } } := by
    refine long_accepted h hfree ?_
    simp only [beginSlot_of_Taken h, regionOf_of_Taken h, cfg_of_Taken h, hop, decide_eq_false (Nat.not_lt.mpr hslot),
      beq_eq_false_iff_ne.mpr hother, Option.isNone_eq_false_iff.mpr hregion]
    rfl
  rw [hexec, hsame]
  simp

theorem exec_cfgFlashWriteData {w : SlotWrite} (hfree : longOf 2 s = none) (h : Taken 0o0206 (opIs 1) needsAuth s c u)
    (hrows : (c.params.length - 2) % 4 = 0) (hfits : c.p 2 + (c.params.length - 2) / 4 ≤ 29120) (hw : s.cfg.slotWrite = some w)
    (hopen : w.closed = false) (hnew : wasWritten w.rows (c.p 2) ((c.params.length - 2) / 4) = false) :
    exec .cfgFlashWriteData s =
      .next { accepted c u with cfg := { u.cfg with op := some (.ctiData (c.p 2) (c.params.drop 2)) } } := by
  have hexec : exec .cfgFlashWriteData s = .next { accepted c u with cfg := { (accepted c u).cfg with
      op := some (.ctiData (c.p 2) (c.params.drop 2)) } } := by
    refine long_accepted h hfree ?_
    simp only [rowsWritten, (slotWrite_of_Taken h).trans hw, hopen, hnew, hrows, decide_eq_false (Nat.not_lt.mpr hfits)]
    rfl
  rw [hexec]
  simp

theorem exec_cfgFlashWriteEnd {w : SlotWrite} (hfree : longOf 2 s = none) (h : Taken 0o0206 (opIs 2) needsAuth s c u)
    (hw : s.cfg.slotWrite = some w) (hopen : w.closed = false) :
    exec .cfgFlashWriteEnd s = .next { accepted c u with cfg := { u.cfg with op := some .ctiEnd } } := by
  have hexec : exec .cfgFlashWriteEnd s = .next { accepted c u with cfg := { (accepted c u).cfg with op := some .ctiEnd } } :=
    long_accepted h hfree (by simp [slotOpen, slotWrite_of_Taken h, hw, hopen])
  rw [hexec]
  simp

theorem exec_cfgFirmwareWriteBegin (hfree : longOf 2 s = none)
    (h : Taken 0o0207 (fun c => opIs 0 c || decide (3 < c.p 1)) needsAuth s c u) (hop : c.p 1 = 0) (hslot : c.p 2 ≤ 1)
    (hother : runsFrom (c.p 2) s = false) (hnone : s.cfg.fwWrite = none) (hregion : (regionOf 1 (c.p 2) s).isSome = true) :
    exec .cfgFirmwareWriteBegin s = .next { accepted c u with cfg := { u.cfg with
      op := some (.fwBegin (c.p 2)), fwWrite := some ⟨c.p 2, []⟩ } } := by
  have hruns : runsFrom (c.p 2) u = false := (Taken_same h (runsFrom (c.p 2)) fun _ _ _ _ _ _ => rfl).trans hother
  have hexec : exec .cfgFirmwareWriteBegin s = .next { accepted c u with cfg := { (accepted c u).cfg with
      op := some (.fwBegin (c.p 2)), fwWrite := some ⟨c.p 2, []⟩ } } := by
    refine long_accepted h hfree ?_
    simp only [hruns, (fwWrite_of_Taken h).trans hnone, regionOf_of_Taken h, hop, decide_eq_false (Nat.not_lt.mpr hslot),
      Option.isNone_eq_false_iff.mpr hregion]
    rfl
  rw [hexec]
  simp

theorem exec_cfgFirmwareWriteData {w : FwWrite} (hfree : longOf 2 s = none) (h : Taken 0o0207 (opIs 1) needsAuth s c u)
    (hlow : 1 ≤ dataCount c) (hhigh : dataCount c ≤ 480) (hfits : dataOffset c + dataCount c ≤ 2031616)
    (hw : s.cfg.fwWrite = some w) (hnew : wasWritten w.ranges (dataOffset c) (dataCount c) = false) :
    exec .cfgFirmwareWriteData s =
      .next { accepted c u with cfg := { u.cfg with op := some (.fwData (dataOffset c) (dataBytes c)) } } := by
  have hbounds : (decide (dataCount c < 1) || decide (480 < dataCount c) ||
      decide (Config.fwLimit < dataOffset c + dataCount c)) = false := by
    have hlimit : Config.fwLimit = 2031616 := rfl
    simp only [hlimit, Bool.or_eq_false_iff, decide_eq_false_iff_not]
    omega
  have hexec : exec .cfgFirmwareWriteData s = .next { accepted c u with cfg := { (accepted c u).cfg with
      op := some (.fwData (dataOffset c) (dataBytes c)) } } := by
    refine long_accepted h hfree ?_
    simp only [firstStatus_pass hbounds, (fwWrite_of_Taken h).trans hw, hnew]
    rfl
  rw [hexec]
  simp

/-- END and ABORT of a firmware write need one in progress, and nothing else. -/
theorem firmwareWrite_check {w : FwWrite} (h : Taken code v n s c u) (hw : s.cfg.fwWrite = some w) :
    (if u.cfg.fwWrite.isNone then stState else stOk) = stOk := by
  simp [fwWrite_of_Taken h, hw]

theorem exec_cfgFirmwareWriteEnd {w : FwWrite} (hfree : longOf 2 s = none) (h : Taken 0o0207 (opIs 2) needsAuth s c u)
    (hw : s.cfg.fwWrite = some w) :
    exec .cfgFirmwareWriteEnd s = .next { accepted c u with cfg := { u.cfg with op := some .fwEnd } } := by
  have hexec : exec .cfgFirmwareWriteEnd s = .next { accepted c u with cfg := { (accepted c u).cfg with op := some .fwEnd } } :=
    long_accepted h hfree (firmwareWrite_check h hw)
  rw [hexec]
  simp

theorem exec_cfgFirmwareWriteAbort {w : FwWrite} (hfree : longOf 2 s = none) (h : Taken 0o0207 (opIs 3) needsAuth s c u)
    (hw : s.cfg.fwWrite = some w) :
    exec .cfgFirmwareWriteAbort s = .next { accepted c u with cfg := { u.cfg with op := some .fwAbort } } := by
  have hexec : exec .cfgFirmwareWriteAbort s = .next { accepted c u with cfg := { (accepted c u).cfg with op := some .fwAbort } } :=
    long_accepted h hfree (firmwareWrite_check h hw)
  rw [hexec]
  simp

/-! ## CFG.LOAD -/

/-- What CFG.LOAD does with the slots that it reads, once accepted. -/
def loadImages (a b : Bool) (slots : List Nat) (t : State) : State :=
  match newestImage (checkSlots a b slots t).1 with
  | some img => { (checkSlots a b slots t).2 with cfg := { (checkSlots a b slots t).2.cfg with next := some img, nextIsLoad := true } }
  | none => groupDone 2 (loadRefusal a b slots t) (checkSlots a b slots t).2

theorem loadSlots_one {k : Nat} (hlow : 1 ≤ k) (s : State) : loadSlots k s = [k - 1] := by
  obtain ⟨j, rfl⟩ := Nat.exists_eq_succ_of_ne_zero (Nat.one_le_iff_ne_zero.mp hlow)
  rfl

theorem exec_cfgLoad (a b : Bool) (h : Taken 0o0205 anyVariant needsAuth s c u) (hfree : longOf 2 s = none)
    (hblocked : loadBlocked s = false) (hlow : 1 ≤ c.p 1) (hhigh : c.p 1 ≤ 2) (hshut : slotOpen s ≠ some (c.p 1 - 1)) :
    exec (.cfgLoad a b) s = .next (loadImages a b [c.p 1 - 1] (accepted c u)) := by
  have hblock : loadBlocked u = false := (Taken_same h loadBlocked fun _ _ _ _ _ _ => rfl).trans hblocked
  have hopen : (slotOpen u == some (c.p 1 - 1)) = false := by
    rw [Taken_same h slotOpen fun _ _ _ _ _ _ => rfl]
    exact beq_eq_false_iff_ne.mpr hshut
  rw [← loadSlots_one hlow (accepted c u)]
  refine long_accepted h hfree ?_
  rw [firstStatus_pass (decide_eq_false (Nat.not_lt.mpr hhigh)), hblock, hopen, Bool.and_false]
  rfl

/-- The clause of an image that fails. It is taken from the recursor of `checkSlots`, for Lean's own
equations evaluate the check. -/
theorem checkSlots_fails {readA readB : Bool} {k r : Nat} {s : State} (ks : List Nat)
    (h : checkSlot k (if k = 0 then readA else readB) s = .inl r) :
    checkSlots readA readB (k :: ks) s = checkSlots readA readB ks (rejectImage k r s) := by
  have clause (b : List.below (motive := fun _ => State → List Image × State) (k :: ks)) :
      checkSlots._f readA readB (k :: ks) b s = b.1 (rejectImage k r s) := by
    delta checkSlots._f
    dsimp only
    rw [h]
  delta checkSlots
  exact clause _

/-- The clause of an image that passes. -/
theorem checkSlots_passes {readA readB : Bool} {k : Nat} {img : Image} {s : State} (ks : List Nat)
    (h : checkSlot k (if k = 0 then readA else readB) s = .inr img) :
    checkSlots readA readB (k :: ks) s = (img :: (checkSlots readA readB ks s).1, (checkSlots readA readB ks s).2) := by
  have clause (b : List.below (motive := fun _ => State → List Image × State) (k :: ks)) :
      checkSlots._f readA readB (k :: ks) b s = (img :: (b.1 s).1, (b.1 s).2) := by
    delta checkSlots._f
    dsimp only
    rw [h]
  delta checkSlots
  exact clause _

/-- A slot that passes its checks leaves its image, which no other slot's is newer than. -/
theorem loadImages_passes {a b : Bool} {k : Nat} {t : State} {img : Image}
    (hpass : checkSlot k (if k = 0 then a else b) t = .inr img) :
    loadImages a b [k] t = { t with cfg := { t.cfg with next := some img, nextIsLoad := true } } := by
  have hslots : checkSlots a b [k] t = ([img], t) := by
    rw [checkSlots_passes [] hpass]
    rfl
  simp [loadImages, hslots, newestImage]

theorem loadImages_fails {a b : Bool} {k reason : Nat} {t : State} (hfail : checkSlot k (if k = 0 then a else b) t = .inl reason) :
    loadImages a b [k] t = groupDone 2 (if reserveRefused (if k = 0 then a else b) k t then 7 else 3) (rejectImage k reason t) := by
  have hslots : checkSlots a b [k] t = ([], rejectImage k reason t) := by
    rw [checkSlots_fails [] hfail]
    rfl
  simp [loadImages, hslots, newestImage, loadRefusal, stResource, stBadParam]

end Slots

/-- Settles O23: each form is accepted with its operation noted, and the slot that CFG.LOAD reads decides its end. -/
theorem flashLoadsAndWritesAccepted : Obligations.FlashLoadsAndWritesAccepted := by
  refine ⟨fun s u c hfree => ⟨exec_cfgFlashWriteBegin hfree, fun w => exec_cfgFlashWriteData hfree, fun w => exec_cfgFlashWriteEnd hfree,
    exec_cfgFirmwareWriteBegin hfree, fun w => exec_cfgFirmwareWriteData hfree, fun w => exec_cfgFirmwareWriteEnd hfree,
    fun w => exec_cfgFirmwareWriteAbort hfree⟩, fun s u c a b h hfree hblocked hlow hhigh hshut => ⟨fun img hpass => ?_,
    fun reason hfail => ?_⟩⟩
  · rw [exec_cfgLoad a b h hfree hblocked hlow hhigh hshut, loadImages_passes hpass]
    simp
  · rw [exec_cfgLoad a b h hfree hblocked hlow hhigh hshut, loadImages_fails hfail]

end Sys2Proof.Proofs
end

section
/-!
The SAFE and LOG commands: entry into safe state and its end at the boundary, and what they report (R394 to R406).
-/

namespace Sys2Proof.Proofs

open Sys2Proof
open Sys2Proof.Machine
open Sys2Proof.Safety
open Sys2Proof.Laws

/-! ## The source of SAFE.ENTER -/

theorem enterSafe_facts (src : BitVec 12) (reason : Nat) {s : State} (h : s.aon.safeActive = false) :
    (enterSafe src reason s).flt.hold = s.flt.hold ∧ (enterSafe src reason s).flt.entrySource = src ∧
    (enterSafe src reason s).flt.enteredDue = some reason := by
  simp only [enterSafe, h]
  exact ⟨rfl, rfl, rfl⟩

theorem react_hold (src : BitVec 12) (cls sev : Nat) (esc : Bool) (s : State) : (react src cls sev esc s).flt.hold = s.flt.hold := by
  simp only [react]
  (repeat' split) <;> simp

theorem countingFault_hold (s : State) : (countingFault s).flt.hold = s.flt.hold := by
  simp only [countingFault]
  split <;> rfl

theorem applyFault_hold (src : BitVec 12) (cls sev : Nat) (esc : Bool) (s : State) :
    (applyFault src cls sev esc s).flt.hold = s.flt.hold :=
  (countingFault_hold _).trans (react_hold ..)

/-- A source of severity 5 that is not unacknowledged puts the device in safe state. -/
theorem takeFault_five {src : BitVec 12} {reason : Nat} {s : State} (hnew : isUnacked src s = false) (hsafe : s.aon.safeActive = false) :
    let t := takeFault src 5 reason s
    t.aon.safeActive = true ∧ t.flt.hold = s.flt.hold ∧ t.flt.entrySource = src ∧ t.flt.enteredDue = some reason := by
  have hsev (n : Nat) : appliedSeverity src 5 n = 5 := by
    simp [appliedSeverity]
  simp only [takeFault_new reason hnew, hsev, if_true, if_neg (by decide : ¬ (5 = 0))]
  obtain ⟨-, -, -, hactive, -⟩ := applyFault_facts src (sourceClass src.toNat) 5 (decide (0 < sameClassUnacked src s))
    (countFault src (latchStatus src s))
  obtain ⟨hhold, hsource, hdue⟩ := enterSafe_facts src reason (hactive.trans hsafe)
  exact ⟨enterSafe_active .., hhold.trans (applyFault_hold ..), hsource, hdue⟩

section Safe

variable {s u : State} {c : Command} {code : Nat} {v : Command → Bool} {n : Command → State → Bool}

theorem flt_of_Taken (h : Taken code v n s c u) : u.flt = s.flt := Taken_same h State.flt fun _ _ _ _ _ _ => rfl

theorem aon_of_Taken (h : Taken code v n s c u) : u.aon = s.aon := Taken_same h State.aon fun _ _ _ _ _ _ => rfl

theorem exec_safeStatus (h : Taken 0o1101 anyVariant needsAuth s c u) : exec .safeStatus s = .next (replied c
    [w18 (bit s.flt.hold * 16 + bit s.aon.safeLatched * 8 + bit s.aon.safeQuiet * 4 + bit s.aon.safeActive * 2 + bit (faultN u)),
      w18 s.flt.entrySource.toNat, w18 s.aon.recov, w18 (recentExits s), w18 (quietLeft s)] u) := by
  have hexits : recentExits u = recentExits s := Taken_same h recentExits fun _ _ _ _ _ _ => rfl
  have hquiet : quietLeft u = quietLeft s := Taken_same h quietLeft fun _ _ _ _ _ _ => rfl
  have hexec : exec .safeStatus s = .next (replied c
      [w18 (bit u.flt.hold * 16 + bit u.aon.safeLatched * 8 + bit u.aon.safeQuiet * 4 + bit u.aon.safeActive * 2 + bit (faultN u)),
        w18 u.flt.entrySource.toNat, w18 u.aon.recov, w18 (recentExits u), w18 (quietLeft u)] u) := immediate_taken _ _ h rfl
  rw [hexec, hexits, hquiet, flt_of_Taken h, aon_of_Taken h]

theorem exec_safeEnter (h : Taken 0o1102 anyVariant needsAuth s c u) :
    exec .safeEnter s = .next (replied c [] (safeEnter (bitOf (c.p 1) 0) u)) := immediate_taken _ _ h rfl

/-- SAFE.ENTER outside safe state takes its own source, which the reply follows. -/
theorem exec_safeEnter_enters (h : Taken 0o1102 anyVariant needsAuth s c u) (hsafe : s.aon.safeActive = false)
    (hnew : isUnacked 0o5200 s = false) : ∃ t, exec .safeEnter s = .next t ∧
      t.aon.safeActive = true ∧ t.flt.hold = bitOf (c.p 1) 0 ∧ t.flt.entrySource = 0o5200 ∧ t.flt.enteredDue = some 1 ∧
      Frame [.out, .boot, .aon, .mbx, .flt, .hub, .zon, .pwr, .sec] (fresh s) t := by
  let w : State := { u with flt := { u.flt with hold := bitOf (c.p 1) 0 } }
  have hinactive : u.aon.safeActive = false := (congrArg Aon.safeActive (aon_of_Taken h)).trans hsafe
  have hunacked : isUnacked 0o5200 w = false :=
    (Taken_same h (isUnacked 0o5200) fun _ _ _ _ _ _ => rfl).trans hnew
  have hentered : safeEnter (bitOf (c.p 1) 0) u = takeFault 0o5200 5 1 w := by
    simp only [safeEnter, hinactive]
    rfl
  obtain ⟨hactive, hhold, hsource, hdue⟩ := takeFault_five (reason := 1) (s := w) hunacked hinactive
  rw [exec_safeEnter h, hentered]
  refine ⟨_, rfl, by simpa using hactive, by simpa using hhold, by simpa using hsource, by simpa using hdue, ?_⟩
  have hentry : Frame [.out, .boot, .aon, .mbx, .flt, .hub, .zon] u (replied c [] (takeFault 0o5200 5 1 w)) := by
    intro g hg
    cases g <;> simp_all [same, w]
  exact Frame_mono (Frame_trans (Frame_of_Taken h) hentry) (by decide)

theorem exec_safeSetQuiet (h : Taken 0o1104 anyVariant needsAuth s c u) (hcheck : checkSetQuiet c u = stOk) :
    exec .safeSetQuiet s =
      let v := if bitOf (c.p 4) 0 then recordChanges (quietChanges c) u else u
      .next (replied c [] { v with flt := { v.flt with quietSet := some (c.p 1, c.p 2, c.p 3) } }) :=
  immediate_taken _ _ h hcheck

/-- What SAFE.RELEASE leaves at the boundary of a block without a counting fault. -/
theorem exitSafe_facts (reason : Nat) (s : State) : (exitSafe reason s).aon.safeActive = false ∧
    (exitSafe reason s).aon.safeLatched = false ∧ (exitSafe reason s).aon.recov = min 255 (s.aon.recov + 1) ∧
    (exitSafe reason s).flt.exits = (if reason = 1 then [] else (s.clk.tick :: s.flt.exits).take 15) ∧
    (exitSafe reason s).flt.hold = false ∧ ∀ x ∈ (exitSafe reason s).flt.unacked, x.severity ≠ 5 := by
  simp only [exitSafe]
  refine ⟨?_, ?_, ?_, ?_, ?_, ?_⟩
  all_goals simp [acknowledge, settleStatus]

theorem exec_logHistory (h : Taken 0o1401 anyVariant noAuth s c u) :
    exec .logHistory s = .next (replied c (w18 s.aon.hist.length :: s.aon.hist.flatMap histWords) u) := by
  rw [← aon_of_Taken h]
  exact immediate_taken _ _ h rfl

theorem exec_logRead (h : Taken 0o1402 anyVariant noAuth s c u) (hsrc : c.p 1 ≤ 4095) (hlow : 1 ≤ c.p 2) (hhigh : c.p 2 ≤ 125) :
    exec .logRead s = .next (replied c
      (((allSources.filter (fun k => decide (c.p 1 ≤ k))).take (c.p 2)).flatMap (logWords s)) u) := by
  have hwords : logWords u = logWords s := Taken_same h logWords fun _ _ _ _ _ _ => rfl
  rw [← hwords]
  exact immediate_taken _ _ h (if_neg (by omega))

end Safe

/-- Settles O41: SAFE.ENTER takes its source at once, SAFE.RELEASE waits for its boundary. -/
theorem safeAndLogCommands : Obligations.SafeAndLogCommands := by
  intro s u c
  refine ⟨exec_safeStatus, fun h hactive hhold => ?_, exec_safeEnter_enters, fun h hactive hfive => ?_, fun hcode hbroken => ?_,
    fun hcode hquiet hactive => ?_, fun h h1 h1' h2 h2' h3 h3' hrecord => ?_, fun v h hcheck hrecord hv => ?_, exec_logHistory,
    exec_logRead⟩
  · have hsafe : u.aon.safeActive = true := by rw [aon_of_Taken h, hactive]
    rw [exec_safeEnter h]
    simp only [safeEnter, hsafe, hhold]
    rfl
  · refine boundary_taken _ h ?_
    have hasserted : fiveAsserted u = false := (Taken_same h fiveAsserted fun _ _ _ _ _ _ => rfl).trans hfive
    rw [aon_of_Taken h, hactive, hasserted]
    rfl
  · rw [runWaiting_release hcode]
    exact if_pos hbroken
  · obtain ⟨hsafe, hlatched, hrecov, hexits, hhold, hunacked⟩ := exitSafe_facts 1 (resumed u)
    refine ⟨exitSafe 1 (resumed u), ?_, hsafe, hlatched, hrecov, hexits, hhold, hunacked⟩
    have hgoes : ¬ ((resumed u).flt.releaseBroken = true ∨ (resumed u).aon.safeActive = false) := by
      simp [resumed, hquiet, hactive]
    rw [runWaiting_release hcode, releaseAtBoundary, if_neg hgoes]
    rfl
  · have hcheck : checkSetQuiet c u = stOk := by
      rw [checkSetQuiet, if_neg (by omega), hrecord]
      rfl
    rw [exec_safeSetQuiet h hcheck, hrecord]
    rfl
  · subst hv
    rw [exec_safeSetQuiet h hcheck, hrecord]
    rfl

end Sys2Proof.Proofs
end

section
/-!
PORT.STATUS and PORT.DEVICES: what they report of a port and its devices (R213, R214).
-/

namespace Sys2Proof.Proofs

open Sys2Proof
open Sys2Proof.Machine
open Sys2Proof.Safety
open Sys2Proof.Laws

section PortQueries

variable {s u : State} {c : Command}

/-- Ports are numbered 1 to 10. -/
theorem portNumber_inside (hlow : 1 ≤ c.p 1) (hhigh : c.p 1 ≤ 10) : (decide (c.p 1 < 1) || decide (10 < c.p 1)) = false := by
  simp only [Bool.or_eq_false_iff, decide_eq_false_iff_not]
  omega

theorem portNumber_outside (h : c.p 1 < 1 ∨ 10 < c.p 1) : (decide (c.p 1 < 1) || decide (10 < c.p 1)) = true := by
  simpa using h

theorem exec_portStatus (h : Taken 0o0301 anyVariant noAuth s c u) (hlow : 1 ≤ c.p 1) (hhigh : c.p 1 ≤ 10) :
    exec .portStatus s = .next (replied c (statusOf (c.p 1 - 1) s) u) := by
  rw [← Taken_same h (statusOf (c.p 1 - 1)) fun _ _ _ _ _ _ => rfl]
  exact immediate_taken _ _ h (firstStatus_pass (portNumber_inside hlow hhigh))

theorem exec_portDevices (h : Taken 0o0303 anyVariant noAuth s c u) (hlow : 1 ≤ c.p 1) (hhigh : c.p 1 ≤ 10)
    (howned : (portOf (c.p 1 - 1) s).owned = true) :
    exec .portDevices s = .next (replied c ((lostDevices (c.p 1 - 1) 0 s).flatMap (fun d => deviceWords d s)) u) := by
  have hport : portOf (c.p 1 - 1) u = portOf (c.p 1 - 1) s := Taken_same h (portOf (c.p 1 - 1)) fun _ _ _ _ _ _ => rfl
  rw [← Taken_same h (fun s => (lostDevices (c.p 1 - 1) 0 s).flatMap (fun d => deviceWords d s)) fun _ _ _ _ _ _ => rfl]
  refine immediate_taken _ _ h ?_
  simp only [firstStatus_pass (portNumber_inside hlow hhigh), hport, howned]
  rfl

/-- R213 word by word; the OWN bits of the ports begin at bit 6 of their table. -/
theorem statusOf_eq (hlow : 1 ≤ c.p 1) : statusOf (c.p 1 - 1) s =
    let p := portOf (c.p 1 - 1) s
    let mine := s.own.devs.filter (fun d => d.port == c.p 1 - 1)
    let served := mine.filter (fun d => d.reason == 0)
    let head := w18 (bit (((formatWords s).getD 0 0).bit 16) * 128 + bit (bitOf ((formatWords s).getD 0 0).toNat (5 + c.p 1)) * 64
      + (if p.attached then (match p.speed with | some .ls => 1 | some .fs => 2 | some .hs => 3 | some .ss => 4 | none => 0) else 0) * 8
      + roleOf (c.p 1 - 1) s)
    if p.owned then [head, w18 ((served.map (·.endpoints)).sum * 64 + served.length), w18 p.reserved, w18 (mine.length - served.length)]
    else [head, 0, 0, 0] := by
  have hbit : 6 + (c.p 1 - 1) = 5 + c.p 1 := by omega
  simp only [statusOf, stdEnum, hbit]
  cases (portOf (c.p 1 - 1) s).speed with
  | none => rfl
  | some x => cases x <;> rfl

end PortQueries

/-- Settles O24: both queries read the port and the records as they stood before the packet. -/
theorem portQueriesAnswer : Obligations.PortQueriesAnswer := by
  intro s u c
  refine ⟨fun h hlow hhigh => ⟨fun hpass => ?_, fun howned => ?_⟩, fun h hout => ?_, exec_portDevices, fun d => ⟨rfl, rfl⟩,
    fun h hout => ?_, fun h hlow hhigh hpass => ?_⟩
  · rw [exec_portStatus h hlow hhigh, statusOf_eq hlow]
    simp only [hpass]
    rfl
  · rw [exec_portStatus h hlow hhigh, statusOf_eq hlow]
    simp only [howned]
    rfl
  · exact immediate_rejected h (firstStatus_stop (portNumber_outside hout)) (by decide)
  · exact immediate_rejected h (firstStatus_stop (portNumber_outside hout)) (by decide)
  · have hport : portOf (c.p 1 - 1) u = portOf (c.p 1 - 1) s := Taken_same h (portOf (c.p 1 - 1)) fun _ _ _ _ _ _ => rfl
    refine immediate_rejected h ?_ (by decide)
    simp only [firstStatus_pass (portNumber_inside hlow hhigh), hport, hpass]
    rfl

end Sys2Proof.Proofs
end

section
/-!
An upstream bus reset (R165): the cells of the upstream port go, the hubs and the function return to their defaults, the host's power of
the pass-through ports goes, and of the rest of the state nothing but events and ended commands changes.
-/

namespace Sys2Proof.Proofs

open Sys2Proof
open Sys2Proof.Machine
open Sys2Proof.Safety
open Sys2Proof.Laws

/-! ## What flushes, faults and ended commands leave -/

/-- The groups that stay when cells are flushed, ports are powered off and commands end. -/
abbrev OnlyCut (s t : State) : Prop :=
  t.pending = s.pending ∧ t.free = s.free ∧ t.clk = s.clk ∧ t.win = s.win ∧ t.cfg = s.cfg ∧ t.mem = s.mem ∧ t.aud = s.aud ∧
    t.msg = s.msg ∧ t.rails = s.rails ∧ t.snap = s.snap ∧ t.pwr = s.pwr ∧ t.pav = s.pav ∧ t.sec = s.sec

/-- The transaction translator of a port is idle. -/
def TtIdle (p : DownPortState) : Prop := p.ttPeriodic = 0 ∧ p.ttNonPeriodic = 0

/-- What a flush, a fault, a port's power-off and an ended command leave: the clock's calendar and the wake sources, the mailboxes but
for events and the records and list of long commands, the hub but for what an event wakes, and idle TTs. -/
structure Cut (s t : State) : Prop where
  groups : OnlyCut s t
  calendar : t.aon.rtcSec = s.aon.rtcSec ∧ t.aon.wakeEn = s.aon.wakeEn
  mailbox : t.mbx = { s.mbx with
    event := t.mbx.event, eventSeq := t.mbx.eventSeq, lost := t.mbx.lost, doneU := t.mbx.doneU, doneS := t.mbx.doneS, long := t.mbx.long }
  records : s.mbx.long = [] → t.mbx.long = [] ∧ t.mbx.doneU = s.mbx.doneU
  hub : t.hub = { s.hub with port11 := t.hub.port11, wakePending := t.hub.wakePending, wakeReport := t.hub.wakeReport }
  quiet : s.hub.function.remoteWake = false → t.hub = s.hub
  idle : (∀ p ∈ s.ports, TtIdle p) → ∀ p ∈ t.ports, TtIdle p

theorem Cut.refl (s : State) : Cut s s := by
  refine ⟨?_, ⟨rfl, rfl⟩, rfl, fun h => ⟨h, rfl⟩, rfl, fun _ => rfl, id⟩
  simp [OnlyCut]

theorem OnlyCut.trans {s t u : State} (h : OnlyCut s t) (h' : OnlyCut t u) : OnlyCut s u := by
  simp_all [OnlyCut]

theorem Cut.trans {s t u : State} (h : Cut s t) (h' : Cut t u) : Cut s u := by
  obtain ⟨g, ⟨c, w⟩, m, r, b, q, i⟩ := h
  obtain ⟨g', ⟨c', w'⟩, m', r', b', q', i'⟩ := h'
  refine ⟨g.trans g', ⟨c'.trans c, w'.trans w⟩, ?_, fun hl => ?_, ?_, fun hq => ?_, fun hp => i' (i hp)⟩
  · rw [m', m]
  · obtain ⟨hl', hd⟩ := r hl
    obtain ⟨hl'', hd'⟩ := r' hl'
    exact ⟨hl'', hd'.trans hd⟩
  · rw [b', b]
  · exact (q' (by rw [q hq]; exact hq)).trans (q hq)

/-- An operation on the other groups alone. -/
theorem Cut.of_eq {s t : State} (hg : OnlyCut s t) (ha : t.aon = s.aon) (hm : t.mbx = s.mbx) (hh : t.hub = s.hub)
    (hp : t.ports = s.ports) : Cut s t := by
  refine ⟨hg, by rw [ha]; exact ⟨rfl, rfl⟩, by rw [hm], fun hl => ?_, by rw [hh], fun _ => hh, fun hi => by rwa [hp]⟩
  rw [hm]
  exact ⟨hl, rfl⟩

theorem Cut.ite {s t u : State} {p : Prop} [Decidable p] (h : Cut s t) (h' : Cut s u) : Cut s (if p then t else u) := by
  split
  · exact h
  · exact h'

theorem Cut.foldl {α : Type} {f : State → α → State} (h : ∀ s a, Cut s (f s a)) (l : List α) (s : State) : Cut s (l.foldl f s) := by
  induction l generalizing s with
  | nil => exact .refl s
  | cons a l ih => exact (h s a).trans (ih _)

/-- A wake request and a resumed function touch the wake fields and the status of port 11. -/
theorem enqueueEvent_hub (w0 : Word) (ps : List Word) (t : Tick) (s : State) :
    let u := enqueueEvent w0 ps t s
    u.hub = { s.hub with port11 := u.hub.port11, wakePending := u.hub.wakePending, wakeReport := u.hub.wakeReport } := by
  have woken (u : State) : (requestWake u).hub = { u.hub with
      wakePending := (requestWake u).hub.wakePending, wakeReport := (requestWake u).hub.wakeReport } := by
    have signalled (x : State) : (signalWake x).hub = x.hub := by simp
    unfold requestWake
    split
    · rw [signalled]
    · rfl
  simp only [enqueueEvent]
  split
  · rfl
  · split
    · rw [woken]
      rfl
    · split
      · simp only [resumeFunction]
        (repeat' split) <;> rfl
      · rfl

theorem postAt_hub (w0 : Word) (ps : List Word) (t : Tick) (s : State) :
    let u := postAt w0 ps t s
    u.hub = { s.hub with port11 := u.hub.port11, wakePending := u.hub.wakePending, wakeReport := u.hub.wakeReport } := by
  simp only [postAt]
  split
  · split
    · exact enqueueEvent_hub ..
    · rw [enqueueEvent_hub, enqueueEvent_hub]
  · rfl

/-- An event of a function that may not wake its host touches no part of the hub. -/
theorem enqueueEvent_quiet (w0 : Word) (ps : List Word) (t : Tick) {s : State} (h : s.hub.function.remoteWake = false) :
    (enqueueEvent w0 ps t s).hub = s.hub := by
  have hq : (queueEvent w0 ps t s).hub.function.remoteWake = false := h
  simp only [enqueueEvent, hq]
  rfl

theorem postAt_quiet (w0 : Word) (ps : List Word) (t : Tick) {s : State} (h : s.hub.function.remoteWake = false) :
    (postAt w0 ps t s).hub = s.hub := by
  have lost := enqueueEvent_quiet 0o010301 [w18 (min s.mbx.lost 262143)] s.clk.tick h
  simp only [postAt]
  split
  · split
    · exact enqueueEvent_quiet _ _ _ h
    · exact (enqueueEvent_quiet _ _ _ (by rw [lost]; exact h)).trans lost
  · rfl

theorem post_cut (w0 : Word) (ps : List Word) (s : State) : Cut s (post w0 ps s) := by
  have hboxes := post_boxes w0 ps s
  have hhub : (post w0 ps s).hub = { s.hub with
      port11 := (post w0 ps s).hub.port11
      wakePending := (post w0 ps s).hub.wakePending
      wakeReport := (post w0 ps s).hub.wakeReport } := by
    unfold post
    split
    · exact postAt_hub ..
    · rfl
  unfold SameBoxes at hboxes
  refine ⟨by simp [OnlyCut], by simp, ?_, fun hl => ?_, hhub, fun hq => ?_, fun h => by simpa using h⟩
  · rw [hboxes]
  · rw [hboxes]
    exact ⟨hl, rfl⟩
  · unfold post
    split
    · exact postAt_quiet _ _ _ hq
    · rfl

/-! ## Faults -/

theorem requestWarm_cut (c : WarmCause) (s : State) : Cut s (requestWarm c s) := by
  refine ⟨by simp [OnlyCut], ?_, by simp, fun hl => ⟨by simpa using hl, by simp⟩, by simp, fun _ => by simp, fun h => by simpa using h⟩
  unfold requestWarm
  split <;> exact ⟨rfl, rfl⟩

theorem react_cut (src : BitVec 12) (cls sev : Nat) (esc : Bool) (s : State) : Cut s (react src cls sev esc s) := by
  have counted (t : State) (f : Faults) : Cut t { t with flt := f } := .of_eq (by simp [OnlyCut]) rfl rfl rfl rfl
  have noted (t : State) (b : Boot) : Cut t { t with boot := b } := .of_eq (by simp [OnlyCut]) rfl rfl rfl rfl
  unfold react
  extract_lets words first s₁ f₁ s₂ f₂ s₃ e b
  have h₁ : Cut s s₁ := .ite (.refl s) (post_cut ..)
  have h₂ : Cut s s₂ := .ite (h₁.trans (counted _ _)) h₁
  have h₃ : Cut s s₃ := .ite (h₂.trans (counted _ _)) h₂
  exact .ite ((h₃.trans (noted _ _)).trans (requestWarm_cut ..)) h₃

theorem enterSafe_cut (src : BitVec 12) (reason : Nat) (s : State) : Cut s (enterSafe src reason s) := by
  unfold enterSafe
  refine .ite (.refl s) ?_
  exact ⟨by simp [OnlyCut], by simp, by simp, fun hl => ⟨by simpa using hl, by simp⟩, by simp, fun _ => by simp, fun h => by simpa using h⟩

theorem addHistory_cut (src : BitVec 12) (cls sev : Nat) (esc : Bool) (s : State) : Cut s (addHistory src cls sev esc s) :=
  ⟨by simp [OnlyCut, addHistory], ⟨rfl, rfl⟩, rfl, fun hl => ⟨hl, rfl⟩, rfl, fun _ => rfl, id⟩

theorem applyFault_cut (src : BitVec 12) (cls sev : Nat) (esc : Bool) (s : State) : Cut s (applyFault src cls sev esc s) := by
  have listed (t : State) (f : Faults) : Cut t { t with flt := f } := .of_eq (by simp [OnlyCut]) rfl rfl rfl rfl
  have applied (t : State) : Cut t (zoneOcc 5 cls 0 none (countingFault t)) :=
    .of_eq (by simp [OnlyCut]) (by simp) (by simp) (by simp) (by simp)
  exact ((listed _ _).trans (addHistory_cut ..)).trans ((react_cut ..).trans (applied _))

theorem takeFault_cut (src : BitVec 12) (conf reason : Nat) (s : State) : Cut s (takeFault src conf reason s) := by
  cases hnew : isUnacked src s with
  | true =>
    have hlatched : isUnacked src (latchStatus src s) = true := hnew
    simp only [takeFault, hlatched]
    exact .of_eq (by simp [OnlyCut]) (by simp) (by simp) (by simp) (by simp)
  | false =>
    have latched : Cut s (countFault src (latchStatus src s)) := .of_eq (by simp [OnlyCut]) (by simp) (by simp) (by simp) (by simp)
    rw [takeFault_new reason hnew]
    refine .ite ?_ (.ite ((latched.trans (applyFault_cut ..)).trans (enterSafe_cut ..)) (latched.trans (applyFault_cut ..)))
    exact latched.trans (.of_eq (by simp [OnlyCut]) (by simp) (by simp) (by simp) (by simp))

theorem raiseFault_cut (src : BitVec 12) (s : State) : Cut s (raiseFault src s) := by
  unfold raiseFault
  exact .ite (.refl s) (takeFault_cut ..)

/-! ## Flushes -/

theorem sw_cut (s : State) (x : Switch) : Cut s { s with sw := x } := .of_eq (by simp [OnlyCut]) rfl rfl rfl rfl

theorem releaseCell_cut (i : Nat) (s : State) : Cut s (releaseCell i s) := by
  unfold releaseCell
  split
  · exact .refl s
  · exact .ite (raiseFault_cut ..) (.ite (sw_cut ..) (sw_cut ..))

theorem releaseCells_cut (l : List Nat) (s : State) : Cut s (releaseCells l s) := .foldl (fun s i => releaseCell_cut i s) l s

/-- Ports change in a way that leaves idle TTs idle. -/
theorem ports_cut {s : State} {l : List DownPortState} (h : (∀ p ∈ s.ports, TtIdle p) → ∀ p ∈ l, TtIdle p) : Cut s { s with ports := l } :=
  ⟨by simp [OnlyCut], ⟨rfl, rfl⟩, rfl, fun hl => ⟨hl, rfl⟩, rfl, fun _ => rfl, h⟩

theorem mem_listModify {α : Type} {f : α → α} {x : α} : ∀ {l : List α} {n : Nat}, x ∈ listModify l n f → x ∈ l ∨ ∃ y ∈ l, x = f y
  | y :: l, 0, h => by
    rcases List.mem_cons.mp h with rfl | h
    · exact .inr ⟨y, List.mem_cons_self, rfl⟩
    · exact .inl (List.mem_cons_of_mem _ h)
  | y :: l, n + 1, h => by
    rcases List.mem_cons.mp h with rfl | h
    · exact .inl List.mem_cons_self
    · rcases mem_listModify h with h | ⟨z, hz, rfl⟩
      · exact .inl (List.mem_cons_of_mem _ h)
      · exact .inr ⟨z, List.mem_cons_of_mem _ hz, rfl⟩

theorem modified_cut {f : DownPortState → DownPortState} (k : Nat) (s : State) (h : ∀ p, TtIdle p → TtIdle (f p)) :
    Cut s { s with ports := listModify s.ports k f } :=
  ports_cut fun hi p hp => by
    rcases mem_listModify hp with hp | ⟨q, hq, rfl⟩
    · exact hi p hp
    · exact h q (hi q hq)

theorem mapPort_cut {f : DownPortState → DownPortState} (h : ∀ p, TtIdle p → TtIdle (f p)) (k : Nat) (s : State) :
    Cut s (mapPort k f s) := modified_cut k s h

theorem flushEgress_cut (cut : Bool) (e : Nat) (s : State) : Cut s (flushEgress cut e s).2 := by
  simp only [flushEgress]
  have emptied : Cut s (setQueue e 2 [] (setQueue e 1 [] (setQueue e 0 [] s))) := ((sw_cut s _).trans (sw_cut _ _)).trans (sw_cut _ _)
  have idled (t : State) : Cut t { t with
      ports := if e = 0 then t.ports else listModify t.ports (e - 1) (fun p => { p with ttPeriodic := 0, ttNonPeriodic := 0 }) } := by
    split
    · exact .refl t
    · exact modified_cut _ t fun _ _ => ⟨rfl, rfl⟩
  have sent (t : State) (o : Out) : Cut t (emit o t) := .of_eq (by simp [OnlyCut]) rfl rfl rfl rfl
  have flushed := (emptied.trans (releaseCells_cut (queueOf e 0 s ++ queueOf e 1 s ++ queueOf e 2 s) _)).trans (idled _)
  exact .ite (flushed.trans (sent _ _)) flushed

theorem flush_cut (cut : Bool) (e : Nat) (s : State) : Cut s (flush cut e s) := flushEgress_cut ..

theorem countDropped_cut (l : List Nat) (s : State) : Cut s (countDropped l s) := by
  refine .foldl (fun s i => ?_) l s
  split
  · refine .ite (.of_eq (by simp [OnlyCut]) (by simp) (by simp) (by simp) (by simp)) (.refl s)
  · exact .refl s

theorem endHold_cut (k outcome iso : Nat) (s : State) : Cut s (endHold k outcome iso s) := (sw_cut s _).trans (post_cut ..)

theorem flushLink_cut (cut : Bool) (k : Nat) (s : State) : Cut s (flushLink cut k s) := by
  unfold flushLink
  exact .ite (((countDropped_cut ..).trans (flushEgress_cut ..)).trans (endHold_cut ..)) (flush_cut ..)

theorem flushPort_cut (k : Nat) (s : State) : Cut s (flushPort k s) := by
  unfold flushPort
  exact .ite (flushLink_cut ..) (flush_cut ..)

/-! ## Ended commands and ports without power -/

theorem cmdDone_cut (l : LongCmd) (status : Nat) (s : State) (h : s.mbx.long ≠ []) : Cut s (cmdDone l status s) := by
  have filed : Cut s (setRecords l.box (finishRecord l.word0 l.seq (w18 status) (records l.box s)) s) := by
    cases l.box <;> exact ⟨by simp [OnlyCut, setRecords], ⟨rfl, rfl⟩, rfl, fun hl => absurd hl h, rfl, fun _ => rfl, id⟩
  have ended (t : State) : Cut t { t with mbx := { t.mbx with long := t.mbx.long.filter (fun x => x.group != l.group) } } :=
    ⟨by simp [OnlyCut], ⟨rfl, rfl⟩, rfl, fun hl => ⟨by simp [hl], rfl⟩, rfl, fun _ => rfl, id⟩
  exact (filed.trans (ended _)).trans (post_cut ..)

theorem groupDone_cut (group status : Nat) (s : State) : Cut s (groupDone group status s) := by
  unfold groupDone
  split
  · rename_i l hl
    exact cmdDone_cut _ _ s fun h => by simp [longOf, h] at hl
  · exact .refl s

theorem mapFlex_cut (n : Nat) (f : Flex → Flex) (s : State) : Cut s (mapFlex n f s) := .of_eq (by simp [OnlyCut]) rfl rfl rfl rfl

theorem pdGone_cut (n : Nat) (s : State) : Cut s (pdGone n s) := by
  simp only [pdGone, pdDone]
  split
  · exact .ite ((mapFlex_cut ..).trans (groupDone_cut ..)) (.refl s)
  · exact .refl s

theorem flexOff_cut (n : Nat) (s : State) : Cut s (flexOff n s) := (pdGone_cut ..).trans (mapFlex_cut ..)

theorem cutPower_cut (k : Nat) (s : State) : Cut s (cutPower k s) := by
  have off : Cut s (flushPort k (mapPort k (fun p => { p.sidesOff.detach with powered := false }) s)) :=
    .trans (mapPort_cut (by exact fun _ h => h) k s) (flushPort_cut ..)
  exact .ite (off.trans (flexOff_cut ..)) off

theorem endOwnerChange_cut (k : Nat) (s : State) : Cut s (endOwnerChange k s) := by
  have ended : Cut s (mapPort k (fun p => { p with change := .none, enumDone := true }) s) :=
    mapPort_cut (by exact fun _ h => h) k s
  have owned (t : State) (x : Owned) : Cut t { t with own := x } := .of_eq (by simp [OnlyCut]) rfl rfl rfl rfl
  exact .ite (((ended.trans (post_cut ..)).trans (owned _ _)).trans (groupDone_cut ..)) (ended.trans (post_cut ..))

theorem portOff_cut (s : State) (k : Nat) : Cut s (portOff s k) := by
  unfold portOff
  have off : Cut s (cutPower k (mapPort k (fun p => { p with hostPower := false, repower := false }) s)) :=
    .trans (mapPort_cut (by exact fun _ h => h) k s) (cutPower_cut ..)
  exact .ite (.refl s) (.ite (off.trans (endOwnerChange_cut ..)) off)

/-! ## The bus reset -/

theorem flushUpstream_cut (s : State) : Cut s (flushUpstream s) := (flushLink_cut ..).trans (flush_cut ..)

/-- The state in which a bus reset begins: the face in use is not absent. -/
def presentAgain (s : State) : State :=
  { s with hub := { s.hub with
      absentA := s.hub.absentA && s.hub.face != some .a, absentB := s.hub.absentB && s.hub.face != some .b } }

/-- What a bus reset leaves of the groups, the calendar and the register window. -/
structure BusKept (s t : State) : Prop where
  groups : t.pending = s.pending ∧ t.free = s.free ∧ t.clk = s.clk ∧ t.cfg = s.cfg ∧ t.mem = s.mem ∧ t.aud = s.aud ∧ t.msg = s.msg ∧
    t.rails = s.rails ∧ t.snap = s.snap ∧ t.pwr = s.pwr ∧ t.pav = s.pav
  sessions : t.sec = s.sec
  calendar : t.aon.rtcSec = s.aon.rtcSec ∧ t.aon.wakeEn = s.aon.wakeEn
  window : t.win = { s.win with usbRead := none, guardUsb := {} }
  hub : t.hub = { (presentAgain s).hub with
    hub2 := {}, hub3 := {}, function := {}, port11 := t.hub.port11, altPlay := 0, altCap := 0, altHub := 0, playRing := []
    playRunning := false, capRing := [], ram := {}, wakePending := t.hub.wakePending, wakeReport := t.hub.wakeReport
    suspended := false, l1 := false, functionUsb3 := onUsb3 s.hub.ssLink }
  idle : ∀ p ∈ t.ports, TtIdle p
  usb : t.mbx.usbBytes = [] ∧ t.mbx.usbOpen = none ∧ t.mbx.inS = s.mbx.inS
  records : s.mbx.long = [] → t.mbx.doneU = s.mbx.doneU
  queues : ∀ q ∈ t.mbx.inU, q.part = [] ∧ q.discard = false
  replies : ∀ r ∈ t.mbx.reply, r.path ≠ some .u

theorem cutUsbMailbox_mbx (s : State) : (cutUsbMailbox s).mbx.usbBytes = [] ∧ (cutUsbMailbox s).mbx.usbOpen = none ∧
    (cutUsbMailbox s).mbx.inS = s.mbx.inS ∧ (cutUsbMailbox s).mbx.doneU = s.mbx.doneU ∧ (cutUsbMailbox s).mbx.long = s.mbx.long ∧
    (∀ q ∈ (cutUsbMailbox s).mbx.inU, q.part = [] ∧ q.discard = false) ∧
    ∀ r ∈ (cutUsbMailbox s).mbx.reply, r.path ≠ some .u := by
  refine ⟨rfl, rfl, rfl, rfl, rfl, fun q hq => ?_, fun r hr => ?_⟩
  · obtain ⟨x, -, rfl⟩ := List.mem_map.mp hq
    exact ⟨rfl, rfl⟩
  · simpa using (List.mem_filter.mp hr).2

theorem hubDefaults_mbx (s : State) : (hubDefaults s).mbx = s.mbx := rfl

theorem hubDefaults_idle (s : State) : ∀ p ∈ (hubDefaults s).ports, TtIdle p := by
  intro p hp
  obtain ⟨x, -, rfl⟩ := List.mem_map.mp hp
  exact ⟨rfl, rfl⟩

/-- The reset in its steps: a flush, the defaults, the USB mailbox, the ports' power, the guard. -/
theorem busKept_of {s f g : State} (h : Cut (presentAgain s) f) (h' : Cut (cutUsbMailbox (hubDefaults f)) g) :
    BusKept s (setGuard .usb {} g) := by
  obtain ⟨⟨p, fr, k, w, c, m, a, x, r, n, v, e, z⟩, ⟨rtc, wake⟩, mbx, records, hub, -, -⟩ := h
  obtain ⟨⟨p', fr', k', w', c', m', a', x', r', n', v', e', z'⟩, ⟨rtc', wake'⟩, mbx', records', hub', -, idle'⟩ := h'
  obtain ⟨bytes, opened, inS, doneU, long, queues, replies⟩ := cutUsbMailbox_mbx (hubDefaults f)
  have hm : (setGuard .usb {} g).mbx = g.mbx := rfl
  refine ⟨⟨p'.trans p, fr'.trans fr, k'.trans k, c'.trans c, m'.trans m, a'.trans a, x'.trans x, r'.trans r, n'.trans n, v'.trans v,
    e'.trans e⟩, z'.trans z, ⟨rtc'.trans rtc, wake'.trans wake⟩, ?_, ?_, idle' (hubDefaults_idle _), ?_, fun hl => ?_, ?_, ?_⟩
  · show { g.win with guardUsb := {} } = _
    rw [w']
    show { f.win with usbRead := none, guardUsb := {} } = _
    rw [w]
    rfl
  · refine hub'.trans ?_
    show { (hubDefaults f).hub with port11 := g.hub.port11, wakePending := g.hub.wakePending, wakeReport := g.hub.wakeReport } = _
    simp only [hubDefaults]
    rw [hub]
    rfl
  · rw [hm, mbx']
    exact ⟨bytes, opened, inS.trans (by rw [hubDefaults_mbx, mbx]; rfl)⟩
  · obtain ⟨hlong, hdone⟩ := records hl
    exact (records' (long.trans hlong)).2.trans (doneU.trans hdone)
  · rw [hm, mbx']
    exact queues
  · rw [hm, mbx']
    exact replies

theorem busReset_kept (s : State) : BusKept s (busReset s) :=
  busKept_of (flushUpstream_cut (presentAgain s)) (.foldl portOff_cut (List.range 10) (cutUsbMailbox (hubDefaults (flushUpstream (presentAgain s)))))

theorem exec_upstreamBusReset {s : State} (h : s.hub.connected = true) : exec .upstreamBusReset s = .next (busReset (fresh s)) := by
  show Host.Outcome.next (if s.hub.connected then _ else _) = _
  rw [if_pos h]

/-! ## The function's move to the USB 2 hub -/

theorem exec_functionHubMove {dst : LinkState} {s : State} (hconn : s.hub.connected = true) (husb3 : s.hub.functionUsb3 = true)
    (hdst : dst = .disabled ∨ dst = .inactive) :
    exec (.functionHubMove dst) s = .next (flushLink true 0 (functionMoves (setLinkState 0 dst (fresh s)))) := by
  show Host.Outcome.next (if s.hub.connected && s.hub.functionUsb3 && (dst == .disabled || dst == .inactive) then _ else _) = _
  rw [hconn, husb3]
  rcases hdst with rfl | rfl <;> rfl

theorem functionMoves_eq {s : State} (hconn : s.hub.connected = true) (husb3 : s.hub.functionUsb3 = true) :
    functionMoves s = { s with hub := { s.hub with
      functionUsb3 := false, hub3 := {}, function := {}, port11 := { cConnection := true }, altPlay := 0, altCap := 0
      playRing := [], playRunning := false, capRing := [], ram := {} } } := by
  simp only [functionMoves, hconn, husb3]
  rfl

/-- Settles O29: the bus reset goes through its steps, the loss of the link moves the function and flushes the upstream link. -/
theorem busResetAndFunctionMove : Obligations.BusResetAndFunctionMove := by
  refine ⟨fun s hconn => ?_, fun dst s hconn husb3 hdst => ?_⟩
  · obtain ⟨⟨-, -, hclk, hcfg, hmem, haud, hmsg, -, -, hpwr, -⟩, hsec, -, hwin, hhub, hidle, ⟨hbytes, hopen, hinS⟩, hrec, hqueues, hreplies⟩ :=
      busReset_kept (fresh s)
    refine ⟨_, exec_upstreamBusReset hconn, ?_, ?_, ?_, ?_, ?_, ?_, ?_, ?_, ?_, ?_, ?_, ?_, ?_, ?_, hbytes, hopen, hinS, hrec, hqueues,
      hreplies, hidle, hclk, hcfg, hmem, hmsg, haud, hsec, by rw [hpwr]; rfl⟩
    case refine_1 => rw [hhub]; exact hconn
    case refine_2 => rw [hhub]; rfl
    case refine_12 => rw [hwin]
    case refine_13 | refine_14 => rw [hwin]; rfl
    all_goals rw [hhub]
  · let moved := functionMoves (setLinkState 0 dst (fresh s))
    have hmoved : moved = { fresh s with hub := { s.hub with
        ssLink := dst, functionUsb3 := false, hub3 := {}, function := {}, port11 := { cConnection := true }, altPlay := 0, altCap := 0
        playRing := [], playRunning := false, capRing := [], ram := {} } } := functionMoves_eq hconn husb3
    obtain ⟨⟨-, -, hclk, -, hcfg, -⟩, -, -, -, -, hquiet, -⟩ := flushLink_cut true 0 moved
    have hhub := hquiet (by rw [hmoved])
    rw [hmoved] at hclk hcfg hhub
    refine ⟨_, (exec_functionHubMove hconn husb3 hdst).trans (congrArg (fun m => Host.Outcome.next (flushLink true 0 m)) hmoved), ?_⟩
    rw [hhub]
    exact ⟨rfl, rfl, rfl, rfl, rfl, hconn, rfl, rfl, hclk, hcfg⟩

end Sys2Proof.Proofs
end

section
/-!
The upstream faces: connection and the loss of VBUS (R54, R143), presence, availability, the loss of a face and the switch to the other
(R299 to R312).
-/

namespace Sys2Proof.Proofs

open Sys2Proof
open Sys2Proof.Machine
open Sys2Proof.Safety
open Sys2Proof.Laws

/-! ## Disconnection -/

/-- The hub of a state whose upstream connection is off. -/
def unlinked (s : State) : State :=
  { s with hub := { s.hub with connected := false, face := none, ssLink := .disabled, highSpeed := false } }

/-- What a disconnect leaves: groups, the other session, and the hub at its defaults without a face. -/
structure UpOff (s t : State) : Prop where
  groups : t.pending = s.pending ∧ t.free = s.free ∧ t.clk = s.clk ∧ t.cfg = s.cfg ∧ t.mem = s.mem ∧ t.aud = s.aud ∧ t.msg = s.msg ∧
    t.rails = s.rails ∧ t.snap = s.snap ∧ t.pwr = s.pwr ∧ t.pav = s.pav
  sessions : t.sec = { s.sec with sessU := none }
  calendar : t.aon.rtcSec = s.aon.rtcSec ∧ t.aon.wakeEn = s.aon.wakeEn
  window : t.win = { s.win with usbRead := none, guardUsb := {} }
  hub : t.hub = { (presentAgain (unlinked s)).hub with
    hub2 := {}, hub3 := {}, function := {}, port11 := t.hub.port11, altPlay := 0, altCap := 0, altHub := 0, playRing := []
    playRunning := false, capRing := [], ram := {}, wakePending := t.hub.wakePending, wakeReport := t.hub.wakeReport
    suspended := false, l1 := false, functionUsb3 := false }

theorem closeUsbSession_cut (s : State) : (closeUsbSession s).sec = { s.sec with sessU := none } ∧
    Cut { s with sec := { s.sec with sessU := none } } (closeUsbSession s) := by
  unfold closeUsbSession
  split
  · exact ⟨by simp, post_cut ..⟩
  · rename_i hnone
    have hsec : { s.sec with sessU := none } = s.sec := by rw [← hnone]
    rw [hsec]
    exact ⟨rfl, .refl s⟩

theorem upOff_of_bus {s f g : State} (h : BusKept (unlinked s) f) (h' : Cut { f with sec := { f.sec with sessU := none } } g) :
    UpOff s g := by
  obtain ⟨⟨p, fr, k, c, m, a, x, r, n, v, e⟩, z, ⟨rtc, wake⟩, win, hub, -, -, -, -, -⟩ := h
  obtain ⟨⟨p', fr', k', w', c', m', a', x', r', n', v', e', z'⟩, ⟨rtc', wake'⟩, -, -, -, hq, -⟩ := h'
  have hub' : g.hub = f.hub := hq (by rw [hub])
  refine ⟨⟨p'.trans p, fr'.trans fr, k'.trans k, c'.trans c, m'.trans m, a'.trans a, x'.trans x, r'.trans r, n'.trans n, v'.trans v,
    e'.trans e⟩, ?_, ⟨rtc'.trans rtc, wake'.trans wake⟩, w'.trans win, ?_⟩
  · rw [z', z]
    rfl
  · rw [hub']
    exact hub

theorem upstreamOff_off (s : State) : UpOff s (upstreamOff s) := by
  show UpOff s (closeUsbSession (busReset (unlinked s)))
  exact upOff_of_bus (busReset_kept (unlinked s)) (closeUsbSession_cut (busReset (unlinked s))).2

theorem UpOff.lock {s t : State} (h : UpOff s t) : UpOff s (setGuard .usb {} t) := by
  obtain ⟨groups, sessions, calendar, window, hub⟩ := h
  refine ⟨groups, sessions, calendar, ?_, hub⟩
  show { t.win with guardUsb := {} } = _
  rw [window]

/-- A face that is left is disconnected, and the guard of the USB path is locked once more. -/
theorem leaveFace_off (s : State) : UpOff s (leaveFace s) := (upstreamOff_off s).lock

/-! ## VBUS of face A -/

theorem readVbus_high {mv : Nat} {s : State} (h : 2000 < mv) : readVbus mv s = { s with hub := { s.hub with vbus := true } } := by
  simp [readVbus, vbusDet, h]

theorem readVbus_held {mv : Nat} {s : State} (hlow : 1600 ≤ mv) (hv : s.hub.vbus = true) : readVbus mv s = s := by
  have hdet : vbusDet mv s.hub.vbus = true := by
    rw [hv, vbusDet, if_neg (Nat.not_lt.mpr hlow)]
    split <;> rfl
  have hhub : { s.hub with vbus := true } = s.hub := by rw [← hv]
  simp only [readVbus, hdet, hhub]
  rfl

theorem readVbus_low {mv : Nat} {s : State} (h : mv < 1600) :
    readVbus mv s = setAvail .a false { s with hub := { s.hub with vbus := false } } := by
  have hdet : vbusDet mv s.hub.vbus = false := by rw [vbusDet, if_neg (by omega), if_pos h]
  simp only [readVbus, hdet]
  rfl

theorem exec_upstreamConnect_reads {mv : Nat} {ss hs : Bool} {s : State} (h : mayConnect s = false ∨ s.hub.connected = true) :
    exec (.upstreamConnect mv ss hs) s = .next (readVbus mv (fresh s)) := by
  have hmay : mayConnect (readVbus mv (fresh s)) = mayConnect s := by
    simp only [readVbus]
    split <;> rfl
  have hconn : (readVbus mv (fresh s)).hub.connected = s.hub.connected := by
    simp only [readVbus]
    split <;> rfl
  show Host.Outcome.next (if _ then _ else _) = _
  simp only [hmay, hconn]
  rcases h with h | h <;> simp [h]

/-- Without upstream B face A connects with VBUS. -/
theorem exec_upstreamConnect_a {mv : Nat} {ss hs : Bool} {s : State} (hmay : mayConnect s = true) (hconn : s.hub.connected = false)
    (hsw : s.hub.swTo = none) (hb : upstreamB s = none) (hmv : 2000 < mv) :
    exec (.upstreamConnect mv ss hs) s = .next (presentFace .a ss hs { fresh s with hub := { s.hub with vbus := true } }) := by
  let w : State := { fresh s with hub := { s.hub with vbus := true } }
  have hread : readVbus mv (fresh s) = w := readVbus_high hmv
  have hmay' : mayConnect w = true := hmay
  have hb' : upstreamB w = none := hb
  have hface : chosenFace w = some .a := by
    simp [chosenFace, hb', show w.hub.vbus = true from rfl]
  have hb'' : upstreamB (presentFace .a ss hs w) = none := hb
  show Host.Outcome.next (if _ then _ else _) = _
  simp only [hread, hmay', show w.hub.connected = false from hconn, show w.hub.swTo = none from hsw, hface, hb'']
  simp
  rfl

/-- Settles O28: face A follows its VBUS, and its loss is a disconnect. -/
theorem upstreamConnectAndVbusLoss : Obligations.UpstreamConnectAndVbusLoss := by
  refine ⟨fun mv ss hs s hmay hconn hsw hb hmv => ?_, fun mv ss hs s hkept => ⟨fun hmv => ?_, fun hmv => ?_, fun hmv hv => ?_⟩,
    fun s hconn hface hb => ?_⟩
  · refine ⟨_, exec_upstreamConnect_a hmay hconn hsw hb hmv, ?_, rfl, rfl, rfl, rfl, rfl, ?_, rfl, rfl, rfl, rfl, rfl, rfl⟩
    · intro g hg
      cases g <;> simp_all [same, presentFace, hubDefaults]
    · cases ss <;> rfl
  · rw [exec_upstreamConnect_reads hkept, readVbus_high hmv]
    rfl
  · refine ⟨_, exec_upstreamConnect_reads hkept, ?_, ?_, ?_, ?_⟩
    all_goals rw [readVbus_low hmv]
    · intro g hg
      cases g <;> simp_all [same, setAvail]
    iterate 3 rfl
  · rw [exec_upstreamConnect_reads hkept, readVbus_held (s := fresh s) hmv hv]
  · obtain ⟨w, hw⟩ : ∃ w, w = setAvail .a false { fresh s with hub := { s.hub with vbus := false } } := ⟨_, rfl⟩
    have hread : readVbus 0 (fresh s) = w := hw ▸ readVbus_low (by decide)
    have hcarries : carries .a w = true := by simp [hw, carries, setAvail, hconn, hface]
    have hb' : upstreamB w = none := by rw [hw]; exact hb
    have hexec : exec .upstreamVbusLoss s = .next (upstreamOff w) := by
      show Host.Outcome.next (if carries .a (readVbus 0 (fresh s)) then (if watchesLoss (readVbus 0 (fresh s)) then _ else _) else _) = _
      simp [hread, hcarries, watchesLoss, hb']
    obtain ⟨⟨-, -, hclk, hcfg, -⟩, hsec, -, -, hhub⟩ := upstreamOff_off w
    refine ⟨_, hexec, ?_, ?_, ?_, ?_, ?_, ?_, ?_, ?_, ?_, ?_⟩
    case refine_3 => rw [hhub, hw]; rfl
    case refine_7 => rw [hsec]
    case refine_8 => rw [hsec, hw]; rfl
    case refine_9 => rw [hclk, hw]; rfl
    case refine_10 => rw [hcfg, hw]; rfl
    all_goals rw [hhub]
    all_goals rfl

/-! ## Presence and availability -/

theorem exec_hostAbsent {f : Face} {absent : Bool} {s : State} (h : flexRuns s = true) : exec (.hostAbsent f absent) s = .next
    (let now := absent && !hsTraffic f s
     let t := match f with
       | .a => { fresh s with hub := { s.hub with absentA := now } }
       | .b => { fresh s with hub := { s.hub with absentB := now } }
     if now && !carries f t then setAvail f false t else t) := by
  have hruns : flexRuns (fresh s) = true := h
  show Host.Outcome.next (if !flexRuns (fresh s) then _ else _) = _
  rw [hruns]
  rfl

/-- A face that does not carry the upstream has no traffic. -/
theorem hsTraffic_off {f : Face} {s : State} (h : carries f s = false) : hsTraffic f s = false := by
  simp [hsTraffic, h]

theorem carries_other {f g : Face} {s : State} (h : s.hub.face = some g) (hne : g ≠ f) : carries f s = false := by
  simp [carries, h, hne]

theorem exec_faceAvailable {f : Face} {ok : Bool} {s : State} (hawake : awake s = true) (hfw : fwRuns s = true)
    (hb : (upstreamB s).isSome = true) (hcarries : carries f s = false) :
    exec (.faceAvailable f ok) s = .next (setAvail f (ok && facePresent f s) (fresh s)) := by
  have hcond : (awake (fresh s) && fwRuns (fresh s) && (upstreamB (fresh s)).isSome && !carries f (fresh s)) = true := by
    rw [show awake (fresh s) = true from hawake, show fwRuns (fresh s) = true from hfw,
      show (upstreamB (fresh s)).isSome = true from hb, show carries f (fresh s) = false from hcarries]
    rfl
  show Host.Outcome.next (if _ then _ else _) = _
  rw [if_pos hcond]
  rfl

/-! ## Loss, switch-over and return -/

/-- What ends a switch touches the hub in its command bit alone, where the function may not wake its host. -/
theorem endSwitch_hub (status : Nat) {s : State} (h : s.hub.function.remoteWake = false) :
    (endSwitch status s).hub = { s.hub with swCmd := false } ∧ OnlyCut s (endSwitch status s) := by
  unfold endSwitch
  split
  · have hcut := groupDone_cut 1 status { s with hub := { s.hub with swCmd := false } }
    exact ⟨hcut.quiet h, hcut.groups⟩
  · rename_i hcmd
    have hhub : { s.hub with swCmd := false } = s.hub := by rw [← Bool.eq_false_of_not_eq_true hcmd]
    exact ⟨hhub.symm, (Cut.refl s).groups⟩

/-- The loss of face A with face B available: the upstream leaves, and a switch to face B is due. -/
theorem loseFace_a {s : State} (hface : s.hub.face = some .a) (hb : s.hub.availB = true) :
    (loseFace s).hub.connected = false ∧ (loseFace s).hub.face = none ∧ (loseFace s).hub.autoArmed = true ∧
    (loseFace s).hub.swTo = some (some .a, some .b, 0) ∧ (loseFace s).win.guardUsb = {} ∧ (loseFace s).sec.sessU = none ∧
    (loseFace s).clk = s.clk ∧ (loseFace s).cfg = s.cfg := by
  obtain ⟨⟨-, -, hclk, hcfg, -⟩, hsec, -, hwin, hhub⟩ := leaveFace_off s
  obtain ⟨w, hw⟩ : ∃ w, w = leaveFace s := ⟨_, rfl⟩
  rw [← hw] at hclk hcfg hsec hwin hhub
  let v : State := { setAvail .a false w with hub := { (setAvail .a false w).hub with
    autoArmed := true, swFrom := w.clk.tick, swTo := some (some .a, some .b, 0) } }
  have hquiet : v.hub.function.remoteWake = false := by
    show w.hub.function.remoteWake = false
    rw [hhub]
  have havail : available .b (setAvail .a false w) = true := by
    have hvb : (setAvail .a false w).hub.availB = true := by
      show w.hub.availB = true
      rw [hhub]
      exact hb
    simp [available, hvb]
  obtain ⟨hend, hgroups⟩ := endSwitch_hub stOk hquiet
  have hlose : loseFace s = if s.hub.swTo.isNone then endSwitch stOk v else v := by
    simp only [loseFace, hface, ← hw, havail]
    rfl
  have hleft : w.hub.connected = false ∧ w.hub.face = none := by rw [hhub]; exact ⟨rfl, rfl⟩
  obtain ⟨-, -, gclk, gwin, gcfg, -, -, -, -, -, -, -, gsec⟩ := hgroups
  rw [hlose]
  split
  · rw [hend, gclk, gwin, gcfg, gsec]
    exact ⟨hleft.1, hleft.2, rfl, rfl, congrArg Window.guardUsb hwin, congrArg Security.sessU hsec, hclk, hcfg⟩
  · exact ⟨hleft.1, hleft.2, rfl, rfl, congrArg Window.guardUsb hwin, congrArg Security.sessU hsec, hclk, hcfg⟩

theorem exec_faceLoss {s : State} (hwatch : watchesLoss s = true) :
    exec .faceLoss s = .next (if lossCriterion s then loseFace (fresh s) else fresh s) := by
  have hw : watchesLoss (fresh s) = true := hwatch
  show Host.Outcome.next (if watchesLoss (fresh s) && lossCriterion (fresh s) then _ else _) = _
  rw [hw]
  rfl

theorem beginSwitch_groups (s : State) : (beginSwitch s).clk = s.clk ∧ (beginSwitch s).cfg = s.cfg := by
  unfold beginSwitch
  split
  · obtain ⟨⟨-, -, hclk, hcfg, -⟩, -⟩ := leaveFace_off s
    exact ⟨hclk, hcfg⟩
  · exact ⟨rfl, rfl⟩

/-- A switch to an available face connects there, and its command has ended. -/
theorem switchFace_ready {old : Option Face} {dst : Face} {reason : Nat} (ss hs : Bool) {s : State}
    (hto : s.hub.swTo = some (old, some dst, reason)) (hready : available dst s = true) :
    let t := switchFace ss hs s
    t.hub.connected = true ∧ t.hub.face = some dst ∧ t.hub.swTo = none ∧ t.hub.highSpeed = hs ∧ t.hub.functionUsb3 = ss ∧
      t.hub.swCmd = false ∧ t.clk = s.clk ∧ t.cfg = s.cfg := by
  obtain ⟨hclk, hcfg⟩ := beginSwitch_groups s
  obtain ⟨w, hw⟩ : ∃ w, w = beginSwitch s := ⟨_, rfl⟩
  rw [← hw] at hclk hcfg
  let v := presentFace dst ss hs { w with hub := { w.hub with swTo := none } }
  let x : State := { v with hub := { v.hub with autoArmed := if reason = 2 then v.hub.autoArmed && dst != .b else v.hub.autoArmed } }
  have hswitch : switchFace ss hs s = endSwitch stOk (postFace old (some dst) reason x) := by
    simp only [switchFace, hto, hready, ← hw]
    rfl
  have hpost : Cut x (postFace old (some dst) reason x) := post_cut ..
  have hx : (postFace old (some dst) reason x).hub = x.hub := hpost.quiet rfl
  obtain ⟨hend, hgroups⟩ := endSwitch_hub stOk (s := postFace old (some dst) reason x) (by rw [hx]; rfl)
  obtain ⟨-, -, gclk, -, gcfg, -⟩ := hpost.groups.trans hgroups
  have hss : onUsb3 (if ss then .u0 else .disabled) = ss := by cases ss <;> rfl
  intro t
  rw [show t = _ from hswitch, hend, hx, gclk, gcfg]
  exact ⟨rfl, rfl, rfl, rfl, hss, rfl, hclk, hcfg⟩

theorem exec_switchOver {old : Option Face} {dst : Face} {reason : Nat} {ss hs : Bool} {s : State}
    (hto : s.hub.swTo = some (old, some dst, reason)) (hawake : awake s = true)
    (hdue : reason ≤ 1 ∨ (atBlock s = true ∧ s.hub.swFrom.toNat ≤ s.clk.tick.toNat)) :
    exec (.switchOver ss hs) s = .next (switchFace ss hs (fresh s)) := by
  have ha : awake (fresh s) = true := hawake
  show Host.Outcome.next (match s.hub.swTo with
    | some (_, _, reason) => if awake (fresh s) = false then _ else if _ then _ else _
    | none => _) = _
  simp only [hto, ha]
  exact congrArg Host.Outcome.next (if_pos hdue)

theorem exec_sysUpstreamSelect {s u : State} {c : Command} (h : Taken 0o0106 anyVariant noAuth s c u) (hfree : longOf 1 s = none)
    (hidle : s.hub.swTo = none)
    (hface : c.p 1 = 0 ∧ available .a s = true ∧ carries .a s = false ∨
      c.p 1 = 1 ∧ (upstreamB s).isSome = true ∧ available .b s = true ∧ carries .b s = false) :
    exec .sysUpstreamSelect s = .next { accepted c u with hub := { s.hub with
      swCmd := true, swTo := some (s.hub.face, some (if c.p 1 = 0 then .a else .b), 2), swFrom := s.clk.tick + 240 } } := by
  have hhub : u.hub = s.hub := Taken_same h State.hub fun _ _ _ _ _ _ => rfl
  have hup : upstreamB u = upstreamB s := Taken_same h upstreamB fun _ _ _ _ _ _ => rfl
  have havail (f : Face) : available f u = available f s := Taken_same h (available f) fun _ _ _ _ _ _ => rfl
  have hcarries : carries (namedFace c) s = false := by
    rcases hface with ⟨hp, -, hc⟩ | ⟨hp, -, -, hc⟩ <;> simpa [namedFace, hp] using hc
  have hoff : carries (namedFace c) { accepted c u with hub := { (accepted c u).hub with swCmd := true } } = false := by
    rw [← hcarries]
    simp [carries, hhub]
  have hexec : exec .sysUpstreamSelect s = .next
      (if carries (namedFace c) { accepted c u with hub := { (accepted c u).hub with swCmd := true } } then
        { accepted c u with hub := { (accepted c u).hub with swCmd := true } }
      else { accepted c u with hub := { (accepted c u).hub with
        swCmd := true, swTo := some ((accepted c u).hub.face, some (namedFace c), 2)
        swFrom := (accepted c u).clk.tick + BitVec.ofNat 54 (5 * Config.tkPerMs) } }) := by
    refine long_accepted h hfree ?_
    rcases hface with ⟨hp, ha, -⟩ | ⟨hp, hb, ha, -⟩
    · simp [firstStatus, hp, namedFace, havail, ha, hhub, hidle]
    · simp [firstStatus, hp, namedFace, havail, ha, hhub, hidle, hup, Option.isSome_iff_ne_none.mp hb]
  rw [hexec, hoff]
  simp [hhub, clk_of_Taken h, namedFace]
  rfl

/-- Settles O34: each face is present, available or lost by its own conditions, and a switch goes to one that is available. -/
theorem galliardFaces : Obligations.GalliardFaces := by
  refine ⟨fun s hruns => ⟨fun hface => ?_, fun hface => ?_, fun hface => ?_, fun f htraffic => ?_⟩,
    fun s hawake hfw hb hcarries => ⟨fun hvbus habsent havail => ?_, ?_⟩, fun n s hawake hfw hb hcarries havail habsent hsink hvbus => ?_,
    fun s hwatch hface => ⟨fun hb hlost => ?_, fun hvbus hlink => ?_⟩, fun old dst reason ss hs s hto hawake hdue hready => ?_,
    fun x s hsince hwatch hcarries havail hauto harmed hidle hlong => ?_, fun s u c => exec_sysUpstreamSelect⟩
  · rw [exec_hostAbsent hruns]
    rfl
  · have hc : carries .a s = false := carries_other hface (by decide)
    rw [exec_hostAbsent hruns, hsTraffic_off hc]
    have hc' : carries .a { fresh s with hub := { s.hub with absentA := true } } = false := hc
    simp only [Bool.not_false, Bool.and_true, hc']
    rfl
  · have hc : carries .b s = false := carries_other hface (by decide)
    rw [exec_hostAbsent hruns, hsTraffic_off hc]
    have hc' : carries .b { fresh s with hub := { s.hub with absentB := true } } = false := hc
    simp only [Bool.not_false, Bool.and_true, hc']
    rfl
  · rw [exec_hostAbsent hruns, exec_hostAbsent hruns, htraffic]
    rfl
  · have hpresent : facePresent .a s = true := by simp [facePresent, hostAbsent, habsent, hvbus]
    rw [exec_faceAvailable hawake hfw hb hcarries, hpresent]
    simp only [Bool.and_self, setAvail, show (fresh s).hub.availA = false from havail]
    rfl
  · rw [exec_faceAvailable hawake hfw hb hcarries]
    rfl
  · have hpresent : facePresent .b s = true := by simp [facePresent, hostAbsent, habsent, hb, hsink, hvbus]
    rw [exec_faceAvailable hawake hfw (by rw [hb]; rfl) hcarries, hpresent]
    simp only [Bool.and_self, setAvail, show (fresh s).hub.availB = false from havail]
    rfl
  · have hcrit : lossCriterion s = true := by
      simp only [lossCriterion, hface]
      rcases hlost with hv | ⟨hu0, hrec, habs⟩
      · simp [hv]
      · simp [hu0, hrec, habs]
    rw [exec_faceLoss hwatch, if_pos hcrit]
    exact ⟨_, rfl, loseFace_a (s := fresh s) hface hb⟩
  · have hcrit : lossCriterion s = false := by
      simp only [lossCriterion, hface, hvbus]
      rcases hlink with h | h | h
      · simp [h]
      · simp [h]
      · simp [hostAbsent, h]
    rw [exec_faceLoss hwatch, hcrit]
    rfl
  · exact ⟨_, exec_switchOver hto hawake hdue, switchFace_ready ss hs (s := fresh s) hto hready⟩
  · have hcond : (watchesLoss (fresh s) && carries .b (fresh s) && s.hub.availA && param 448 2 0 (fresh s) == 1 && s.hub.autoArmed
        && s.hub.swTo.isNone && decide (param 448 3 60 (fresh s) * Config.tkPerS ≤ since x (fresh s))) = true := by
      rw [show watchesLoss (fresh s) = true from hwatch, show carries .b (fresh s) = true from hcarries,
        show param 448 2 0 (fresh s) = 1 from hauto, havail, harmed, hidle,
        show decide (param 448 3 60 (fresh s) * Config.tkPerS ≤ since x (fresh s)) = true from decide_eq_true hlong]
      rfl
    show Host.Outcome.next (match s.hub.availSince with | some t => if _ then _ else _ | none => _) = _
    simp only [hsince]
    refine congrArg Host.Outcome.next ((if_pos hcond).trans ?_)
    rw [← hsince]
    rfl

end Sys2Proof.Proofs
end

section
/-!
The PWR commands (R370, R384 to R386), and what entry into HIBERNATE leaves.
-/

namespace Sys2Proof.Proofs

open Sys2Proof
open Sys2Proof.Machine
open Sys2Proof.Safety
open Sys2Proof.Laws

/-! ## Entry into HIBERNATE -/

theorem aonEdge_empty {s : State} (h : s.win.posted = []) : (aonEdge s).aon = s.aon ∧ (aonEdge s).win.posted = [] := by
  simp [aonEdge, h]

/-- Without posted writes the two edges change nothing of the AON registers. -/
theorem drainPosted_empty {s : State} (h : s.win.posted = []) : (drainPosted s).aon = s.aon := by
  obtain ⟨ha, hp⟩ := aonEdge_empty h
  exact (aonEdge_empty hp).1.trans ha

theorem stopClocks_facts (s : State) : (stopClocks s).mem = s.mem ∧ (stopClocks s).ports = s.ports ∧
    (stopClocks s).clk.tick = s.clk.tick ∧ (s.win.posted = [] → (stopClocks s).aon = s.aon) := by
  have hclk : (drainPosted s).clk = s.clk := by simp
  refine ⟨by simp, by simp, ?_, drainPosted_empty⟩
  show (drainPosted s).clk.tick = _
  rw [hclk]

/-- The flex ports of a device that goes to HIBERNATE lose their partners. -/
def partGone (s : State) (n : Nat) : State :=
  let t := pdGone n s
  if fitted n t then mapFlex n (fun f => f.unpower.leave (if flexRole n s = 2 then CcState.rd else .rp)) t else t

theorem partGone_cut (s : State) (n : Nat) : Cut s (partGone s n) :=
  .ite ((pdGone_cut ..).trans (mapFlex_cut ..)) (pdGone_cut ..)

/-- The state of HIBERNATE entry in which everything but AON loses its power. -/
def unpowered (s : State) : State :=
  let s := (List.range 4).foldl partGone (upstreamOff (quiesce s))
  { s with
    ports := s.ports.map (fun p => { p with powered := false, attached := false })
    flex := s.flex.map (fun f => { f with disch := false, dischSets := 0 })
    zon := { s.zon with gpioOut := List.replicate 8 none }
    rails := { s.rails with pfail := false } }

/-- HIBERNATE itself: the crystal and the memories off, and the AON domain alone powered. -/
def hibernated (s : State) : State :=
  syncOff { s with
    clk := { s.clk with xtalOn := false }
    mem := { s.mem with bankOn := 0, stash := [], stashErr := [] }
    pwr := { s.pwr with
      state := .hibernate, left := .hibernate, entry := .none, entryCmd := longOf 8 s, domains := 1, vcore := 550
      waking := false, faultWake := false } }

theorem enterHibernate_eq (s : State) : enterHibernate s = hibernated (stopClocks (unpowered s)) := rfl

theorem hibernated_facts (s : State) : (hibernated s).aon = s.aon ∧ (hibernated s).mem = { s.mem with bankOn := 0, stash := [], stashErr := [] } ∧
    (hibernated s).clk = { s.clk with xtalOn := false } ∧ (hibernated s).pwr.state = .hibernate ∧ (hibernated s).pwr.domains = 1 ∧
    (hibernated s).ports = s.ports := ⟨rfl, rfl, rfl, rfl, rfl, rfl⟩

theorem unpowered_facts (s : State) : (unpowered s).mem = s.mem ∧ (unpowered s).clk = s.clk ∧ (unpowered s).win.posted = s.win.posted ∧
    (unpowered s).aon.rtcSec = s.aon.rtcSec ∧ (unpowered s).aon.wakeEn = s.aon.wakeEn ∧
    ∀ p ∈ (unpowered s).ports, p.powered = false ∧ p.attached = false := by
  obtain ⟨⟨-, -, oclk, -, omem, -⟩, -, ⟨ortc, owake⟩, owin, -⟩ := upstreamOff_off (quiesce s)
  obtain ⟨⟨-, -, fclk, fwin, -, fmem, -⟩, ⟨frtc, fwake⟩, -⟩ := Cut.foldl partGone_cut (List.range 4) (upstreamOff (quiesce s))
  have hq : (quiesce s).clk = s.clk ∧ (quiesce s).mem = s.mem ∧ (quiesce s).aon = s.aon ∧ (quiesce s).win = s.win := by simp
  obtain ⟨qclk, qmem, qaon, qwin⟩ := hq
  rw [qclk] at oclk
  rw [qmem] at omem
  rw [qaon] at ortc owake
  rw [qwin] at owin
  refine ⟨fmem.trans omem, fclk.trans oclk, ?_, frtc.trans ortc, fwake.trans owake, fun p hp => ?_⟩
  · exact (congrArg Window.posted fwin).trans (by rw [owin])
  · obtain ⟨x, -, rfl⟩ := List.mem_map.mp hp
    exact ⟨rfl, rfl⟩

theorem enterHibernate_facts (s : State) :
    let t := enterHibernate s
    (s.win.posted = [] → t.aon.rtcSec = s.aon.rtcSec ∧ t.aon.wakeEn = s.aon.wakeEn) ∧ t.mem.flash = s.mem.flash ∧
    t.clk.tick = s.clk.tick ∧ t.pwr.state = .hibernate ∧ t.pwr.domains = 1 ∧ t.mem.stash = [] ∧ t.mem.bankOn = 0 ∧
    t.clk.xtalOn = false ∧ ∀ p ∈ t.ports, p.powered = false ∧ p.attached = false := by
  obtain ⟨umem, uclk, uposted, urtc, uwake, uports⟩ := unpowered_facts s
  obtain ⟨kmem, kports, ktick, kaon⟩ := stopClocks_facts (unpowered s)
  obtain ⟨haon, hmem, hclk, hstate, hdom, hports⟩ := hibernated_facts (stopClocks (unpowered s))
  intro t
  rw [show t = _ from enterHibernate_eq s, haon, hmem, hclk, hports, kports]
  refine ⟨fun hp => ?_, ?_, ?_, hstate, hdom, rfl, rfl, rfl, uports⟩
  · rw [kaon (uposted.trans hp)]
    exact ⟨urtc, uwake⟩
  · rw [kmem, umem]
  · exact ktick.trans (congrArg Clock.tick uclk)

/-! ## The commands -/

section Power

variable {s u : State} {c : Command} {code : Nat} {v : Command → Bool} {n : Command → State → Bool}

/-- Of the power group a taken command changes the armed re-entry alone. -/
theorem pwr_of_Taken (h : Taken code v n s c u) : u.pwr = { s.pwr with reenter := u.pwr.reenter } := by
  obtain ⟨inU, inS, served, re, x, y, rfl⟩ := Taken_consumes h
  rfl

theorem exec_pwrStatus (h : Taken 0o1001 anyVariant noAuth s c u) : exec .pwrStatus s = .next (replied c (powerWords s) u) := by
  rw [← Taken_same h powerWords fun _ _ _ _ _ _ => rfl]
  exact immediate_taken _ _ h rfl

theorem exec_pwrSetRetain (h : Taken 0o1003 anyVariant noAuth s c u) (hmask : c.p 1 ≤ 255) (hentering : entering s = false) :
    exec .pwrSetRetain s = .next (replied c [w18 (c.p 1 / 2 * 2 + 1)]
      { u with pwr := { u.pwr with retain := BitVec.ofNat 8 (c.p 1 / 2 * 2) } }) := by
  have henter : entering u = false := (Taken_same h entering fun _ _ _ _ _ _ => rfl).trans hentering
  have hword : (BitVec.ofNat 8 (c.p 1 / 2 * 2)).toNat = c.p 1 / 2 * 2 := by
    rw [BitVec.toNat_ofNat, Nat.mod_eq_of_lt (by omega)]
  have hexec : exec .pwrSetRetain s = .next (replied c [w18 ((BitVec.ofNat 8 (c.p 1 / 2 * 2)).toNat + 1)]
      { u with pwr := { u.pwr with retain := BitVec.ofNat 8 (c.p 1 / 2 * 2) } }) := by
    refine immediate_taken _ _ h ?_
    rw [firstStatus_pass (decide_eq_false (Nat.not_lt.mpr hmask)), henter]
    rfl
  rwa [hword] at hexec

/-- A PWR.ENTER of RUN or DOZE with no other parameters needs no look at the state. -/
theorem checkEnter_up (hp : c.p 1 ≤ 1) (htime : c.p 2 = 0) (hre : c.p 3 = 0) (t : State) : checkEnter c t = stOk := by
  have hlow : (c.p 1 == 2 || c.p 1 == 3) = false := by
    simp only [Bool.or_eq_false_iff, beq_eq_false_iff_ne]
    omega
  have hne : c.p 1 ≠ 2 := by omega
  have hhigh : decide (3 < c.p 1) = false := decide_eq_false (by omega)
  simp only [checkEnter, hlow, if_neg hne, htime, hre, hhigh]
  rfl

theorem checkEnter_low (h : Taken code v n s c u) (hp : c.p 1 = 2 ∧ c.p 2 ≤ 60000 ∨ c.p 1 = 3 ∧ c.p 2 = 0) (hre : c.p 3 ≤ 1)
    (hblocked : lowPowerBlocked s = false) : checkEnter c u = stOk := by
  have hblock : lowPowerBlocked u = false := (Taken_same h lowPowerBlocked fun _ _ _ _ _ _ => rfl).trans hblocked
  have hre' : decide (1 < c.p 3) = false := decide_eq_false (Nat.not_lt.mpr hre)
  rcases hp with ⟨hp, htime⟩ | ⟨hp, htime⟩
  · simp [checkEnter, hp, hblock, hre', decide_eq_false (Nat.not_lt.mpr htime), firstStatus]
  · simp [checkEnter, hp, hblock, hre', htime, firstStatus]

theorem exec_pwrEnterRun (h : Taken 0o1002 (fun c => c.p 1 == 0 || decide (3 < c.p 1)) enterNeedsAuth s c u)
    (hfree : longOf 8 s = none) (hp : c.p 1 = 0) (htime : c.p 2 = 0) (hre : c.p 3 = 0) :
    exec .pwrEnterRun s = .next { accepted c u with pwr := { u.pwr with request := some .run } } := by
  have hexec : exec .pwrEnterRun s = .next { accepted c u with pwr := { (accepted c u).pwr with request := some .run } } :=
    long_accepted h hfree (checkEnter_up (by omega) htime hre u)
  rw [hexec]
  simp

theorem exec_pwrEnterDoze (h : Taken 0o1002 (opIs 1) enterNeedsAuth s c u) (hfree : longOf 8 s = none) (htime : c.p 2 = 0)
    (hre : c.p 3 = 0) : exec .pwrEnterDoze s = .next { accepted c u with pwr := { u.pwr with request := some .doze } } := by
  have hp : c.p 1 = 1 := beq_iff_eq.mp (Taken_variant h)
  have hexec : exec .pwrEnterDoze s = .next { accepted c u with pwr := { (accepted c u).pwr with request := some .doze } } :=
    long_accepted h hfree (checkEnter_up (by omega) htime hre u)
  rw [hexec]
  simp

theorem settleRequest_state {st : PowerState} (hreq : s.pwr.request = some st) (hrun : s.pav.run = none) :
    settleRequest s = groupDone 8 0 { s with pwr := { s.pwr with state := st, request := none } } := by
  simp only [settleRequest, hreq, hrun]
  rfl

theorem exec_pwrEnterSleep (h : Taken 0o1002 (opIs 2) enterNeedsAuth s c u) (hfree : longOf 8 s = none) (htime : c.p 2 ≤ 60000)
    (hre : c.p 3 ≤ 1) (hblocked : lowPowerBlocked s = false) :
    exec .pwrEnterSleep s = .next { accepted c u with pwr := { u.pwr with
      entry := .waitSleep (s.clk.tick + BitVec.ofNat 54 (c.p 2 * 48)), reenter := (if c.p 3 = 1 then some .sleep else none), wokeBy := 0 } } := by
  have hp : c.p 1 = 2 := beq_iff_eq.mp (Taken_variant h)
  have hexec : exec .pwrEnterSleep s = .next { accepted c u with pwr := { (accepted c u).pwr with
      entry := .waitSleep ((accepted c u).clk.tick + BitVec.ofNat 54 (c.p 2 * Config.tkPerMs))
      reenter := (if c.p 3 = 1 then some .sleep else none), wokeBy := 0 } } :=
    long_accepted h hfree (checkEnter_low h (.inl ⟨hp, htime⟩) hre hblocked)
  rw [hexec]
  simp [clk_of_Taken h]
  rfl

theorem exec_sleepWaitTimeout {till : Tick} (hentry : s.pwr.entry = .waitSleep till) (hdue : till.toNat ≤ s.clk.tick.toNat)
    (hsusp : s.hub.suspended = false) (hconn : s.hub.connected = true) :
    exec .sleepWaitTimeout s = .next (groupDone 8 9 { fresh s with pwr := { s.pwr with entry := .none, reenter := none } }) := by
  have hquiet : faceQuiet (fresh s) = false := by
    show (s.hub.suspended || !s.hub.connected) = false
    rw [hsusp, hconn]
    rfl
  show Host.Outcome.next (match s.pwr.entry with | .waitSleep till => if _ then _ else _ | _ => _) = _
  simp only [hentry]
  exact congrArg Host.Outcome.next (if_pos ⟨hdue, hquiet⟩)

theorem exec_pwrEnterHibernate (h : Taken 0o1002 (opIs 3) enterNeedsAuth s c u) (hfree : longOf 8 s = none) (htime : c.p 2 = 0)
    (hre : c.p 3 ≤ 1) (hblocked : lowPowerBlocked s = false) :
    exec .pwrEnterHibernate s = .next
      (let w := { accepted c u with pwr := { u.pwr with reenter := if c.p 3 = 1 then some .hibernate else none, wokeBy := 0 } }
       if s.pwr.moving then { w with pwr := { w.pwr with entry := .toHibernate } } else enterHibernate w) := by
  have hp : c.p 1 = 3 := beq_iff_eq.mp (Taken_variant h)
  have hmoving : u.pwr.moving = s.pwr.moving := by rw [pwr_of_Taken h]
  have hpwr : (accepted c u).pwr = u.pwr := by simp
  rw [← hmoving, ← hpwr]
  exact long_accepted h hfree (checkEnter_low h (.inr ⟨hp, htime⟩) hre hblocked)

end Power

/-- Settles O50: the requests wait for a boundary or the suspend, HIBERNATE is entered in its steps. -/
theorem powerCommands : Obligations.PowerCommands := by
  intro s u c
  refine ⟨exec_pwrStatus, exec_pwrSetRetain, exec_pwrEnterRun, exec_pwrEnterDoze, fun st => settleRequest_state, exec_pwrEnterSleep,
    fun till => exec_sleepWaitTimeout, fun h hfree htime hre hblocked => ?_⟩
  refine ⟨_, exec_pwrEnterHibernate h hfree htime hre hblocked, ?_⟩
  have hu : u.aon = s.aon ∧ u.mem = s.mem ∧ u.clk = s.clk ∧ u.win = s.win :=
    ⟨aon_of_Taken h, Taken_same h State.mem fun _ _ _ _ _ _ => rfl, clk_of_Taken h, Taken_same h State.win fun _ _ _ _ _ _ => rfl⟩
  obtain ⟨haon, hmem, hclk, hwin⟩ := hu
  let w : State := { accepted c u with pwr := { u.pwr with reenter := if c.p 3 = 1 then some .hibernate else none, wokeBy := 0 } }
  have hw : w.aon = s.aon ∧ w.mem = s.mem ∧ w.clk = s.clk ∧ w.win = s.win := by simp [w, haon, hmem, hclk, hwin]
  obtain ⟨waon, wmem, wclk, wwin⟩ := hw
  cases hm : s.pwr.moving with
  | true =>
    refine ⟨fun _ => ?_, ?_, ?_, fun _ => ⟨rfl, ?_⟩, fun hf => (nomatch hf)⟩
    · exact ⟨congrArg Aon.rtcSec waon, congrArg Aon.wakeEn waon⟩
    · exact congrArg Mem.flash wmem
    · exact congrArg Clock.tick wclk
    · show u.pwr.state = s.pwr.state
      rw [pwr_of_Taken h]
  | false =>
    obtain ⟨hcal, hflash, htick, hstate, hdom, hstash, hbank, hxtal, hports⟩ := enterHibernate_facts w
    rw [waon, wwin] at hcal
    exact ⟨hcal, hflash.trans (congrArg Mem.flash wmem), htick.trans (congrArg Clock.tick wclk), fun hf => (nomatch hf),
      fun _ => ⟨hstate, hdom, hstash, hbank, hxtal, hports⟩⟩

end Sys2Proof.Proofs
end

section
/-!
The output balls over HIBERNATE (R38): a posted write whose voted copies disagree raises a fault that enters safe state, which drives
the GPIO outputs from their table; where that table is short, the level list is short after it.
-/

namespace Sys2Proof.Proofs

open Sys2Proof
open Sys2Proof.Machine
open Sys2Proof.Safety
open Sys2Proof.Laws
open Sys2Proof.Tests

/-- A device without a GPIO table whose posted write to WAKE_POL meets disagreeing copies, a defect of severity 5. -/
def trippedDevice : State := { running with
  aon := { running.aon with wakePol := ⟨1, 0, 0⟩ }
  win := { running.win with posted := [⟨0o1001, 0, 0, 1⟩] }
  flt := { running.flt with sev := [(0o0220, Trip.of 5)] }
  zon := { running.zon with gpioCfg := [] } }

/-- PWR.ENTER of HIBERNATE, authenticated, on that device. -/
def hibernateRequest : State := authed false [0o100240, 1, 3, 0, 0] trippedDevice

/-- The entry drains the posted write after the outputs were released, and safe state leaves no level of them. -/
theorem tripped_gpio : ∃ c u, Taken 0o1002 (opIs 3) enterNeedsAuth hibernateRequest c u ∧ c.p 2 = 0 ∧ c.p 3 = 0 ∧
    (balls (enterHibernate { accepted c u with pwr := { u.pwr with reenter := none, wokeBy := 0 } })).gpio = [] :=
  taken_of_authed

/-- Refutes O60: the GPIO balls of `hibernateRequest` are not eight after HIBERNATE entry. -/
theorem not_outputBallsFollowPowerAndReset : ¬ Obligations.OutputBallsFollowPowerAndReset := by
  intro h
  obtain ⟨-, hibernates, -⟩ := h
  obtain ⟨c, u, htaken, htime, hre, hgpio⟩ := tripped_gpio
  have hfree : longOf 8 hibernateRequest = none := by decide
  have hblocked : lowPowerBlocked hibernateRequest = false := by decide +kernel
  obtain ⟨t, hexec, -, -, -, hlevels, -⟩ :=
    hibernates hibernateRequest u c htaken hfree htime (by omega) hblocked rfl
  rw [exec_pwrEnterHibernate htaken hfree htime (by omega) hblocked, hre] at hexec
  have ht : t = enterHibernate { accepted c u with pwr := { u.pwr with reenter := none, wokeBy := 0 } } := by
    injection hexec with he
    exact he.symm
  rw [ht, hgpio] at hlevels
  exact absurd hlevels (by decide)

end Sys2Proof.Proofs
end

section
/-!
The PD commands of a fitted port (R342).
-/

namespace Sys2Proof.Proofs

open Sys2Proof
open Sys2Proof.Machine
open Sys2Proof.Safety
open Sys2Proof.Laws

/-! ## A flex port's record -/

theorem listModify_twice {α : Type} (f g : α → α) : ∀ (l : List α) (n : Nat),
    listModify (listModify l n f) n g = listModify l n (fun x => g (f x))
  | [], _ => rfl
  | _ :: _, 0 => rfl
  | x :: l, n + 1 => congrArg (x :: ·) (listModify_twice f g l n)

theorem mapFlex_twice (n : Nat) (f g : Flex → Flex) (s : State) : mapFlex n g (mapFlex n f s) = mapFlex n (fun x => g (f x)) s :=
  congrArg (fun l => { s with flex := l }) (listModify_twice f g s.flex n)

theorem flexAt_mapFlex {n : Nat} {s : State} (h : n < s.flex.length) (f : Flex → Flex) : flexAt n (mapFlex n f s) = f (flexAt n s) :=
  listModify_getD_same h f {}

theorem mapFlex_length (n : Nat) (f : Flex → Flex) (s : State) : (mapFlex n f s).flex.length = s.flex.length :=
  listModify_length ..

theorem flexAt_congr {s t : State} (h : t.flex = s.flex) (n : Nat) : flexAt n t = flexAt n s := by rw [flexAt, h, flexAt]

/-! ## Outputs stay -/

/-- What was output before an event is output after it. -/
theorem post_out (w0 : Word) (ps : List Word) (s : State) {o : Out} (h : o ∈ s.out) : o ∈ (post w0 ps s).out := by
  have emitted {t : State} (x : Out) (ht : o ∈ t.out) : o ∈ (emit x t).out := List.mem_append_left _ ht
  have woken {t : State} (ht : o ∈ t.out) : o ∈ (requestWake t).out := by
    simp only [requestWake, signalWake]
    split
    · split
      · exact emitted _ (emitted _ ht)
      · exact emitted _ ht
    · exact ht
  have resumed {t : State} (ht : o ∈ t.out) : o ∈ (resumeFunction t).out := by
    have hsame : (resumeFunction t).out = t.out := by simp
    rwa [hsame]
  have queued (w0 : Word) (ps : List Word) (k : Tick) {t : State} (ht : o ∈ t.out) : o ∈ (enqueueEvent w0 ps k t).out := by
    have hq : o ∈ (queueEvent w0 ps k t).out := ht
    simp only [enqueueEvent]
    split
    · exact hq
    · split
      · exact woken hq
      · split
        · exact resumed hq
        · exact hq
  simp only [post, postAt]
  split
  · split
    · split
      · exact queued _ _ _ h
      · exact queued _ _ _ (queued _ _ _ h)
    · exact h
  · exact h

theorem groupDone_out (group status : Nat) (s : State) {o : Out} (h : o ∈ s.out) : o ∈ (groupDone group status s).out := by
  unfold groupDone
  split
  · rename_i l _
    refine post_out _ _ _ ?_
    cases l.box <;> exact h
  · exact h

/-! ## Ended commands of a group -/

theorem post_long (w0 : Word) (ps : List Word) (s : State) : (post w0 ps s).mbx.long = s.mbx.long := by
  have hboxes := post_boxes w0 ps s
  unfold SameBoxes at hboxes
  rw [hboxes]

theorem cmdDone_long (l : LongCmd) (status : Nat) (s : State) :
    (cmdDone l status s).mbx.long = s.mbx.long.filter (fun x => x.group != l.group) := by
  refine (post_long ..).trans ?_
  cases l.box <;> rfl

/-- An ended command's group is free. -/
theorem longOf_groupDone (group status : Nat) (s : State) : longOf group (groupDone group status s) = none := by
  cases hl : longOf group s with
  | none =>
    have hd : groupDone group status s = s := by simp only [groupDone, hl]
    rw [hd, hl]
  | some l =>
    have hg : l.group = group := by simpa using List.find?_some hl
    have hd : groupDone group status s = cmdDone l status s := by simp only [groupDone, hl]
    rw [hd, longOf, cmdDone_long, hg, List.find?_eq_none]
    intro x hx
    have hne := (List.mem_filter.mp hx).2
    simp_all

theorem pdDoneIf_other {n code status : Nat} {s : State} (h : (flexAt n s).cmd ≠ some code) : pdDoneIf n code status s = s := if_neg h

/-! ## The commands -/

/-- The end of a PD command of a port leaves its record but for the command. -/
theorem flexAt_pdDone {n : Nat} (status : Nat) {s : State} (h : n < s.flex.length) :
    flexAt n (pdDone n status s) = { flexAt n s with cmd := none } := by
  unfold pdDone
  split
  · have hflex : (groupDone 0o15 status (mapFlex n (fun f => { f with cmd := none }) s)).flex =
        (mapFlex n (fun f => { f with cmd := none }) s).flex := by simp
    rw [flexAt_congr hflex, flexAt_mapFlex h]
  · rename_i hnone
    have hcmd : (flexAt n s).cmd = none := by simpa using hnone
    rw [← hcmd]

theorem longOf_pdDone {n : Nat} (status : Nat) {s : State} (h : (flexAt n s).cmd.isSome = true) :
    longOf 13 (pdDone n status s) = none := by
  rw [pdDone, if_pos h]
  exact longOf_groupDone ..

/-- A Hard_Reset sent by a port without VCONN swap or mode in progress. -/
theorem hardReset_facts {n : Nat} {s : State} (hn : n < s.flex.length) (h3 : (flexAt n s).cmd ≠ some 3) (h4 : (flexAt n s).cmd ≠ some 4) :
    .pd n .hardReset ∈ (hardReset n true s).out ∧ flexAt n (hardReset n true s) =
      let f := flexAt n s
      let g := { f with contract := none, trans := none, awaiting := false, offered := [], capsCount := 0, swap := none, swapWaits := 0,
                        alertDue := false, reason := 4, hardResets := f.hardResets + 1 }
      if f.role = .source then { g with hardFrom := some (hardReset n true s).clk.tick, hardOff := false, hardVconn := f.vconn } else g.endMode := by
  obtain ⟨x, hx⟩ : ∃ x, x = post 0o150602 [w18 (n + 1), w18 1] (emit (.pd n .hardReset) s) := ⟨_, rfl⟩
  have hflex : x.flex = s.flex := by simp [hx]
  have hat : flexAt n x = flexAt n s := flexAt_congr hflex n
  have hskip : pdDoneIf n 3 stState (pdDoneIf n 4 stState x) = x := by
    rw [pdDoneIf_other (s := x) (by rwa [hat]), pdDoneIf_other (by rwa [hat])]
  have hout : .pd n .hardReset ∈ x.out := hx ▸ post_out _ _ _ (List.mem_append_right _ (List.mem_singleton.mpr rfl))
  have hreset : hardReset n true s = mapFlex n (fun f =>
      let g := { f with contract := none, trans := none, awaiting := false, offered := [], capsCount := 0, swap := none, swapWaits := 0,
                        alertDue := false, reason := 4, hardResets := f.hardResets + 1 }
      if f.role = .source then { g with hardFrom := some x.clk.tick, hardOff := false, hardVconn := f.vconn } else g.endMode) x := by
    simp only [hardReset, bit, if_true, ← hx, hskip]
  have hclk : (hardReset n true s).clk = x.clk := by rw [hreset]; rfl
  refine ⟨by rw [hreset]; exact hout, ?_⟩
  rw [hclk, hreset, flexAt_mapFlex (by rwa [hflex]), hat]

theorem mapFlex_frame (n : Nat) (f : Flex → Flex) (s : State) : Frame [.flex] s (mapFlex n f s) := by
  intro g hg
  cases g <;> simp_all [same]

theorem startPd_frame (n code : Nat) (c : Command) (u : State) : Frame [.mbx, .flex] u (startPd n code (accepted c u)) := by
  intro g hg
  cases g <;> simp_all [same]

theorem endMode_frame (n : Nat) (o : Out) (s : State) :
    Frame [.out, .boot, .mbx, .hub, .flex] s (postAlt n 0 (mapFlex n Flex.endMode (emit o s))) := by
  intro g hg
  cases g <;> simp_all [same]

theorem pdDone_frame (n status : Nat) (s : State) : Frame [.out, .boot, .mbx, .hub, .flex] s (pdDone n status s) := by
  intro g hg
  cases g <;> simp_all [same]

section Pd

variable {s u : State} {c : Command} {code : Nat} {v : Command → Bool} {n : Command → State → Bool}

theorem flex_of_Taken (h : Taken code v n s c u) : u.flex = s.flex := Taken_same h State.flex fun _ _ _ _ _ _ => rfl

theorem out_of_Taken (h : Taken code v n s c u) : u.out = [] := by
  obtain ⟨inU, inS, served, re, x, y, rfl⟩ := Taken_consumes h
  rfl

theorem pdPort_sound (h : Taken code v n s c u) (hlow : 1 ≤ c.p 1) (hhigh : c.p 1 ≤ 4) (hfit : fitted (c.p 1 - 1) s = true) :
    pdBadPort c u = false := by
  have hfit' : fitted (pdPort c) u = true := (Taken_same h (fitted (pdPort c)) fun _ _ _ _ _ _ => rfl).trans hfit
  simp only [pdBadPort, hfit', Bool.or_eq_false_iff, decide_eq_false_iff_not]
  exact ⟨⟨by omega, by omega⟩, rfl⟩

theorem flexAt_of_Taken (h : Taken code v n s c u) (k : Nat) : flexAt k u = flexAt k s := flexAt_congr (flex_of_Taken h) k

variable (hlen : s.flex.length = 4) (hlow : 1 ≤ c.p 1) (hhigh : c.p 1 ≤ 4) (hfit : fitted (c.p 1 - 1) s = true)
include hlow hhigh hfit

theorem exec_pdStatus (h : Taken 0o1501 anyVariant noAuth s c u) :
    exec .pdStatus s = .next (replied c (pdStatusWords (flexAt (c.p 1 - 1) s)) u) := by
  rw [← flexAt_of_Taken h]
  exact immediate_taken _ _ h (by simp [pdPort_sound h hlow hhigh hfit])

include hlen in
theorem exec_pdSetLimit (h : Taken 0o1502 anyVariant noAuth s c u) (hmin : 25 ≤ c.p 2) (hmax : c.p 2 ≤ 450)
    (hrecord : bitOf (c.p 3) 0 = false) : exec .pdSetLimit s = .next (replied c [w18 (c.p 2)]
      { u with flex := listModify u.flex (c.p 1 - 1) (fun f => { f with pmax := some (c.p 2) }) }) := by
  have hpmax (f : Flex) : { f with pmax := if c.p 2 = 0 then none else some (c.p 2) } = { f with pmax := some (c.p 2) } := by
    rw [if_neg (by omega)]
  let t := mapFlex (pdPort c) (fun f => { f with pmax := some (c.p 2) }) u
  have hlimit : pmaxOf (pdPort c) t = c.p 2 := by
    have hport : pdPort c < u.flex.length := by rw [flex_of_Taken h, hlen, pdPort]; omega
    simp only [pmaxOf, t, flexAt_mapFlex hport]
  have hexec : exec .pdSetLimit s = .next (replied c [w18 (pmaxOf (pdPort c) t)] t) := by
    have hrun := immediate_taken checkLimit (fun c s =>
      let s := persist (bitOf (c.p 3) 0) (some (limitCoding c)) s
      let s := mapFlex (pdPort c) (fun f => { f with pmax := if c.p 2 = 0 then none else some (c.p 2) }) s
      ([w18 (pmaxOf (pdPort c) s)], s)) h (by
        have hrange : (c.p 2 != 0 && (decide (c.p 2 < 25) || decide (450 < c.p 2))) = false := by
          rw [decide_eq_false (by omega : ¬ c.p 2 < 25), decide_eq_false (by omega : ¬ 450 < c.p 2)]
          simp
        simp only [checkLimit, pdPort_sound h hlow hhigh hfit, hrange, hrecord]
        rfl)
    simp only [hpmax, hrecord] at hrun
    exact hrun
  rw [hexec, hlimit]
  rfl

theorem exec_pdVconnSwap {k : Contract} (hfree : longOf 13 s = none) (h : Taken 0o1503 anyVariant noAuth s c u)
    (hcontract : (flexAt (c.p 1 - 1) s).contract = some k) (htrans : (flexAt (c.p 1 - 1) s).trans = none) (hon : c.p 2 ≤ 1)
    (hother : (flexAt (c.p 1 - 1) s).vconn ≠ (c.p 2 == 1))
    (hable : c.p 2 = 0 ∨ (vconnPort (c.p 1 - 1) s = true ∧ (flexAt (c.p 1 - 1) s).vconnTrip = false)) :
    exec .pdVconnSwap s = .next { accepted c u with
      out := [.pd (c.p 1 - 1) .vconnSwap]
      flex := listModify u.flex (c.p 1 - 1) (fun f => { f with cmd := some 3, swap := some (c.p 2 == 1), swapWaits := 0 }) } := by
  have hat : flexAt (pdPort c) u = flexAt (c.p 1 - 1) s := flexAt_of_Taken h _
  have hcheck : firstStatus [(pdBadPort c u || decide (1 < c.p 2), stBadParam),
      ((flexAt (pdPort c) u).contract.isNone || (c.p 2 == 1 && !(flexAt (pdPort c) u).vconn
        && (!vconnPort (pdPort c) u || (flexAt (pdPort c) u).vconnTrip)), stState)] = stOk := by
    have hvconn : vconnPort (pdPort c) u = vconnPort (c.p 1 - 1) s := Taken_same h (vconnPort (pdPort c)) fun _ _ _ _ _ _ => rfl
    rw [hat, hvconn, pdPort_sound h hlow hhigh hfit, hcontract, decide_eq_false (Nat.not_lt.mpr hon)]
    rcases hable with hoff | ⟨hcan, htrip⟩
    · rw [hoff]
      rfl
    · rw [hcan, htrip]
      simp [firstStatus]
  have hacc : flexAt (pdPort c) (accepted c u) = flexAt (c.p 1 - 1) s := by
    rw [← hat]
    exact flexAt_congr (by simp) _
  have hexec : exec .pdVconnSwap s = .next
      (let f := flexAt (pdPort c) (accepted c u)
       let t := startPd (pdPort c) 3 (accepted c u)
       if f.vconn = (c.p 2 == 1) then pdDone (pdPort c) stOk t
       else
         let t := mapFlex (pdPort c) (fun f => { f with swap := some (c.p 2 == 1), swapWaits := 0 }) t
         if f.trans.isSome then t else emit (.pd (pdPort c) .vconnSwap) t) := long_accepted h hfree hcheck
  rw [hexec]
  simp only [hacc, if_neg hother, htrans, startPd, mapFlex_twice]
  simp [emit, mapFlex, out_of_Taken h, pdPort]

/-- Both forms of PD.ALT_MODE need a Source with a contract. -/
theorem checkAlt_source {k : Contract} (h : Taken code v n s c u) (hon : c.p 2 ≤ 1) (hrole : (flexAt (c.p 1 - 1) s).role = .source)
    (hcontract : (flexAt (c.p 1 - 1) s).contract = some k) : checkAlt c u = stOk := by
  have hat : flexAt (pdPort c) u = flexAt (c.p 1 - 1) s := flexAt_of_Taken h _
  simp only [checkAlt, hat, pdPort_sound h hlow hhigh hfit, hrole, hcontract, decide_eq_false (Nat.not_lt.mpr hon)]
  rfl

include hlen in
theorem exec_pdAltModeEnter {k : Contract} (hfree : longOf 13 s = none) (h : Taken 0o1504 (fun c => c.p 2 != 0) noAuth s c u)
    (hon : c.p 2 = 1) (hrole : (flexAt (c.p 1 - 1) s).role = .source) (hcontract : (flexAt (c.p 1 - 1) s).contract = some k)
    (halt : (flexAt (c.p 1 - 1) s).altMode = false) : exec .pdAltModeEnter s = .next { accepted c u with
      flex := listModify u.flex (c.p 1 - 1) (fun f => { f with cmd := some 4, discover := true }) } := by
  have hflex : (accepted c u).flex = u.flex := by simp
  have hport : pdPort c < (accepted c u).flex.length := by rw [hflex, flex_of_Taken h, hlen, pdPort]; omega
  have hstarted : (flexAt (pdPort c) (startPd (pdPort c) 4 (accepted c u))).altMode = false := by
    rw [startPd, flexAt_mapFlex hport, flexAt_congr hflex, flexAt_of_Taken h]
    exact halt
  have hexec : exec .pdAltModeEnter s = .next
      (let t := startPd (pdPort c) 4 (accepted c u)
       if (flexAt (pdPort c) t).altMode then pdDone (pdPort c) stOk t else mapFlex (pdPort c) (fun f => { f with discover := true }) t) :=
    long_accepted h hfree (checkAlt_source hlow hhigh hfit h (by omega) hrole hcontract)
  rw [hexec]
  simp only [hstarted]
  simp only [startPd, mapFlex_twice]
  simp [mapFlex, pdPort]

include hlen in
theorem exec_pdAltModeExit {k : Contract} (hfree : longOf 13 s = none) (h : Taken 0o1504 (fun c => c.p 2 == 0) noAuth s c u)
    (hrole : (flexAt (c.p 1 - 1) s).role = .source) (hcontract : (flexAt (c.p 1 - 1) s).contract = some k) :
    ∃ t, exec .pdAltModeExit s = .next t ∧ (flexAt (c.p 1 - 1) t).altMode = false ∧ (flexAt (c.p 1 - 1) t).loop = false ∧
      (flexAt (c.p 1 - 1) t).faultRet = false ∧ (flexAt (c.p 1 - 1) t).cmd = none ∧ longOf 13 t = none ∧
      Frame [.out, .boot, .mbx, .hub, .flex, .pwr, .sec] (fresh s) t := by
  have hoff : c.p 2 = 0 := beq_iff_eq.mp (Taken_variant h)
  have hexec : exec .pdAltModeExit s = .next
      (let t := startPd (pdPort c) 4 (accepted c u)
       if (flexAt (pdPort c) t).altMode then
         pdDone (pdPort c) stOk (postAlt (pdPort c) 0 (mapFlex (pdPort c) Flex.endMode
           (emit (.pd (pdPort c) (.vdm (BitVec.ofNat 32 (altSvid t * 65536 + 0xA105)) [])) t)))
       else pdDone (pdPort c) stOk (mapFlex (pdPort c) Flex.endMode t)) :=
    long_accepted h hfree (checkAlt_source hlow hhigh hfit h (by omega) hrole hcontract)
  have hflex : (accepted c u).flex = u.flex := by simp
  have hport : pdPort c < (accepted c u).flex.length := by rw [hflex, flex_of_Taken h, hlen, pdPort]; omega
  obtain ⟨t₀, ht₀⟩ : ∃ t₀, t₀ = startPd (pdPort c) 4 (accepted c u) := ⟨_, rfl⟩
  have hstart : t₀.flex = (mapFlex (pdPort c) (fun f => { f with cmd := some 4 }) (accepted c u)).flex := by rw [ht₀]; rfl
  have hport' : pdPort c < t₀.flex.length := by rwa [hstart, mapFlex_length]
  have hcmd : (flexAt (pdPort c) t₀).cmd = some 4 := by rw [flexAt_congr hstart, flexAt_mapFlex hport]
  have hframe : Frame [.mbx, .flex, .pwr, .sec] (fresh s) t₀ := by
    have hbegin : Frame [.mbx, .flex] u t₀ := ht₀ ▸ startPd_frame (pdPort c) 4 c u
    exact Frame_mono (Frame_trans (Frame_of_Taken h) hbegin) (by decide)
  have hended (x : State) (hx : x.flex = (mapFlex (pdPort c) Flex.endMode t₀).flex) (hsame : Frame [.out, .boot, .mbx, .hub, .flex] t₀ x) :
      let t := pdDone (pdPort c) stOk x
      (flexAt (c.p 1 - 1) t).altMode = false ∧ (flexAt (c.p 1 - 1) t).loop = false ∧
      (flexAt (c.p 1 - 1) t).faultRet = false ∧ (flexAt (c.p 1 - 1) t).cmd = none ∧ longOf 13 t = none ∧
      Frame [.out, .boot, .mbx, .hub, .flex, .pwr, .sec] (fresh s) t := by
    have hmode : flexAt (pdPort c) x = (flexAt (pdPort c) t₀).endMode := by rw [flexAt_congr hx, flexAt_mapFlex hport']
    have hdone := flexAt_pdDone (n := pdPort c) stOk (s := x) (by rwa [hx, mapFlex_length])
    have hfreed : longOf 13 (pdDone (pdPort c) stOk x) = none := longOf_pdDone stOk (by rw [hmode]; exact congrArg Option.isSome hcmd)
    have hkept := pdDone_frame (pdPort c) stOk x
    intro t
    rw [show flexAt (c.p 1 - 1) t = _ from hdone, hmode]
    exact ⟨rfl, rfl, rfl, rfl, hfreed, Frame_mono (Frame_trans (Frame_trans hframe hsame) hkept) (by decide)⟩
  rw [← ht₀] at hexec
  cases halt : (flexAt (pdPort c) t₀).altMode with
  | true =>
    simp only [halt, if_true] at hexec
    refine ⟨_, hexec, hended _ (by simp [mapFlex]) (endMode_frame _ _ t₀)⟩
  | false =>
    simp only [halt, Bool.false_eq_true, if_false] at hexec
    refine ⟨_, hexec, hended _ rfl (Frame_mono (mapFlex_frame _ _ t₀) (by decide))⟩

include hlen in
theorem exec_pdHardReset (h : Taken 0o1505 anyVariant noAuth s c u) (hfree : longOf 13 s = none)
    (hface : carriesFace (c.p 1 - 1) s = false)
    (hrole : (flexAt (c.p 1 - 1) s).role = .source ∨ (flexAt (c.p 1 - 1) s).role = .sinkB ∨ (flexAt (c.p 1 - 1) s).role = .sinkRefused) :
    ∃ t, exec .pdHardReset s = .next t ∧ .pd (c.p 1 - 1) .hardReset ∈ t.out ∧ (flexAt (c.p 1 - 1) t).contract = none ∧
      (flexAt (c.p 1 - 1) t).cmd = some 5 ∧ (flexAt (c.p 1 - 1) t).reason = 4 ∧
      (flexAt (c.p 1 - 1) t).hardResets = (flexAt (c.p 1 - 1) s).hardResets + 1 := by
  have hexec : exec .pdHardReset s = .next (hardReset (pdPort c) true (startPd (pdPort c) 5 (accepted c u))) := by
    refine long_accepted h hfree ?_
    have hat : flexAt (pdPort c) u = flexAt (c.p 1 - 1) s := flexAt_of_Taken h _
    have hcarries : carriesFace (pdPort c) u = false :=
      (Taken_same h (carriesFace (pdPort c)) fun _ _ _ _ _ _ => rfl).trans hface
    simp only [pdPort_sound h hlow hhigh hfit, hcarries, hat]
    rcases hrole with hr | hr | hr <;> rw [hr] <;> rfl
  have hflex : (accepted c u).flex = u.flex := by simp
  have hport : pdPort c < (accepted c u).flex.length := by rw [hflex, flex_of_Taken h, hlen, pdPort]; omega
  have hstart : flexAt (pdPort c) (startPd (pdPort c) 5 (accepted c u)) = { flexAt (c.p 1 - 1) s with cmd := some 5 } := by
    rw [startPd, flexAt_mapFlex hport, flexAt_congr hflex, flexAt_of_Taken h]
    rfl
  obtain ⟨ho, hat⟩ := hardReset_facts (n := pdPort c) (s := startPd (pdPort c) 5 (accepted c u)) (by rwa [startPd, mapFlex_length])
    (by simp [hstart]) (by simp [hstart])
  refine ⟨_, hexec, ho, ?_⟩
  rw [hstart] at hat
  dsimp only at hat
  split at hat
  · rw [show flexAt (c.p 1 - 1) _ = _ from hat]
    exact ⟨rfl, rfl, rfl, rfl⟩
  · rw [show flexAt (c.p 1 - 1) _ = _ from hat]
    exact ⟨rfl, rfl, rfl, rfl⟩


end Pd

/-- Settles O55: each command finds its port fitted and begins its work there. -/
theorem pdCommands : Obligations.PdCommands := by
  intro s u c hlen hlow hhigh hfit
  exact ⟨exec_pdStatus hlow hhigh hfit, exec_pdSetLimit hlen hlow hhigh hfit, fun hfree =>
    ⟨fun k => exec_pdVconnSwap hlow hhigh hfit hfree, fun k => exec_pdAltModeEnter hlen hlow hhigh hfit hfree,
      fun k => exec_pdAltModeExit hlen hlow hhigh hfit hfree, fun h => exec_pdHardReset hlen hlow hhigh hfit h hfree⟩⟩

end Sys2Proof.Proofs
end

section
/-!
The MSG commands (R284 to R297): the list, voices that are taken and ended at a boundary, pins and library loads.
-/

namespace Sys2Proof.Proofs

open Sys2Proof
open Sys2Proof.Machine
open Sys2Proof.Safety
open Sys2Proof.Laws

/-! ## Voices -/

theorem voiceOf_setVoice_none (v : Nat) (s : State) : voiceOf v (setVoice v none s) = none := by
  simp only [voiceOf, setVoice, listSet_getD]
  split
  · rfl
  · rename_i h
    exact List.getD_eq_default _ _ (Nat.le_of_not_lt fun hv => h ⟨trivial, hv⟩)

theorem voiceOf_congr {s t : State} (h : t.msg = s.msg) (v : Nat) : voiceOf v t = voiceOf v s := by rw [voiceOf, h, voiceOf]

/-- A voice that ends leaves the others. -/
theorem voiceOf_endVoice (v reason w : Nat) (s : State) :
    voiceOf w (endVoice v reason s) = if w = v then none else voiceOf w s := by
  unfold endVoice
  split
  · rename_i hnone
    split
    · rename_i hw
      rw [hw, hnone]
    · rfl
  · have hsame (x : State) (ps : List Word) : (loseVoice v (post 0o070103 ps x)).msg = x.msg := by simp
    rw [voiceOf_congr (hsame _ _)]
    split
    · rename_i hw
      rw [hw, voiceOf_setVoice_none]
    · rename_i hw
      exact voiceOf_setVoice_other hw none s

theorem voiceOf_endVoices (reason w : Nat) (l : List Nat) (s : State) :
    voiceOf w (l.foldl (fun s v => endVoice v reason s) s) = if w ∈ l then none else voiceOf w s := by
  induction l generalizing s with
  | nil => rfl
  | cons v l ih =>
    rw [List.foldl_cons, ih, voiceOf_endVoice]
    by_cases hw : w = v <;> by_cases hl : w ∈ l <;> simp [hw, hl]

/-- MSG.STOP of every voice ends those that no zone protects. -/
theorem runStop_all {c : Command} (s : State) (hall : c.p 1 = 31) : ∃ t n m, runStop c s = ([w18 n, w18 m], t) ∧
    (∀ v < 16, voiceProtected v s = false → voiceOf v t = none) ∧ (∀ v < 16, voiceProtected v s = true → voiceOf v t = voiceOf v s) := by
  refine ⟨_, _, _, by rw [runStop, if_pos hall], fun v hv hfree => ?_, fun v hv hprot => ?_⟩
  · rw [voiceOf_endVoices]
    split
    · rfl
    · rename_i hout
      simpa [hv, hfree] using hout
  · rw [voiceOf_endVoices, if_neg]
    simp [hprot]

theorem voiceProtected_resumed (v : Nat) (u : State) : voiceProtected v (resumed u) = voiceProtected v u := rfl

/-! ## The commands -/

/-- Frames are read from flash. -/
theorem frameChain_congr {s t : State} (h : t.mem = s.mem) (m : Msg) (k i offset : Nat) :
    frameChain m t k i offset = frameChain m s k i offset := by
  have bytes (a n : Nat) : flashBytes a n t = flashBytes a n s := by rw [flashBytes, h, flashBytes]
  induction k generalizing i offset with
  | zero => rfl
  | succ k ih => simp only [frameChain, bytes, ih]

theorem pinFits_congr {s t : State} (hmsg : t.msg = s.msg) (hmem : t.mem = s.mem) (m : Msg) (secs : Nat) :
    pinFits m secs t = pinFits m secs s := by
  have hcount : pinnedCount m.number t = pinnedCount m.number s := by rw [pinnedCount, hmsg, pinnedCount]
  have hused : cacheUsed m.number t = cacheUsed m.number s := by rw [cacheUsed, hmsg, cacheUsed]
  unfold pinFits
  rw [hcount, frameChain_congr hmem, hused]

theorem pinFramesGood_congr {s t : State} (h : t.mem = s.mem) (m : Msg) (secs : Nat) : pinFramesGood m secs t = pinFramesGood m secs s := by
  have bytes (a n : Nat) : flashBytes a n t = flashBytes a n s := by rw [flashBytes, h, flashBytes]
  unfold pinFramesGood
  rw [frameChain_congr h]
  simp only [bytes]

theorem freeRegion_congr {s t : State} (hmem : t.mem = s.mem) (hmsg : t.msg = s.msg) (size : Nat) :
    freeRegion size t = freeRegion size s := by
  simp only [freeRegion, dirEntries_congr hmem, voiceReads, hmsg]

section Msg

variable {s u : State} {c : Command} {code : Nat} {v : Command → Bool} {n : Command → State → Bool}

theorem msg_of_Taken (h : Taken code v n s c u) : u.msg = s.msg := Taken_same h State.msg fun _ _ _ _ _ _ => rfl

theorem mem_of_Taken (h : Taken code v n s c u) : u.mem = s.mem := Taken_same h State.mem fun _ _ _ _ _ _ => rfl

theorem exec_msgList (h : Taken 0o0701 anyVariant noAuth s c u) (hfrom : c.p 1 ≤ 8191) (hlow : 1 ≤ c.p 2) (hhigh : c.p 2 ≤ 62) :
    exec .msgList s = .next (replied c
      (let ms := ((sortBy (fun a b => decide (a.number < b.number)) s.msg.msgs).filter (fun m => decide (c.p 1 ≤ m.number))).take (c.p 2)
       w18 ms.length :: ms.flatMap listWords) u) := by
  rw [← msg_of_Taken h]
  exact immediate_taken _ _ h (if_neg (by omega))

theorem exec_msgPlay {m : Msg} {w : Nat} (h : Taken 0o0702 anyVariant noAuth s c u) (hmsg : msgOf (c.p 1) s = some m)
    (hgood : m.failed = false) (hvoice : playVoice c s = some w) (hnum : c.p 2 % 32 < 16 ∨ c.p 2 % 32 = 31) :
    exec .msgPlay s = .next (putOff c u) := by
  refine boundary_taken checkPlay h ?_
  have hm : msgOf (c.p 1) u = some m := (Taken_same h (msgOf (c.p 1)) fun _ _ _ _ _ _ => rfl).trans hmsg
  have hv : playVoice c u = some w := (Taken_same h (playVoice c) fun _ _ _ _ _ _ => rfl).trans hvoice
  have hrange : (decide (15 < c.p 2 % 32) && c.p 2 % 32 != 31) = false := by
    rcases hnum with hn | hn
    · rw [decide_eq_false (by omega), Bool.false_and]
    · rw [hn]
      rfl
  simp only [checkPlay, hm, hv, hgood, hrange]
  rfl

theorem exec_msgStop (h : Taken 0o0703 anyVariant noAuth s c u) (hwhich : c.p 1 = 31 ∨ (c.p 1 ≤ 15 ∧ voiceProtected (c.p 1) s = false)) :
    exec .msgStop s = .next (putOff c u) := by
  refine boundary_taken _ h ?_
  have hprot : voiceProtected (c.p 1) u = voiceProtected (c.p 1) s := Taken_same h (voiceProtected (c.p 1)) fun _ _ _ _ _ _ => rfl
  rcases hwhich with hall | ⟨hone, hfree⟩
  · rw [hall]
    rfl
  · rw [hprot, hfree, decide_eq_false (Nat.not_lt.mpr hone), Bool.false_and, Bool.and_false]
    rfl

/-- A message that plays takes its voice, which has not started. -/
theorem runPlay_takes {m : Msg} {w : Nat} {t : State} (hmsg : msgOf (c.p 1) t = some m) (hgood : m.failed = false)
    (hvoice : playVoice c t = some w) : runPlay c t = ([w18 w], takeVoice w m [] t) := by
  simp only [runPlay, hmsg, hvoice, hgood]
  rfl

theorem exec_msgPin {m : Msg} (h : Taken 0o0704 anyVariant noAuth s c u) (hfree : longOf 7 s = none) (hmsg : msgOf (c.p 1) s = some m)
    (hsecs : c.p 2 ≤ 8) (hfits : c.p 2 = 0 ∨ pinFits m (c.p 2) s = true) :
    exec .msgPin s = .next { accepted c u with msg := { u.msg with op := some (.pin (c.p 1) (c.p 2) s.clk.tick) } } := by
  have hm : msgOf (c.p 1) u = some m := (Taken_same h (msgOf (c.p 1)) fun _ _ _ _ _ _ => rfl).trans hmsg
  have hexec : exec .msgPin s = .next { accepted c u with msg := { (accepted c u).msg with
      op := some (.pin (c.p 1) (c.p 2) (accepted c u).clk.tick) } } := by
    refine long_accepted h hfree ?_
    simp only [hm, if_neg (Nat.not_lt.mpr hsecs)]
    refine if_neg fun hbad => ?_
    have hu : pinFits m (c.p 2) u = pinFits m (c.p 2) s := pinFits_congr (msg_of_Taken h) (mem_of_Taken h) m (c.p 2)
    rcases hfits with hzero | hfit
    · omega
    · rw [hu, hfit] at hbad
      exact absurd hbad.2 (by decide)
  rw [hexec]
  simp [clk_of_Taken h]

theorem exec_msgPinTimeout {k secs : Nat} {st : Tick} (hop : s.msg.op = some (.pin k secs st)) (hlong : 96000 ≤ since st s) :
    exec .msgPinTimeout s = .next (groupDone 7 9 { fresh s with msg := { s.msg with op := none } }) := by
  show Host.Outcome.next (match s.msg.op with | some (.pin _ _ start) => if _ then _ else _ | _ => _) = _
  simp only [hop]
  exact congrArg Host.Outcome.next (if_pos hlong)

theorem exec_msgLoadBegin {a : Nat} (h : Taken 0o0705 (fun c => opIs 0 c || decide (4 < c.p 1)) noAuth s c u) (hfree : longOf 7 s = none)
    (hop : c.p 1 ≤ 4) (hlib : c.p 2 ≤ 15) (hsize : loadSize c ≠ 0) (hnone : s.msg.load = none)
    (hregion : freeRegion (roundRegion (loadSize c)) s = some a) (hroom : (dirEntries s).length < 254) :
    exec .msgLoadBegin s = .next { accepted c u with msg := { u.msg with op := some (.begin (c.p 2) (loadSize c) a) } } := by
  have haccepted : freeRegion (roundRegion (loadSize c)) (accepted c u) = some a := by
    rw [← hregion]
    exact freeRegion_congr (by simp [mem_of_Taken h]) (by simp [msg_of_Taken h]) _
  have hexec : exec .msgLoadBegin s = .next { accepted c u with msg := { (accepted c u).msg with
      op := some (.begin (c.p 2) (loadSize c) ((freeRegion (roundRegion (loadSize c)) (accepted c u)).getD 0)) } } := by
    refine long_accepted h hfree ?_
    have hbounds : (decide (4 < c.p 1) || decide (15 < c.p 2) || loadSize c == 0) = false := by
      simp only [Bool.or_eq_false_iff, decide_eq_false_iff_not, beq_eq_false_iff_ne]
      exact ⟨⟨by omega, by omega⟩, hsize⟩
    rw [firstStatus_pass hbounds, msg_of_Taken h, hnone, freeRegion_congr (mem_of_Taken h) (msg_of_Taken h), hregion,
      dirEntries_congr (mem_of_Taken h), decide_eq_false (Nat.not_le.mpr hroom)]
    rfl
  rw [hexec, haccepted]
  simp

theorem exec_msgLoadData {l : LibLoad} (h : Taken 0o0705 (opIs 1) noAuth s c u) (hfree : longOf 7 s = none) (hload : s.msg.load = some l)
    (hlow : 1 ≤ dataCount c) (hhigh : dataCount c ≤ 480) (hfits : dataOffset c + dataCount c ≤ l.size)
    (hnew : wasWritten l.ranges (dataOffset c) (dataCount c) = false) :
    exec .msgLoadData s = .next { accepted c u with msg := { u.msg with op := some (.data (dataOffset c) (dataBytes c)) } } := by
  have hexec : exec .msgLoadData s = .next { accepted c u with msg := { (accepted c u).msg with
      op := some (.data (dataOffset c) (dataBytes c)) } } := by
    refine long_accepted h hfree ?_
    have hbounds : (decide (dataCount c < 1) || decide (480 < dataCount c) || decide (l.size < dataOffset c + dataCount c)) = false := by
      simp only [Bool.or_eq_false_iff, decide_eq_false_iff_not]
      omega
    simp only [msg_of_Taken h, hload, firstStatus_pass hbounds, hnew]
    rfl
  rw [hexec]
  simp

/-- END and ABORT of a library load need one in progress, and nothing else. -/
theorem libraryLoad_check {l : LibLoad} (h : Taken code v n s c u) (hload : s.msg.load = some l) :
    (if u.msg.load.isNone then stState else stOk) = stOk := by
  simp [msg_of_Taken h, hload]

theorem exec_msgLoadEnd {l : LibLoad} (h : Taken 0o0705 (opIs 2) noAuth s c u) (hfree : longOf 7 s = none) (hload : s.msg.load = some l) :
    exec .msgLoadEnd s = .next { accepted c u with msg := { u.msg with op := some .finish } } := by
  have hexec : exec .msgLoadEnd s = .next { accepted c u with msg := { (accepted c u).msg with op := some .finish } } :=
    long_accepted h hfree (libraryLoad_check h hload)
  rw [hexec]
  simp

theorem exec_msgLoadAbort {l : LibLoad} (h : Taken 0o0705 (opIs 4) noAuth s c u) (hfree : longOf 7 s = none) (hload : s.msg.load = some l) :
    exec .msgLoadAbort s = .next { accepted c u with msg := { u.msg with op := some .abort } } := by
  have hexec : exec .msgLoadAbort s = .next { accepted c u with msg := { (accepted c u).msg with op := some .abort } } :=
    long_accepted h hfree (libraryLoad_check h hload)
  rw [hexec]
  simp

theorem exec_msgLoadDelete (h : Taken 0o0705 (opIs 3) noAuth s c u) (hfree : longOf 7 s = none) (hlib : c.p 2 ≤ 15)
    (hregion : (regionOf 4 (c.p 2) s).isSome = true) :
    exec .msgLoadDelete s = .next { accepted c u with msg := { u.msg with op := some (.delete (c.p 2)) } } := by
  have hexec : exec .msgLoadDelete s = .next { accepted c u with msg := { (accepted c u).msg with op := some (.delete (c.p 2)) } } := by
    refine long_accepted h hfree ?_
    rw [firstStatus_pass (decide_eq_false (Nat.not_lt.mpr hlib)), regionOf_of_Taken h, Option.isNone_eq_false_iff.mpr hregion]
    rfl
  rw [hexec]
  simp

end Msg

/-! ## Completions -/

section Completions

variable {s : State}

theorem exec_msgComplete (ok : Bool) : exec (.flashOperationComplete .msg ok) s = .next (msgCompletes ok (fresh s)) := rfl

theorem msgCompletes_pin {k secs : Nat} {st : Tick} {m : Msg} (hop : s.msg.op = some (.pin k secs st)) (hmsg : msgOf k s = some m)
    (hframes : pinFramesGood m secs s = true) (htime : since st s < 96000) :
    msgCompletes true s = groupDone 7 0 (pinMessage m secs { s with msg := { s.msg with op := none } }) := by
  have hearly : ¬ 2 * Config.tkPerS ≤ since st s := Nat.not_le.mpr htime
  simp only [msgCompletes, hop, pinCompletes, hmsg, hframes, if_neg hearly]
  rfl

theorem msgCompletes_data {off : Nat} {bs : List Byte} {l : LibLoad} (hop : s.msg.op = some (.data off bs)) (hload : s.msg.load = some l) :
    msgCompletes true s = groupDone 7 0 (flashWrite (l.offset + off) bs
      { s with msg := { s.msg with op := none, load := some { l with ranges := (off, bs.length) :: l.ranges } } }) := by
  simp only [msgCompletes, hop, hload]
  rfl

theorem msgCompletes_failed {op : MsgOp} (hop : s.msg.op = some op) (hfinish : op ≠ .finish) (hpin : ∀ n secs st, op ≠ .pin n secs st) :
    msgCompletes false s = groupDone 7 9 { s with msg := { s.msg with op := none } } := by
  cases op with
  | pin n secs st => exact absurd rfl (hpin n secs st)
  | finish => exact absurd rfl hfinish
  | _ =>
    simp only [msgCompletes, hop]
    rfl

end Completions

/-- Settles O48: each form notes its operation, and its completion ends it. -/
theorem messageCommands : Obligations.MessageCommands := by
  intro s u c
  refine ⟨exec_msgList, fun m w => exec_msgPlay, fun m w hcode hmsg hgood hvoice hw => ?_, exec_msgStop, fun x hcode hone hx => ?_,
    fun hcode hone hx => ?_, fun hcode hall => ?_, fun m => exec_msgPin, fun k secs st => exec_msgPinTimeout,
    fun a => exec_msgLoadBegin, fun l => exec_msgLoadData, fun l => exec_msgLoadEnd, exec_msgLoadDelete, fun l => exec_msgLoadAbort,
    ?_⟩
  · have heffect : boundaryEffect c (resumed u) = some (runPlay c (resumed u)) := by simp only [boundaryEffect, hcode]
    rw [runPlay_takes (t := resumed u) hmsg hgood hvoice] at heffect
    refine ⟨_, runWaiting_putOff (by rw [hcode]; decide) heffect, _, voiceOf_setVoice (s := resumed u) hw _, rfl, rfl⟩
  · have hrun : runStop c (resumed u) = ([w18 x.msg.number], endVoice (c.p 1) 1 (resumed u)) := by
      rw [runStop, if_neg (by omega), show voiceOf (c.p 1) (resumed u) = some x from hx]
    exact runWaiting_putOff (by rw [hcode]; decide) (by simp only [boundaryEffect, hcode, hrun]; rfl)
  · have hrun : runStop c (resumed u) = ([8191], resumed u) := by
      rw [runStop, if_neg (by omega), show voiceOf (c.p 1) (resumed u) = none from hx]
    exact runWaiting_putOff (by rw [hcode]; decide) (by simp only [boundaryEffect, hcode, hrun]; rfl)
  · obtain ⟨t, k, m, hrun, hfree, hprot⟩ := runStop_all (c := c) (resumed u) hall
    exact ⟨t, k, m, runWaiting_putOff (by rw [hcode]; decide) (by simp only [boundaryEffect, hcode, hrun]), hfree, hprot⟩
  · rintro w rfl
    refine ⟨fun k secs st m hop hmsg hframes htime => ?_, fun off bs l hop hload => ?_, fun op hop hfinish hpin => ?_⟩
    all_goals rw [exec_msgComplete]
    · exact congrArg Host.Outcome.next (msgCompletes_pin (s := fresh s) hop hmsg
        ((pinFramesGood_congr (s := s) (t := fresh s) rfl m secs).trans hframes) htime)
    · exact congrArg Host.Outcome.next (msgCompletes_data (s := fresh s) hop hload)
    · exact congrArg Host.Outcome.next (msgCompletes_failed (s := fresh s) hop hfinish hpin)

end Sys2Proof.Proofs
end

section
/-!
The ROUTE and ZONE commands (R236 to R256): what waits for the block boundary, and what it does there.
-/

namespace Sys2Proof.Proofs

open Sys2Proof
open Sys2Proof.Machine
open Sys2Proof.Safety
open Sys2Proof.Laws

/-! ## Destinations -/

theorem insertBy_find_same {α : Type} (before : α → α → Bool) (p : α → Bool) (a : α) (l : List α) (ha : p a = true)
    (hl : ∀ x ∈ l, p x = false) : (insertBy before a l).find? p = some a := by
  induction l with
  | nil => simp [insertBy, ha]
  | cons x xs ih =>
    have hx := hl x (List.mem_cons_self ..)
    have hxs := ih fun y hy => hl y (List.mem_cons_of_mem _ hy)
    rw [insertBy]
    split <;> simp [ha, hx, hxs]

theorem insertBy_find_other {α : Type} (before : α → α → Bool) (p : α → Bool) (a : α) (l : List α) (ha : p a = false) :
    (insertBy before a l).find? p = l.find? p := by
  induction l with
  | nil => simp [insertBy, ha]
  | cons x xs ih =>
    rw [insertBy]
    split <;> simp [ha, List.find?_cons, ih]

theorem destOf_num (n : Nat) (s : State) : (destOf n s).num = n := by
  rw [destOf]
  cases hfind : s.aud.dests.find? (fun d => d.num == n) with
  | none => rfl
  | some d => simpa using List.find?_some hfind

theorem destOf_setDest_same (d : Dest) (s : State) : destOf d.num (setDest d s) = d := by
  rw [destOf, setDest, insertBy_find_same] <;> simp

theorem destOf_setDest_other {d : Dest} {n : Nat} (h : n ≠ d.num) (s : State) : destOf n (setDest d s) = destOf n s := by
  rw [destOf, setDest, insertBy_find_other _ _ _ _ (by simpa using h.symm), List.find?_filter, destOf]
  congr 1
  refine congrArg (fun p => s.aud.dests.find? p) (funext fun x => ?_)
  by_cases hx : x.num = n <;> simp [hx, h]

/-- ROUTE.CLEAR of one destination. -/
def clearBase (s : State) (n : Nat) : State := if (destOf n s).base = [] then s else setDest { destOf n s with base := [] } s

theorem clearBase_base (m n : Nat) (s : State) : (destOf n (clearBase s m)).base = if n = m then [] else (destOf n s).base := by
  unfold clearBase
  split
  · rename_i hempty
    split
    · rename_i hn
      rw [hn, hempty]
    · rfl
  · have hnum : (destOf m s).num = m := destOf_num m s
    split
    · rename_i hn
      have hsame := destOf_setDest_same { destOf m s with base := [] } s
      rw [hn]
      exact congrArg Dest.base (hnum ▸ hsame)
    · rename_i hn
      rw [destOf_setDest_other (by rw [hnum]; exact hn)]

theorem clearBases_base (l : List Nat) (n : Nat) (s : State) :
    (destOf n (l.foldl clearBase s)).base = if n ∈ l then [] else (destOf n s).base := by
  induction l generalizing s with
  | nil => rfl
  | cons m l ih =>
    rw [List.foldl_cons, ih, clearBase_base]
    by_cases hm : n = m <;> by_cases hl : n ∈ l <;> simp [hm, hl]

theorem Frame_foldl {α : Type} {ch : List Group} {f : State → α → State} (h : ∀ s a, Frame ch s (f s a)) (l : List α) (s : State) :
    Frame ch s (l.foldl f s) := by
  induction l generalizing s with
  | nil => exact Frame_refl ch s
  | cons a l ih => exact Frame_mono (Frame_trans (h s a) (ih (f s a))) fun g hg => (List.mem_append.mp hg).elim id id

theorem frame_aud (s : State) (a : Audio) : Frame [.aud] s { s with aud := a } := by
  intro g hg
  cases g <;> simp_all [same]

theorem clearBase_frame (s : State) (n : Nat) : Frame [.aud] s (clearBase s n) := by
  unfold clearBase
  split
  · exact Frame_refl _ s
  · exact frame_aud s _

/-! ## Zones -/

theorem frame_zon (s : State) (z : Zones) : Frame [.zon] s { s with zon := z } := by
  intro g hg
  cases g <;> simp_all [same]

theorem setMutes_zones (on : Bool) (l : List Zone) (s : State) :
    (l.foldl (fun s z => mapZone z.num (fun z => { z with hostMute := on }) s) s).zon.zones =
      s.zon.zones.map (fun z => if ∃ y ∈ l, z.num = y.num then { z with hostMute := on } else z) := by
  induction l generalizing s with
  | nil => simp
  | cons y l ih =>
    rw [List.foldl_cons, ih, mapZone, List.map_map]
    refine List.map_congr_left fun z _ => ?_
    by_cases hy : z.num = y.num <;> by_cases hl : ∃ y ∈ l, z.num = y.num <;> simp [hy, hl]

/-- The zones whose machine binds an occurrence. -/
def boundZones (o : Occ) (s : State) : Nat := (s.zon.zones.filter (fun z => boundBy o z s)).length

section RouteZone

variable {s u : State} {c : Command}

theorem checkRouteSet_ok (hsrc : numberOk (c.p 1) = true) (hdest : numberOk (c.p 2) = true) (hconf : u.cfg.unconfigured = false)
    (hlaw : c.p 4 = 63) (hgain : gainOk (signedField (c.p 3) 18) = true) : checkRouteSet c u = stOk := by
  simp [checkRouteSet, hsrc, hdest, hconf, routeGain, hlaw, hgain, persistChecks, bitOf]
  rfl

theorem runRouteSet_of_gain (u : State) (hlaw : c.p 4 = 63) (hgain : gainOk (signedField (c.p 3) 18) = true) :
    runRouteSet c u = ([w18i (gainCoef (signedField (c.p 3) 18))], setCross (c.p 2) (c.p 1) (signedField (c.p 3) 18) false u) := by
  simp [runRouteSet, routeGain, hlaw, hgain, persist, signedCoef, bitOf]

theorem checkRouteClear_ok (hdest : c.p 1 ≤ 192) (hconf : u.cfg.unconfigured = false) (hpersist : bitOf (c.p 2) 16 = false) :
    checkRouteClear c u = stOk := by
  simp only [checkRouteClear, hconf, hpersist, persistChecks, decide_eq_false (Nat.not_lt.mpr hdest)]
  rfl

theorem runRouteClear_eq (u : State) (hpersist : bitOf (c.p 2) 16 = false) : runRouteClear c u = ([], (clearTargets c).foldl clearBase u) := by
  rw [runRouteClear, hpersist]
  rfl

theorem mem_clearTargets {n : Nat} (hlow : 1 ≤ n) (hhigh : n ≤ 192) (h : c.p 1 = 0 ∨ c.p 1 = n) : n ∈ clearTargets c := by
  unfold clearTargets
  split
  · exact List.mem_map.mpr ⟨n - 1, List.mem_range.mpr (by omega), by omega⟩
  · simp; omega

/-- The zones that a ZONE command names. -/
theorem checkZone_ok (h : c.p 1 = 64 ∨ ∃ z ∈ u.zon.zones, z.num = c.p 1 ∧ z.num < 64) : checkZone c u = stOk := by
  refine if_neg ?_
  rcases h with hall | ⟨z, hz, hnum, hlt⟩
  · simp [badZone, hall]
  · have hin : z ∈ namedZones (c.p 1) u := List.mem_filter.mpr ⟨hz, by simp [hnum]⟩
    have hne : (namedZones (c.p 1) u).isEmpty = false := by
      rw [List.isEmpty_eq_false_iff]
      exact List.ne_nil_of_mem hin
    rw [badZone, hne, decide_eq_false (by omega)]
    simp

theorem zon_of_Taken {code : Nat} {v : Command → Bool} {n : Command → State → Bool} (h : Taken code v n s c u) : u.zon = s.zon :=
  Taken_same h State.zon fun _ _ _ _ _ _ => rfl

/-- A ZONE command that names a zone waits for the boundary. -/
theorem zone_waits {code : Nat} (h : Taken code anyVariant zoneNeedsAuth s c u)
    (hzone : c.p 1 = 64 ∨ ∃ z ∈ s.zon.zones, z.num = c.p 1 ∧ z.num < 64) :
    effect (boundaryCommand code anyVariant zoneNeedsAuth checkZone) s = .next (putOff c u) :=
  boundary_taken checkZone h (checkZone_ok (by rwa [zon_of_Taken h]))

theorem mem_namedZones {n : Nat} {z : Zone} : z ∈ namedZones n u ↔ z ∈ u.zon.zones ∧ (n = 64 ∨ z.num = n) := by
  simp [namedZones]

/-- ZONE.MUTE sets the host mute of the zones named. -/
theorem runMute_zones (u : State) : ∃ w t, runMute c u = ([w], t) ∧ Frame [.zon] u t ∧
    t.zon.zones = u.zon.zones.map (fun z => if c.p 1 = 64 ∨ z.num = c.p 1 then { z with hostMute := bitOf (c.p 2) 0 } else z) := by
  obtain ⟨t, ht⟩ : ∃ t, t = (namedZones (c.p 1) u).foldl
      (fun s z => mapZone z.num (fun z => { z with hostMute := bitOf (c.p 2) 0 }) s) u := ⟨_, rfl⟩
  obtain ⟨w, hw⟩ : ∃ w, runMute c u = ([w], t) := by
    rw [runMute, ← ht]
    split
    · exact ⟨_, rfl⟩
    · exact ⟨0, rfl⟩
  refine ⟨w, t, hw, ?_, ?_⟩
  · rw [ht]
    exact Frame_foldl (fun s z => frame_zon s _) _ u
  · rw [ht, setMutes_zones]
    refine List.map_congr_left fun z hz => if_congr ?_ rfl rfl
    constructor
    · rintro ⟨y, hy, hnum⟩
      rw [hnum]
      exact (mem_namedZones.mp hy).2
    · exact fun h => ⟨z, mem_namedZones.mpr ⟨hz, h⟩, rfl⟩

/-- ZONE.STATUS of the one zone of its number. -/
theorem namedZones_head {z : Zone} (hz : z ∈ u.zon.zones) (hlt : z.num < 64) (honly : ∀ y ∈ u.zon.zones, y.num = z.num → y = z) :
    ∃ zs, namedZones z.num u = z :: zs := by
  cases hl : namedZones z.num u with
  | nil => exact absurd (mem_namedZones.mpr ⟨hz, .inr rfl⟩) (by simp [hl])
  | cons y zs =>
    obtain ⟨hy, hnum⟩ := mem_namedZones.mp (hl ▸ List.mem_cons_self .. : y ∈ namedZones z.num u)
    exact ⟨zs, by rw [honly y hy (hnum.resolve_left (by omega))]⟩

theorem exec_zoneStatus {z : Zone} (h : Taken 0o0503 anyVariant noAuth s c u) (hz : z ∈ s.zon.zones) (hnum : z.num = c.p 1)
    (hlt : z.num < 64) (honly : ∀ y ∈ s.zon.zones, y.num = z.num → y = z) :
    exec .zoneStatus s = .next (replied c (statusWords z s) u) := by
  have hzon := zon_of_Taken h
  obtain ⟨zs, hhead⟩ := namedZones_head (u := u) (by rwa [hzon]) hlt (by rwa [hzon])
  have hwords : statusWords z u = statusWords z s := Taken_same h (statusWords z) fun _ _ _ _ _ _ => rfl
  have hcheck : ¬ (c.p 1 = 64 ∨ badZone (c.p 1) u = true) := by
    simp [badZone, ← hnum, hhead]
    omega
  have hrun : (match namedZones (c.p 1) u with | z :: _ => statusWords z u | [] => []) = statusWords z s := by
    rw [← hnum, hhead]
    exact hwords
  rw [← hrun]
  exact immediate_taken (fun c s => if c.p 1 = 64 ∨ badZone (c.p 1) s then stBadParam else stOk)
    (fun c s => (match namedZones (c.p 1) s with | z :: _ => statusWords z s | [] => [], s)) h (if_neg hcheck)

theorem exec_routeGet (h : Taken 0o0402 anyVariant (fun c s => destProtected (c.p 1) s) s c u) (hdest : numberOk (c.p 1) = true)
    (hsrc : numberOk (c.p 2) = true) (hconf : s.cfg.unconfigured = false) :
    exec .routeGet s = .next (replied c
        (let xs := ((destOf (c.p 1) s).base.filter (fun x => decide (c.p 2 ≤ x.src))).take 125
         w18 ((match zoneOf (c.p 1) s with | some z => z.source | none => 0) * 256 + xs.length) ::
           xs.flatMap (fun x => [w18 x.src, w18i x.gain])) u) := by
  have hd : destOf (c.p 1) u = destOf (c.p 1) s := Taken_same h (destOf (c.p 1)) fun _ _ _ _ _ _ => rfl
  have hz : zoneOf (c.p 1) u = zoneOf (c.p 1) s := Taken_same h (zoneOf (c.p 1)) fun _ _ _ _ _ _ => rfl
  rw [← hd, ← hz]
  refine immediate_taken _ _ h ?_
  rw [unconfigured_of_Taken h, hconf, hdest, hsrc]
  rfl

theorem exec_routeClear (h : Taken 0o0403 anyVariant clearNeedsAuth s c u) (hdest : c.p 1 ≤ 192) (hconf : s.cfg.unconfigured = false)
    (hpersist : bitOf (c.p 2) 16 = false) : exec .routeClear s = .next (putOff c u) :=
  boundary_taken checkRouteClear h (checkRouteClear_ok hdest (by rw [unconfigured_of_Taken h, hconf]) hpersist)

/-- ROUTE.CLEAR at its boundary. -/
theorem routeClear_clears (hcode : cmdCode c.word0 = 0o0403) (hpersist : bitOf (c.p 2) 16 = false) :
    ∃ t, runWaiting (putOff c u) = replied c [] t ∧ Frame [.mbx, .aud] u t ∧
      (∀ n, 1 ≤ n → n ≤ 192 → (c.p 1 = 0 ∨ c.p 1 = n) → (destOf n t).base = []) := by
  refine ⟨(clearTargets c).foldl clearBase (resumed u), ?_, ?_, fun n hlow hhigh hn => ?_⟩
  · refine runWaiting_putOff (by rw [hcode]; decide) ?_
    rw [← runRouteClear_eq _ hpersist]
    simp only [boundaryEffect, hcode]
  · exact Frame_trans (frame_mbx u _) (Frame_foldl clearBase_frame _ _)
  · rw [clearBases_base, if_pos (mem_clearTargets hlow hhigh hn)]

theorem zoneMute_mutes (hcode : cmdCode c.word0 = 0o0504) : ∃ w t, runWaiting (putOff c u) = replied c [w] t ∧ Frame [.mbx, .zon] u t ∧
    t.zon.zones = u.zon.zones.map (fun z => if c.p 1 = 64 ∨ z.num = c.p 1 then { z with hostMute := bitOf (c.p 2) 0 } else z) := by
  obtain ⟨w, t, hrun, hframe, hzones⟩ := runMute_zones (c := c) (resumed u)
  refine ⟨w, t, runWaiting_putOff (by rw [hcode]; decide) ?_, Frame_trans (frame_mbx u _) hframe, hzones⟩
  rw [← hrun]
  simp only [boundaryEffect, hcode]

end RouteZone

/-- Settles O43: each clause is the command's check on the state that took the packet, or its effect at the boundary. -/
theorem routeAndZoneCommands : Obligations.RouteAndZoneCommands := by
  intro s u c
  refine ⟨fun h hsrc hdest hconf hlaw hgain => ?_, fun hcode hlaw hgain => ?_, exec_routeGet, exec_routeClear, routeClear_clears,
    zone_waits, zone_waits, zone_waits, fun o hcode ho => ⟨boundZones o u, ?_⟩, fun o hcode ho => ⟨boundZones o u, ?_⟩, zoneMute_mutes,
    fun z hz h hnum hlt honly => exec_zoneStatus h hz hnum hlt honly⟩
  · exact boundary_taken checkRouteSet h (checkRouteSet_ok hsrc hdest (by rw [unconfigured_of_Taken h, hconf]) hlaw hgain)
  · refine runWaiting_putOff (by rw [hcode]; decide) ?_
    rw [← runRouteSet_of_gain _ hlaw hgain]
    simp only [boundaryEffect, hcode]
    rfl
  · subst ho
    refine runWaiting_putOff (by rw [hcode]; decide) ?_
    simp only [boundaryEffect, hcode]
    rfl
  · subst ho
    refine runWaiting_putOff (by rw [hcode]; decide) ?_
    simp only [boundaryEffect, hcode]
    rfl

end Sys2Proof.Proofs
end

section
/-!
The PROC commands (R221 to R226, R242): what waits for the block boundary, and the coefficients, capacity and meters of their answers.
-/

namespace Sys2Proof.Proofs

open Sys2Proof
open Sys2Proof.Machine
open Sys2Proof.Safety
open Sys2Proof.Laws

theorem OnlyAud.frame {s t : State} (h : OnlyAud s t) : Frame [.aud] s t := by
  intro g hg
  cases g <;> simp_all [same]

theorem OnlyMemAud.frame {s t : State} (h : OnlyMemAud s t) : Frame [.mem, .aud] s t := by
  intro g hg
  cases g <;> simp_all [same]

/-! ## Delay lines leave the flash -/

theorem writeRow_flash (g row : Nat) (s : State) : (writeRow g row s).mem.flash = s.mem.flash := rfl

theorem clearExtents_flash (format : Nat) (es : List Nat) (s : State) : (clearExtents format es s).mem.flash = s.mem.flash := by
  have hextent (s : State) (e : Nat) :
      ((List.range 64).foldl (fun s r => writeRow (extentRow e r) (clearedRow format) s) s).mem.flash = s.mem.flash :=
    foldl_keeps (fun s => s.mem.flash) (fun s r => writeRow (extentRow e r) (clearedRow format) s) (fun s _ => writeRow_flash _ _ s) _ s
  exact foldl_keeps (fun s => s.mem.flash)
    (fun s e => (List.range 64).foldl (fun s r => writeRow (extentRow e r) (clearedRow format) s) s) hextent es s

theorem powerBanks_flash (es : List Nat) (s : State) :
    (es.foldl (fun s e => powerBank (e / 1024 + 1) s) s).mem.flash = s.mem.flash :=
  foldl_keeps (fun s => s.mem.flash) (fun s e => powerBank (e / 1024 + 1) s) (fun _ _ => rfl) es s

theorem allocate_flash (n format cap delay : Nat) (s : State) : (allocate n format cap delay s).mem.flash = s.mem.flash :=
  (powerBanks_flash _ _).trans (clearExtents_flash _ _ _)

theorem setDelay_flash (c : Command) (s : State) : (setDelay c s).mem.flash = s.mem.flash := by
  simp only [setDelay]
  split
  · split <;> rfl
  · exact allocate_flash ..

theorem setDelayFormat_flash (c : Command) (s : State) : (setDelayFormat c s).mem.flash = s.mem.flash := by
  simp only [setDelayFormat]
  split
  · rfl
  · exact allocate_flash ..

/-! ## Effects at the boundary -/

section Proc

variable {s u : State} {c : Command}

/-- The coefficients in force are the answer (R221). -/
theorem runSetEq_coefs {k : Coefs} (u : State) (hmode : eqMode c ≠ 1) (hcoefs : eqCoefs c = some k) (hpersist : eqPersist c = false) :
    runSetEq c u = ([w18i k.b0, w18i k.b1, w18i k.b2, w18i k.a1, w18i k.a2, w18 k.k], setSection (c.p 1) (eqSection c) k u) := by
  rw [runSetEq, hcoefs, hpersist]
  split
  · rename_i h1
    exact absurd h1 hmode
  · rename_i hk _
    cases hk
    rfl
  · rename_i hk _
    cases hk

theorem runSetEq_bypass (u : State) (hmode : eqMode c = 1) (hpersist : eqPersist c = false) :
    runSetEq c u = ([65536, 0, 0, 0, 0, 0], bypassSection (c.p 1) (eqSection c) u) := by
  rw [runSetEq, hmode, hpersist]
  rfl

theorem setEq_answers (hcode : cmdCode c.word0 = 0o0601) (hpersist : eqPersist c = false) :
    (∀ k, eqMode c ≠ 1 → eqCoefs c = some k → ∃ t, runWaiting (putOff c u) =
        replied c [w18i k.b0, w18i k.b1, w18i k.b2, w18i k.a1, w18i k.a2, w18 k.k] t ∧ Frame [.mbx, .aud] u t) ∧
      (eqMode c = 1 → ∃ t, runWaiting (putOff c u) = replied c [65536, 0, 0, 0, 0, 0] t ∧ Frame [.mbx, .aud] u t) := by
  have hruns : boundaryEffect c (resumed u) = some (runSetEq c (resumed u)) := by simp only [boundaryEffect, hcode]
  refine ⟨fun k hmode hcoefs => ⟨setSection (c.p 1) (eqSection c) k (resumed u), runWaiting_putOff (by rw [hcode]; decide) ?_, ?_⟩,
    fun hmode => ⟨bypassSection (c.p 1) (eqSection c) (resumed u), runWaiting_putOff (by rw [hcode]; decide) ?_, ?_⟩⟩
  · rw [hruns, runSetEq_coefs _ hmode hcoefs hpersist]
  · exact Frame_trans (frame_mbx u _) (OnlyAud.frame (setSection_only ..))
  · rw [hruns, runSetEq_bypass _ hmode hpersist]
  · exact Frame_trans (frame_mbx u _) (OnlyAud.frame (bypassSection_only ..))

theorem setDelay_answers (hcode : cmdCode c.word0 = 0o0602) (hpersist : bitOf (c.p 4) 17 = false) :
    ∃ t, runWaiting (putOff c u) = replied c [w18 (granted (c.p 1) t)] t ∧ Frame [.mbx, .mem, .aud] u t ∧ t.mem.flash = u.mem.flash := by
  refine ⟨setDelay c (resumed u), runWaiting_putOff (by rw [hcode]; decide) ?_,
    Frame_trans (frame_mbx u _) (OnlyMemAud.frame (setDelay_only ..)), setDelay_flash c (resumed u)⟩
  simp only [boundaryEffect, hcode, runSetDelay, hpersist]
  rfl

theorem delayFormat_answers (hcode : cmdCode c.word0 = 0o0605) (hpersist : bitOf (c.p 3) 17 = false) :
    ∃ t, runWaiting (putOff c u) = replied c [w18 (granted (c.p 1) t)] t ∧ Frame [.mbx, .mem, .aud] u t ∧ t.mem.flash = u.mem.flash := by
  refine ⟨setDelayFormat c (resumed u), runWaiting_putOff (by rw [hcode]; decide) ?_,
    Frame_trans (frame_mbx u _) (OnlyMemAud.frame (setDelayFormat_only ..)), setDelayFormat_flash c (resumed u)⟩
  simp only [boundaryEffect, hcode, runDelayFormat, hpersist]
  rfl

theorem setDynamics_answers (hcode : cmdCode c.word0 = 0o0603) (hpersist : bitOf (c.p 3) 1 = false) :
    ∃ t, runWaiting (putOff c u) = replied c [] t ∧ Frame [.mbx, .aud] u t := by
  refine ⟨applySetDynamics c (resumed u), runWaiting_putOff (by rw [hcode]; decide) ?_,
    Frame_trans (frame_mbx u _) (OnlyAud.frame (setDynamics_only ..))⟩
  simp only [boundaryEffect, hcode, runSetDynamics, hpersist]
  rfl

/-! ## Meters -/

theorem lookupD_insertKeys {α : Type} (f : Nat → α) (ns : List Nat) (l : List (Nat × α)) (j : Nat) (d : α) :
    lookupD (ns.foldl (fun l n => insertKey l n (f n)) l) j d = if j ∈ ns then f j else lookupD l j d := by
  induction ns generalizing l with
  | nil => rfl
  | cons n ns ih =>
    rw [List.foldl_cons, ih, lookupD_insertKey]
    by_cases hj : j ∈ ns <;> by_cases hn : n = j <;> simp [hj, hn, eq_comm (a := j)]

theorem metersOf_setMeters {kind : Nat} (l : List (Nat × Meter)) (s : State) : metersOf kind (setMeters kind l s) = l := by
  unfold metersOf setMeters
  split <;> rfl

theorem setMeters_dests (kind : Nat) (l : List (Nat × Meter)) (s : State) : (setMeters kind l s).aud.dests = s.aud.dests := by
  unfold setMeters
  split <;> rfl

theorem setMeters_frame (kind : Nat) (l : List (Nat × Meter)) (s : State) : Frame [.aud] s (setMeters kind l s) := by
  unfold setMeters
  split <;> exact frame_aud s _

theorem flatMap_pair_length {α β : Type} (f g : α → β) (l : List α) : (l.flatMap (fun x => [f x, g x])).length = 2 * l.length := by
  induction l with
  | nil => rfl
  | cons x l ih => simp [ih]; omega

/-- PROC.METER restarts the peaks that it reports (R224). -/
theorem exec_procMeter (h : Taken 0o0604 anyVariant noAuth s c u) (hconf : s.cfg.unconfigured = false) (hkind : meterKind c ≤ 1)
    (hlow : 1 ≤ c.p 2) (hhigh : c.p 2 ≤ 125) (hfrom : 1 ≤ c.p 1 % 256) (hto : c.p 1 % 256 + c.p 2 ≤ 193) :
    ∃ ws t, exec .procMeter s = .next (replied c ws t) ∧ ws.length = 1 + 2 * c.p 2 ∧ Frame [.aud] u t ∧ t.aud.dests = u.aud.dests ∧
      (∀ n, c.p 1 % 256 ≤ n → n < c.p 1 % 256 + c.p 2 → (lookupD (metersOf (meterKind c) t) n {}).peak = -1024) := by
  refine ⟨_, _, immediate_taken _ _ h ?_, ?_, setMeters_frame _ _ u, setMeters_dests _ _ u, fun n hn hlt => ?_⟩
  · rw [decide_eq_false (Nat.not_lt.mpr hkind), decide_eq_false (Nat.not_lt.mpr hlow), decide_eq_false (Nat.not_lt.mpr hhigh),
      decide_eq_false (Nat.not_lt.mpr hfrom), decide_eq_false (Nat.not_lt.mpr hto), unconfigured_of_Taken h, hconf]
    rfl
  · rw [List.length_cons, flatMap_pair_length, meterRange, List.length_map, List.length_range, Nat.add_comm]
  · have hin : n ∈ meterRange c := List.mem_map.mpr ⟨n - c.p 1 % 256, List.mem_range.mpr (by omega), by omega⟩
    rw [metersOf_setMeters, lookupD_insertKeys, if_pos hin]

end Proc

/-- Settles O44: the checks pass by hypothesis; what the boundary does answers and changes is read off each effect. -/
theorem processingCommands : Obligations.ProcessingCommands := by
  intro s u c
  refine ⟨fun h hmode hcheck => ?_, fun h => boundary_taken checkSetEq h, fun h => boundary_taken checkSetEq h,
    fun h => boundary_taken checkSetDelay h, fun h => boundary_taken checkDelayFormat h, fun h => boundary_taken checkSetDynamics h,
    setEq_answers, setDelay_answers, delayFormat_answers, setDynamics_answers, exec_procMeter⟩
  refine boundary_taken (fun c s => if eqMode c = 3 then stBadParam else checkSetEq c s) h ?_
  rw [if_neg (by omega)]
  exact hcheck

end Sys2Proof.Proofs
end

section
/-!
The hubs' downstream ports as the host sees them, HS over-current and PORT.POWER (R155 to R159).
-/

namespace Sys2Proof.Proofs

open Sys2Proof
open Sys2Proof.Machine
open Sys2Proof.Safety
open Sys2Proof.Laws

/-! ## One port -/

theorem portOf_congr {s t : State} (h : t.ports = s.ports) (k : Nat) : portOf k t = portOf k s := by rw [portOf, h, portOf]

theorem portOf_mapPort {k : Nat} {s : State} (h : k < s.ports.length) (f : DownPortState → DownPortState) :
    portOf k (mapPort k f s) = f (portOf k s) := listModify_getD_same h f {}

theorem mapPort_length (k : Nat) (f : DownPortState → DownPortState) (s : State) : (mapPort k f s).ports.length = s.ports.length :=
  listModify_length ..

theorem portOf_mapSide {usb3 : Bool} {k : Nat} {s : State} (h : k < s.ports.length) (f : Side → Side) :
    sideOf usb3 (portOf k (mapSide usb3 k f s)) = f (sideOf usb3 (portOf k s)) := by
  rw [mapSide, portOf_mapPort h]
  cases usb3 <;> rfl

theorem frame_ports (s : State) (l : List DownPortState) : Frame [.ports] s { s with ports := l } := by
  intro g hg
  cases g <;> simp_all [same]

theorem mapPort_frame (k : Nat) (f : DownPortState → DownPortState) (s : State) : Frame [.ports] s (mapPort k f s) := frame_ports s _

theorem frame_out (s : State) (o : List Out) : Frame [.out] s { s with out := o } := by
  intro g hg
  cases g <;> simp_all [same]

/-- HS ports are no upstream B. -/
theorem isUpstreamB_hs {k : Nat} (hk : 4 ≤ k) (s : State) : isUpstreamB k s = false := by
  rw [isUpstreamB, decide_eq_false (by omega), Bool.false_and]

/-! ## Flushes and power of an HS port -/

/-- A port whose TT holds nothing. -/
def ttIdled (p : DownPortState) : DownPortState := { p with ttPeriodic := 0, ttNonPeriodic := 0 }

theorem flushEgress_ports {e : Nat} (he : e ≠ 0) (cut : Bool) (s : State) :
    (flushEgress cut e s).2.ports = listModify s.ports (e - 1) ttIdled := by
  have hrel (l : List Nat) (t : State) : (releaseCells l t).ports = t.ports := by simp
  simp only [flushEgress, if_neg he, apply_ite State.ports, hrel]
  exact ite_self _

theorem countDropped_ports (l : List Nat) (s : State) : (countDropped l s).ports = s.ports := by
  refine foldl_keeps State.ports _ (fun s i => ?_) l s
  split
  · split
    · simp
    · rfl
  · rfl

/-- A flush of a port empties its TT. -/
theorem flushPort_ports (k : Nat) (s : State) : (flushPort k s).ports = listModify s.ports k ttIdled := by
  have hheld (iso : Nat) (t : State) : (endHold (k + 1) 2 iso t).ports = t.ports := by simp
  unfold flushPort flushLink
  split
  · split
    · rw [hheld, flushEgress_ports (by omega), countDropped_ports]
      rfl
    · exact flushEgress_ports (by omega) _ _
  · exact flushEgress_ports (by omega) _ _

theorem portOf_flushPort {k : Nat} {s : State} (hlen : k < s.ports.length) : portOf k (flushPort k s) = ttIdled (portOf k s) := by
  rw [portOf, flushPort_ports]
  exact listModify_getD_same hlen _ _

theorem portOf_cutPower {k : Nat} (hk : 4 ≤ k) {s : State} (hlen : k < s.ports.length) :
    portOf k (cutPower k s) = ttIdled { (portOf k s).sidesOff.detach with powered := false } := by
  have hoff : cutPower k s = flushPort k (mapPort k (fun p => { p.sidesOff.detach with powered := false }) s) := if_neg (by omega)
  rw [hoff, portOf_flushPort (by rwa [mapPort_length]), portOf_mapPort hlen]

/-- Power returns to an HS port that may have it. -/
theorem restorePower_on {k : Nat} (hk : 4 ≤ k) {s : State} (hfit : fitted k s = true) (hact : s.cfg.active.isSome = true)
    (hallow : powerAllowed k s = true) (hoff : (portOf k s).powered = false) :
    restorePower k s = mapPort k (fun p => { p with powered := true, powerTick := s.clk.tick }) s := by
  rw [restorePower, isUpstreamB_hs hk, hfit, hact, hallow, hoff, if_neg (by simp), if_neg (by simp), if_neg (by omega), if_neg (by simp)]

/-- What the return of power to an HS port leaves. -/
theorem restorePower_hs {k : Nat} (hk : 4 ≤ k) {s : State} (hlen : k < s.ports.length) : Frame [.ports] s (restorePower k s) ∧
    (portOf k (restorePower k s)).forceOff = (portOf k s).forceOff ∧ (portOf k (restorePower k s)).cycleEnd = (portOf k s).cycleEnd ∧
    (portOf k (restorePower k s)).ocLatch = (portOf k s).ocLatch := by
  have same : Frame [.ports] s s := Frame_refl _ s
  rw [restorePower, isUpstreamB_hs hk, if_neg (by simp)]
  split
  · exact ⟨same, rfl, rfl, rfl⟩
  · rw [if_neg (by omega)]
    split
    · exact ⟨same, rfl, rfl, rfl⟩
    · rw [portOf_mapPort hlen]
      exact ⟨mapPort_frame _ _ s, rfl, rfl, rfl⟩

/-! ## Port status (R155) -/

/-- A bit of a number, read as its value 0 or 1. -/
theorem bitOf_eq {n k : Nat} {b : Bool} (h : n / 2 ^ k % 2 = bit b) : bitOf n k = b := by
  rw [bitOf, h]
  cases b <;> rfl

theorem status2_bits (x : Side) (power oc : Bool) :
    bitOf (status2 x power oc) 0 = x.connection ∧ bitOf (status2 x power oc) 8 = power := by
  have hspeed : ∃ n, status2 x power oc = bit x.connection + bit x.enable * 2 + bit x.suspend * 4 + bit oc * 8 + bit x.l1 * 32
      + bit power * 256 + n * 512 := by
    rw [status2]
    split
    · exact ⟨1 + 4 * bit (x.test != 0), by omega⟩
    · exact ⟨2 + 4 * bit (x.test != 0), by omega⟩
    · exact ⟨4 * bit (x.test != 0), by omega⟩
  obtain ⟨n, hn⟩ := hspeed
  have h1 := bit_le_one x.connection
  have h2 := bit_le_one x.enable
  have h3 := bit_le_one x.suspend
  have h4 := bit_le_one oc
  have h5 := bit_le_one x.l1
  have h6 := bit_le_one power
  constructor <;> refine bitOf_eq ?_ <;> rw [hn] <;> omega

theorem status3_bits (x : Side) (power oc : Bool) :
    bitOf (status3 x power oc) 0 = x.connection ∧ bitOf (status3 x power oc) 9 = power := by
  have h1 := bit_le_one x.connection
  have h2 := bit_le_one x.enable
  have h3 := bit_le_one oc
  have h4 := bit_le_one power
  have h5 : x.linkReq % 16 < 16 := Nat.mod_lt _ (by decide)
  constructor <;> refine bitOf_eq ?_ <;> rw [status3] <;> omega

/-- wPortStatus of a side on either hub. -/
theorem status_bits (usb3 : Bool) (x : Side) (power oc : Bool) :
    bitOf (if usb3 then status3 x power oc else status2 x power oc) 0 = x.connection ∧
      bitOf (if usb3 then status3 x power oc else status2 x power oc) (if usb3 then 9 else 8) = power := by
  cases usb3
  · exact status2_bits x power oc
  · exact status3_bits x power oc

/-- PORT_CONNECTION and PORT_POWER follow the situation of the port. -/
theorem portStatus_situation (usb3 : Bool) (k : Nat) (s : State) : let conn := bitOf (portStatus usb3 k s).1 0
      let power := bitOf (portStatus usb3 k s).1 (if usb3 then 9 else 8)
      (situation usb3 k s = .absent → portStatus usb3 k s = (0, 0)) ∧
      (situation usb3 k s = .noPort → conn = false ∧ power = true) ∧
      (situation usb3 k s = .forced → conn = false ∧ power = false) ∧
      (situation usb3 k s = .owned → conn = false ∧ power = true) ∧
      (situation usb3 k s = .internal → conn = (s.hub.functionUsb3 == usb3) ∧ power = true) ∧
      (situation usb3 k s = .pass → conn = (sideOf usb3 (portOf k s)).connection ∧ power = (portOf k s).hostPower) := by
  refine ⟨fun h => ?_, fun h => ?_, fun h => ?_, fun h => ?_, fun h => ?_, fun h => ?_⟩ <;> simp only [portStatus, h]
  case refine_1 => cases usb3 <;> rfl
  all_goals exact status_bits usb3 _ _ _

/-! ## Requests to a port -/

/-- A request to a port of a hub that answers. -/
theorem onPort_answers {usb3 : Bool} {s : State} {n : Nat} (h : hubAnswers usb3 s = true) (hn : n ≠ 0) (f : Nat → State → State) :
    onPort usb3 n f (fresh s) = f (n - 1) (fresh s) := by
  have hfresh : hubAnswers usb3 (fresh s) = true := h
  rw [onPort, hfresh, if_neg (by simp), if_neg hn]

theorem exec_getPortStatus {usb3 : Bool} {s : State} {n : Fin 12} (h : hubAnswers usb3 s = true) (hn : n.val ≠ 0) :
    exec (.getPortStatus usb3 n) s = .next { fresh s with
      out := [.usbData (toBytesLE 2 (portStatus usb3 (n.val - 1) s).1 ++ toBytesLE 2 (portStatus usb3 (n.val - 1) s).2)] } :=
  congrArg Host.Outcome.next (onPort_answers h hn _)

/-- The situation is one in which the host's requests have no effect. -/
def hostless : Situation → Prop
  | .pass | .internal => False
  | _ => True

theorem featureRequest_hostless {usb3 : Bool} {k : Nat} {s : State} (h : hostless (situation usb3 k s)) (set : Bool) (f : PortFeature)
    (v : Nat) : featureRequest usb3 set f v k s = s := by
  unfold featureRequest
  split
  · rename_i hs
    exact (hs ▸ h : hostless .internal).elim
  · rename_i hs
    exact (hs ▸ h : hostless .pass).elim
  · rfl

theorem hostPower_hostless {usb3 : Bool} {k : Nat} {s : State} (h : hostless (situation usb3 k s)) :
    hostPowerOff usb3 k s = s ∧ hostPowerOn usb3 k s = s := by
  have hpass : situation usb3 k s ≠ .pass := by
    intro hs
    rw [hs] at h
    exact h
  exact ⟨if_neg hpass, if_neg hpass⟩

/-- A pass-through HS port is on the USB 2 hub, fitted and neither owned nor forced off. -/
theorem situation_pass {usb3 : Bool} {k : Nat} {s : State} (hk : 4 ≤ k) (h : situation usb3 k s = .pass) :
    usb3 = false ∧ fitted k s = true ∧ s.cfg.active.isSome = true ∧ (portOf k s).forceOff = false ∧ (portOf k s).owned = false := by
  unfold situation at h
  split at h
  · cases h
  · split at h
    · split at h <;> cases h
    · rename_i hdev
      split at h
      · cases h
      · split at h
        · cases h
        · rename_i hforce husb
          split at h
          · cases h
          · rename_i hown
            simp only [not_or, not_and] at hdev husb
            obtain ⟨-, hact, hfit, -⟩ := hdev
            refine ⟨?_, by simpa using hfit, by simpa [Option.isSome_iff_ne_none] using hact, by simpa using hforce, by simpa using hown⟩
            cases usb3
            · rfl
            · exact absurd hk (husb rfl)

theorem exec_clearPortPower {usb3 : Bool} {s : State} {n : Fin 12} (h : hubAnswers usb3 s = true) (hk : 5 ≤ n.val)
    (hlen : n.val - 1 < s.ports.length) (hpass : situation usb3 (n.val - 1) s = .pass) :
    ∃ t, exec (.clearPortPower usb3 n) s = .next t ∧ (portOf (n.val - 1) t).powered = false ∧ (portOf (n.val - 1) t).hostPower = false ∧
        (portOf (n.val - 1) t).usb2 = {} ∧ (portOf (n.val - 1) t).usb3 = {} ∧ t.clk = s.clk ∧ t.cfg = s.cfg ∧
        t.hub.connected = s.hub.connected := by
  obtain ⟨k, hkeq⟩ : ∃ k, k = n.val - 1 := ⟨_, rfl⟩
  rw [← hkeq] at hlen hpass ⊢
  obtain ⟨v, hv⟩ : ∃ v, v = mapPort k (fun p => { p with hostPower := false }) (fresh s) := ⟨_, rfl⟩
  have hport : portOf k (cutPower k v) = ttIdled { (portOf k v).sidesOff.detach with powered := false } :=
    portOf_cutPower (by omega) (by rw [hv, mapPort_length]; exact hlen)
  have hv' : portOf k v = { portOf k s with hostPower := false } := by
    rw [hv, portOf_mapPort (by exact hlen)]
    rfl
  have hcut := cutPower_cut k v
  obtain ⟨-, -, hclk, -, hcfg, -⟩ := hcut.groups
  have hexec : exec (.clearPortPower usb3 n) s = .next (emit (.handshake .ack) (cutPower k v)) := by
    refine congrArg Host.Outcome.next ((onPort_answers h (by omega) _).trans ?_)
    rw [← hkeq, hv, hostPowerOff, if_pos (by exact hpass)]
  refine ⟨_, hexec, ?_, ?_, ?_, ?_, hclk.trans (by rw [hv]; rfl), hcfg.trans (by rw [hv]; rfl), ?_⟩
  · exact congrArg DownPortState.powered hport
  · exact (congrArg DownPortState.hostPower hport).trans (congrArg DownPortState.hostPower hv')
  · exact congrArg DownPortState.usb2 hport
  · exact congrArg DownPortState.usb3 hport
  · have hhub := congrArg Hub.connected hcut.hub
    exact hhub.trans (by rw [hv]; rfl)

theorem exec_setPortPower {usb3 : Bool} {s : State} {n : Fin 12} (h : hubAnswers usb3 s = true) (hk : 5 ≤ n.val)
    (hlen : n.val - 1 < s.ports.length) (hpass : situation usb3 (n.val - 1) s = .pass) (hoff : (portOf (n.val - 1) s).powered = false) :
    ∃ t, exec (.setPortPower usb3 n) s = .next t ∧ Frame [.out, .ports] (fresh s) t ∧ (portOf (n.val - 1) t).hostPower = true ∧
        (portOf (n.val - 1) t).powered = true ∧ (portOf (n.val - 1) t).powerTick = s.clk.tick := by
  obtain ⟨k, hkeq⟩ : ∃ k, k = n.val - 1 := ⟨_, rfl⟩
  rw [← hkeq] at hlen hpass hoff ⊢
  obtain ⟨-, hfit, hact, hforce, -⟩ := situation_pass (by omega) hpass
  obtain ⟨v, hv⟩ : ∃ v, v = mapPort k (fun p => { p with hostPower := true }) (fresh s) := ⟨_, rfl⟩
  have hv' : portOf k v = { portOf k s with hostPower := true } := by
    rw [hv, portOf_mapPort (by exact hlen)]
    rfl
  have hallow : powerAllowed k v = true := by
    simp only [powerAllowed, hv', hforce]
    simp
  have hon := restorePower_on (k := k) (s := v) (by omega) (by rw [hv]; exact hfit) (by rw [hv]; exact hact) hallow (by rw [hv']; exact hoff)
  have hport : portOf k (restorePower k v) = { portOf k v with powered := true, powerTick := v.clk.tick } := by
    rw [hon, portOf_mapPort (by rw [hv, mapPort_length]; exact hlen)]
  refine ⟨emit (.handshake .ack) (restorePower k v), ?_, ?_, ?_, ?_, ?_⟩
  · refine congrArg Host.Outcome.next ((onPort_answers h (by omega) _).trans ?_)
    rw [← hkeq, hv, hostPowerOn, if_pos (by exact hpass)]
  · rw [hon, hv]
    exact Frame_mono (Frame_trans (mapPort_frame _ _ _) (Frame_trans (mapPort_frame _ _ _) (frame_out _ _))) (by simp)
  · exact (congrArg DownPortState.hostPower hport).trans (congrArg DownPortState.hostPower hv')
  · exact congrArg DownPortState.powered hport
  · exact (congrArg DownPortState.powerTick hport).trans (by rw [hv]; rfl)

/-- A port reset enables the port. -/
theorem exec_portReset {usb3 : Bool} {s : State} {n : Fin 12} (h : hubAnswers usb3 s = true) (hn : n.val ≠ 0)
    (hpass : situation usb3 (n.val - 1) s = .pass) (hpower : (portOf (n.val - 1) s).hostPower = true)
    (hlen : n.val - 1 < s.ports.length) (hconn : (sideOf usb3 (portOf (n.val - 1) s)).connection = true) :
    ∃ t, exec (.hubFeatureRequest usb3 n true .reset 0) s = .next t ∧ Frame [.out, .ports] (fresh s) t ∧
        (sideOf usb3 (portOf (n.val - 1) t)).enable = true ∧ (sideOf usb3 (portOf (n.val - 1) t)).cReset = true ∧
        t.out = [.portReset n.val false, .handshake .ack] := by
  obtain ⟨k, hkeq⟩ : ∃ k, k = n.val - 1 := ⟨_, rfl⟩
  rw [← hkeq] at hlen hpass hpower hconn ⊢
  obtain ⟨v, hv⟩ : ∃ v, v = mapSide usb3 k (featureSide usb3 true .reset 0) (fresh s) := ⟨_, rfl⟩
  have hside : sideOf usb3 (portOf k v) = featureSide usb3 true .reset 0 (sideOf usb3 (portOf k s)) := by
    rw [hv]
    exact portOf_mapSide (by exact hlen) _
  have hreset : (featureSide usb3 true .reset 0 (sideOf usb3 (portOf k s))).enable = true ∧
      (featureSide usb3 true .reset 0 (sideOf usb3 (portOf k s))).cReset = true := by
    simp only [featureSide, hconn]
    exact ⟨rfl, rfl⟩
  refine ⟨emit (.handshake .ack) (emit (.portReset (k + 1) false) v), ?_, ?_, ?_, ?_, ?_⟩
  · refine congrArg Host.Outcome.next ((onPort_answers h hn _).trans ?_)
    have hsit : situation usb3 k (fresh s) = .pass := hpass
    have hhost : (portOf k (fresh s)).hostPower = true := hpower
    have hwas : (sideOf usb3 (portOf k (fresh s))).connection = true := hconn
    rw [← hkeq, featureRequest, hsit, hv]
    simp only [reduceCtorEq, if_false, hhost, if_true, hwas, true_or, and_self]
    rfl
  · rw [hv]
    exact Frame_mono (Frame_trans (mapPort_frame _ _ _) (Frame_trans (frame_out _ _) (frame_out _ _))) (by simp)
  · exact (congrArg Side.enable hside).trans hreset.1
  · exact (congrArg Side.cReset hside).trans hreset.2
  · have hn' : k + 1 = n.val := by omega
    rw [hn', hv]
    rfl

/-- Settles O30: port status by the situation, requests that have no effect, and power and reset of a pass-through port. -/
theorem hubPortRequests : Obligations.HubPortRequests := by
  intro usb3 s h
  refine ⟨fun n hn => exec_getPortStatus h hn, fun k => portStatus_situation usb3 k s, fun n hn hsit => ?_, ?_,
    fun n hk hlen hpass => exec_clearPortPower h hk hlen hpass, fun n hk hlen hpass hoff => exec_setPortPower h hk hlen hpass hoff,
    fun n hn hpass hpower hlen hconn => exec_portReset h hn hpass hpower hlen hconn⟩
  · have hless : hostless (situation usb3 (n.val - 1) (fresh s)) := by
      rcases hsit with hs | hs | hs | hs <;> exact hs ▸ trivial
    obtain ⟨hoff, hon⟩ := hostPower_hostless hless
    refine ⟨fun set f v => ?_, ?_, ?_⟩ <;> refine congrArg Host.Outcome.next ((onPort_answers h hn _).trans ?_)
    · rw [featureRequest_hostless hless]
      rfl
    · rw [hon]
      rfl
    · rw [hoff]
      rfl
  · have hfresh : hubAnswers usb3 (fresh s) = true := h
    refine congrArg Host.Outcome.next ?_
    rw [onPort, hfresh]
    rfl

end Sys2Proof.Proofs
end

section
/-!
HS over-current, its repower and PORT.POWER (R157 to R159).
-/

namespace Sys2Proof.Proofs

open Sys2Proof
open Sys2Proof.Machine
open Sys2Proof.Safety
open Sys2Proof.Laws

/-! ## Over-current -/

/-- The over-currents of the last 60 s, newest first, after one more (R158). -/
def recentTrips (k : Nat) (s : State) : List Tick :=
  s.clk.tick :: (portOf k s).ocTimes.filter (fun t => decide (since t s ≤ 60 * Config.tkPerS))

/-- An owned port that stays off after the third over-current within 60 s. -/
def tripsLeft (k : Nat) (s : State) : Bool := (portOf k s).owned && decide (3 ≤ (recentTrips k s).length)

/-- The port after an over-current, before the host's side of a pass-through port is cleared. -/
def tripped (k : Nat) (s : State) : State :=
  mapPort k (fun p => { p with
    powered := false, ocLow := true, ocTimes := recentTrips k s, ocLatch := tripsLeft k s
    repower := p.owned && !tripsLeft k s }) s

/-- The host's side of a pass-through port after an over-current. -/
def hostCleared (k : Nat) (s : State) : State :=
  mapPort k (fun p => { p.sidesOff.detach with hostPower := false, usb2 := { cOverCurrent := true } }) (flushPort k s)

/-- A fault and an event leave ports, clock and configuration. -/
theorem announced_keeps (src : BitVec 12) (w0 : Word) (ps : List Word) (t : State) :
    (post w0 ps (raiseFault src t)).ports = t.ports ∧ (post w0 ps (raiseFault src t)).clk = t.clk ∧
      (post w0 ps (raiseFault src t)).cfg = t.cfg := by
  simp

/-- The fault and the event of an over-current. -/
def tripAnnounced (k : Nat) (left owned : Bool) (s : State) : State :=
  post 0o030102 [w18 (k + 1), w18 (bit left * 4 + bit owned)] (raiseFault (BitVec.ofNat 12 (0o4240 + (k - 4))) s)

theorem tripAnnounced_keeps (k : Nat) (left owned : Bool) (s : State) : (tripAnnounced k left owned s).ports = s.ports ∧
    (tripAnnounced k left owned s).clk = s.clk ∧ (tripAnnounced k left owned s).cfg = s.cfg :=
  announced_keeps _ _ _ s

theorem hsOverCurrent_eq (k : Nat) (s : State) : hsOverCurrent k s =
    if (portOf k s).owned then
      tripAnnounced k (tripsLeft k s) (portOf k s).owned (if (portOf k s).owned then tripped k s else hostCleared k (tripped k s))
    else wakeOnPort false k .overCurrent
      (tripAnnounced k (tripsLeft k s) (portOf k s).owned (if (portOf k s).owned then tripped k s else hostCleared k (tripped k s))) := rfl

theorem hsOverCurrent_owned {k : Nat} {s : State} (hlen : k < s.ports.length) (hown : (portOf k s).owned = true) :
    portOf k (hsOverCurrent k s) = { portOf k s with
      powered := false, ocLow := true, ocTimes := recentTrips k s, ocLatch := tripsLeft k s, repower := !tripsLeft k s } ∧
    (hsOverCurrent k s).clk = s.clk ∧ (hsOverCurrent k s).cfg = s.cfg := by
  rw [hsOverCurrent_eq, if_pos hown, if_pos hown]
  obtain ⟨hports, hclk, hcfg⟩ := tripAnnounced_keeps k (tripsLeft k s) (portOf k s).owned (tripped k s)
  refine ⟨?_, hclk, hcfg⟩
  rw [portOf_congr hports, tripped, portOf_mapPort hlen, hown, Bool.true_and]
  rw [← hown]

theorem hsOverCurrent_pass {k : Nat} {s : State} (hlen : k < s.ports.length) (hown : (portOf k s).owned = false) :
    (∃ q : DownPortState, portOf k (hsOverCurrent k s) =
      { q with powered := false, ocLow := true, hostPower := false, usb2 := { cOverCurrent := true }, usb3 := {} }) ∧
    (hsOverCurrent k s).clk = s.clk ∧ (hsOverCurrent k s).cfg = s.cfg := by
  rw [hsOverCurrent_eq, if_neg (by simp [hown]), if_neg (by simp [hown])]
  obtain ⟨hports, hclk, hcfg⟩ := tripAnnounced_keeps k (tripsLeft k s) (portOf k s).owned (hostCleared k (tripped k s))
  have hwake (t : State) : (wakeOnPort false k .overCurrent t).ports = t.ports ∧ (wakeOnPort false k .overCurrent t).clk = t.clk ∧
      (wakeOnPort false k .overCurrent t).cfg = t.cfg := by simp
  obtain ⟨hports', hclk', hcfg'⟩ := hwake (tripAnnounced k (tripsLeft k s) (portOf k s).owned (hostCleared k (tripped k s)))
  obtain ⟨-, -, hclk'', -, hcfg'', -⟩ := (flushPort_cut k (tripped k s)).groups
  have hlen' : k < (tripped k s).ports.length := by
    rw [tripped, mapPort_length]
    exact hlen
  refine ⟨?_, (hclk'.trans hclk).trans hclk'', (hcfg'.trans hcfg).trans hcfg''⟩
  rw [portOf_congr (hports'.trans hports), hostCleared, portOf_mapPort, portOf_flushPort hlen', tripped, portOf_mapPort hlen]
  · exact ⟨_, rfl⟩
  · rw [flushPort_ports, listModify_length]
    exact hlen'

theorem exec_hsOverCurrent {p : HsPort} {s : State} (hfw : fwRuns s = true) (hpow : (portOf (p.val + 4) s).powered = true)
    (hsince : 960 ≤ since (portOf (p.val + 4) s).powerTick s) :
    exec (.hsOverCurrent p) s = .next (hsOverCurrent (p.val + 4) (fresh s)) := by
  refine congrArg Host.Outcome.next (if_pos ?_)
  rw [Bool.and_eq_true, Bool.and_eq_true]
  exact ⟨⟨hfw, hpow⟩, decide_eq_true hsince⟩

/-- An owned HS port that is repowered. -/
theorem repowered_hs {k : Nat} (hk : 4 ≤ k) {s : State} (hlen : k < s.ports.length) (hown : (portOf k s).owned = true)
    (hforce : (portOf k s).forceOff = false) (hoff : (portOf k s).powered = false) (hfit : fitted k s = true)
    (hact : s.cfg.active.isSome = true) : ∃ t, restorePower k (mapPort k (fun q => { q with repower := false }) s) = t ∧
      Frame [.ports] s t ∧ (portOf k t).powered = true ∧ (portOf k t).repower = false ∧ (portOf k t).powerTick = s.clk.tick := by
  obtain ⟨v, hv⟩ : ∃ v, v = mapPort k (fun q => { q with repower := false }) s := ⟨_, rfl⟩
  have hv' : portOf k v = { portOf k s with repower := false } := by rw [hv, portOf_mapPort hlen]
  have hallow : powerAllowed k v = true := by
    simp only [powerAllowed, hv', hforce, hown]
    rfl
  have hon := restorePower_on (k := k) (s := v) hk (by rw [hv]; exact hfit) (by rw [hv]; exact hact) hallow (by rw [hv']; exact hoff)
  have hport : portOf k (restorePower k v) = { portOf k v with powered := true, powerTick := v.clk.tick } := by
    rw [hon, portOf_mapPort (by rw [hv, mapPort_length]; exact hlen)]
  refine ⟨restorePower k v, by rw [hv], ?_, ?_, ?_, ?_⟩
  · rw [hon, hv]
    exact Frame_mono (Frame_trans (mapPort_frame _ _ _) (mapPort_frame _ _ _)) (by simp)
  · exact congrArg DownPortState.powered hport
  · exact (congrArg DownPortState.repower hport).trans (congrArg DownPortState.repower hv')
  · exact (congrArg DownPortState.powerTick hport).trans (by rw [hv]; rfl)

theorem exec_ownedPortRepower {p : HsPort} {s : State} {x : Tick} {rest : List Tick} (hfw : fwRuns s = true)
    (hown : (portOf (p.val + 4) s).owned = true) (hrep : (portOf (p.val + 4) s).repower = true)
    (hlatch : (portOf (p.val + 4) s).ocLatch = false) (hforce : (portOf (p.val + 4) s).forceOff = false)
    (htimes : (portOf (p.val + 4) s).ocTimes = x :: rest) (hsince : 48000 ≤ since x s) :
    exec (.ownedPortRepower p) s =
      .next (restorePower (p.val + 4) (mapPort (p.val + 4) (fun q => { q with repower := false }) (fresh s))) := by
  have hq : portOf (p.val + 4) (fresh s) = portOf (p.val + 4) s := rfl
  have hfw' : fwRuns (fresh s) = true := hfw
  have hwaited : decide (Config.tkPerS ≤ since x (fresh s)) = true := decide_eq_true hsince
  have hguard : (fwRuns (fresh s) && (portOf (p.val + 4) (fresh s)).owned && (portOf (p.val + 4) (fresh s)).repower &&
      !(portOf (p.val + 4) (fresh s)).ocLatch && !(portOf (p.val + 4) (fresh s)).forceOff && decide (Config.tkPerS ≤ since x (fresh s))) = true := by
    rw [hq, hfw', hown, hrep, hlatch, hforce, hwaited]
    rfl
  refine congrArg Host.Outcome.next ?_
  simp only [hq, htimes, List.head?_cons]
  exact if_pos hguard

/-! ## PORT.POWER -/

/-- ALLOW on an HS port ends FORCE_OFF, its time and the over-current latch, and touches the ports alone. -/
theorem allowPower_hs {k : Nat} (hk : 4 ≤ k) {s : State} (hlen : k < s.ports.length) : Frame [.ports] s (allowPower k s) ∧
    (portOf k (allowPower k s)).forceOff = false ∧ (portOf k (allowPower k s)).cycleEnd = none ∧
    (portOf k (allowPower k s)).ocLatch = false := by
  obtain ⟨v, hv⟩ : ∃ v, v = mapPort k (fun p => { p with forceOff := false, cycleEnd := none, ocLatch := false, ocTimes := [] }) s :=
    ⟨_, rfl⟩
  have hport : portOf k v = { portOf k s with forceOff := false, cycleEnd := none, ocLatch := false, ocTimes := [] } := by
    rw [hv, portOf_mapPort hlen]
  obtain ⟨hframe, hforce, hcycle, hlatch⟩ := restorePower_hs (s := v) hk (by rw [hv, mapPort_length]; exact hlen)
  have heq : allowPower k s = restorePower k v := by rw [hv, allowPower]
  rw [heq]
  refine ⟨Frame_mono (Frame_trans (hv ▸ mapPort_frame _ _ s) hframe) (by simp), ?_, ?_, ?_⟩
  · rw [hforce, hport]
  · rw [hcycle, hport]
  · rw [hlatch, hport]

/-- FORCE_OFF of an HS port. -/
theorem portOf_forceOff {k : Nat} (hk : 4 ≤ k) {s : State} (hlen : k < s.ports.length) :
    (portOf k (forceOff k s)).forceOff = true ∧ (portOf k (forceOff k s)).powered = false ∧
      (forceOff k s).ports.length = s.ports.length := by
  obtain ⟨v, hv⟩ : ∃ v, v = mapPort k (fun p => { p with forceOff := true, repower := false }) s := ⟨_, rfl⟩
  have heq : forceOff k s = cutPower k v := by
    rw [hv, forceOff, isUpstreamB_hs hk]
    rfl
  have hvlen : v.ports.length = s.ports.length := by rw [hv, mapPort_length]
  have hport : (portOf k v).forceOff = true := by rw [hv, portOf_mapPort hlen]
  have hcut : cutPower k v = flushPort k (mapPort k (fun p => { p.sidesOff.detach with powered := false }) v) := if_neg (by omega)
  refine ⟨?_, ?_, ?_⟩
  · rw [heq, portOf_cutPower hk (by rw [hvlen]; exact hlen)]
    exact hport
  · rw [heq, portOf_cutPower hk (by rw [hvlen]; exact hlen)]
    rfl
  · rw [heq, hcut, flushPort_ports, listModify_length, mapPort_length, hvlen]

/-- FORCE_OFF with the end of its time. -/
theorem portOf_forceOff_until {k : Nat} (hk : 4 ≤ k) {s : State} (hlen : k < s.ports.length) (e : Option Tick) :
    let v := mapPort k (fun p => { p with cycleEnd := e }) (forceOff k s)
    (portOf k v).forceOff = true ∧ (portOf k v).powered = false ∧ (portOf k v).cycleEnd = e := by
  obtain ⟨hforce, hoff, hlen'⟩ := portOf_forceOff hk hlen
  have hport := portOf_mapPort (k := k) (s := forceOff k s) (by rwa [hlen']) (fun p => { p with cycleEnd := e })
  exact ⟨(congrArg DownPortState.forceOff hport).trans hforce, (congrArg DownPortState.powered hport).trans hoff,
    congrArg DownPortState.cycleEnd hport⟩

/-- The result of PORT.POWER on an HS port that FORCE_OFF turned off shows FORCED_OFF. -/
theorem powerWord_forced {k : Nat} (hk : 4 ≤ k) {s : State} (hforce : (portOf k s).forceOff = true) (hoff : (portOf k s).powered = false) :
    (powerWord k s).toNat / 4 = 1 := by
  have hle := bit_le_one (portOf k s).hostPower
  have hword : powerWord k s = w18 (4 + bit (portOf k s).hostPower * 2) := by
    rw [powerWord, hforce, hoff, if_neg (by omega)]
    rfl
  rw [hword, w18, BitVec.toNat_ofNat]
  omega

section Power

variable {s u : State} {c : Command}

/-- PORT.POWER on a fitted HS port passes its checks. -/
theorem checkPower_ok (hlow : 5 ≤ c.p 1) (hhigh : c.p 1 ≤ 10) (hfit : fitted (c.p 1 - 1) u = true) (hmode : c.p 2 ≤ 2)
    (htime : (if c.p 2 = 2 then decide (100 ≤ c.p 3) && decide (c.p 3 ≤ 10000) else c.p 3 == 0) = true) : checkPower c u = stOk := by
  rw [checkPower, htime, hfit, decide_eq_false (show ¬ c.p 1 < 1 by omega), decide_eq_false (Nat.not_lt.mpr hhigh),
    decide_eq_false (Nat.not_lt.mpr hmode), decide_eq_false (show ¬ c.p 1 - 1 < 4 by omega)]
  rfl

theorem fitted_of_Taken {code : Nat} {v : Command → Bool} {n : Command → State → Bool} (h : Taken code v n s c u) (k : Nat) :
    fitted k u = fitted k s := Taken_same h (fitted k) fun _ _ _ _ _ _ => rfl

theorem ports_of_Taken {code : Nat} {v : Command → Bool} {n : Command → State → Bool} (h : Taken code v n s c u) :
    u.ports = s.ports := Taken_same h State.ports fun _ _ _ _ _ _ => rfl

/-- PORT.POWER answers with the state of the port after its mode. -/
theorem portPower_runs {v : Command → Bool} {t : State} (run : Command → Nat → State → State) (h : Taken 0o0305 v noAuth s c u)
    (hcheck : checkPower c u = stOk) (hrun : run c (c.p 1 - 1) u = t) :
    effect (portPower v run) s = .next (replied c [powerWord (c.p 1 - 1) t] t) := by
  subst hrun
  exact immediate_taken _ _ h hcheck

end Power

/-- Settles O32: over-currents and repower of HS ports, and the three modes of PORT.POWER with the end of a cycle. -/
theorem hsPowerAndOverCurrent : Obligations.HsPowerAndOverCurrent := by
  refine ⟨fun p s hfw hlen => ⟨fun hpow hsince hown => ?_, fun hpow hsince hown => ?_, fun hsince => ?_,
    fun x rest hown hrep hlatch hforce hoff htimes hsince hfit hact _ => ?_⟩,
    fun s u c hlow hhigh hfit hlen => ⟨fun h hmode htime => ?_, fun h htime => ?_, fun h htlow hthigh => ?_⟩,
    fun p e s hend hfw he hlen hk => ?_⟩
  · obtain ⟨⟨q, hq⟩, hclk, hcfg⟩ := hsOverCurrent_pass (s := fresh s) hlen hown
    exact ⟨_, exec_hsOverCurrent hfw hpow hsince, by rw [hq], by rw [hq], by rw [hq], by rw [hq], by rw [hq], hclk, hcfg⟩
  · obtain ⟨hq, hclk, hcfg⟩ := hsOverCurrent_owned (s := fresh s) hlen hown
    refine ⟨_, exec_hsOverCurrent hfw hpow hsince, by rw [hq], by rw [hq], ?_, by rw [hq], hclk, hcfg⟩
    have hown' : (portOf (p.val + 4) (fresh s)).owned = true := hown
    rw [hq]
    simp only [tripsLeft, hown', Bool.true_and, recentTrips, List.length_cons]
    exact decide_eq_true_iff.trans Nat.succ_le_succ_iff
  · refine congrArg Host.Outcome.next (if_neg ?_)
    rw [Bool.and_eq_true]
    exact fun h => absurd (of_decide_eq_true h.2) (Nat.not_le.mpr hsince)
  · obtain ⟨t, ht, hframe, hport⟩ := repowered_hs (s := fresh s) (by omega) hlen hown hforce hoff hfit hact
    exact ⟨t, ht ▸ exec_ownedPortRepower hfw hown hrep hlatch hforce htimes hsince, hframe, hport⟩
  · obtain ⟨-, hforce, -, hlatch⟩ := allowPower_hs (k := c.p 1 - 1) (by omega) (s := u) (by rw [ports_of_Taken h]; exact hlen)
    exact ⟨_, rfl, immediate_taken _ _ h (checkPower_ok hlow hhigh (by rw [fitted_of_Taken h]; exact hfit) (by omega)
      (by rw [if_neg (by omega), htime]; rfl)), hforce, hlatch⟩
  · have hmode : c.p 2 = 1 := by simpa using Taken_variant h
    obtain ⟨hforce, hoff, hcycle⟩ := portOf_forceOff_until (k := c.p 1 - 1) (by omega) (s := u) (by rw [ports_of_Taken h]; exact hlen) none
    exact ⟨_, portPower_runs _ h (checkPower_ok hlow hhigh (by rw [fitted_of_Taken h]; exact hfit) (by omega)
      (by rw [if_neg (by omega), htime]; rfl)) rfl, hforce, hoff, hcycle, powerWord_forced (by omega) hforce hoff⟩
  · have hmode : c.p 2 = 2 := by simpa using Taken_variant h
    obtain ⟨v, hv⟩ : ∃ v, v = mapPort (c.p 1 - 1) (fun p => { p with cycleEnd := some (u.clk.tick + BitVec.ofNat 54 (c.p 3 * 48)) })
      (forceOff (c.p 1 - 1) u) := ⟨_, rfl⟩
    obtain ⟨hforce, hoff, hcycle⟩ := portOf_forceOff_until (k := c.p 1 - 1) (by omega) (s := u) (by rw [ports_of_Taken h]; exact hlen)
      (some (u.clk.tick + BitVec.ofNat 54 (c.p 3 * 48)))
    rw [← hv] at hforce hoff hcycle
    have hcheck : checkPower c u = stOk := checkPower_ok hlow hhigh (by rw [fitted_of_Taken h]; exact hfit) (by omega)
      (by rw [if_pos hmode, decide_eq_true htlow, decide_eq_true hthigh]; rfl)
    exact ⟨v, portPower_runs _ h hcheck ((if_neg (by omega)).trans hv.symm), hforce, hoff, by rw [hcycle, clk_of_Taken h]⟩
  · obtain ⟨hframe, hforce, hcycle, -⟩ := allowPower_hs (k := p.val) hk (s := fresh s) hlen
    refine ⟨allowPower p.val (fresh s), ?_, hframe, hforce, hcycle⟩
    have hend' : (portOf p.val (fresh s)).cycleEnd = some e := hend
    refine congrArg Host.Outcome.next ?_
    simp only [hend']
    exact if_pos ⟨hfw, he⟩

end Sys2Proof.Proofs
end

section
/-!
TT requests, LPM, suspend, resume and remote wake (R160 to R164, R202).
-/

namespace Sys2Proof.Proofs

open Sys2Proof
open Sys2Proof.Machine
open Sys2Proof.Safety
open Sys2Proof.Laws

/-! ## Cells that leave a TT -/

/-- No cell's reference count is known to be wrong (R204). -/
def RefsGood (s : State) : Prop := ∀ c ∈ s.sw.cells, c.2.refBad = false

/-- An operation on the core alone that keeps the references good. -/
structure CoreStep (s t : State) : Prop where
  core : t = { s with sw := t.sw }
  good : RefsGood t

theorem CoreStep.trans {s t u : State} (h : CoreStep s t) (h' : CoreStep t u) : CoreStep s u :=
  ⟨by rw [h'.core, h.core], h'.good⟩

theorem CoreStep.foldl {α : Type} {f : State → α → State} (h : ∀ s a, RefsGood s → CoreStep s (f s a)) (l : List α) {s : State}
    (hs : RefsGood s) : CoreStep s (l.foldl f s) := by
  induction l generalizing s with
  | nil => exact ⟨rfl, hs⟩
  | cons a l ih => exact (h s a hs).trans (ih (h s a hs).good)

theorem mem_insertKey {α : Type} {l : List (Nat × α)} {k : Nat} {v : α} {x : Nat × α} (h : x ∈ insertKey l k v) : x ∈ l ∨ x = (k, v) := by
  induction l with
  | nil => simpa [insertKey] using h
  | cons y l ih =>
    obtain ⟨j, w⟩ := y
    rw [insertKey] at h
    split at h
    · rcases List.mem_cons.mp h with h | h
      · exact .inr h
      · exact .inl (List.mem_cons_of_mem _ h)
    · split at h
      · rcases List.mem_cons.mp h with h | h
        · exact .inr h
        · exact .inl h
      · rcases List.mem_cons.mp h with h | h
        · exact .inl (h ▸ List.mem_cons_self)
        · exact (ih h).imp_left (List.mem_cons_of_mem _)

theorem releaseCell_core (i : Nat) {s : State} (hs : RefsGood s) : CoreStep s (releaseCell i s) := by
  unfold releaseCell
  split
  · exact ⟨rfl, hs⟩
  · rename_i c hc
    obtain ⟨x, hx, rfl⟩ := Option.map_eq_some_iff.mp hc
    have hgood : x.2.refBad = false := hs x (List.mem_of_find?_eq_some hx)
    rw [if_neg (by simp [hgood])]
    split
    · exact ⟨rfl, fun y hy => hs y (List.mem_filter.mp hy).1⟩
    · refine ⟨rfl, fun y hy => ?_⟩
      rcases mem_insertKey hy with h | rfl
      · exact hs y h
      · exact hgood

theorem releaseCells_core (l : List Nat) {s : State} (hs : RefsGood s) : CoreStep s (releaseCells l s) :=
  .foldl (fun _ i => releaseCell_core i) l hs

/-! ## TT requests -/

/-- An operation on the core and on one port. -/
structure PortStep (k : Nat) (g : DownPortState → DownPortState) (s t : State) : Prop where
  groups : t = { s with sw := t.sw, ports := t.ports }
  ports : t.ports = listModify s.ports k g
  good : RefsGood t

/-- The TT of a port has no more transactions of a kind. -/
def ttZero (per : Bool) (p : DownPortState) : DownPortState := if per then { p with ttPeriodic := 0 } else { p with ttNonPeriodic := 0 }

theorem countTt_step (per : Bool) (k : Nat) {s t : State} (h : CoreStep s t) :
    PortStep k (ttZero per) s (countTt per (fun _ => 0) k t) := by
  have hports : t.ports = s.ports := by rw [h.core]
  refine ⟨?_, ?_, h.good⟩
  · rw [countTt, h.core]
  · rw [← hports]
    rfl

theorem ttDrop_step (per : Bool) (k : Nat) {s : State} (hs : RefsGood s) :
    PortStep k (ttZero per) s (ttDrop per k s) := by
  unfold ttDrop
  split
  · exact countTt_step per k ⟨rfl, hs⟩
  · refine countTt_step per k (.foldl (fun t c ht => ?_) _ hs)
    exact .trans (t := setQueue (k + 1) c _ t) ⟨rfl, ht⟩ (releaseCells_core _ ht)

theorem PortStep.trans {k : Nat} {f g : DownPortState → DownPortState} {s t u : State} (h : PortStep k f s t) (h' : PortStep k g t u) :
    PortStep k (fun p => g (f p)) s u :=
  ⟨by rw [h'.groups, h.groups], by rw [h'.ports, h.ports, listModify_twice], h'.good⟩

theorem mapPort_step (k : Nat) (g : DownPortState → DownPortState) {s : State} (hs : RefsGood s) : PortStep k g s (mapPort k g s) :=
  ⟨rfl, rfl, hs⟩

/-- What a TT request does to the ports that it hits. -/
def ttEffect : TtRequest → DownPortState → DownPortState
  | .clearBuffer, p => { p with ttNonPeriodic := 0 }
  | .reset, p => { p with ttPeriodic := 0, ttNonPeriodic := 0, ttStopped := false }
  | .stop, p => { p with ttStopped := true }
  | .getState, p => p

theorem ttEffect_twice (r : TtRequest) (p : DownPortState) : ttEffect r (ttEffect r p) = ttEffect r p := by cases r <;> rfl

/-- A request over the ports that it hits. -/
theorem eachPort {f : Nat → State → State} {g : DownPortState → DownPortState} (hf : ∀ k s, RefsGood s → PortStep k g s (f k s))
    (hg : ∀ p, g (g p) = g p) (hit : Nat → Bool) (l : List Nat) {s : State} (hs : RefsGood s) :
    let t := l.foldl (fun s k => if hit k then f k s else s) s
    t = { s with sw := t.sw, ports := t.ports } ∧ t.ports.length = s.ports.length ∧
      ∀ j, portOf j t = if j ∈ l ∧ hit j = true ∧ j < s.ports.length then g (portOf j s) else portOf j s := by
  induction l generalizing s with
  | nil => exact ⟨rfl, rfl, fun j => by rw [if_neg (by simp)]; rfl⟩
  | cons k l ih =>
    dsimp only
    rw [List.foldl_cons]
    by_cases hk : hit k = true
    · rw [if_pos hk]
      obtain ⟨hgroups, hports, hgood⟩ := hf k s hs
      obtain ⟨ihgroups, ihlen, ihports⟩ := ih hgood
      have hlen : (f k s).ports.length = s.ports.length := by rw [hports, listModify_length]
      refine ⟨?_, ihlen.trans hlen, fun j => ?_⟩
      · rw [ihgroups, hgroups]
      · rw [ihports, hlen, portOf, hports, listModify_getD]
        by_cases hj : j = k
        · subst hj
          by_cases hl : j < s.ports.length <;> by_cases hm : j ∈ l <;> simp [hl, hm, hk, hg, portOf]
        · simp [hj, portOf]
    · rw [if_neg hk]
      obtain ⟨ihgroups, ihlen, ihports⟩ := ih hs
      refine ⟨ihgroups, ihlen, fun j => ?_⟩
      rw [ihports]
      by_cases hj : j = k
      · subst hj
        simp [hk]
      · simp [hj]

/-- A port is hit by a TT request to a port of the hub (R160). -/
def ttHit (p : DownPort) (s : State) (k : Nat) : Bool := !(portOf k s).owned && (s.hub.altHub == 0 || k == p.val)

/-- A TT request but GET_TT_STATE. -/
def ttRequested (r : TtRequest) (k : Nat) (s : State) : State :=
  match r with
  | .getState => s
  | .clearBuffer => ttDrop false k s
  | .reset => mapPort k (fun x => { x with ttStopped := false }) (ttDrop true k (ttDrop false k s))
  | .stop => mapPort k (fun x => { x with ttStopped := true }) s

theorem ttRequested_step (r : TtRequest) (hr : r ≠ .getState) (k : Nat) (s : State) (hs : RefsGood s) :
    PortStep k (ttEffect r) s (ttRequested r k s) := by
  cases r with
  | clearBuffer => exact ttDrop_step false k hs
  | reset =>
    have h := ttDrop_step false k hs
    have h' := ttDrop_step true k h.good
    exact (h.trans h').trans (mapPort_step k (fun x => { x with ttStopped := false }) h'.good)
  | stop => exact mapPort_step k _ hs
  | getState => exact absurd rfl hr

theorem exec_ttRequest {p : DownPort} {r : TtRequest} {s : State} (h : hubAnswers false s = true) (hr : r ≠ .getState) :
    exec (.ttRequest p r) s = .next (emit (.handshake .ack)
      ((List.range 10).foldl (fun s' k => if ttHit p s k then ttRequested r k s' else s') (fresh s))) := by
  have hfresh : hubAnswers false (fresh s) = true := h
  refine congrArg Host.Outcome.next ?_
  dsimp only
  rw [hfresh, if_neg (by simp)]
  cases r with
  | getState => exact absurd rfl hr
  | clearBuffer => rfl
  | reset => rfl
  | stop => rfl

theorem frame_core (s : State) (o : List Out) (w : Switch) (l : List DownPortState) :
    Frame [.out, .ports, .sw] s { s with out := o, sw := w, ports := l } := by
  intro g hg
  cases g <;> simp_all [same]

/-- A TT request touches the ports it hits, and the cells of their queues. -/
theorem ttRequest_effect {p : DownPort} {r : TtRequest} {s : State} (h : hubAnswers false s = true) (hr : r ≠ .getState)
    (hs : RefsGood s) : ∃ t, exec (.ttRequest p r) s = .next t ∧ Frame [.out, .ports, .sw] (fresh s) t ∧ t.out = [.handshake .ack] ∧
      ∀ k, portOf k t = if k < 10 ∧ ttHit p s k = true ∧ k < s.ports.length then ttEffect r (portOf k s) else portOf k s := by
  obtain ⟨hgroups, -, hports⟩ := eachPort (ttRequested_step r hr) (ttEffect_twice r) (ttHit p s) (List.range 10) (s := fresh s) hs
  refine ⟨_, exec_ttRequest h hr, ?_, ?_, fun k => ?_⟩
  · rw [hgroups]
    exact frame_core _ _ _ _
  · rw [hgroups]
    rfl
  · have hk := hports k
    simp only [List.mem_range] at hk
    exact hk

theorem ttHit_iff {p : DownPort} {s : State} {k : Nat} :
    ttHit p s k = true ↔ (portOf k s).owned = false ∧ (s.hub.altHub = 0 ∨ k = p.val) := by
  simp [ttHit]

theorem ttRequest_ports {p : DownPort} {r : TtRequest} {s t : State} {k : Nat}
    (h : portOf k t = if k < 10 ∧ ttHit p s k = true ∧ k < s.ports.length then ttEffect r (portOf k s) else portOf k s) :
    (k < 10 → (portOf k s).owned = false → (s.hub.altHub = 0 ∨ k = p.val) →
      (r = .reset → (portOf k t).ttPeriodic = 0 ∧ (portOf k t).ttNonPeriodic = 0 ∧ (portOf k t).ttStopped = false) ∧
      (r = .clearBuffer → (portOf k t).ttNonPeriodic = 0 ∧ (portOf k t).ttPeriodic = (portOf k s).ttPeriodic) ∧
      (r = .stop → k < s.ports.length → (portOf k t).ttStopped = true)) ∧
    ((10 ≤ k ∨ (portOf k s).owned = true ∨ (s.hub.altHub ≠ 0 ∧ k ≠ p.val)) → portOf k t = portOf k s) := by
  refine ⟨fun hlt hown hhit => ?_, fun hout => ?_⟩
  · by_cases hlen : k < s.ports.length
    · rw [if_pos ⟨hlt, ttHit_iff.mpr ⟨hown, hhit⟩, hlen⟩] at h
      rw [h]
      refine ⟨?_, ?_, ?_⟩ <;> rintro rfl
      · exact ⟨rfl, rfl, rfl⟩
      · exact ⟨rfl, rfl⟩
      · exact fun _ => rfl
    · have hnone : portOf k s = {} := List.getD_eq_default _ _ (Nat.le_of_not_lt hlen)
      rw [if_neg (fun hx => hlen hx.2.2), hnone] at h
      rw [h, hnone]
      exact ⟨fun _ => ⟨rfl, rfl, rfl⟩, fun _ => ⟨rfl, rfl⟩, fun _ hx => absurd hx hlen⟩
  · rw [h, if_neg]
    rintro ⟨hlt, hhit, -⟩
    obtain ⟨hown, hport⟩ := ttHit_iff.mp hhit
    rcases hout with h10 | hx | ⟨hx, hy⟩
    · omega
    · rw [hown] at hx
      cases hx
    · exact hport.elim hx hy

/-! ## LPM, suspend and resume -/

theorem exec_lpmTransaction {s : State} (h : usbReach s = true) :
    (s.hub.altPlay = 0 → s.hub.altCap = 0 → exec .lpmTransaction s = .next { fresh s with
        out := [.handshake .ack], hub := { s.hub with l1 := true } }) ∧
      ((s.hub.altPlay ≠ 0 ∨ s.hub.altCap ≠ 0) → exec .lpmTransaction s = .next { fresh s with out := [.handshake .nyet] }) := by
  have hfresh : (!usbReach (fresh s)) = false := by
    rw [show usbReach (fresh s) = true from h]
    rfl
  refine ⟨fun hplay hcap => ?_, fun hstream => ?_⟩ <;> refine congrArg Host.Outcome.next ((if_neg (by rw [hfresh]; decide)).trans ?_)
  · refine if_pos ?_
    simp [streamsIdle, fresh, hplay, hcap]
  · refine if_neg ?_
    simp only [streamsIdle, fresh, Bool.and_eq_true, beq_iff_eq]
    exact fun hx => hstream.elim (· hx.1) (· hx.2)

theorem exec_upstreamSuspend {s : State} (hconn : s.hub.connected = true) (hsusp : s.hub.suspended = false) :
    exec .upstreamSuspend s = .next { fresh s with
      hub := { s.hub with suspended := true, l1 := false, ssLink := if onUsb3 s.hub.ssLink then .u3 else s.hub.ssLink } } := by
  refine congrArg Host.Outcome.next (if_pos ?_)
  simp [fresh, hconn, hsusp]

theorem exec_hostResume {s : State} (hit : Bool) (hconn : s.hub.connected = true) (hlow : s.hub.suspended = true ∨ s.hub.l1 = true)
    (hawake : awake s = true) : exec (.hostResume hit) s = .next (resumeFace hit (fresh s)) := by
  have hfresh : awake (fresh s) = true := hawake
  refine congrArg Host.Outcome.next (if_pos ?_)
  rw [hfresh]
  simp [fresh, hconn, hlow]

/-! ## Remote wake -/

/-- An event that the wake mask of a port lets pass (R163). -/
def wakeMasked (usb3 : Bool) (e : WakeEvent) (m : Nat) : Bool :=
  match e with
  | .deviceResume => true
  | .connect => !usb3 || bitOf m 0
  | .disconnect => !usb3 || bitOf m 1
  | .overCurrent => !usb3 || bitOf m 2

theorem wakeMasked_true {usb3 : Bool} {e : WakeEvent} {m : Nat} (h : usb3 = false ∨ e = .deviceResume ∨ (e = .connect ∧ bitOf m 0 = true) ∨
    (e = .disconnect ∧ bitOf m 1 = true) ∨ (e = .overCurrent ∧ bitOf m 2 = true)) : wakeMasked usb3 e m = true := by
  rcases h with rfl | rfl | ⟨rfl, hb⟩ | ⟨rfl, hb⟩ | ⟨rfl, hb⟩
  · cases e <;> rfl
  · rfl
  all_goals simp [wakeMasked, hb]

theorem wakeMasked_false {usb3 : Bool} {e : WakeEvent} {m : Nat} (husb : usb3 = true) (h : (e = .connect ∧ bitOf m 0 = false) ∨
    (e = .disconnect ∧ bitOf m 1 = false) ∨ (e = .overCurrent ∧ bitOf m 2 = false)) : wakeMasked usb3 e m = false := by
  rcases h with ⟨rfl, hb⟩ | ⟨rfl, hb⟩ | ⟨rfl, hb⟩ <;> simp [wakeMasked, hb, husb]

/-- An event of a pass-through port of a suspended hub that has remote wake enabled. -/
theorem wakeOnPort_masked {usb3 : Bool} {k : Nat} {e : WakeEvent} {s : State} (hconn : s.hub.connected = true)
    (hsusp : s.hub.suspended = true) (hwake : (if usb3 then s.hub.hub3.remoteWake else s.hub.hub2.remoteWake) = true)
    (hpass : situation usb3 k s = .pass) :
    wakeOnPort usb3 k e s = if wakeMasked usb3 e (sideOf usb3 (portOf k s)).wakeMask then requestWake s else s := by
  have heq : wakeOnPort usb3 k e s = if s.hub.connected && s.hub.suspended
      && (if usb3 then s.hub.hub3.remoteWake else s.hub.hub2.remoteWake) && wakeMasked usb3 e (sideOf usb3 (portOf k s)).wakeMask
      && situation usb3 k s == .pass then requestWake s else s := by cases e <;> rfl
  rw [heq, hconn, hsusp, hwake, hpass]
  simp

theorem requestWake_asks {s : State} (hsusp : s.hub.suspended = true) (hpend : s.hub.wakePending = false) :
    requestWake s = { s with
      out := s.out ++ (if onUsb3 s.hub.ssLink then [.wakeU3Exit, .functionWake] else [.wakeK])
      hub := { s.hub with wakePending := true, wakeReport := true } } := by
  cases hlink : onUsb3 s.hub.ssLink <;> simp [requestWake, signalWake, hsusp, hpend, hlink, emit]

/-- Settles O31: TT requests over the ports they hit, LPM, suspend, resume, and remote wake under the port's mask. -/
theorem ttLpmSuspendResumeWake : Obligations.TtLpmSuspendResumeWake := by
  intro s
  refine ⟨fun p h => ?_, fun p r h hr hs => ?_, exec_lpmTransaction, exec_upstreamSuspend,
    fun hit hconn hlow hawake h hh => ⟨fun hasked => ?_, fun hasked hhit => ?_, fun hasked hhit => ?_⟩,
    fun p usb3 e hconn hsusp hwake hpend hpass m hm => ⟨fun hmask => ?_, fun husb hmask => ?_⟩⟩
  · have hfresh : hubAnswers false (fresh s) = true := h
    refine congrArg Host.Outcome.next ?_
    dsimp only
    rw [hfresh]
    rfl
  · obtain ⟨t, ht, hframe, hout, hports⟩ := ttRequest_effect (p := p) h hr hs
    exact ⟨t, ht, hframe, hout, fun k => ttRequest_ports (hports k)⟩
  · subst hh
    refine (exec_hostResume hit hconn hlow hawake).trans (congrArg Host.Outcome.next ?_)
    simp only [resumeFace, fresh, hasked]
    rfl
  · subst hh hhit
    refine (exec_hostResume false hconn hlow hawake).trans (congrArg Host.Outcome.next ?_)
    simp only [resumeFace, fresh, hasked]
    rfl
  · subst hh hhit
    refine (exec_hostResume true hconn hlow hawake).trans (congrArg Host.Outcome.next ?_)
    simp only [resumeFace, fresh, hasked]
    rfl
  · refine congrArg Host.Outcome.next ((wakeOnPort_masked (s := fresh s) hconn hsusp hwake hpass).trans ?_)
    rw [if_pos (wakeMasked_true (hm ▸ hmask)), requestWake_asks (s := fresh s) hsusp hpend]
    rfl
  · refine congrArg Host.Outcome.next ((wakeOnPort_masked (s := fresh s) hconn hsusp hwake hpass).trans ?_)
    refine if_neg ?_
    rw [wakeMasked_false husb (hm ▸ hmask)]
    decide

end Sys2Proof.Proofs
end

section
/-!
Requests to the embedded function and the hubs, and the function's audio streams (R145 to R154).
-/

namespace Sys2Proof.Proofs

open Sys2Proof
open Sys2Proof.Machine
open Sys2Proof.Safety
open Sys2Proof.Laws

/-! ## Standard requests -/

section Function

variable {s : State}

theorem exec_functionRequest (u : Setup) (hreach : usbReach s = true) (hsusp : s.hub.port11.suspend = false)
    (hroom : coreRoom .ctrl 11 1 1 s = true) :
    exec (.standardDeviceRequest .function u) s = .next (controlRequest .function u (crossCore .ctrl 1 1 (fresh s))) := by
  have hawake : (usbReach (fresh s) && !(fresh s).hub.port11.suspend) = true := by
    rw [show usbReach (fresh s) = true from hreach, show (fresh s).hub.port11.suspend = false from hsusp]
    rfl
  refine congrArg Host.Outcome.next ((if_pos hawake).trans ?_)
  exact overCore_room (toHost := true) _ hroom

theorem exec_hub2Request (u : Setup) (hreach : usbReach s = true) :
    exec (.standardDeviceRequest .hub2 u) s = .next (controlRequest .hub2 u (fresh s)) :=
  congrArg Host.Outcome.next (if_pos hreach)

theorem exec_hub3Request (u : Setup) (hreach : hubAnswers true s = true) :
    exec (.standardDeviceRequest .hub3 u) s = .next (controlRequest .hub3 u (fresh s)) :=
  congrArg Host.Outcome.next (if_pos hreach)

theorem controlRequest_setAddress (t : UsbTarget) (v : BitVec 16) (s : State) : controlRequest t ⟨0x00, 5, v, 0, 0⟩ s =
    emit (.handshake .ack) (setUsbDev t { usbDevOf t s with address := v.toNat % 128 } s) := rfl

theorem controlRequest_vendorString (s : State) : controlRequest .function ⟨0x80, 6, 0x0301, 0, 255⟩ s = emit
    (.usbData [18, 3, 65, 0, 101, 0, 108, 0, 98, 0, 117, 0, 108, 0, 97, 0, 114, 0])
    (fillControl [18, 3, 65, 0, 101, 0, 108, 0, 98, 0, 117, 0, 108, 0, 97, 0, 114, 0] s) := rfl

theorem controlRequest_hubClass (s : State) : controlRequest .hub2 ⟨0xA0, 6, 0x2900, 0, 255⟩ s = emit
    (.usbData [0x0B, 0x29, 0x0B, 0x0D, 0x00, 0x0A, 0x00, 0x00, 0x08, 0xFF, 0xFF])
    (fillControl [0x0B, 0x29, 0x0B, 0x0D, 0x00, 0x0A, 0x00, 0x00, 0x08, 0xFF, 0xFF] s) := rfl

/-! ## Alternate settings -/

/-- The streaming alternate settings are offered at High-Speed and SuperSpeed. -/
theorem functionSpeed_streams (h : s.hub.functionUsb3 = true ∨ s.hub.highSpeed = true) : (functionSpeed s != .fs) = true := by
  unfold functionSpeed
  split
  · rfl
  · rename_i husb
    rw [if_pos (h.resolve_left husb)]
    rfl

/-- SET_INTERFACE of a setting that is offered by a device that is configured. -/
theorem setInterface_selects {i a : Nat} (hi : i ≠ 4) (hreach : usbReach s = true) (hconf : s.hub.function.configured = true)
    (hoffered : altOffered i a s = true) : setInterface i a s = emit (.handshake .ack) (selectAlt i a s) := by
  simp only [setInterface, hreach, if_neg hi, hconf, hoffered]
  rfl

theorem setInterface_stalls {i : Nat} (a : Nat) (hi : i ≠ 4) (hreach : usbReach s = true) (hconf : s.hub.function.configured = false) :
    setInterface i a s = emit (.handshake .stall) s := by
  simp only [setInterface, hreach, if_neg hi, hconf]
  rfl

/-! ## Streams -/

theorem usbUp_of (hreach : usbReach s = true) (hconf : s.hub.function.configured = true) (hsusp : s.hub.port11.suspend = false) :
    usbUp s = true := by
  rw [usbUp, hreach, hconf, hsusp]
  rfl

/-- A playback packet of whole frames that fits. -/
theorem playback_fits {bytes : List Byte} {n : Nat} (hup : usbUp s = true) (halt : s.hub.altPlay = 1) (hlen : bytes.length = 288 * n)
    (hfits : s.hub.playRing.length + n ≤ 56) :
    playback bytes s =
      if (crossIso 0 0x800 (cellCount bytes.length) playbackStream s).1 then
        { (crossIso 0 0x800 (cellCount bytes.length) playbackStream s).2 with
          hub := { (crossIso 0 0x800 (cellCount bytes.length) playbackStream s).2.hub with
            playRing := (crossIso 0 0x800 (cellCount bytes.length) playbackStream s).2.hub.playRing ++
              playFrames n ((subslots bytes).map subslotSample) } }
      else (crossIso 0 0x800 (cellCount bytes.length) playbackStream s).2 := by
  have hn : bytes.length / 288 = n := by omega
  rw [playback, if_pos ⟨hup, halt⟩]
  dsimp only
  rw [hn, if_neg (by omega)]

theorem playback_misfit {bytes : List Byte} (hup : usbUp s = true) (halt : s.hub.altPlay = 1)
    (hbad : bytes.length % 288 ≠ 0 ∨ 56 < s.hub.playRing.length + bytes.length / 288) :
    playback bytes s = countStream 0 0 1 0 1 0 s := by
  rw [playback, if_pos ⟨hup, halt⟩]
  exact if_pos hbad

theorem crossIso_room {src n : Nat} {dest : BitVec 18} (stream : Nat × Nat × Nat) (h : coreRoom .iso src dest n s = true) :
    crossIso src dest n stream s = (true, crossCore .iso dest n s) := if_pos h

theorem crossIso_noRoom {src n : Nat} {dest : BitVec 18} (stream : Nat × Nat × Nat) (h : coreRoom .iso src dest n s = false) :
    crossIso src dest n stream s = (false, countStream stream.1 stream.2.1 stream.2.2 0 1 0 s) := if_neg (by rw [h]; decide)

/-- The state in which the next frames have left the capture ring. -/
def captured (s : State) : State := { fresh s with hub := { s.hub with capRing := s.hub.capRing.drop 7 } }

/-- CAPTURE_IN_TOKEN takes up to seven frames of the ring. -/
theorem exec_captureInToken (hreach : usbReach s = true) (hconf : s.hub.function.configured = true)
    (hsusp : s.hub.port11.suspend = false) (halt : s.hub.altCap = 1) {bs : List Byte} (hbs : bs = frameBytes (s.hub.capRing.take 7))
    (hroom : coreRoom .iso 11 1 (cellCount bs.length) s = true) :
    exec .captureInToken s = .next (emit (.capturePacket bs) (crossCore .iso 1 (cellCount bs.length) (captured s))) := by
  have hcross : crossIso 11 1 (cellCount bs.length) captureStream (captured s) =
      (true, crossCore .iso 1 (cellCount bs.length) (captured s)) := crossIso_room _ hroom
  subst hbs
  refine congrArg Host.Outcome.next ((if_pos ⟨usbUp_of (s := fresh s) hreach hconf hsusp, halt⟩).trans ?_)
  show (match crossIso 11 1 (cellCount (frameBytes (s.hub.capRing.take 7)).length) captureStream (captured s) with
    | (ok, t) => if ok then emit (.capturePacket (frameBytes (s.hub.capRing.take 7))) t else t) = _
  rw [hcross]
  rfl

/-! ## Feedback -/

/-- The feedback value of a count of cycles (R154). -/
theorem feedbackOf_eq (cycles : Nat) : feedbackOf cycles = (2 * (cycles * 65536) + 640000) / 1280000 := by
  have hnat : ((cycles : Int) * 65536).toNat = cycles * 65536 := by omega
  rw [feedbackOf, roundDiv, if_pos (by omega), hnat, Int.toNat_natCast]

/-- The feedback value of an interval is sent and kept. -/
def feedbackSent (v : Nat) (s : State) : State :=
  let s := { s with hub := { s.hub with
    hostMicro := s.hub.hostMicro + 8, feedback := v, ram := { s.hub.ram with feedback := toBytesLE 4 v } } }
  if s.hub.function.configured && s.hub.altPlay == 1 then emit (.feedback (toBytesLE 4 v)) s else s

theorem feedbackSent_eq (v : Nat) (s : State) : feedbackSent v (fresh s) = { fresh s with
    out := if s.hub.function.configured = true ∧ s.hub.altPlay = 1 then [.feedback (toBytesLE 4 v)] else []
    hub := { s.hub with
      hostMicro := s.hub.hostMicro + 8, feedback := v, ram := { s.hub.ram with feedback := toBytesLE 4 v } } } := by
  by_cases hup : s.hub.function.configured = true ∧ s.hub.altPlay = 1
  · rw [if_pos hup]
    refine (if_pos ?_).trans rfl
    simp [fresh, hup.1, hup.2]
  · rw [if_neg hup]
    refine (if_neg ?_).trans rfl
    simpa [fresh] using hup

theorem exec_feedbackRefresh (hreach : usbReach s = true) (cycles : Nat) (missed : Bool) {v : Nat}
    (hv : v = if missed = true ∨ s.hub.hostMicro + 8 < 128 then 393216 else (2 * (cycles * 65536) + 640000) / 1280000) :
    exec (.feedbackRefresh cycles missed) s = .next { fresh s with
        out := if s.hub.function.configured = true ∧ s.hub.altPlay = 1 then [.feedback (toBytesLE 4 v)] else []
        hub := { s.hub with
          hostMicro := s.hub.hostMicro + 8, feedback := v, ram := { s.hub.ram with feedback := toBytesLE 4 v } } } := by
  have hvalue : (if missed = true ∨ s.hub.hostMicro + 8 < 128 then nominalFeedback else feedbackOf cycles) = v := by
    rw [hv, feedbackOf_eq]
    rfl
  refine congrArg Host.Outcome.next ((if_pos hreach).trans ?_)
  show feedbackSent (if missed = true ∨ s.hub.hostMicro + 8 < 128 then nominalFeedback else feedbackOf cycles) (fresh s) = _
  rw [hvalue, feedbackSent_eq]

end Function

/-- Settles O33: requests over the core and to the hubs, alternate settings, the two audio streams and feedback. -/
theorem functionRequestsAndStreams : Obligations.FunctionRequestsAndStreams := by
  intro s hreach
  refine ⟨fun v t w hhub3 hfun hother => ?_, fun hsusp hroom => ?_, ?_, fun hconf hspeed => ⟨?_, ?_⟩, fun i a hi hconf => ?_,
    fun bytes n hconf hsusp halt hlen hfits => ⟨fun hroom w hw => ?_, fun hroom => ?_⟩, fun bytes hconf hsusp halt hbad => ?_,
    fun hconf hsusp halt bs hbs hroom => exec_captureInToken hreach hconf hsusp halt hbs hroom,
    fun cycles missed v hv => exec_feedbackRefresh hreach cycles missed hv⟩
  · cases t with
    | hub2 =>
      rw [hother (by decide)]
      exact exec_hub2Request _ hreach
    | hub3 =>
      rw [hother (by decide)]
      exact exec_hub3Request _ (hhub3 rfl)
    | function =>
      obtain ⟨hsusp, hroom, rfl⟩ := hfun rfl
      exact exec_functionRequest _ hreach hsusp hroom
  · rw [exec_functionRequest _ hreach hsusp hroom, controlRequest_vendorString]
  · rw [exec_hub2Request _ hreach, controlRequest_hubClass]
  · exact congrArg Host.Outcome.next (setInterface_selects (s := fresh s) (by decide) hreach hconf (functionSpeed_streams hspeed))
  · exact congrArg Host.Outcome.next (setInterface_selects (s := fresh s) (by decide) hreach hconf (functionSpeed_streams hspeed))
  · exact congrArg Host.Outcome.next (setInterface_stalls a.val hi hreach hconf)
  · subst hw
    refine congrArg Host.Outcome.next ((playback_fits (usbUp_of (s := fresh s) hreach hconf hsusp) halt hlen hfits).trans ?_)
    rw [crossIso_room playbackStream (s := fresh s) hroom]
    rfl
  · refine congrArg Host.Outcome.next ((playback_fits (usbUp_of (s := fresh s) hreach hconf hsusp) halt hlen hfits).trans ?_)
    rw [crossIso_noRoom playbackStream (s := fresh s) hroom]
    rfl
  · exact congrArg Host.Outcome.next (playback_misfit (usbUp_of (s := fresh s) hreach hconf hsusp) halt hbad)

end Sys2Proof.Proofs
end

section
/-!
Owned trees (R167 to R194): what the removal of devices, flushes and ended commands leave of the ports, and which devices go.
-/

namespace Sys2Proof.Proofs

open Sys2Proof
open Sys2Proof.Machine
open Sys2Proof.Safety
open Sys2Proof.Laws

/-! ## The state of ports, apart from bookkeeping -/

/-- A port without the payload reserved, the failed attempts and the counts of its TT. -/
def core (p : DownPortState) : DownPortState := { p with reserved := 0, failures := [], ttPeriodic := 0, ttNonPeriodic := 0 }

def cores (s : State) : List DownPortState := s.ports.map core

theorem cores_congr {s t : State} (h : t.ports = s.ports) : cores t = cores s := by rw [cores, h, cores]

theorem listModify_map {α β : Type} {f : α → α} {g : α → β} (h : ∀ x, g (f x) = g x) : ∀ (l : List α) (n : Nat),
    (listModify l n f).map g = l.map g
  | [], _ => rfl
  | x :: l, 0 => by rw [listModify, List.map_cons, List.map_cons, h]
  | x :: l, n + 1 => by rw [listModify, List.map_cons, List.map_cons, listModify_map h l n]

theorem cores_length {s t : State} (h : cores t = cores s) : t.ports.length = s.ports.length := by
  simpa [cores] using congrArg List.length h

theorem core_portOf {s t : State} (h : cores t = cores s) (k : Nat) : core (portOf k t) = core (portOf k s) := by
  have hget (u : State) : (cores u).getD k {} = core (portOf k u) := by
    rw [cores, show ({} : DownPortState) = core {} from rfl, List.getD_map, portOf]
  rw [← hget, h, hget]

/-- An operation of a tree's bookkeeping: time, configuration and the ports stay. -/
structure TreeStep (s t : State) : Prop where
  clk : t.clk = s.clk
  cfg : t.cfg = s.cfg
  ports : cores t = cores s

theorem TreeStep.refl (s : State) : TreeStep s s := ⟨rfl, rfl, rfl⟩

theorem TreeStep.trans {s t u : State} (h : TreeStep s t) (h' : TreeStep t u) : TreeStep s u :=
  ⟨h'.clk.trans h.clk, h'.cfg.trans h.cfg, h'.ports.trans h.ports⟩

theorem TreeStep.of_eq {s t : State} (hclk : t.clk = s.clk) (hcfg : t.cfg = s.cfg) (hports : t.ports = s.ports) : TreeStep s t :=
  ⟨hclk, hcfg, cores_congr hports⟩

theorem TreeStep.ite {s t u : State} {p : Prop} [Decidable p] (h : TreeStep s t) (h' : TreeStep s u) : TreeStep s (if p then t else u) := by
  split
  · exact h
  · exact h'

theorem TreeStep.foldl {α : Type} {f : State → α → State} (h : ∀ s a, TreeStep s (f s a)) (l : List α) (s : State) :
    TreeStep s (l.foldl f s) := by
  induction l generalizing s with
  | nil => exact .refl s
  | cons a l ih => exact (h s a).trans (ih _)

/-- A field of a port that bookkeeping leaves. -/
theorem TreeStep.field {α : Type} {s t : State} (h : TreeStep s t) (f : DownPortState → α) (hf : ∀ p, f (core p) = f p) (k : Nat) :
    f (portOf k t) = f (portOf k s) := by
  rw [← hf, core_portOf h.ports, hf]

theorem TreeStep.length {s t : State} (h : TreeStep s t) : t.ports.length = s.ports.length := cores_length h.ports

theorem mapPort_tree {f : DownPortState → DownPortState} (h : ∀ p, core (f p) = core p) (k : Nat) (s : State) :
    TreeStep s (mapPort k f s) := ⟨rfl, rfl, listModify_map h s.ports k⟩

theorem own_tree (s : State) (o : Owned) : TreeStep s { s with own := o } := .of_eq rfl rfl rfl

theorem settleReserved_tree (k : Nat) (s : State) : TreeStep s (settleReserved k s) := by
  refine mapPort_tree ?_ k s
  exact fun _ => rfl

theorem clearFailures_tree (k hubPort : Nat) (s : State) : TreeStep s (clearFailures k hubPort s) := by
  refine mapPort_tree ?_ k s
  exact fun _ => rfl

theorem forgetDevice_tree (d : OwnedDev) (s : State) : TreeStep s (forgetDevice d s) := by
  have freed : TreeStep s (releaseKeys d.addr (stopStreams (streamOf d) s)) := .of_eq (by simp) (by simp) (by simp)
  exact (freed.trans (own_tree _ _)).trans (settleReserved_tree ..)

theorem post_tree (w0 : Word) (ps : List Word) (s : State) : TreeStep s (post w0 ps s) := .of_eq (by simp) (by simp) (by simp)

theorem detachDevice_tree (fault : Bool) (d : OwnedDev) (s : State) : TreeStep s (detachDevice fault d s) := by
  have gone : TreeStep s (post 0o030602 [w18 (d.port + 1), w18 (devLoc d)] (forgetDevice d s)) := (forgetDevice_tree d s).trans (post_tree ..)
  have faulty (t : State) : TreeStep t (raiseFault 0o2021 t) := .of_eq (by simp) (by simp) (by simp)
  exact .ite (gone.trans (faulty _)) gone

theorem forgetTree_tree (k hubPort : Nat) (s : State) : TreeStep s (forgetTree k hubPort s) :=
  (TreeStep.foldl (fun s d => forgetDevice_tree d s) _ s).trans (clearFailures_tree ..)

theorem flushPort_tree (k : Nat) (s : State) : TreeStep s (flushPort k s) := by
  obtain ⟨-, -, hclk, -, hcfg, -⟩ := (flushPort_cut k s).groups
  refine ⟨hclk, hcfg, ?_⟩
  rw [cores, flushPort_ports]
  exact listModify_map (f := ttIdled) (fun _ => rfl) _ _

theorem detachTree_tree (k hubPort : Nat) (fault : Bool) (s : State) : TreeStep s (detachTree k hubPort fault s) := by
  have gone : TreeStep s (clearFailures k hubPort ((lostDevices k hubPort s).foldl (fun s d => detachDevice fault d s) s)) :=
    (TreeStep.foldl (fun s d => detachDevice_tree fault d s) _ s).trans (clearFailures_tree ..)
  exact .ite (gone.trans (flushPort_tree ..)) gone

theorem endReset_tree (k : Nat) (place : Option Nat) (s : State) : TreeStep s (endReset k place s) := .of_eq (by simp) (by simp) (by simp)

/-! ## The devices that go -/

theorem mem_insertBy {α : Type} (before : α → α → Bool) (a x : α) (l : List α) : x ∈ insertBy before a l ↔ x = a ∨ x ∈ l := by
  induction l with
  | nil => simp [insertBy]
  | cons y l ih =>
    rw [insertBy]
    split
    · simp
    · rw [List.mem_cons, ih, List.mem_cons]
      exact or_left_comm

theorem mem_sortBy {α : Type} (before : α → α → Bool) (x : α) (l : List α) : x ∈ sortBy before l ↔ x ∈ l := by
  have sorted (acc : List α) : x ∈ l.foldl (fun acc a => insertBy before a acc) acc ↔ x ∈ acc ∨ x ∈ l := by
    induction l generalizing acc with
    | nil => simp
    | cons a l ih => rw [List.foldl_cons, ih, mem_insertBy, List.mem_cons, or_comm (a := x = a), or_assoc]
  rw [sortBy, sorted]
  simp

/-- A device at a place of a port's tree; place 0 is the whole tree. -/
def atPlace (k hubPort : Nat) (d : OwnedDev) : Prop := d.port = k ∧ (hubPort = 0 ∨ d.hubPort = hubPort)

theorem mem_lostDevices {k hubPort : Nat} {s : State} {d : OwnedDev} :
    d ∈ lostDevices k hubPort s ↔ d ∈ s.own.devs ∧ atPlace k hubPort d := by
  rw [lostDevices, mem_sortBy, List.mem_filter]
  simp [atPlace]

theorem forgetDevice_devs (d : OwnedDev) (s : State) : (forgetDevice d s).own.devs = s.own.devs.filter (fun x => x != d) := by
  have stopped : (stopStreams (streamOf d) s).own.devs = s.own.devs := by
    rw [stopStreams]
    refine foldl_keeps (fun s => s.own.devs) _ (fun s x => ?_) _ s
    split
    · simp only [releaseCtx]
      split <;> rfl
    · rfl
  have released (addr : Nat) (t : State) : (releaseKeys addr t).own.devs = t.own.devs :=
    foldl_keeps (fun s => s.own.devs) (fun (s : State) (k : Nat × Nat) => zoneOcc 4 k.1 1 none s) (fun _ _ => rfl) _ t
  show (releaseKeys d.addr (stopStreams (streamOf d) s)).own.devs.filter (fun x => x != d) = _
  rw [released, stopped]

theorem detachDevice_devs (fault : Bool) (d : OwnedDev) (s : State) :
    (detachDevice fault d s).own.devs = s.own.devs.filter (fun x => x != d) := by
  have kept (t : State) (b : Bool) : (if b then raiseFault 0o2021 t else t).own.devs = t.own.devs := by
    split <;> simp
  simp only [detachDevice]
  rw [kept, ← forgetDevice_devs]
  simp

theorem mem_removed {f : State → OwnedDev → State} (hf : ∀ s d, (f s d).own.devs = s.own.devs.filter (fun x => x != d))
    (l : List OwnedDev) (s : State) (d : OwnedDev) : d ∈ (l.foldl f s).own.devs ↔ d ∈ s.own.devs ∧ d ∉ l := by
  induction l generalizing s with
  | nil => simp
  | cons x l ih =>
    rw [List.foldl_cons, ih, hf, List.mem_filter, List.mem_cons, not_or, and_assoc]
    simp

/-- The tree forgets the devices of a place, and no other. -/
theorem mem_forgetTree {k hubPort : Nat} {s : State} {d : OwnedDev} :
    d ∈ (forgetTree k hubPort s).own.devs ↔ d ∈ s.own.devs ∧ ¬ atPlace k hubPort d := by
  show d ∈ ((lostDevices k hubPort s).foldl (fun s d => forgetDevice d s) s).own.devs ↔ _
  rw [mem_removed (fun s d => forgetDevice_devs d s), mem_lostDevices, not_and]
  exact ⟨fun h => ⟨h.1, h.2 h.1⟩, fun h => ⟨h.1, fun _ => h.2⟩⟩

theorem flushPort_own (k : Nat) (s : State) : (flushPort k s).own = s.own := by
  have dropped (l : List Nat) (t : State) : (countDropped l t).own = t.own := by
    refine foldl_keeps State.own _ (fun t i => ?_) l t
    split
    · split
      · simp
      · rfl
    · rfl
  have held (j iso : Nat) (t : State) : (endHold j 2 iso t).own = t.own := by simp
  have egress (cut : Bool) (e : Nat) (t : State) : (flushEgress cut e t).2.own = t.own := by simp
  unfold flushPort flushLink flush
  split
  · split
    · rw [held, egress, dropped]
    · exact egress ..
  · exact egress ..

theorem mem_detachTree {k hubPort : Nat} {fault : Bool} {s : State} {d : OwnedDev} :
    d ∈ (detachTree k hubPort fault s).own.devs ↔ d ∈ s.own.devs ∧ ¬ atPlace k hubPort d := by
  have hown : (detachTree k hubPort fault s).own = ((lostDevices k hubPort s).foldl (fun s d => detachDevice fault d s) s).own := by
    simp only [detachTree]
    split
    · rw [flushPort_own]
      rfl
    · rfl
  rw [hown, mem_removed (fun s d => detachDevice_devs fault d s), mem_lostDevices, not_and]
  exact ⟨fun h => ⟨h.1, h.2 h.1⟩, fun h => ⟨h.1, fun _ => h.2⟩⟩

theorem groupDone_own (group status : Nat) (s : State) : (groupDone group status s).own = s.own := by simp

theorem endReset_devs (k : Nat) (place : Option Nat) (s : State) : (endReset k place s).own.devs = s.own.devs := by
  unfold endReset
  split
  · split
    · rw [groupDone_own]
    · rfl
  · rfl

theorem endOwnerChange_devs (k : Nat) (s : State) : (endOwnerChange k s).own.devs = s.own.devs := by
  have posted (w0 : Word) (ps : List Word) (t : State) : (post w0 ps t).own = t.own := by simp
  unfold endOwnerChange
  dsimp only
  split
  · rw [groupDone_own, posted]
    rfl
  · rw [posted]
    rfl

theorem endTree_devs (k : Nat) (s : State) : (endTree k s).own.devs = s.own.devs := by
  unfold endTree
  dsimp only
  rw [endReset_devs]
  split
  · rw [endOwnerChange_devs]
    rfl
  · rfl

theorem endPlace_devs (k hubPort : Nat) (s : State) : (endPlace k hubPort s).own.devs = s.own.devs := by
  unfold endPlace
  dsimp only
  split
  · rw [endTree_devs, endReset_devs]
  · rw [endReset_devs]

end Sys2Proof.Proofs
end

section
/-!
Changes of a port's owner and PORT.RESET_DEVICE (R169 to R175, R192, R194).
-/

namespace Sys2Proof.Proofs

open Sys2Proof
open Sys2Proof.Machine
open Sys2Proof.Safety
open Sys2Proof.Laws

/-! ## A place that is reset and enumerated anew -/

theorem forgetTree_frame (k hubPort : Nat) (s : State) : Frame [.own, .ports, .zon] s (forgetTree k hubPort s) := by
  obtain ⟨hgroups, hhub, hout⟩ := forgetTree_only k hubPort s
  unfold OnlyTree at hgroups
  intro g hg
  cases g <;> simp_all [same]

theorem forgetTree_resetCmd (k hubPort : Nat) (s : State) : (forgetTree k hubPort s).own.resetCmd = s.own.resetCmd := by
  have one (d : OwnedDev) (s : State) : (forgetDevice d s).own.resetCmd = s.own.resetCmd := by
    have stopped : (stopStreams (streamOf d) s).own.resetCmd = s.own.resetCmd := by
      rw [stopStreams]
      refine foldl_keeps (fun s => s.own.resetCmd) _ (fun s x => ?_) _ s
      split
      · simp only [releaseCtx]
        split <;> rfl
      · rfl
    have released (addr : Nat) (t : State) : (releaseKeys addr t).own.resetCmd = t.own.resetCmd :=
      foldl_keeps (fun s => s.own.resetCmd) (fun (s : State) (k : Nat × Nat) => zoneOcc 4 k.1 1 none s) (fun _ _ => rfl) _ t
    exact (released _ _).trans stopped
  exact foldl_keeps (fun s => s.own.resetCmd) (fun s d => forgetDevice d s) (fun s d => one d s) _ s

theorem OnlyMbx.frame {s t : State} (h : OnlyMbx s t) : Frame [.mbx] s t := by
  intro g hg
  cases g <;> simp_all [same]

theorem frame_own (s : State) (o : Owned) : Frame [.own] s { s with own := o } := by
  intro g hg
  cases g <;> simp_all [same]

/-- The tree of a port is reset and enumerated anew: its devices are forgotten and the port is reset. -/
theorem renewPlace_tree (k : Nat) (s : State) : ∃ w rest, renewPlace k 0 s =
    { mapPort k (fun p => { p with enumDone := p.enumDone && (0 : Nat) != 0 }) (forgetTree k 0 s) with
      out := (forgetTree k 0 s).out ++ Out.portReset (k + 1) w :: rest } := by
  obtain ⟨v, hv⟩ : ∃ v, v = mapPort k (fun p => { p with enumDone := p.enumDone && (0 : Nat) != 0 }) (forgetTree k 0 s) := ⟨_, rfl⟩
  obtain ⟨sp, hsp⟩ : ∃ sp : Speed, renewPlace k 0 s =
      (match (portOf k (emit (.portReset (k + 1) (sp == .ss)) v)).speedOn (sp != .ss) with
        | some y => resetPlace k 0 y (emit (.portReset (k + 1) (sp == .ss)) v)
        | none => emit (.portReset (k + 1) (sp == .ss)) v) := by
    rw [hv]
    exact ⟨_, rfl⟩
  have hout : v.out = (forgetTree k 0 s).out := by rw [hv]; rfl
  rw [hsp, ← hout, ← hv]
  split
  · rename_i y _
    refine ⟨sp == .ss, [Out.portReset (k + 1) (y == .ss)], ?_⟩
    simp only [resetPlace, if_true, emit, List.append_assoc, List.cons_append, List.nil_append]
  · exact ⟨sp == .ss, [], rfl⟩

/-- PORT.RESET_DEVICE of the tree of an attached owned port. -/
theorem exec_portResetTree {s u : State} {c : Command} (h : Taken 0o0304 anyVariant noAuth s c u) (hfree : longOf 3 s = none)
    (hlow : 1 ≤ c.p 1) (hhigh : c.p 1 ≤ 10) (hown : (portOf (c.p 1 - 1) s).owned = true) (hplace : c.p 2 = 0)
    (hatt : (portOf (c.p 1 - 1) s).attached = true) :
    ∃ t w, exec .portResetDevice s = .next t ∧ t.own.resetCmd = some (c.p 1 - 1, none) ∧
        (∀ d ∈ t.own.devs, d.port ≠ c.p 1 - 1) ∧ (portOf (c.p 1 - 1) t).enumDone = false ∧
        Out.portReset (c.p 1 - 1 + 1) w ∈ t.out ∧
        Frame [.out, .mbx, .pwr, .sec, .own, .ports, .zon] (fresh s) t := by
  obtain ⟨k, hk⟩ : ∃ k, k = c.p 1 - 1 := ⟨_, rfl⟩
  rw [← hk] at hown hatt ⊢
  obtain ⟨v, hv⟩ : ∃ v, v = { accepted c u with own := { (accepted c u).own with resetCmd := some (k, none) } } := ⟨_, rfl⟩
  have hvports : v.ports = s.ports := by
    rw [hv]
    simp [ports_of_Taken h]
  have hlen : k < s.ports.length := by
    refine Nat.lt_of_not_le fun hle => ?_
    have hnone : portOf k s = {} := List.getD_eq_default _ _ hle
    rw [hnone] at hatt
    cases hatt
  obtain ⟨w, rest, hrenew⟩ := renewPlace_tree k v
  have htree := forgetTree_tree k 0 v
  have hportv : portOf k (renewPlace k 0 v) = { portOf k (forgetTree k 0 v) with enumDone := false } := by
    rw [hrenew]
    refine (portOf_mapPort (s := forgetTree k 0 v) (by rw [htree.length, hvports]; exact hlen) _).trans ?_
    simp
  have hattached : (portOf k (renewPlace k 0 v)).attached = true := by
    rw [hportv]
    refine (htree.field DownPortState.attached (fun _ => rfl) k).trans ?_
    rw [portOf_congr hvports, hatt]
  have hexec : exec .portResetDevice s = .next (renewPlace k 0 v) := by
    have hcheck : firstStatus [(decide (c.p 1 < 1) || decide (10 < c.p 1) || (c.p 2 != 0 && (devByLoc (c.p 1 - 1) (c.p 2) u).isNone),
        stBadParam), (!(portOf (c.p 1 - 1) u).owned, stState)] = stOk := by
      rw [portOf_congr (ports_of_Taken h), ← hk, hown, hplace, decide_eq_false (show ¬ c.p 1 < 1 by omega),
        decide_eq_false (Nat.not_lt.mpr hhigh)]
      rfl
    refine (long_accepted h hfree hcheck).trans (congrArg Host.Outcome.next ?_)
    simp only [hplace, if_true, ← hk, reduceCtorEq, if_false, Option.getD_none, ← hv]
    exact if_pos hattached
  refine ⟨renewPlace k 0 v, w, hexec, ?_, fun d hd => ?_, ?_, ?_, ?_⟩
  · rw [hrenew]
    exact (forgetTree_resetCmd k 0 v).trans (by rw [hv])
  · rw [hrenew] at hd
    obtain ⟨-, hnot⟩ := mem_forgetTree.mp hd
    exact fun hp => hnot ⟨hp, .inl rfl⟩
  · rw [hportv]
  · rw [hrenew]
    simp
  · have hcmd : Frame [.own] (accepted c u) v := hv ▸ frame_own _ _
    have hlist : Frame [.ports] (forgetTree k 0 v) _ := mapPort_frame k (fun p => { p with enumDone := p.enumDone && (0 : Nat) != 0 }) _
    rw [hrenew]
    exact Frame_mono (Frame_trans (Frame_of_Taken h) (Frame_trans (OnlyMbx.frame (accepted_only c u)) (Frame_trans hcmd
      (Frame_trans (forgetTree_frame k 0 v) (Frame_trans hlist (frame_out _ _)))))) (by simp)

/-! ## Changes of the owner -/

/-- PORT.SET_OWNER that passes its checks notes the change for the next block boundary. -/
theorem exec_portSetOwner {s u : State} {c : Command} (h : Taken 0o0302 anyVariant noAuth s c u) (hfree : longOf 3 s = none)
    (hlow : 1 ≤ c.p 1) (hhigh : c.p 1 ≤ 10) (howner : c.p 2 ≤ 1) (hpersist : c.p 3 = 0) (hfit : fitted (c.p 1 - 1) s = true)
    (hcan : cannotOwn (c.p 1 - 1) s = false) (hzone : zoneHoldsPort (c.p 1 - 1) s = false) :
    exec .portSetOwner s = .next (if (portOf (c.p 1 - 1) s).owned == (c.p 2 == 1) then
        { accepted c u with own := { s.own with ownerCmd := some (c.p 1 - 1), ownerSame := true } }
      else { accepted c u with
        own := { s.own with ownerCmd := some (c.p 1 - 1), ownerSame := false }
        ports := listModify s.ports (c.p 1 - 1) (fun p => { p with change := .requested (c.p 2 == 1), ownIgnored := false }) }) := by
  have hfit' : fitted (c.p 1 - 1) u = true := (fitted_of_Taken h _).trans hfit
  have hcan' : cannotOwn (c.p 1 - 1) u = false := (Taken_same h (cannotOwn (c.p 1 - 1)) fun _ _ _ _ _ _ => rfl).trans hcan
  have hzone' : zoneHoldsPort (c.p 1 - 1) u = false := (Taken_same h (zoneHoldsPort (c.p 1 - 1)) fun _ _ _ _ _ _ => rfl).trans hzone
  have hcheck : checkSetOwner c u = stOk := by
    rw [checkSetOwner, hfit', hcan', hzone', hpersist, decide_eq_false (show ¬ c.p 1 < 1 by omega),
      decide_eq_false (Nat.not_lt.mpr hhigh), decide_eq_false (Nat.not_lt.mpr howner)]
    rfl
  have hown : (accepted c u).own = s.own := by simp [Taken_same h State.own fun _ _ _ _ _ _ => rfl]
  have hports : (accepted c u).ports = s.ports := by simp [ports_of_Taken h]
  have hport : portOf (c.p 1 - 1) (accepted c u) = portOf (c.p 1 - 1) s := portOf_congr hports _
  refine (long_accepted h hfree hcheck).trans (congrArg Host.Outcome.next ?_)
  simp only [hport, hpersist, hown, mapPort, hports]
  cases (portOf (c.p 1 - 1) s).owned == (c.p 2 == 1) <;> rfl

/-- Steps 1 and 2 of a change to owned of a port whose device stays attached (R172). -/
theorem beginOwned_attached {k : Nat} {s : State} (hlen : k < s.ports.length) (hpow : (portOf k s).powered = true)
    (hatt : (portOf k s).attached = true) : (∃ q : DownPortState,
      portOf k (beginOwned k s) = { q with owned := true, change := .toOwned, changeRef := s.clk.tick, ttPeriodic := 0
                                           usb2 := { cConnection := true }, usb3 := { cConnection := true } }) ∧
      (beginOwned k s).clk = s.clk ∧ (beginOwned k s).cfg = s.cfg := by
  obtain ⟨v, hv⟩ : ∃ v, v = mapPort k (fun p => { p with
    owned := true, change := .toOwned, changeRef := s.clk.tick, enumDone := false, ownReset := false, failures := [], ttPeriodic := 0
    ttNonPeriodic := 0
    usb2 := { cConnection := true }, usb3 := { cConnection := true } }) s := ⟨_, rfl⟩
  have hflush : portOf k (flushPort k v) = ttIdled (portOf k v) := portOf_flushPort (by rw [hv, mapPort_length]; exact hlen)
  have hport : portOf k v = { portOf k s with
    owned := true, change := .toOwned, changeRef := s.clk.tick, enumDone := false, ownReset := false, failures := [], ttPeriodic := 0
    ttNonPeriodic := 0
    usb2 := { cConnection := true }, usb3 := { cConnection := true } } := by rw [hv, portOf_mapPort hlen]
  have hattached : (portOf k (flushPort k v)).attached = true := by
    rw [hflush, hport]
    exact hatt
  have heq : beginOwned k s = flushPort k v := by
    simp only [beginOwned, hpow, Bool.true_or, Bool.not_true, Bool.false_eq_true, if_false, ← hv]
    exact if_pos hattached
  have hstep := flushPort_tree k v
  rw [heq, hflush, hport]
  exact ⟨⟨_, rfl⟩, hstep.clk.trans (by rw [hv]; rfl), hstep.cfg.trans (by rw [hv]; rfl)⟩

/-- Step 3 of a change to owned: LE1 drives the reset. -/
theorem driveReset_drives {k : Nat} {s : State} (hlen : k < s.ports.length) (hatt : (portOf k s).attached = true)
    (hspeed : (portOf k s).speed.isSome = true) (hreset : (portOf k s).ownReset = false) (hsince : 48 ≤ since (portOf k s).changeRef s) :
    ∃ w, Out.portReset (k + 1) w ∈ (driveReset k s).out ∧ (portOf k (driveReset k s)).ownReset = true ∧
      Frame [.out, .ports] s (driveReset k s) := by
  have hdue : ((portOf k s).ownReset || decide (since (portOf k s).changeRef s < Config.tkPerMs)) = false := by
    rw [hreset, decide_eq_false (show ¬ since (portOf k s).changeRef s < Config.tkPerMs from Nat.not_lt.mpr hsince)]
    rfl
  have hsides : ((portOf k s).speedOn true).isSome = true ∨ ((portOf k s).speedOn false).isSome = true := by
    obtain ⟨x, hx⟩ := Option.isSome_iff_exists.mp hspeed
    simp only [DownPortState.speedOn, hatt, hx]
    cases x == Speed.ss <;> simp
  obtain ⟨o, w, hw, heq⟩ : ∃ o w, Out.portReset (k + 1) w ∈ o ∧
      driveReset k s = mapPort k (fun p => { p with ownReset := true }) { s with out := o } := by
    simp only [driveReset, hdue]
    cases h3 : ((portOf k s).speedOn true).isSome <;> cases h2 : ((portOf k s).speedOn false).isSome
    · simp [h3, h2] at hsides
    · exact ⟨_, false, List.mem_append_right _ List.mem_cons_self, rfl⟩
    · exact ⟨_, true, List.mem_append_right _ List.mem_cons_self, rfl⟩
    · exact ⟨_, false, List.mem_append_right _ List.mem_cons_self, rfl⟩
  rw [heq]
  refine ⟨w, hw, ?_, Frame_mono (Frame_trans (frame_out s o) (mapPort_frame _ _ _)) (by simp)⟩
  rw [portOf_mapPort (by exact hlen)]

/-- Steps 1 and 2 of a change to pass-through (R173). -/
theorem beginPass_forgets {k : Nat} {s : State} (hlen : k < s.ports.length) :
    (portOf k (beginPass k s)).owned = false ∧ (portOf k (beginPass k s)).change = .toPass ∧
      (portOf k (beginPass k s)).changeRef = s.clk.tick ∧ (∀ d ∈ (beginPass k s).own.devs, d.port ≠ k) ∧
      (beginPass k s).clk = s.clk ∧ (beginPass k s).cfg = s.cfg := by
  obtain ⟨v, hv⟩ : ∃ v, v = endReset k none (detachTree k 0 false s) := ⟨_, rfl⟩
  have hstep : TreeStep s v := hv ▸ (detachTree_tree k 0 false s).trans (endReset_tree ..)
  have hdevs : ∀ d ∈ v.own.devs, d.port ≠ k := by
    intro d hd hp
    rw [hv, endReset_devs] at hd
    exact (mem_detachTree.mp hd).2 ⟨hp, .inl rfl⟩
  obtain ⟨w, hw⟩ : ∃ w, w = mapPort k (fun p => { p with
      owned := false, change := .toPass, changeRef := s.clk.tick, enumDone := true, hostPower := true, usb2 := {}, usb3 := {}, reserved := 0 })
      { v with own := { v.own with ending := v.own.ending.filter (fun x => x.port != k) } } := ⟨_, rfl⟩
  obtain ⟨o, heq⟩ : ∃ o, beginPass k s = { flushPort k w with out := o } := by
    simp only [beginPass, ← hv, ← hw]
    split <;> split <;> exact ⟨_, rfl⟩
  have hflush := flushPort_tree k w
  have hport : portOf k (flushPort k w) = ttIdled (portOf k w) :=
    portOf_flushPort (by rw [hw, mapPort_length]; exact hstep.length ▸ hlen)
  have hw' : portOf k w = { portOf k v with
      owned := false, change := .toPass, changeRef := s.clk.tick, enumDone := true, hostPower := true, usb2 := {}, usb3 := {}, reserved := 0 } := by
    rw [hw]
    exact portOf_mapPort (s := { v with own := _ }) (by exact hstep.length ▸ hlen) _
  have hsame : portOf k (beginPass k s) = portOf k (flushPort k w) := portOf_congr (by rw [heq]) k
  refine ⟨?_, ?_, ?_, ?_, ?_, ?_⟩
  · rw [hsame, hport, hw']
    rfl
  · rw [hsame, hport, hw']
    rfl
  · rw [hsame, hport, hw']
    rfl
  · rw [heq]
    show ∀ d ∈ (flushPort k w).own.devs, d.port ≠ k
    rw [flushPort_own, hw]
    exact hdevs
  · rw [heq]
    exact (hflush.clk.trans (by rw [hw]; rfl)).trans hstep.clk
  · rw [heq]
    exact (hflush.cfg.trans (by rw [hw]; rfl)).trans hstep.cfg

theorem endOwnerChange_ports (k : Nat) (s : State) :
    (endOwnerChange k s).ports = listModify s.ports k (fun p => { p with change := .none, enumDone := true }) := by
  have done (t : State) : (groupDone 3 stOk t).ports = t.ports := by simp
  have posted (w0 : Word) (ps : List Word) (t : State) : (post w0 ps t).ports = t.ports := by simp
  unfold endOwnerChange
  dsimp only
  split
  · rw [done]
    exact posted ..
  · exact posted ..

theorem showSide_owned (usb3 : Bool) {k : Nat} {s : State} (hlen : k < s.ports.length) :
    (portOf k (showSide usb3 k s)).owned = (portOf k s).owned ∧ (showSide usb3 k s).ports.length = s.ports.length := by
  have woken (t : State) : (wakeOnPort usb3 k .connect t).ports = t.ports := by simp
  unfold showSide
  split
  · rw [portOf_congr (woken _), woken, mapSide, portOf_mapPort hlen, mapPort_length]
    exact ⟨by cases usb3 <;> rfl, rfl⟩
  · exact ⟨rfl, rfl⟩

/-- Step 4 of a change to pass-through. -/
theorem finishPass_ends {k : Nat} {s : State} (hlen : k < s.ports.length) : (portOf k (finishPass k s)).change = .none ∧
    (portOf k (finishPass k s)).owned = (portOf k s).owned ∧ (finishPass k s).clk = s.clk ∧ (finishPass k s).cfg = s.cfg := by
  obtain ⟨hown3, hlen3⟩ := showSide_owned true hlen
  obtain ⟨hown2, hlen2⟩ := showSide_owned false (s := showSide true k s) (by rw [hlen3]; exact hlen)
  have hport : portOf k (finishPass k s) = { portOf k (showSide false k (showSide true k s)) with change := .none, enumDone := true } := by
    rw [portOf, finishPass, endOwnerChange_ports]
    exact listModify_getD_same (by rw [hlen2, hlen3]; exact hlen) _ _
  refine ⟨by rw [hport], ?_, by simp [finishPass], by simp [finishPass]⟩
  rw [hport]
  exact hown2.trans hown3

theorem exec_ownershipToOwned {p : DownPort} {s : State} (hfw : fwRuns s = true) (hawake : awake s = true) :
    ((portOf p.val s).change = .requested true → atBlock s = true → cannotOwn p.val s = false →
      exec (.ownershipToOwned p) s = .next (beginOwned p.val (fresh s))) ∧
    ((portOf p.val s).change = .toOwned → (portOf p.val s).attached = true → (portOf p.val s).enumDone = false →
      exec (.ownershipToOwned p) s = .next (driveReset p.val (fresh s))) := by
  have hfw' : fwRuns (fresh s) = true := hfw
  have hawake' : awake (fresh s) = true := hawake
  refine ⟨fun hchange hblock hcan => ?_, fun hchange hatt henum => ?_⟩
  · have hchange' : (portOf p.val (fresh s)).change = .requested true := hchange
    have hblock' : atBlock (fresh s) = true := hblock
    have hcan' : cannotOwn p.val (fresh s) = false := hcan
    refine congrArg Host.Outcome.next ?_
    simp only [hchange', hblock', hfw', hawake', hcan']
    rfl
  · have hchange' : (portOf p.val (fresh s)).change = .toOwned := hchange
    have hatt' : (portOf p.val (fresh s)).attached = true := hatt
    have henum' : (portOf p.val (fresh s)).enumDone = false := henum
    refine congrArg Host.Outcome.next ?_
    simp only [hchange', hfw', hawake', hatt', henum']
    rfl

theorem exec_ownershipToPassThrough {p : DownPort} {s : State} (hfw : fwRuns s = true) (hawake : awake s = true) :
    ((portOf p.val s).change = .requested false → atBlock s = true →
      exec (.ownershipToPassThrough p) s = .next (beginPass p.val (fresh s))) ∧
    ((portOf p.val s).change = .toPass → 480 ≤ since (portOf p.val s).changeRef s →
      exec (.ownershipToPassThrough p) s = .next (finishPass p.val (fresh s))) := by
  have hfw' : fwRuns (fresh s) = true := hfw
  have hawake' : awake (fresh s) = true := hawake
  refine ⟨fun hchange hblock => ?_, fun hchange hsince => ?_⟩
  · have hchange' : (portOf p.val (fresh s)).change = .requested false := hchange
    have hblock' : atBlock (fresh s) = true := hblock
    refine congrArg Host.Outcome.next ?_
    simp only [hchange', hblock', hfw', hawake']
    rfl
  · have hchange' : (portOf p.val (fresh s)).change = .toPass := hchange
    have hdue : decide (10 * Config.tkPerMs ≤ since (portOf p.val (fresh s)).changeRef (fresh s)) = true := decide_eq_true hsince
    refine congrArg Host.Outcome.next ?_
    simp only [hchange', hfw', hawake', hdue]
    rfl

theorem exec_ownerChangeTimeout {k : Nat} {s : State} (hcmd : s.own.ownerCmd = some k) (hchange : (portOf k s).change = .toOwned)
    (hsince : 96000 ≤ since (portOf k s).changeRef s) :
    exec .ownerChangeTimeout s = .next (groupDone 3 0 { fresh s with own := { s.own with ownerCmd := none } }) := by
  have hcmd' : (fresh s).own.ownerCmd = some k := hcmd
  have hdue : ((portOf k (fresh s)).change == .toOwned && decide (2 * Config.tkPerS ≤ since (portOf k (fresh s)).changeRef (fresh s))) = true := by
    rw [show (portOf k (fresh s)).change = .toOwned from hchange, decide_eq_true (show 2 * Config.tkPerS ≤ since (portOf k (fresh s)).changeRef (fresh s) from hsince)]
    rfl
  refine congrArg Host.Outcome.next ?_
  simp only [hcmd']
  exact if_pos hdue

/-- Settles O25: the commands note their work, and each step of a change is read off its definition. -/
theorem portOwnershipChanges : Obligations.PortOwnershipChanges := by
  refine ⟨fun s u c hfree hlow hhigh => ⟨fun h howner hpersist hfit hcan hzone => ⟨fun hne => ?_, fun heq => ?_⟩,
    fun h hown hplace hatt => exec_portResetTree h hfree hlow hhigh hown hplace hatt⟩,
    fun p s hfw hawake hlen => ⟨fun hchange hblock hcan hpow hatt => ?_, fun hchange hatt hspeed henum hreset hsince => ?_,
      fun hchange hblock => ?_, fun hchange hsince => ?_⟩, fun k s => exec_ownerChangeTimeout⟩
  · rw [exec_portSetOwner h hfree hlow hhigh howner hpersist hfit hcan hzone, if_neg (by simpa using hne)]
  · rw [exec_portSetOwner h hfree hlow hhigh howner hpersist hfit hcan hzone, if_pos (by simpa using heq)]
  · obtain ⟨⟨q, hq⟩, hclk, hcfg⟩ := beginOwned_attached (s := fresh s) hlen hpow hatt
    refine ⟨_, (exec_ownershipToOwned hfw hawake).1 hchange hblock hcan, ?_⟩
    rw [hq]
    exact ⟨rfl, rfl, rfl, rfl, rfl, rfl, hclk, hcfg⟩
  · obtain ⟨w, hw, hdriven, hframe⟩ := driveReset_drives (s := fresh s) hlen hatt hspeed hreset hsince
    exact ⟨_, w, (exec_ownershipToOwned hfw hawake).2 hchange hatt henum, hw, hdriven, hframe⟩
  · exact ⟨_, (exec_ownershipToPassThrough hfw hawake).1 hchange hblock, beginPass_forgets (s := fresh s) hlen⟩
  · exact ⟨_, (exec_ownershipToPassThrough hfw hawake).2 hchange hsince, finishPass_ends (s := fresh s) hlen⟩

end Sys2Proof.Proofs
end

section
/-!
Enumeration by LE1: the record of a device that answers, and the attempts that fail (R176 to R186).
-/

namespace Sys2Proof.Proofs

open Sys2Proof
open Sys2Proof.Machine
open Sys2Proof.Safety
open Sys2Proof.Laws

/-! ## The reset of an attempt -/

theorem OnlyOut.frame {s t : State} (h : OnlyOut s t) : Frame [.out] s t := by
  intro g hg
  cases g <;> simp_all [same]

theorem attach_failures (x : Speed) (p : DownPortState) : (DownPortState.attach x p).failures = p.failures := by
  unfold DownPortState.attach
  split
  · split <;> rfl
  · rfl

/-- The link of a port comes up in the core. -/
theorem linkOf_frame (k : Nat) (super : Bool) (x : LinkState) (s : State) : Frame [.sw] s (linkOf k super x s) := by
  unfold linkOf setLinkState setLink
  split
  · rw [if_neg (by omega)]
    intro g hg
    cases g <;> simp_all [same]
  · exact Frame_refl _ s

/-- The reset of an attempt touches the ports and the core's link, and leaves the failed attempts. -/
theorem attemptReset_leaves (k hubPort : Nat) (speed : Speed) {s : State} (hlen : k < s.ports.length) :
    Frame [.out, .ports, .sw] s (attemptReset k hubPort speed s) ∧
      (attemptReset k hubPort speed s).ports.length = s.ports.length ∧
      (portOf k (attemptReset k hubPort speed s)).failures = (portOf k s).failures := by
  obtain ⟨v, hv⟩ : ∃ v, v = if hubPort = 0 then linkOf k (speed == .ss) .u0 (mapPort k (DownPortState.attach speed) s) else s := ⟨_, rfl⟩
  have hbegun : Frame [.out, .ports, .sw] s v ∧ v.ports.length = s.ports.length ∧ (portOf k v).failures = (portOf k s).failures := by
    rw [hv]
    split
    · have hframe := linkOf_frame k (speed == .ss) .u0 (mapPort k (DownPortState.attach speed) s)
      have hports : (linkOf k (speed == .ss) .u0 (mapPort k (DownPortState.attach speed) s)).ports =
        (mapPort k (DownPortState.attach speed) s).ports := hframe .ports (by decide)
      refine ⟨Frame_mono (Frame_trans (mapPort_frame k (DownPortState.attach speed) s) hframe) (by simp), ?_, ?_⟩
      · rw [hports, mapPort_length]
      · rw [portOf_congr hports, portOf_mapPort hlen, attach_failures]
    · exact ⟨Frame_mono (Frame_refl [] s) (by simp), rfl, rfl⟩
  obtain ⟨hframe, hvlen, hfail⟩ := hbegun
  have heq : attemptReset k hubPort speed s = if hubPort = 0 ∧ (portOf k v).ownReset = true then
      mapPort k (fun p => { p with ownReset := false }) v else resetPlace k hubPort speed v := by
    rw [hv]
    rfl
  rw [heq]
  split
  · refine ⟨Frame_mono (Frame_trans hframe (mapPort_frame k _ v)) (by simp), ?_, ?_⟩
    · rw [mapPort_length, hvlen]
    · rw [portOf_mapPort (by rw [hvlen]; exact hlen)]
      exact hfail
  · have hout := OnlyOut.frame (resetPlace_only k hubPort speed v)
    have hports : (resetPlace k hubPort speed v).ports = v.ports := hout .ports (by decide)
    exact ⟨Frame_mono (Frame_trans hframe hout) (by simp), by rw [hports, hvlen], by rw [portOf_congr hports, hfail]⟩

/-! ## The record of a device -/

/-- A field that a change of a port leaves. -/
theorem portOf_mapPort_field {α : Type} (f : DownPortState → α) {g : DownPortState → DownPortState} (h : ∀ p, f (g p) = f p)
    (j k : Nat) (s : State) : f (portOf j (mapPort k g s)) = f (portOf j s) := by
  rw [portOf, mapPort, listModify_getD]
  split
  · exact h _
  · rfl

/-- The contexts of a device's streams are set in the records of the owned ports. -/
def setCtxs (f : Stream → Ctx) (l : List Stream) (s : State) : State :=
  l.foldl (fun s x => match x.ctx with | some n => setCtx n (some (f x)) s | none => s) s

theorem setCtxs_own (f : Stream → Ctx) (l : List Stream) (s : State) :
    (setCtxs f l s).own.devs = s.own.devs ∧ OnlyOwn s (setCtxs f l s) := by
  unfold setCtxs
  induction l generalizing s with
  | nil => exact ⟨rfl, by simp [OnlyOwn]⟩
  | cons x l ih =>
    rw [List.foldl_cons]
    cases x.ctx with
    | none => exact ih s
    | some n =>
      obtain ⟨hdevs, hown⟩ := ih (setCtx n (some (f x)) s)
      exact ⟨hdevs, hown⟩

/-- Events leave the records, the ports and the groups named. -/
structure Told (s t : State) : Prop where
  own : t.own = s.own
  ports : t.ports = s.ports
  clk : t.clk = s.clk
  cfg : t.cfg = s.cfg
  zon : t.zon = s.zon

theorem Told.trans {s t u : State} (h : Told s t) (h' : Told t u) : Told s u :=
  ⟨h'.own.trans h.own, h'.ports.trans h.ports, h'.clk.trans h.clk, h'.cfg.trans h.cfg, h'.zon.trans h.zon⟩

theorem post_told (w0 : Word) (ps : List Word) (s : State) : Told s (post w0 ps s) := ⟨by simp, by simp, by simp, by simp, by simp⟩

theorem groupDone_told (group status : Nat) (s : State) : Told s (groupDone group status s) :=
  ⟨by simp, by simp, by simp, by simp, by simp⟩

theorem posts_told {α : Type} (w0 : Word) (ps : List Word) (l : List α) (s : State) :
    Told s (l.foldl (fun s _ => post w0 ps s) s) := by
  induction l generalizing s with
  | nil => exact ⟨rfl, rfl, rfl, rfl, rfl⟩
  | cons a l ih => exact (post_told w0 ps s).trans (ih _)

/-- The context of a stream of a device. -/
def ctxRecord (c : Decision) (x : Stream) : Ctx :=
  { port := x.port + 1, addr := x.addr, ep := x.ep, dirOut := x.dirOut, ch := x.ch, first := x.first, loc := devLoc c.dev }

/-- A device has joined the records, before it is reported. -/
def joined (c : Decision) (s : State) : State :=
  let t := setCtxs (ctxRecord c) c.streams s
  settleReserved c.dev.port
    { t with own := { t.own with devs := t.own.devs ++ [c.dev], streams := t.own.streams ++ c.streams, cacheOk := true } }

theorem takeDevice_told (c : Decision) (s : State) : Told (joined c s) (takeDevice c s) := by
  have heq : takeDevice c s =
      let ws := [w18 (c.dev.port + 1), w18 (devLoc c.dev), w18 c.dev.vendor, w18 c.dev.product]
      if c.reason = 0 then (List.range c.unmatched).foldl (fun s _ => post 0o030505 (ws ++ [5]) s) (post 0o030404 ws (joined c s))
      else post 0o030505 (ws ++ [w18 c.reason]) (joined c s) := rfl
  rw [heq]
  dsimp only
  split
  · exact (post_told ..).trans (posts_told ..)
  · exact post_told ..

/-- A device joins the records as the last; ports keep all but the payload reserved. -/
theorem takeDevice_records (c : Decision) (s : State) :
    (takeDevice c s).own.devs = s.own.devs ++ [c.dev] ∧ (takeDevice c s).clk = s.clk ∧ (takeDevice c s).cfg = s.cfg ∧
      (takeDevice c s).zon = s.zon ∧ ∀ k, (portOf k (takeDevice c s)).failures = (portOf k s).failures := by
  have htold := takeDevice_told c s
  obtain ⟨hdevs, -, -, -, hclk, -, -, -, -, -, hcfg, -, -, hports, -, -, hzon, -⟩ := setCtxs_own (ctxRecord c) c.streams s
  have hfail (k : Nat) : (portOf k (joined c s)).failures = (portOf k s).failures := by
    refine (portOf_mapPort_field DownPortState.failures (by exact fun _ => rfl) k _ _).trans ?_
    exact congrArg DownPortState.failures (portOf_congr hports k)
  refine ⟨?_, ?_, ?_, ?_, fun k => ?_⟩
  · rw [htold.own, ← hdevs]
    rfl
  · rw [htold.clk]
    exact hclk
  · rw [htold.cfg]
    exact hcfg
  · rw [htold.zon]
    exact hzon
  · rw [portOf_congr htold.ports, hfail]

/-- The end of a place's enumeration leaves time, configuration, zones and the failed attempts. -/
theorem endPlace_leaves (k hubPort : Nat) (s : State) : (endPlace k hubPort s).clk = s.clk ∧ (endPlace k hubPort s).cfg = s.cfg ∧
    (endPlace k hubPort s).zon = s.zon ∧ ∀ j, (portOf j (endPlace k hubPort s)).failures = (portOf j s).failures := by
  have reset (place : Option Nat) (t : State) (j : Nat) : (portOf j (endReset k place t)).failures = (portOf j t).failures := by
    rw [portOf_congr (show (endReset k place t).ports = t.ports by simp)]
  have changed (t : State) (j : Nat) : (portOf j (endOwnerChange k t)).failures = (portOf j t).failures := by
    have hports : (endOwnerChange k t).ports = (mapPort k (fun p => { p with change := .none, enumDone := true }) t).ports :=
      endOwnerChange_ports k t
    rw [portOf_congr hports, portOf_mapPort_field DownPortState.failures (by exact fun _ => rfl)]
  have marked (t : State) (j : Nat) : (portOf j (mapPort k (fun p => { p with enumDone := true }) t)).failures = (portOf j t).failures :=
    portOf_mapPort_field DownPortState.failures (by exact fun _ => rfl) j k t
  have tree (t : State) (j : Nat) : (portOf j (endTree k t)).failures = (portOf j t).failures := by
    unfold endTree
    dsimp only
    rw [reset]
    split
    · rw [changed, marked]
    · exact marked ..
  refine ⟨by simp, by simp, by simp, fun j => ?_⟩
  unfold endPlace
  dsimp only
  split
  · rw [tree, reset]
  · rw [reset]

/-! ## LE1's decision -/

/-- LE1's decision is about the device at its place. -/
theorem decideDevice_dev (d : UsbDevice) (k hubPort : Nat) (s : State) : let r := (decideDevice d k hubPort s).dev
    r.port = k ∧ r.hubPort = hubPort ∧ r.addr = freeAddr s ∧ r.vendor = d.vendor.toNat ∧ r.product = d.product.toNat ∧
      r.speed = d.speed := by
  simp only [decideDevice]
  (repeat' split) <;> exact ⟨rfl, rfl, rfl, rfl, rfl, rfl⟩

theorem decideDevice_hub {d : UsbDevice} {hubPort : Nat} (k : Nat) (s : State) (hplace : hubPort ≠ 0) (hhub : d.hubPorts.isSome = true) :
    (decideDevice d k hubPort s).dev.reason = 6 := by
  rw [decideDevice, if_pos ⟨hplace, hhub⟩]
  rfl

theorem decideDevice_none {d : UsbDevice} (k hubPort : Nat) (s : State) (haudio : d.audio = []) (hhid : d.hid = [])
    (hhub : d.hubPorts = none) : (decideDevice d k hubPort s).dev.reason = 1 := by
  rw [decideDevice, if_neg (by simp [hhub]), if_pos ⟨haudio, hhid, by rw [hhub]; rfl⟩]
  rfl

/-! ## An attempt that succeeds -/

theorem mem_eraseKey {α : Type} {l : List (Nat × α)} {k : Nat} {x : Nat × α} (h : x ∈ eraseKey l k) : x.1 ≠ k := by
  simpa using (List.mem_filter.mp h).2

/-- A device that answers through the enumeration joins the records (R176). -/
theorem enumerate_records (k hubPort : Nat) (d : UsbDevice) {s : State} (hlen : k < s.ports.length) :
    (enumerate k hubPort d s).own.devs = s.own.devs ++ [(decideDevice d k hubPort (attemptReset k hubPort d.speed s)).dev] ∧
      (∀ f ∈ (portOf k (enumerate k hubPort d s)).failures, f.1 ≠ hubPort) ∧ (enumerate k hubPort d s).clk = s.clk ∧
      (enumerate k hubPort d s).cfg = s.cfg ∧ (enumerate k hubPort d s).zon = s.zon := by
  obtain ⟨v, hv⟩ : ∃ v, v = attemptReset k hubPort d.speed s := ⟨_, rfl⟩
  obtain ⟨hframe, hvlen, -⟩ := attemptReset_leaves k hubPort d.speed hlen
  rw [← hv] at hframe hvlen ⊢
  obtain ⟨w, hw, heq⟩ : ∃ w, Frame [.out] v w ∧ enumerate k hubPort d s = endPlace k hubPort (takeDevice (decideDevice d k hubPort v)
      (mapPort k (fun p => { p with failures := eraseKey p.failures hubPort }) w)) := by
    have addressed : OnlyOut v (sendControl k 0 0x00 5 (decideDevice d k hubPort v).dev.addr 0 v) := sendControl_only ..
    simp only [enumerate, ← hv]
    refine ⟨_, ?_, rfl⟩
    split
    · exact Frame_mono (Frame_trans (OnlyOut.frame addressed) (OnlyOut.frame (configureDevice_only ..))) (by simp)
    · split
      · split
        · exact Frame_mono (Frame_trans (OnlyOut.frame addressed) (OnlyOut.frame (sendControl_only ..))) (by simp)
        · exact OnlyOut.frame addressed
      · exact OnlyOut.frame addressed
  have hall : Frame [.out, .ports, .sw] s w := Frame_mono (Frame_trans hframe hw) (by simp)
  have hwlen : k < w.ports.length := by
    rw [hw .ports (by decide), hvlen]
    exact hlen
  obtain ⟨hdevs, hclk, hcfg, hzon, hfail⟩ := takeDevice_records (decideDevice d k hubPort v)
    (mapPort k (fun p => { p with failures := eraseKey p.failures hubPort }) w)
  obtain ⟨hclk', hcfg', hzon', hfail'⟩ := endPlace_leaves k hubPort (takeDevice (decideDevice d k hubPort v)
    (mapPort k (fun p => { p with failures := eraseKey p.failures hubPort }) w))
  rw [heq]
  refine ⟨?_, fun f hf => ?_, ?_, ?_, ?_⟩
  · rw [endPlace_devs, hdevs]
    show w.own.devs ++ _ = _
    rw [show w.own = s.own from hall .own (by decide)]
  · rw [hfail', hfail, portOf_mapPort hwlen] at hf
    exact mem_eraseKey hf
  · exact (hclk'.trans hclk).trans (hall .clk (by decide))
  · exact (hcfg'.trans hcfg).trans (hall .cfg (by decide))
  · exact (hzon'.trans hzon).trans (hall .zon (by decide))

theorem exec_enumeration {p : DownPort} {h : HubPort} {d : UsbDevice} {s : State}
    (hcan : canEnumerate p.val h.val d.speed s = true) : exec (.enumeration p h d) s = .next (enumerate p.val h.val d (fresh s)) :=
  congrArg Host.Outcome.next (if_pos hcan)

/-- LE1's decision reads the addresses that the records use. -/
theorem freeAddr_congr {s t : State} (h : t.own = s.own) : freeAddr t = freeAddr s := by rw [freeAddr, h, freeAddr]

/-! ## An attempt that fails -/

theorem exec_controlTransferFailure {p : DownPort} {h : HubPort} {sp : Speed} {s : State} (how : XferEnd)
    (ids : Option (BitVec 16 × BitVec 16)) (hcan : canEnumerate p.val h.val sp s = true) :
    exec (.controlTransferFailure p h sp how ids) s = .next (enumFails p.val h.val sp ids (fresh s)) :=
  congrArg Host.Outcome.next (if_pos hcan)

/-- The record of a device that is refused after its second failed attempt (R177). -/
def failedDevice (k hubPort : Nat) (speed : Speed) (ids : Option (BitVec 16 × BitVec 16)) : OwnedDev :=
  { port := k, hubPort := hubPort, addr := 0, speed := speed, vendor := (ids.map (·.1.toNat)).getD 0
    product := (ids.map (·.2.toNat)).getD 0, reason := 7, hub := false, hubPorts := 0, multiTt := false, tagAware := false
    remoteWake := false, endpoints := 0, hids := [], buttons := [], asleep := false, cached := false, conn := 0, payload := 0 }

theorem enumFails_eq (k hubPort : Nat) (speed : Speed) (ids : Option (BitVec 16 × BitVec 16)) (s : State) :
    enumFails k hubPort speed ids s =
      if !((portOf k (attemptReset k hubPort speed s)).failures.any (fun f => f.1 == hubPort)) then
        mapPort k (fun p => { p with failures := insertKey p.failures hubPort (attemptReset k hubPort speed s).clk.tick })
          (attemptReset k hubPort speed s)
      else endPlace k hubPort (takeDevice ⟨7, [], failedDevice k hubPort speed ids, 0⟩
        (mapPort k (fun p => { p with failures := eraseKey p.failures hubPort }) (attemptReset k hubPort speed s))) := rfl

theorem insertKey_mem {α : Type} (l : List (Nat × α)) (k : Nat) (v : α) : (k, v) ∈ insertKey l k v := by
  induction l with
  | nil => simp [insertKey]
  | cons x l ih =>
    obtain ⟨j, w⟩ := x
    rw [insertKey]
    split
    · exact List.mem_cons_self
    · split
      · exact List.mem_cons_self
      · exact List.mem_cons_of_mem _ ih

/-- The first failed attempt is noted with its tick. -/
theorem enumFails_first {k hubPort : Nat} {speed : Speed} (ids : Option (BitVec 16 × BitVec 16)) {s : State}
    (hlen : k < s.ports.length) (hnone : ∀ f ∈ (portOf k s).failures, f.1 ≠ hubPort) :
    (enumFails k hubPort speed ids s).own = s.own ∧
      (hubPort, s.clk.tick) ∈ (portOf k (enumFails k hubPort speed ids s)).failures ∧
      Frame [.out, .ports, .sw] s (enumFails k hubPort speed ids s) := by
  obtain ⟨hframe, hvlen, hfail⟩ := attemptReset_leaves k hubPort speed hlen
  have hfirst : (!((portOf k (attemptReset k hubPort speed s)).failures.any (fun f => f.1 == hubPort))) = true := by
    rw [hfail]
    simpa using hnone
  have hclk : (attemptReset k hubPort speed s).clk = s.clk := hframe .clk (by decide)
  rw [enumFails_eq, if_pos hfirst]
  refine ⟨hframe .own (by decide), ?_, Frame_mono (Frame_trans hframe (mapPort_frame k _ _)) (by simp)⟩
  rw [portOf_mapPort (by rw [hvlen]; exact hlen), hclk]
  exact insertKey_mem ..

/-- In the second failed attempt the device is refused. -/
theorem enumFails_second {k hubPort : Nat} {speed : Speed} (ids : Option (BitVec 16 × BitVec 16)) {s : State}
    (hlen : k < s.ports.length) (hsome : ∃ f ∈ (portOf k s).failures, f.1 = hubPort) :
    (enumFails k hubPort speed ids s).own.devs = s.own.devs ++ [failedDevice k hubPort speed ids] ∧
      (enumFails k hubPort speed ids s).clk = s.clk ∧ (enumFails k hubPort speed ids s).cfg = s.cfg := by
  obtain ⟨hframe, -, hfail⟩ := attemptReset_leaves k hubPort speed hlen
  have hsecond : ¬ (!((portOf k (attemptReset k hubPort speed s)).failures.any (fun f => f.1 == hubPort))) = true := by
    rw [hfail]
    simpa using hsome
  rw [enumFails_eq, if_neg hsecond]
  obtain ⟨hdevs, hclk, hcfg, -, -⟩ := takeDevice_records ⟨7, [], failedDevice k hubPort speed ids, 0⟩
    (mapPort k (fun p => { p with failures := eraseKey p.failures hubPort }) (attemptReset k hubPort speed s))
  obtain ⟨hclk', hcfg', -, -⟩ := endPlace_leaves k hubPort (takeDevice ⟨7, [], failedDevice k hubPort speed ids, 0⟩
    (mapPort k (fun p => { p with failures := eraseKey p.failures hubPort }) (attemptReset k hubPort speed s)))
  refine ⟨?_, (hclk'.trans hclk).trans (hframe .clk (by decide)), (hcfg'.trans hcfg).trans (hframe .cfg (by decide))⟩
  rw [endPlace_devs, hdevs]
  show (attemptReset k hubPort speed s).own.devs ++ _ = _
  rw [show (attemptReset k hubPort speed s).own = s.own from hframe .own (by decide)]

/-- Within 1 s of a failed attempt none is made. -/
theorem canEnumerate_early {k hubPort : Nat} {sp : Speed} {f : Nat × Tick} {s : State}
    (hfail : (portOf k s).failures.find? (fun f => f.1 == hubPort) = some f) (hsince : since f.2 s < 48000) :
    canEnumerate k hubPort sp s = false := by
  have hretry : retryDue k hubPort s = false := by
    simp only [retryDue, hfail]
    exact decide_eq_false (Nat.not_le.mpr hsince)
  rw [canEnumerate, hretry, Bool.and_false, Bool.false_and]

/-- Settles O26: the record is LE1's decision about the device, and failed attempts are noted, then refused. -/
theorem enumerationRecordsDevice : Obligations.EnumerationRecordsDevice := by
  intro p h s hlen
  refine ⟨fun d hcan => ?_, fun sp how ids hcan => ⟨fun hnone => ?_, fun hsome => ?_⟩, fun d f hfail hsince => ?_⟩
  · obtain ⟨hdevs, hfail, hclk, hcfg, hzon⟩ := enumerate_records p.val h.val d (s := fresh s) hlen
    obtain ⟨hport, hplace, haddr, hvendor, hproduct, hspeed⟩ :=
      decideDevice_dev d p.val h.val (attemptReset p.val h.val d.speed (fresh s))
    have hown : (attemptReset p.val h.val d.speed (fresh s)).own = s.own :=
      (attemptReset_leaves p.val h.val d.speed (s := fresh s) hlen).1 .own (by decide)
    exact ⟨_, _, exec_enumeration hcan, hdevs, hport, hplace, haddr.trans (freeAddr_congr hown), hvendor, hproduct, hspeed,
      decideDevice_hub p.val _, decideDevice_none p.val h.val _, hfail, hclk, hcfg, hzon⟩
  · obtain ⟨hown, hnoted, hframe⟩ := enumFails_first (speed := sp) ids (s := fresh s) hlen hnone
    exact ⟨_, exec_controlTransferFailure how ids hcan, hown, hnoted, hframe⟩
  · obtain ⟨hdevs, hclk, hcfg⟩ := enumFails_second (speed := sp) ids (s := fresh s) hlen hsome
    exact ⟨_, _, exec_controlTransferFailure how ids hcan, hdevs, rfl, rfl, rfl, rfl, hclk, hcfg⟩
  · refine congrArg Host.Outcome.next (if_neg ?_)
    rw [canEnumerate_early (s := fresh s) hfail hsince]
    decide

end Sys2Proof.Proofs
end

section
/-!
Detach, key reports, hub polls and resumption in owned trees (R185 to R190).
-/

namespace Sys2Proof.Proofs

open Sys2Proof
open Sys2Proof.Machine
open Sys2Proof.Safety
open Sys2Proof.Laws

/-! ## Detach -/

theorem mem_detachPlace {k hubPort : Nat} {s : State} {d : OwnedDev} :
    d ∈ (detachPlace k hubPort s).own.devs ↔ d ∈ s.own.devs ∧ ¬ atPlace k hubPort d := by
  unfold detachPlace
  dsimp only
  split
  · rw [endTree_devs]
    exact mem_detachTree
  · rw [endPlace_devs]
    exact mem_detachTree

theorem detachPlace_clk (k hubPort : Nat) (s : State) : (detachPlace k hubPort s).clk = s.clk ∧ (detachPlace k hubPort s).cfg = s.cfg := by
  have htree := detachTree_tree k hubPort true s
  unfold detachPlace
  dsimp only
  split
  · have ended (t : State) : (endTree k t).clk = t.clk ∧ (endTree k t).cfg = t.cfg := by simp
    obtain ⟨hclk, hcfg⟩ := ended (mapPort k DownPortState.detach (detachTree k hubPort true s))
    exact ⟨hclk.trans htree.clk, hcfg.trans htree.cfg⟩
  · obtain ⟨hclk, hcfg, -, -⟩ := endPlace_leaves k hubPort (detachTree k hubPort true s)
    exact ⟨hclk.trans htree.clk, hcfg.trans htree.cfg⟩

theorem endTree_attached (k : Nat) (s : State) (j : Nat) : (portOf j (endTree k s)).attached = (portOf j s).attached := by
  have reset (t : State) : portOf j (endReset k none t) = portOf j t := portOf_congr (by simp) j
  have changed (t : State) : (portOf j (endOwnerChange k t)).attached = (portOf j t).attached := by
    have hports : (endOwnerChange k t).ports = (mapPort k (fun p => { p with change := .none, enumDone := true }) t).ports :=
      endOwnerChange_ports k t
    rw [portOf_congr hports, portOf_mapPort_field DownPortState.attached (by exact fun _ => rfl)]
  have marked (t : State) : (portOf j (mapPort k (fun p => { p with enumDone := true }) t)).attached = (portOf j t).attached :=
    portOf_mapPort_field DownPortState.attached (by exact fun _ => rfl) j k t
  unfold endTree
  dsimp only
  rw [reset]
  split
  · rw [changed, marked]
  · exact marked s

/-- A detach at the port itself leaves it without a device. -/
theorem detachPlace_attached {k : Nat} {s : State} (hlen : k < s.ports.length) : (portOf k (detachPlace k 0 s)).attached = false := by
  have heq : detachPlace k 0 s = endTree k (mapPort k DownPortState.detach (detachTree k 0 true s)) := rfl
  rw [heq, endTree_attached, portOf_mapPort (by rw [(detachTree_tree k 0 true s).length]; exact hlen)]
  rfl

/-! ## Key reports -/

theorem keyChange_asserted {d : OwnedDev} {now : List (Nat × Nat × Nat)} {b : KeyBinding} (s : State)
    (hwas : d.buttons.any (fun x => x.2.2 == b.usage) = false) (his : now.any (fun x => x.2.2 == b.usage) = true) :
    keyChange d now s b = zoneOcc 4 b.number 0 none
      { s with own := { s.own with keys := s.own.keys.filter (fun x => x != (b.number, d.addr)) ++ [(b.number, d.addr)] } } := by
  simp only [keyChange, hwas, his]
  rfl

theorem keyChange_released {d : OwnedDev} {now : List (Nat × Nat × Nat)} {b : KeyBinding} (s : State)
    (hwas : d.buttons.any (fun x => x.2.2 == b.usage) = true) (his : now.any (fun x => x.2.2 == b.usage) = false) :
    keyChange d now s b = zoneOcc 4 b.number 1 none
      { s with own := { s.own with keys := s.own.keys.filter (fun x => x != (b.number, d.addr)) } } := by
  simp only [keyChange, hwas, his]
  rfl

theorem frame_own_zon (s : State) (o : Owned) (z : Zones) : Frame [.own, .zon] s { s with own := o, zon := z } := by
  intro g hg
  cases g <;> simp_all [same]

/-- The buttons after a report: the other reports stand. -/
def reported (d : OwnedDev) (iface : Nat) (id : Byte) (us : List (BitVec 16)) : List (Nat × Nat × Nat) :=
  d.buttons.filter (fun b => !(b.1 == iface && b.2.1 == id.toNat)) ++ us.map (fun u => (iface, id.toNat, u.toNat))

theorem newButtons_eq (d : OwnedDev) (iface : Nat) (id : Byte) (us : List (BitVec 16)) :
    newButtons d iface id.toNat (us.map (·.toNat)) = reported d iface id us := by
  rw [newButtons, List.map_map]
  rfl

/-- A report from a served interface: its bound keys, then the buttons. -/
theorem exec_hidReport {p : DownPort} {a : BitVec 7} {iface : Nat} {id : Byte} {us : List (BitVec 16)} {d : OwnedDev} {s : State}
    (hruns : leRuns p.val s = true) (hdev : devByAddr p.val a.toNat s = some d) (hserved : d.reason = 0) (hawake : d.asleep = false)
    (hiface : d.hids.any (fun h => h.iface == iface) = true) :
    exec (.hidReport p a ⟨iface, id, us⟩) s = .next (mapDevs (fun x => x.port == d.port && x.addr == d.addr)
      (fun x => { x with buttons := reported d iface id us })
      ((boundKeys d s.own.devs s.own.streams s).foldl (keyChange d (reported d iface id us)) (fresh s))) := by
  have hdev' : devByAddr p.val a.toNat (fresh s) = some d := hdev
  have hruns' : leRuns p.val (fresh s) = true := hruns
  refine congrArg Host.Outcome.next ?_
  simp only [hdev', hruns', hserved, hawake, hiface, newButtons_eq]
  rfl

/-! ## Hub polls and resumption -/

/-- One port of an external hub after a status poll. -/
def pollPort (k : Nat) (changed connected : BitVec 16) (s : State) (i : Nat) : State :=
  if bitOf changed.toNat i && (!(devsAt k i s).isEmpty || (!bitOf connected.toNat i && placeHolds k i s)) then detachPlace k i s else s

theorem mem_of_pollPort {k : Nat} {changed connected : BitVec 16} {s : State} {i : Nat} {d : OwnedDev}
    (h : d ∈ (pollPort k changed connected s i).own.devs) : d ∈ s.own.devs := by
  unfold pollPort at h
  split at h
  · exact (mem_detachPlace.mp h).1
  · exact h

/-- A changed port has lost its devices. -/
theorem pollPort_empties {k : Nat} {changed connected : BitVec 16} {s : State} {i : Nat} {d : OwnedDev}
    (hbit : bitOf changed.toNat i = true) (h : d ∈ (pollPort k changed connected s i).own.devs) : ¬ (d.port = k ∧ d.hubPort = i) := by
  unfold pollPort at h
  rintro ⟨hport, hplace⟩
  split at h
  · exact (mem_detachPlace.mp h).2 ⟨hport, .inr hplace⟩
  · rename_i hquiet
    have hin : d ∈ devsAt k i s := List.mem_filter.mpr ⟨h, by simp [hport, hplace]⟩
    have hempty : (devsAt k i s).isEmpty = false := List.isEmpty_eq_false_iff.mpr (List.ne_nil_of_mem hin)
    rw [hbit, hempty] at hquiet
    exact hquiet rfl

theorem pollPorts_devs {k : Nat} {changed connected : BitVec 16} (l : List Nat) (s : State) {d : OwnedDev}
    (h : d ∈ (l.foldl (pollPort k changed connected) s).own.devs) :
    d ∈ s.own.devs ∧ ∀ i ∈ l, bitOf changed.toNat i = true → ¬ (d.port = k ∧ d.hubPort = i) := by
  induction l generalizing s with
  | nil => exact ⟨h, fun i hi => absurd hi List.not_mem_nil⟩
  | cons j l ih =>
    obtain ⟨hin, hrest⟩ := ih (pollPort k changed connected s j) h
    refine ⟨mem_of_pollPort hin, fun i hi hbit => ?_⟩
    rcases List.mem_cons.mp hi with rfl | hi
    · exact pollPort_empties hbit hin
    · exact hrest i hi hbit

theorem pollPorts_clk (k : Nat) (changed connected : BitVec 16) (l : List Nat) (s : State) :
    (l.foldl (pollPort k changed connected) s).clk = s.clk ∧ (l.foldl (pollPort k changed connected) s).cfg = s.cfg := by
  have one (s : State) (i : Nat) : (pollPort k changed connected s i).clk = s.clk ∧ (pollPort k changed connected s i).cfg = s.cfg := by
    unfold pollPort
    split
    · exact detachPlace_clk ..
    · exact ⟨rfl, rfl⟩
  exact ⟨foldl_keeps State.clk _ (fun s i => (one s i).1) l s, foldl_keeps State.cfg _ (fun s i => (one s i).2) l s⟩

/-- The hub of a tree has reported which of its ports are connected. -/
def hubHeard (k : Nat) (connected : BitVec 16) (s : State) : State :=
  mapDevs (fun d => d.port == k && d.hubPort == 0 && d.hub) (fun d => { d with conn := connected }) s

/-- A poll removes the devices of the changed ports. -/
theorem hubPoll_removes (k : Nat) (changed connected : BitVec 16) (s : State) :
    (hubPoll k changed connected s).clk = s.clk ∧ (hubPoll k changed connected s).cfg = s.cfg ∧
      ∀ i, 1 ≤ i → i ≤ 15 → bitOf changed.toNat i = true → ∀ d ∈ (hubPoll k changed connected s).own.devs,
        ¬ (d.port = k ∧ d.hubPort = i) := by
  obtain ⟨v, hv⟩ : ∃ v, v = ((List.range 15).map (· + 1)).foldl (pollPort k changed connected) (hubHeard k connected s) := ⟨_, rfl⟩
  have heq : hubPoll k changed connected s =
      if ((List.range 15).map (· + 1)).all (fun i => !bitOf connected.toNat i || !(devsAt k i v).isEmpty) then endTree k v else v := by
    rw [hv]
    rfl
  obtain ⟨hclk, hcfg⟩ := hv ▸ pollPorts_clk k changed connected ((List.range 15).map (· + 1)) (hubHeard k connected s)
  have hended : (hubPoll k changed connected s).clk = v.clk ∧ (hubPoll k changed connected s).cfg = v.cfg ∧
      (hubPoll k changed connected s).own.devs = v.own.devs := by
    rw [heq]
    split
    · exact ⟨by simp, by simp, endTree_devs k v⟩
    · exact ⟨rfl, rfl, rfl⟩
  obtain ⟨hclk', hcfg', hdevs⟩ := hended
  refine ⟨hclk'.trans hclk, hcfg'.trans hcfg, fun i hlow hhigh hbit d hd => ?_⟩
  rw [hdevs, hv] at hd
  exact (pollPorts_devs _ _ hd).2 i (List.mem_map.mpr ⟨i - 1, List.mem_range.mpr (by omega), by omega⟩) hbit

theorem renewPlace_leaves (k hubPort : Nat) (s : State) : (renewPlace k hubPort s).clk = s.clk ∧ (renewPlace k hubPort s).cfg = s.cfg ∧
    (renewPlace k hubPort s).own = (forgetTree k hubPort s).own := by
  obtain ⟨v, hv⟩ : ∃ v, v = mapPort k (fun p => { p with enumDone := p.enumDone && hubPort != 0 }) (forgetTree k hubPort s) := ⟨_, rfl⟩
  have htree := forgetTree_tree k hubPort s
  have reset (speed : Speed) (i : Nat) (t : State) : Frame [.out] t (resetPlace k i speed t) := OnlyOut.frame (resetPlace_only ..)
  have hout : Frame [.out] v (renewPlace k hubPort s) := by
    simp only [renewPlace, ← hv]
    split
    · split
      · exact Frame_mono (Frame_trans (reset _ _ v) (reset _ _ _)) (by simp)
      · exact reset _ _ v
    · exact reset _ _ v
  have hown : v.own = (forgetTree k hubPort s).own := by rw [hv]; rfl
  refine ⟨?_, ?_, (hout .own (by decide)).trans hown⟩
  · exact (hout .clk (by decide)).trans (hv ▸ htree.clk)
  · exact (hout .cfg (by decide)).trans (hv ▸ htree.cfg)

/-- A sleeping device runs again. -/
theorem wakeDevice_wakes (d : OwnedDev) (s : State) : Frame [.out, .own] s (wakeDevice s d) ∧
    (wakeDevice s d).own.devs = s.own.devs.map (fun x => if x == d then { x with asleep := false, cached := false } else x) := by
  obtain ⟨v, hv, heq⟩ : ∃ v, Frame [.out] s v ∧ wakeDevice s d = mapDevs (fun x => x == d) (fun x => { x with asleep := false, cached := false }) v := by
    refine ⟨_, ?_, rfl⟩
    split
    · exact Frame_foldl (fun s h => OnlyOut.frame (sendControl_only ..)) d.hids s
    · exact Frame_refl _ s
  rw [heq]
  refine ⟨Frame_mono (Frame_trans hv (frame_own _ _)) (by simp), ?_⟩
  show v.own.devs.map _ = _
  rw [show v.own = s.own from hv .own (by decide)]

theorem exec_treeResumes {p : DownPort} {h : HubPort} {d : OwnedDev} {s : State} (hruns : leRuns p.val s = true)
    (hres : Machine.resumed s = true) (hone : (devsAt p.val h.val s).filter (·.asleep) = [d]) (hcache : d.cached = true → s.own.cacheOk = true) :
    exec (.ownedTreeResume p h true) s = .next (wakeDevice (fresh s) d) := by
  have hruns' : leRuns p.val (fresh s) = true := hruns
  have hres' : Machine.resumed (fresh s) = true := hres
  have hone' : (devsAt p.val h.val (fresh s)).filter (·.asleep) = [d] := hone
  have hok : (!d.cached || (fresh s).own.cacheOk) = true := by
    cases hc : d.cached with
    | false => rfl
    | true => exact hcache hc
  refine congrArg Host.Outcome.next ?_
  simp only [hruns', hres', hone', List.all_cons, hok]
  rfl

theorem exec_treeLost {p : DownPort} {h : HubPort} {s : State} (hruns : leRuns p.val s = true) (hres : Machine.resumed s = true)
    (hsome : (devsAt p.val h.val s).any (·.asleep) = true) :
    exec (.ownedTreeResume p h false) s = .next (renewPlace p.val h.val (fresh s)) := by
  have hruns' : leRuns p.val (fresh s) = true := hruns
  have hres' : Machine.resumed (fresh s) = true := hres
  have hne : ((devsAt p.val h.val (fresh s)).filter (·.asleep)).isEmpty = false := by
    obtain ⟨d, hd, hasleep⟩ := List.any_eq_true.mp hsome
    exact List.isEmpty_eq_false_iff.mpr (List.ne_nil_of_mem (List.mem_filter.mpr ⟨hd, hasleep⟩))
  refine congrArg Host.Outcome.next ?_
  simp only [hruns', hres', hne]
  rfl

/-- Settles O27: the devices that go are those of the place, and reports and resumption act on the device's own record. -/
theorem ownedTreeEvents : Obligations.OwnedTreeEvents := by
  refine ⟨fun p s hawake hfw hown hatt hlen => ?_, fun p a iface id us d s hruns hdev hserved hasleep hiface => ⟨fun hkeys => ?_,
    fun b hkeys => ⟨fun hwas his => ?_, fun hwas his => ?_⟩⟩, fun p changed conn s hruns hhub => ?_,
    fun p h s hruns hres => ⟨fun d hone hcache => ?_, fun hsome => ?_⟩⟩
  · obtain ⟨hclk, hcfg⟩ := detachPlace_clk p.val 0 (fresh s)
    refine ⟨detachPlace p.val 0 (fresh s), ?_, fun d hd hp => (mem_detachPlace.mp hd).2 ⟨hp, .inl rfl⟩,
      detachPlace_attached (s := fresh s) hlen, hclk, hcfg⟩
    have hholds : placeHolds p.val 0 (fresh s) = true := by
      rw [placeHolds, show (portOf p.val (fresh s)).attached = true from hatt]
      rfl
    have hup : (awake (fresh s) && fwRuns (fresh s)) = true := by
      rw [show awake (fresh s) = true from hawake, show fwRuns (fresh s) = true from hfw]
      rfl
    refine congrArg Host.Outcome.next ?_
    dsimp only
    rw [hup, show (portOf p.val (fresh s)).owned = true from hown]
    exact if_pos hholds
  · rw [exec_hidReport hruns hdev hserved hasleep hiface, hkeys]
    rfl
  · rw [exec_hidReport hruns hdev hserved hasleep hiface, hkeys, List.foldl_cons, List.foldl_nil, keyChange_asserted (now := reported d iface id us) _ hwas his]
    exact ⟨_, rfl, frame_own_zon _ _ _, rfl, rfl, List.mem_append_right _ List.mem_cons_self⟩
  · rw [exec_hidReport hruns hdev hserved hasleep hiface, hkeys, List.foldl_cons, List.foldl_nil, keyChange_released (now := reported d iface id us) _ hwas his]
    refine ⟨_, rfl, frame_own_zon _ _ _, rfl, rfl, fun hin => ?_⟩
    have hne := (List.mem_filter.mp hin).2
    simp at hne
  · refine ⟨_, congrArg Host.Outcome.next (if_pos ?_), hubPoll_removes p.val changed conn (fresh s)⟩
    rw [show leRuns p.val (fresh s) = true from hruns]
    exact hhub
  · obtain ⟨hframe, hdevs⟩ := wakeDevice_wakes d (fresh s)
    exact ⟨_, exec_treeResumes hruns hres hone hcache, hframe, hdevs⟩
  · obtain ⟨hclk, hcfg, hown⟩ := renewPlace_leaves p.val h.val (fresh s)
    refine ⟨_, exec_treeLost hruns hres hsome, fun d hd hp => ?_, fun hzero => ?_, hclk, hcfg⟩
    · rw [hown] at hd
      exact (mem_forgetTree.mp hd).2 ⟨hp.1, .inr hp.2⟩
    · obtain ⟨w, rest, heq⟩ := renewPlace_tree p.val (fresh s)
      rw [hzero, heq]
      exact ⟨w, by simp⟩

end Sys2Proof.Proofs
end

section
/-!
The switch core (R195 to R207): packets that enter, cells that leave, flushes, and the holds of links.
-/

namespace Sys2Proof.Proofs

open Sys2Proof
open Sys2Proof.Machine
open Sys2Proof.Safety
open Sys2Proof.Laws

/-! ## Queues, links and waiting sources -/

/-- The queues, the links and the packets that wait. -/
def lines (s : State) : List (List Nat) × List LinkCtl × List IngressPacket := (s.sw.queues, s.sw.links, s.sw.waiting)

theorem lines_congr {s t : State} (h : t.sw = s.sw) : lines t = lines s := by rw [lines, h, lines]

theorem releaseCells_lines (l : List Nat) (s : State) : lines (releaseCells l s) = lines s := by
  refine foldl_keeps lines _ (fun s i => ?_) l s
  unfold releaseCell
  split
  · rfl
  · split
    · exact lines_congr (by simp)
    · split <;> rfl

theorem countStream_lines (port loc chan missing dropped excess : Nat) (s : State) :
    lines (countStream port loc chan missing dropped excess s) = lines s := by
  simp only [countStream]
  split
  · rfl
  · split <;> rfl

theorem countDropped_lines (l : List Nat) (s : State) : lines (countDropped l s) = lines s := by
  refine foldl_keeps lines _ (fun s i => ?_) l s
  split
  · split
    · exact countStream_lines ..
    · rfl
  · rfl

/-- A queue of an egress and class that exist. -/
theorem queue_index {e k e' k' : Nat} (hk : k < 3) (hk' : k' < 3) : 3 * e' + k' = 3 * e + k ↔ e' = e ∧ k' = k := by omega

/-- The state in which the three queues of an egress are empty. -/
def emptied (e : Nat) (s : State) : State := setQueue e 2 [] (setQueue e 1 [] (setQueue e 0 [] s))

theorem queueOf_emptied {e e' k : Nat} {s : State} (hlen : s.sw.queues.length = 54) (he : e < 18) (hk : k < 3) :
    queueOf e' k (emptied e s) = if e' = e then [] else queueOf e' k s := by
  have hset (t : State) (j : Nat) (hj : j < 3) (ht : t.sw.queues.length = 54) :
      queueOf e' k (setQueue e j [] t) = if e' = e ∧ k = j then [] else queueOf e' k t := by
    by_cases h : e' = e ∧ k = j
    · obtain ⟨rfl, rfl⟩ := h
      rw [if_pos ⟨rfl, rfl⟩]
      exact queueOf_setQueue (by omega) []
    · rw [if_neg h]
      exact queueOf_setQueue_other (fun hi => h ((queue_index hj hk).mp hi)) [] t
  have hlen' (t : State) (j : Nat) (ht : t.sw.queues.length = 54) : (setQueue e j [] t).sw.queues.length = 54 := by
    rw [← ht]
    exact listSet_length ..
  rw [emptied, hset _ 2 (by decide) (hlen' _ _ (hlen' _ _ hlen)), hset _ 1 (by decide) (hlen' _ _ hlen), hset _ 0 (by decide) hlen]
  by_cases h : e' = e
  · have hcases : k = 0 ∨ k = 1 ∨ k = 2 := by omega
    rcases hcases with rfl | rfl | rfl <;> simp [h]
  · simp [h]

/-- A flush empties the queues of its egress, and leaves links and waiting packets. -/
theorem flushEgress_lines (cut : Bool) (e : Nat) (s : State) : lines (flushEgress cut e s).2 = lines (emptied e s) := by
  have hports (t : State) (l : List DownPortState) : lines { t with ports := l } = lines t := rfl
  have hemit (t : State) (o : Out) : lines (emit o t) = lines t := rfl
  simp only [flushEgress, apply_ite lines, hemit, hports, releaseCells_lines, ite_self]
  rfl

theorem queueOf_of_lines {s t : State} (h : lines t = lines s) (e k : Nat) : queueOf e k t = queueOf e k s := by
  have hq : t.sw.queues = s.sw.queues := congrArg Prod.fst h
  rw [queueOf, hq, queueOf]

theorem links_of_lines {s t : State} (h : lines t = lines s) : t.sw.links = s.sw.links := congrArg (fun x => x.2.1) h

theorem waiting_of_lines {s t : State} (h : lines t = lines s) : t.sw.waiting = s.sw.waiting := congrArg (fun x => x.2.2) h

/-- Nothing waits: no source tries again. -/
theorem retryWaiting_none {s : State} (h : s.sw.waiting = []) : retryWaiting s = s := by
  rw [retryWaiting, h, List.foldl_nil, ← h]

theorem OnlyFlush.frame {s t : State} (h : OnlyOutBootAonMbxFltHubPortsSwZon s t) :
    Frame [.out, .boot, .aon, .mbx, .flt, .hub, .sw, .zon, .ports] s t := by
  intro g hg
  cases g <;> simp_all [same]

theorem exec_queueFlush (d : Fin 18) {s : State} (hlen : s.sw.queues.length = 54) (hwait : s.sw.waiting = []) :
    ∃ t, exec (.queueFlush d) s = .next t ∧ Frame [.out, .boot, .aon, .mbx, .flt, .hub, .sw, .zon, .ports] (fresh s) t ∧
      (∀ e < 18, ∀ k < 3, queueOf e k t = if e = d.val then [] else queueOf e k s) := by
  have hlines : lines (flush false d.val (fresh s)) = lines (emptied d.val (fresh s)) := flushEgress_lines ..
  refine ⟨flush false d.val (fresh s), ?_, OnlyFlush.frame (Machine.flush_only ..), fun e _ k hk => ?_⟩
  · exact congrArg Host.Outcome.next (retryWaiting_none ((waiting_of_lines hlines).trans hwait))
  · rw [queueOf_of_lines hlines]
    exact queueOf_emptied hlen d.isLt hk

/-! ## Links -/

theorem frame_sw (s : State) (w : Switch) : Frame [.sw] s { s with sw := w } := by
  intro g hg
  cases g <;> simp_all [same]

theorem linksDown_setLink {k : Nat} {s : State} (hk : k < s.sw.links.length) (l : LinkCtl) : (setLink k l s).sw.links.getD k {} = l :=
  listSet_getD_same hk l {}

/-- The link that a state is set on keeps its hold. -/
theorem setLinkState_links {k : Nat} (x : LinkState) {s : State} (hk : k < s.sw.links.length) :
    ((setLinkState k x s).sw.links.getD k {}).down = (s.sw.links.getD k {}).down ∧
      (setLinkState k x s).sw.links.length = s.sw.links.length ∧ (setLinkState k x s).sw.queues = s.sw.queues ∧
      (setLinkState k x s).sw.cells = s.sw.cells ∧ Frame [.hub, .sw] s (setLinkState k x s) := by
  unfold setLinkState
  split
  · refine ⟨rfl, rfl, rfl, rfl, fun g hg => ?_⟩
    cases g <;> simp_all [same]
  · refine ⟨by rw [linksDown_setLink hk], listSet_length .., rfl, rfl, ?_⟩
    exact Frame_mono (frame_sw s _) (by simp)

/-- The function moves between the hubs without touching the core. -/
theorem functionMoves_sw (s : State) : (functionMoves s).sw = s.sw ∧ Frame [.hub] s (functionMoves s) := by
  unfold functionMoves
  split
  · refine ⟨rfl, fun g hg => ?_⟩
    cases g <;> simp_all [same]
  · exact ⟨rfl, Frame_refl _ s⟩

/-- The state after a link has taken a state, before its queues go or are held. -/
def linkTaken (k : Nat) (dst : LinkState) (s : State) : State :=
  if k = 0 ∧ onUsb3 dst = false then functionMoves (setLinkState k dst s) else setLinkState k dst s

theorem linkTaken_facts {k : Nat} (dst : LinkState) {s : State} (hk : k < s.sw.links.length) :
    ((linkTaken k dst s).sw.links.getD k {}).down = (s.sw.links.getD k {}).down ∧
      (linkTaken k dst s).sw.links.length = s.sw.links.length ∧ (linkTaken k dst s).sw.queues = s.sw.queues ∧
      (linkTaken k dst s).sw.cells = s.sw.cells ∧ Frame [.hub, .sw] s (linkTaken k dst s) := by
  obtain ⟨hdown, hlen, hq, hc, hframe⟩ := setLinkState_links dst hk
  obtain ⟨hsw, hmove⟩ := functionMoves_sw (setLinkState k dst s)
  unfold linkTaken
  split
  · rw [hsw]
    exact ⟨hdown, hlen, hq, hc, Frame_mono (Frame_trans hframe hmove) (by simp)⟩
  · exact ⟨hdown, hlen, hq, hc, hframe⟩

theorem endHold_lines (k outcome iso : Nat) (s : State) :
    (endHold k outcome iso s).sw = (setLink k { s.sw.links.getD k {} with down := none } s).sw := by simp [endHold]

/-- A flush with the end of a hold empties the queues of the link. -/
theorem flushHeld_ends {k : Nat} {s : State} (cut : Bool) (outcome iso : Nat) (hk : k < 5) (hlinks : s.sw.links.length = 5)
    (hlen : s.sw.queues.length = 54) :
    ((endHold k outcome iso (flushEgress cut k (countDropped (queueOf k 0 s) s)).2).sw.links.getD k {}).down = none ∧
      (∀ j < 3, queueOf k j (endHold k outcome iso (flushEgress cut k (countDropped (queueOf k 0 s) s)).2) = []) := by
  obtain ⟨w, hw⟩ : ∃ w, w = (flushEgress cut k (countDropped (queueOf k 0 s) s)).2 := ⟨_, rfl⟩
  have hlines : lines w = lines (emptied k s) := by
    have hdrop := countDropped_lines (queueOf k 0 s) s
    rw [hw, flushEgress_lines]
    simp only [lines, emptied, setQueue] at hdrop ⊢
    simp_all
  rw [← hw]
  refine ⟨?_, fun j hj => ?_⟩
  · rw [endHold_lines, linksDown_setLink]
    rw [links_of_lines hlines]
    exact hlinks ▸ hk
  · rw [queueOf, endHold_lines]
    show queueOf k j w = []
    rw [queueOf_of_lines hlines, queueOf_emptied hlen (by omega) hj, if_pos rfl]

/-- A flush of a link empties its queues and ends its hold. -/
theorem flushLink_ends {k : Nat} {s : State} (hk : k < 5) (hlinks : s.sw.links.length = 5) (hlen : s.sw.queues.length = 54) :
    ((flushLink true k s).sw.links.getD k {}).down = none ∧ (∀ j < 3, queueOf k j (flushLink true k s) = []) := by
  unfold flushLink
  split
  · exact flushHeld_ends true 2 _ hk hlinks hlen
  · rename_i hup
    have hlines : lines (flush true k s) = lines (emptied k s) := flushEgress_lines ..
    have hlinks' : (emptied k s).sw.links = s.sw.links := rfl
    refine ⟨?_, fun j hj => ?_⟩
    · rw [links_of_lines hlines, hlinks']
      simpa using hup
    · rw [queueOf_of_lines hlines, queueOf_emptied hlen (by omega) hj, if_pos rfl]

theorem exec_linkDisabled {k : Fin 5} {s : State} (hlinks : s.sw.links.length = 5) (hlen : s.sw.queues.length = 54) {d : LinkState}
    (hd : d = .disabled ∨ d = .inactive) : ∃ t, exec (.linkDown k d) s = .next t ∧ (t.sw.links.getD k.val {}).down = none ∧
      (∀ j < 3, queueOf k.val j t = []) ∧ t.clk = s.clk ∧ t.cfg = s.cfg := by
  obtain ⟨-, hlinks', hq, -, hframe⟩ := linkTaken_facts (k := k.val) d (s := fresh s) (by rw [show (fresh s).sw.links.length = 5 from hlinks]; exact k.isLt)
  obtain ⟨hdown, hempty⟩ := flushLink_ends (k := k.val) (s := linkTaken k.val d (fresh s)) k.isLt (hlinks'.trans hlinks)
    ((congrArg List.length hq).trans hlen)
  obtain ⟨-, -, hclk, -, hcfg, -⟩ := (flushLink_cut true k.val (linkTaken k.val d (fresh s))).groups
  refine ⟨flushLink true k.val (linkTaken k.val d (fresh s)), ?_, hdown, hempty, hclk.trans (hframe .clk (by decide)),
    hcfg.trans (hframe .cfg (by decide))⟩
  have hrest : mayRest k.val d (fresh s) = true := by rcases hd with rfl | rfl <;> rfl
  refine congrArg Host.Outcome.next ?_
  rw [linkDown, hrest]
  rcases hd with rfl | rfl <;> rfl

theorem exec_linkHeld {k : Fin 5} {s : State} (hlinks : s.sw.links.length = 5) {d : LinkState} (hd : d = .recovery ∨ d = .rxDetect)
    (hup : linkState k.val s = .u0 ∨ linkState k.val s = .u1 ∨ linkState k.val s = .u2) (hhold : (s.sw.links.getD k.val {}).hold = true)
    (hnone : (s.sw.links.getD k.val {}).down = none) : ∃ t, exec (.linkDown k d) s = .next t ∧ Frame [.hub, .sw] (fresh s) t ∧
      (t.sw.links.getD k.val {}).down = some (s.clk.tick, (s.sw.links.getD k.val {}).holdMs) ∧ t.sw.queues = s.sw.queues ∧
      t.sw.cells = s.sw.cells := by
  have hk : k.val < (fresh s).sw.links.length := by
    rw [show (fresh s).sw.links.length = 5 from hlinks]
    exact k.isLt
  obtain ⟨-, hlinks', hq, hc, hframe⟩ := linkTaken_facts (k := k.val) d hk
  obtain ⟨v, hv⟩ : ∃ v, v = linkTaken k.val d (fresh s) := ⟨_, rfl⟩
  rw [← hv] at hlinks' hq hc hframe
  have hclk : v.clk = s.clk := hframe .clk (by decide)
  refine ⟨setLink k.val { v.sw.links.getD k.val {} with down := some (s.clk.tick, (s.sw.links.getD k.val {}).holdMs) } v, ?_,
    Frame_mono (Frame_trans hframe (frame_sw v _)) (by simp), ?_, hq, hc⟩
  · have hrest : mayRest k.val d (fresh s) = true := by rcases hd with rfl | rfl <;> rfl
    have hlink : (fresh s).sw.links.getD k.val {} = s.sw.links.getD k.val {} := rfl
    have hstate : linkState k.val (fresh s) = linkState k.val s := rfl
    have hdown : ¬ (((s.sw.links.getD k.val {}).down.isSome = true) ∨
        (linkState k.val s == .u0 || linkState k.val s == .u1 || linkState k.val s == .u2) = false) := by
      rw [hnone]
      rcases hup with h | h | h <;> rw [h] <;> decide
    have hdue : linkDown k.val d (fresh s) = if (s.sw.links.getD k.val {}).down.isSome = true ∨
        (linkState k.val s == .u0 || linkState k.val s == .u1 || linkState k.val s == .u2) = false then v
      else if (s.sw.links.getD k.val {}).hold then
        setLink k.val { v.sw.links.getD k.val {} with down := some (v.clk.tick, (s.sw.links.getD k.val {}).holdMs) } v
      else flush false k.val v := by
      rw [linkDown, hrest, hv]
      rcases hd with rfl | rfl <;> rfl
    refine congrArg Host.Outcome.next ?_
    rw [hdue, if_neg hdown, if_pos hhold, hclk]
  · rw [linksDown_setLink (by rw [hlinks']; exact hk)]

/-! ## The end of a hold -/

/-- The state in which the ISO cells whose interval has passed have left a held link. -/
def lateDropped (k : Nat) (passed : List Nat) (s : State) : State :=
  releaseCells passed (setQueue k 0 ((queueOf k 0 s).filter (fun i => !passed.contains i)) (countDropped passed s))

theorem lateDropped_keeps (k : Nat) (passed : List Nat) (s : State) :
    (lateDropped k passed s).sw.links = s.sw.links ∧ Cut s (lateDropped k passed s) := by
  have hdrop : (countDropped passed s).sw.links = s.sw.links := links_of_lines (countDropped_lines passed s)
  refine ⟨(links_of_lines (releaseCells_lines ..)).trans hdrop, ?_⟩
  exact ((countDropped_cut passed s).trans (sw_cut _ _)).trans (releaseCells_cut ..)

theorem exec_linkHoldReturn {k : Fin 5} {from_ : Tick} {ms : Nat} {s : State} (hlinks : s.sw.links.length = 5)
    (hdown : (s.sw.links.getD k.val {}).down = some (from_, ms)) (hsince : since from_ s ≤ ms * 48) :
    ∃ t, exec (.linkHoldReturn k) s = .next t ∧ (t.sw.links.getD k.val {}).down = none ∧ (k.val = 0 → t.hub.ssLink = .u0) ∧
      t.clk = s.clk ∧ t.cfg = s.cfg := by
  have hdown' : ((fresh s).sw.links.getD k.val {}).down = some (from_, ms) := hdown
  obtain ⟨passed, heq⟩ : ∃ passed, linkReturn k.val (fresh s) =
      endHold k.val 0 passed.length (setLinkState k.val .u0 (lateDropped k.val passed (fresh s))) := by
    rw [linkReturn, hdown']
    exact ⟨_, rfl⟩
  obtain ⟨hl, hcut⟩ := lateDropped_keeps k.val passed (fresh s)
  obtain ⟨v, hv⟩ : ∃ v, v = lateDropped k.val passed (fresh s) := ⟨_, rfl⟩
  rw [← hv] at hl hcut heq
  have hk : k.val < v.sw.links.length := by
    rw [hl, show (fresh s).sw.links.length = 5 from hlinks]
    exact k.isLt
  obtain ⟨-, hlen, -, -, hframe⟩ := setLinkState_links .u0 hk
  have hend := endHold_cut k.val 0 passed.length (setLinkState k.val .u0 v)
  obtain ⟨-, -, hclk, -, hcfg, -⟩ := hcut.groups
  obtain ⟨-, -, hclk', -, hcfg', -⟩ := hend.groups
  refine ⟨_, ?_, ?_, fun hzero => ?_, (hclk'.trans (hframe .clk (by decide))).trans hclk,
    (hcfg'.trans (hframe .cfg (by decide))).trans hcfg⟩
  · refine (congrArg Host.Outcome.next ?_).trans (congrArg Host.Outcome.next heq)
    simp only [hdown']
    exact if_pos hsince
  · rw [endHold_lines, linksDown_setLink (by rw [hlen]; exact hk)]
  · rw [hend.hub]
    show (setLinkState k.val .u0 v).hub.ssLink = .u0
    rw [hzero]
    rfl

theorem exec_linkHoldExpired {k : Fin 5} {from_ : Tick} {ms : Nat} {s : State} (hlinks : s.sw.links.length = 5)
    (hlen : s.sw.queues.length = 54) (hdown : (s.sw.links.getD k.val {}).down = some (from_, ms)) (hsince : ms * 48 ≤ since from_ s) :
    ∃ t, exec (.linkHoldExpired k) s = .next t ∧ (t.sw.links.getD k.val {}).down = none ∧ (∀ j < 3, queueOf k.val j t = []) ∧
      t.clk = s.clk ∧ t.cfg = s.cfg := by
  have hdown' : ((fresh s).sw.links.getD k.val {}).down = some (from_, ms) := hdown
  obtain ⟨w, hw⟩ : ∃ w, w = flushEgress false k.val (countDropped (queueOf k.val 0 (fresh s)) (fresh s)) := ⟨_, rfl⟩
  obtain ⟨hnone, hempty⟩ := flushHeld_ends (s := fresh s) false 1 w.1 k.isLt hlinks hlen
  have hcut : Cut (fresh s) (endHold k.val 1 w.1 w.2) := by
    rw [hw]
    exact ((countDropped_cut ..).trans (flushEgress_cut ..)).trans (endHold_cut ..)
  rw [← hw] at hnone hempty
  obtain ⟨-, -, hclk, -, hcfg, -⟩ := hcut.groups
  refine ⟨endHold k.val 1 w.1 w.2, ?_, hnone, hempty, hclk, hcfg⟩
  refine congrArg Host.Outcome.next ?_
  simp only [hdown']
  rw [hw]
  exact if_pos hsince

theorem exec_portLinkMode {s u : State} {c : Command} (h : Taken 0o0306 anyVariant noAuth s c u) (hport : c.p 1 ≤ 4)
    (hmode : (c.p 2 = 1 ∧ 1 ≤ c.p 3 ∧ c.p 3 ≤ 50) ∨ (c.p 2 = 0 ∧ c.p 3 = 0)) :
    exec .portLinkMode s = .next (replied c [w18 (c.p 2 * 64 + c.p 3)] { u with sw := { u.sw with
      links := listSet u.sw.links (c.p 1) { u.sw.links.getD (c.p 1) {} with hold := c.p 2 == 1, holdMs := c.p 3 } } }) := by
  refine immediate_taken _ _ h ?_
  have hbad : (decide (4 < c.p 1) || decide (1 < c.p 2)
      || (if c.p 2 = 1 then decide (c.p 3 < 1) || decide (50 < c.p 3) else decide (c.p 3 ≠ 0))) = false := by
    rw [decide_eq_false (Nat.not_lt.mpr hport)]
    rcases hmode with ⟨hone, hlow, hhigh⟩ | ⟨hzero, hms⟩
    · rw [hone, if_pos rfl, decide_eq_false (Nat.not_lt.mpr hlow), decide_eq_false (Nat.not_lt.mpr hhigh)]
      rfl
    · rw [hzero, hms]
      rfl
  rw [firstStatus_pass hbad]
  rfl

end Sys2Proof.Proofs
end

section
/-!
Packets that enter the switch core and cells that leave it (R195 to R200).
-/

namespace Sys2Proof.Proofs

open Sys2Proof
open Sys2Proof.Machine
open Sys2Proof.Safety
open Sys2Proof.Laws

/-! ## Ingress -/

/-- The sources in round robin after any one name each of the 18. -/
theorem roundRobin_find (last : Nat) {e : Nat} (he : e < 18) {p : Nat → Bool} (hp : ∀ x, p x = true ↔ x = e) :
    ((List.range 18).map (fun k => (last + 1 + k) % 18)).find? p = some e := by
  have hin : e ∈ (List.range 18).map (fun k => (last + 1 + k) % 18) :=
    List.mem_map.mpr ⟨(e + 18 - (last + 1) % 18) % 18, List.mem_range.mpr (Nat.mod_lt _ (by decide)), by omega⟩
  cases hfind : ((List.range 18).map (fun k => (last + 1 + k) % 18)).find? p with
  | none => exact absurd ((hp e).mpr rfl) (List.find?_eq_none.mp hfind e hin)
  | some x => rw [(hp x).mp (List.find?_some hfind)]

/-- The write port takes the one packet that there is. -/
theorem nextWrite_single (pkt : IngressPacket) (s : State) : nextWrite [pkt] s = some (pkt, []) := by
  have hcls : ([CellClass.iso, .ctrl, .bulk] : List CellClass).find? (fun c => [pkt].any (fun p => p.cls == c)) = some pkt.cls := by
    cases h : pkt.cls <;> simp [h]
  have hsrc := roundRobin_find (s.sw.wr.getD (classCode pkt.cls) 17) pkt.src.isLt
    (p := fun e => [pkt].any (fun p => p.cls == pkt.cls && p.src.val == e)) (fun x => by
      simp only [List.any_cons, List.any_nil, Bool.or_false, beq_self_eq_true, Bool.true_and, beq_iff_eq]
      exact eq_comm)
  rw [nextWrite]
  dsimp only
  rw [hcls]
  dsimp only
  rw [hsrc]
  simp

/-- The write port notes the source that it serves (R199). -/
def served (pkt : IngressPacket) (s : State) : State :=
  { fresh s with sw := { s.sw with wr := listSet s.sw.wr (classCode pkt.cls) pkt.src.val } }

/-- One packet of the hardware enters the core. -/
theorem exec_cellIngress {pkt : IngressPacket} {s : State} (hlen : pkt.payload.length ≤ 1024) (hdest : pkt.dest ≠ 0)
    (hwait : s.sw.waiting.any (fun x => x.src == pkt.src && x.cls == pkt.cls) = false) :
    exec (.cellIngress [pkt]) s = .next (ingress dspTakes pkt (served pkt s)) := by
  have hform : [pkt].all (fun p => decide (p.payload.length ≤ 1024) && p.dest != 0) = true := by
    rw [List.all_cons, decide_eq_true hlen, bne_iff_ne.mpr hdest]
    rfl
  have hwait' : (served pkt s).sw.waiting.any (fun w => w.src == pkt.src && w.cls == pkt.cls) = false := hwait
  have henter : enter dspTakes pkt (served pkt s) = ingress dspTakes pkt (served pkt s) := by
    rw [enter, hwait']
    exact if_neg (by decide)
  refine (if_pos hform).trans (congrArg Host.Outcome.next ?_)
  show writePort dspTakes 1 [pkt] (fresh s) = _
  rw [writePort, nextWrite_single]
  exact henter

/-- Room in a queue needs none made. -/
theorem makeRoom_room {e n : Nat} {s : State} (h : (queueOf e 0 s).length + n ≤ 256) (k : Nat) : makeRoom e n k s = s := by
  cases k with
  | zero => rfl
  | succ k => exact if_pos (.inl h)

theorem foldl_fixed {α : Type} {f : State → α → State} {s : State} {l : List α} (h : ∀ a ∈ l, f s a = s) : l.foldl f s = s := by
  induction l with
  | nil => rfl
  | cons a l ih => rw [List.foldl_cons, h a List.mem_cons_self, ih fun b hb => h b (List.mem_cons_of_mem _ hb)]

/-- Cells join the queues of the egresses that a packet names. -/
def queued (cls : Nat) (idx : List Nat) (l : List Nat) (s : State) : State :=
  l.foldl (fun s e => setQueue e cls (queueOf e cls s ++ idx) s) s

theorem queueOf_queued {cls : Nat} (hcls : cls < 3) (idx : List Nat) {l : List Nat} (hl : l.Nodup) (hlt : ∀ e ∈ l, e < 18) {s : State}
    (hlen : s.sw.queues.length = 54) {e k : Nat} (hk : k < 3) :
    queueOf e k (queued cls idx l s) = if e ∈ l ∧ k = cls then queueOf e k s ++ idx else queueOf e k s := by
  induction l generalizing s with
  | nil => simp [queued]
  | cons x l ih =>
    obtain ⟨hx, hl'⟩ := List.nodup_cons.mp hl
    have hlen' : (setQueue x cls (queueOf x cls s ++ idx) s).sw.queues.length = 54 := (listSet_length ..).trans hlen
    have hx18 := hlt x List.mem_cons_self
    have hrest := ih hl' (fun e he => hlt e (List.mem_cons_of_mem _ he)) hlen'
    rw [queued, List.foldl_cons]
    refine hrest.trans ?_
    by_cases hsame : e = x ∧ k = cls
    · obtain ⟨rfl, rfl⟩ := hsame
      rw [if_neg (fun h => hx h.1), if_pos ⟨List.mem_cons_self, rfl⟩]
      exact queueOf_setQueue (by omega) _
    · rw [queueOf_setQueue_other (fun hi => hsame ((queue_index hcls hk).mp hi))]
      by_cases hmem : e ∈ l ∧ k = cls
      · rw [if_pos hmem, if_pos ⟨List.mem_cons_of_mem _ hmem.1, hmem.2⟩]
      · rw [if_neg hmem, if_neg]
        rintro ⟨he, hc⟩
        rcases List.mem_cons.mp he with rfl | he
        · exact hsame ⟨rfl, hc⟩
        · exact hmem ⟨he, hc⟩

theorem classCode_lt (c : CellClass) : classCode c < 3 := by cases c <;> decide

theorem mem_egresses {dest : BitVec 18} {e : Nat} : e ∈ egresses dest ↔ e < 18 ∧ bitOf dest.toNat e = true := by
  simp [egresses]

theorem egresses_nodup (dest : BitVec 18) : (egresses dest).Nodup := List.nodup_range.filter _

theorem OnlyPortsSw.frame {s t : State} (h : OnlyPortsSw s t) : Frame [.sw, .ports] s t := by
  intro g hg
  cases g <;> simp_all [same]

/-- A packet's cells are written and join the queues that it names. -/
theorem writeCells_queues (pkt : IngressPacket) {s : State} (hlen : s.sw.queues.length = 54) {e k : Nat} (he : e < 18) (hk : k < 3) :
    queueOf e k (writeCells pkt s) = if bitOf pkt.dest.toNat e = true ∧ k = classCode pkt.cls
      then queueOf e k s ++ freeCells (cellCount pkt.payload.length) s else queueOf e k s := by
  obtain ⟨v, hv, heq⟩ : ∃ v, v.sw.queues = s.sw.queues ∧
      writeCells pkt s = queued (classCode pkt.cls) (freeCells (cellCount pkt.payload.length) s) (egresses pkt.dest) v := by
    refine ⟨_, ?_, rfl⟩
    have taken (t : State) : (ttTake pkt.cls pkt.ep pkt.dest t).sw = t.sw := by simp
    rw [taken]
    rfl
  have hsame : queueOf e k v = queueOf e k s := by rw [queueOf, hv, queueOf]
  rw [heq, queueOf_queued (classCode_lt _) _ (egresses_nodup _) (fun e he => (mem_egresses.mp he).1)
    (by rw [hv]; exact hlen) hk, hsame]
  exact if_congr (by rw [mem_egresses]; simp [he]) rfl rfl

/-- A packet that the core admits without a drop enters every queue that it names. -/
theorem ingress_admitted {pkt : IngressPacket} {s : State} (hlate : isLate pkt s = false) (hadm : admits pkt s = true)
    (hdsp : bitOf pkt.dest.toNat 12 = false)
    (hroom : ∀ e ∈ egresses pkt.dest, (queueOf e (classCode pkt.cls) s).length + cellCount pkt.payload.length ≤ depthOf pkt.cls) :
    ingress dspTakes pkt s = writeCells pkt s := by
  have hfixed : (if pkt.cls = .iso then (egresses pkt.dest).foldl (fun s e => makeRoom e (cellCount pkt.payload.length) 256 s) s else s) = s := by
    split
    · rename_i hiso
      rw [hiso] at hroom
      exact foldl_fixed fun e he => makeRoom_room (hroom e he) 256
    · rfl
  have htakes (t : State) : dspTakes pkt t = t := if_pos hdsp
  rw [ingress, if_neg (by rw [hlate]; decide), if_pos hadm, hfixed, htakes]

/-! ## Egress -/

theorem readGrant_range {ready : BitVec 18} {s : State} {k e : Nat} (h : readGrant ready s = some (k, e)) : k < 3 ∧ e < 18 := by
  have granted (cls x : Nat) (hx : grantOf cls ready s = some x) : x < 18 := by
    obtain ⟨j, -, rfl⟩ := List.mem_map.mp (List.mem_of_find?_eq_some hx)
    exact Nat.mod_lt _ (by decide)
  unfold readGrant at h
  split at h
  · rename_i x hx
    cases h
    exact ⟨by decide, granted _ _ hx⟩
  · split at h
    · rename_i x hx
      cases h
      exact ⟨by decide, granted _ _ hx⟩
    · obtain ⟨x, hx, heq⟩ := Option.map_eq_some_iff.mp h
      cases heq
      exact ⟨by decide, granted _ _ hx⟩

theorem ttLeave_frame (e : Nat) (c : Cell) (s : State) : Frame [.ports] s (ttLeave e c s) := by
  unfold ttLeave
  split
  · exact frame_ports s _
  · exact Frame_refl _ s

/-- A cell whose references are good loses one, and the last frees it. -/
theorem releaseCell_good {i : Nat} {c : Cell} {s : State} (hcell : cellAt i s = some c) (hgood : c.refBad = false) :
    releaseCell i s = if c.refs ≤ 1 then freeCell i c s
      else { s with sw := { s.sw with cells := insertKey s.sw.cells i { c with refs := c.refs - 1 } } } := by
  rw [releaseCell, hcell]
  exact if_neg (by rw [hgood]; decide)

theorem insertKey_find {α : Type} (l : List (Nat × α)) (k : Nat) (v : α) : (insertKey l k v).find? (fun c => c.1 == k) = some (k, v) := by
  induction l with
  | nil => simp [insertKey]
  | cons x l ih =>
    obtain ⟨j, w⟩ := x
    rw [insertKey]
    split
    · simp
    · split
      · simp
      · rename_i hne _
        simpa [hne] using ih

theorem eraseKey_find {α : Type} (l : List (Nat × α)) (k : Nat) : (eraseKey l k).find? (fun c => c.1 == k) = none := by
  rw [List.find?_eq_none]
  intro x hx
  simpa using mem_eraseKey hx

/-- The cell after one of its references has gone. -/
theorem cellAt_releaseCell {i : Nat} {c : Cell} {s : State} (hcell : cellAt i s = some c) (hgood : c.refBad = false) :
    (c.refs ≤ 1 → cellAt i (releaseCell i s) = none) ∧ (1 < c.refs → cellAt i (releaseCell i s) = some { c with refs := c.refs - 1 }) := by
  rw [releaseCell_good hcell hgood]
  refine ⟨fun hlast => ?_, fun hmore => ?_⟩
  · rw [if_pos hlast, cellAt, freeCell, eraseKey_find]
    rfl
  · rw [if_neg (by omega), cellAt, insertKey_find]
    rfl

theorem releaseCell_frame {i : Nat} {c : Cell} {s : State} (hcell : cellAt i s = some c) (hgood : c.refBad = false) :
    Frame [.sw] s (releaseCell i s) ∧ (releaseCell i s).sw.queues = s.sw.queues ∧ (releaseCell i s).sw.waiting = s.sw.waiting := by
  rw [releaseCell_good hcell hgood]
  split
  · exact ⟨frame_sw s _, rfl, rfl⟩
  · exact ⟨frame_sw s _, rfl, rfl⟩

/-- The egress that is granted has the cell sent and its place in the queue free. -/
def cellSent (k e : Nat) (rest : List Nat) (c : Cell) (s : State) : State :=
  setQueue e k rest (emit (.cell e c.payload c.last false) { s with sw := { s.sw with rr := listSet s.sw.rr k e } })

/-- A sound cell without a stream context is sent as it is. -/
theorem readCell_sends {k e i : Nat} {rest : List Nat} {c : Cell} {s : State} (hq : queueOf e k s = i :: rest) (hcell : cellAt i s = some c)
    (hbad : c.bad = false) (herrs : ∀ x ∈ s.sw.errs, x.1 / 8 ≠ i) (hctx : c.ctx = none) :
    readCell k e s = ttLeave e c (releaseCell i (cellSent k e rest c s)) := by
  obtain ⟨v, hv⟩ : ∃ v, v = { s with sw := { s.sw with rr := listSet s.sw.rr k e } } := ⟨_, rfl⟩
  have hcell' : cellAt i v = some c := by
    rw [hv]
    exact hcell
  have hsound : cellErrors i v = (0, 0) := by
    have hnone : s.sw.errs.filter (fun x => x.1 / 8 == i) = [] := by
      rw [List.filter_eq_nil_iff]
      intro x hx
      simpa using herrs x hx
    rw [hv, cellErrors, hnone]
    rfl
  have hbytes (t : State) : egressBytes c t = (c.payload, t) := by
    rw [egressBytes, hctx]
    rfl
  rw [readCell, hq]
  dsimp only
  rw [← hv, hcell']
  dsimp only
  rw [hsound, hbad, if_neg (by decide), hbytes]
  rw [cellSent, ← hv]
  rfl

theorem exec_cellEgress {ready : BitVec 18} {k e i : Nat} {rest : List Nat} {c : Cell} {s : State} (hlen : s.sw.queues.length = 54)
    (hgrant : readGrant ready s = some (k, e)) (hq : queueOf e k s = i :: rest) (hcell : cellAt i s = some c) (hbad : c.bad = false)
    (hgood : c.refBad = false) (herrs : ∀ x ∈ s.sw.errs, x.1 / 8 ≠ i) (hctx : c.ctx = none) (hwait : s.sw.waiting = []) :
    ∃ t, exec (.cellEgress ready) s = .next t ∧ Frame [.out, .sw, .ports] (fresh s) t ∧ t.out = [.cell e c.payload c.last false] ∧
      queueOf e k t = rest ∧ (c.refs ≤ 1 → cellAt i t = none) ∧ (1 < c.refs → cellAt i t = some { c with refs := c.refs - 1 }) := by
  have hgrant' : readGrant ready (fresh s) = some (k, e) := hgrant
  obtain ⟨hk, he⟩ := readGrant_range hgrant
  obtain ⟨v, hv⟩ : ∃ v, v = cellSent k e rest c (fresh s) := ⟨_, rfl⟩
  have hread : readCell k e (fresh s) = ttLeave e c (releaseCell i v) := by
    rw [hv]
    exact readCell_sends (s := fresh s) hq hcell hbad herrs hctx
  have hvcell : cellAt i v = some c := by
    rw [hv]
    exact hcell
  have hvout : v.out = [.cell e c.payload c.last false] := by
    rw [hv]
    rfl
  have hvframe : Frame [.out, .sw] (fresh s) v := by
    rw [hv]
    exact Frame_mono (Frame_trans (frame_sw (fresh s) _) (Frame_trans (frame_out _ _) (frame_sw _ _))) (by simp)
  have hvq : queueOf e k v = rest := by
    rw [hv]
    exact queueOf_setQueue (by show 3 * e + k < s.sw.queues.length; omega) rest
  have hvwait : v.sw.waiting = [] := by
    rw [hv]
    exact hwait
  obtain ⟨hframe, hqueues, hwaiting⟩ := releaseCell_frame hvcell hgood
  obtain ⟨hlast, hmore⟩ := cellAt_releaseCell hvcell hgood
  have hleave := ttLeave_frame e c (releaseCell i v)
  have hsw : (ttLeave e c (releaseCell i v)).sw = (releaseCell i v).sw := hleave .sw (by decide)
  have hcells : cellAt i (ttLeave e c (releaseCell i v)) = cellAt i (releaseCell i v) := by rw [cellAt, hsw, cellAt]
  refine ⟨ttLeave e c (releaseCell i v), ?_, ?_, ?_, ?_, fun h => hcells.trans (hlast h), fun h => hcells.trans (hmore h)⟩
  · refine congrArg Host.Outcome.next ?_
    dsimp only
    rw [hgrant']
    dsimp only
    rw [hread]
    exact retryWaiting_none (by rw [hsw, hwaiting, hvwait])
  · exact Frame_mono (Frame_trans hvframe (Frame_trans hframe hleave)) (by simp)
  · rw [show (ttLeave e c (releaseCell i v)).out = (releaseCell i v).out from hleave .out (by decide),
      show (releaseCell i v).out = v.out from hframe .out (by decide), hvout]
  · rw [queueOf, hsw, hqueues]
    exact hvq

/-- Settles O46: packets in and out of the core's queues, flushes, and the holds of links. -/
theorem switchCore : Obligations.SwitchCore := by
  refine ⟨⟨fun pkt s w hlen hdest hwait hw id hid => ?_, fun pkts s hbad => ?_,
    fun ready k e i rest c s hlen hgrant hq hcell hbad hgood herrs hctx hwait =>
      exec_cellEgress hlen hgrant hq hcell hbad hgood herrs hctx hwait,
    fun d s hlen hwait => exec_queueFlush d hlen hwait⟩,
    fun s u c h hport hmode => exec_portLinkMode h hport hmode,
    fun k s hlinks hlen => ⟨fun d hd => exec_linkDisabled hlinks hlen hd,
      fun d hd hup hhold hnone => exec_linkHeld hlinks hd hup hhold hnone, fun from_ ms hdown =>
      ⟨fun hsince => exec_linkHoldReturn hlinks hdown hsince, fun hsince => exec_linkHoldExpired hlinks hlen hdown hsince⟩⟩⟩
  · have hexec := exec_cellIngress hlen hdest hwait
    have hserved : served pkt s = w := hw.symm
    rw [hserved] at hexec
    have hid' : streamId pkt.src.val pkt.addr.toNat pkt.ep.toNat pkt.dirIn pkt.dest w = id := by
      rw [hid, hw]
      rfl
    have hlatew : isLate pkt w = isLate pkt s := by rw [hw]; rfl
    have hadmw : admits pkt w = admits pkt s := by rw [hw]; rfl
    refine ⟨fun hlate => ?_, fun hlate hadm hiso => ?_, fun hadm hclass hsrc => ?_, fun hlate hadm hqs hdsp hroom => ?_⟩
    · rw [hexec, ingress, if_pos (by rw [hlatew, hlate]), hid']
    · rw [hexec, ingress, if_neg (by rw [hlatew, hlate]; decide), if_neg (by rw [hadmw, hadm]; decide), if_pos hiso, hid']
    · have hlate : isLate pkt w = false := by
        rw [isLate, show (pkt.cls == .iso) = false by simpa using hclass]
        rfl
      rw [hexec, ingress, if_neg (by rw [hlate]; decide), if_neg (by rw [hadmw, hadm]; decide), if_neg hclass, if_pos hsrc, hw]
      rfl
    · refine ⟨writeCells pkt w, ?_, ?_, fun e he k hk => ?_⟩
      · rw [hexec, ingress_admitted (by rw [hlatew, hlate]) (by rw [hadmw, hadm]) hdsp (by rw [hw]; exact hroom)]
      · exact Frame_mono (Frame_trans (hw ▸ frame_sw (fresh s) _) (OnlyPortsSw.frame (writeCells_only pkt w))) (by simp)
      · have hqueues := writeCells_queues pkt (s := w) (by rw [hw]; exact hqs) he hk
        rw [hqueues, hw]
        rfl
  · refine ⟨_, if_neg ?_⟩
    obtain ⟨pkt, hin, hbad⟩ := hbad
    rw [List.all_eq_true]
    intro hall
    have hform := hall pkt hin
    simp only [Bool.and_eq_true, decide_eq_true_eq, bne_iff_ne] at hform
    rcases hbad with hlong | hnone
    · omega
    · exact hform.2 hnone

end Sys2Proof.Proofs
end

section
/-!
TDM frames, packets of owned IN streams and connections of pass-through ports (R183, R202, R263, R269 to R271).
-/

namespace Sys2Proof.Proofs

open Sys2Proof
open Sys2Proof.Machine
open Sys2Proof.Safety
open Sys2Proof.Laws

/-! ## A tick passes -/

/-- A slow-clock edge without posted writes sends nothing. -/
theorem slowEdge_out {s : State} (h : s.win.posted = []) : (slowEdge s).out = s.out := by
  have htime : (aonTime 1 s).win.posted = [] := h
  rw [slowEdge, aonEdge]
  simp only [htime]
  rfl

/-- The clock after a tick. -/
theorem tickPasses_clk (s : State) : (tickPasses s).clk = { s.clk with tick := s.clk.tick + 1, slowAcc := (s.clk.slowAcc + 1) % 3 } := by
  have edge (t : State) : (slowEdge t).clk = t.clk := by simp
  have alive (t : State) : (updateAlive t).clk = t.clk := rfl
  simp only [tickPasses, alive]
  split
  · rfl
  · rw [edge]

theorem tickPasses_out {s : State} (h : s.win.posted = []) : (tickPasses s).out = s.out := by
  have edge (t : State) (ht : t.win.posted = []) : (slowEdge t).out = t.out := slowEdge_out ht
  have alive (t : State) : (updateAlive t).out = t.out := rfl
  simp only [tickPasses, alive]
  split
  · rfl
  · exact edge _ h

theorem tickPasses_frame (s : State) : Frame [.out, .clk, .boot, .aon, .win, .mbx, .flt, .hub, .aud, .zon] s (tickPasses s) := by
  have honly := tickPasses_only s
  unfold OnlyOutClkBootAonWinMbxFltHubAudZon at honly
  intro g hg
  cases g <;> simp_all [same]

/-- Both ports send the frame of the tick when the firmware runs. -/
def framesSent (s : State) : State := if s.boot.phase = .running then emit (tdmOut 1 s) (emit (tdmOut 0 s) s) else s

theorem framesSent_eq (s : State) : framesSent s = { s with out := (framesSent s).out } := by
  unfold framesSent
  split <;> rfl

theorem tdmOut_frame (p : Nat) (s : State) : ∃ slots trailer, tdmOut p s = .tdmFrame p slots trailer ∧ slots.length = 16 ∧
    trailer.toNat % 16 = s.clk.tick.toNat % 16 := by
  refine ⟨_, _, rfl, by simp, ?_⟩
  rw [BitVec.toNat_ofNat]
  omega

theorem exec_tdmFrameOut {s : State} (hroot : s.clk.rootLocked = true) (hawake : awake s = true) :
    ∃ t, exec .tdmFrameOut s = .next t ∧ Frame [.out, .clk, .boot, .aon, .win, .mbx, .flt, .hub, .aud, .zon] (fresh s) t ∧
      t.clk = { s.clk with tick := s.clk.tick + 1, slowAcc := (s.clk.slowAcc + 1) % 3 } ∧
      (s.boot.phase = .running → s.win.posted = [] → t.out = [tdmOut 0 s, tdmOut 1 s]) := by
  have hclk : (framesSent (fresh s)).clk = s.clk := by
    rw [framesSent_eq]
    rfl
  have hposted : (framesSent (fresh s)).win = s.win := by
    rw [framesSent_eq]
    rfl
  have hsent : Frame [.out] (fresh s) (framesSent (fresh s)) := by
    rw [framesSent_eq]
    exact frame_out _ _
  refine ⟨tickPasses (framesSent (fresh s)), congrArg Host.Outcome.next (if_pos ?_), ?_, ?_, fun hrun hnone => ?_⟩
  · rw [show (fresh s).clk.rootLocked = true from hroot]
    exact hawake
  · exact Frame_mono (Frame_trans hsent (tickPasses_frame _)) (by simp)
  · rw [tickPasses_clk, hclk]
  · rw [tickPasses_out (by rw [hposted, hnone])]
    exact congrArg State.out (if_pos hrun)

/-! ## TDM input frames -/

/-- The trailer unit of a port after a frame. -/
theorem exec_tdmFrameIn {p : Fin 2} {slots : List Word} {s : State} (tr : BitVec 12) (hslots : slots.length = 16)
    (hunits : s.own.tdm.length = 2) (hrun : s.boot.phase = .running) (hawake : awake s = true) (hentry : tdmEntries p.val 0 s ≠ []) :
    ∃ t, exec (.tdmFrameIn p slots tr) s = .next t ∧ Frame [.own] (fresh s) t ∧
      t.own.tdm.getD p.val {} = tdmTake (s.own.tdm.getD p.val {}) s.clk.tick.toNat slots tr.toNat := by
  have hup : ((fresh s).boot.phase == .running && awake (fresh s) && !(tdmEntries p.val 0 (fresh s)).isEmpty) = true := by
    have hne : (tdmEntries p.val 0 (fresh s)).isEmpty = false := List.isEmpty_eq_false_iff.mpr hentry
    rw [show (fresh s).boot.phase = .running from hrun, show awake (fresh s) = true from hawake, hne]
    rfl
  exact ⟨_, (if_pos hslots).trans (congrArg Host.Outcome.next (if_pos hup)), frame_own _ _,
    listModify_getD_same (by rw [show (fresh s).own.tdm.length = 2 from hunits]; exact p.isLt) _ _⟩

theorem tdmTake_checked {u : TdmUnit} {last : Nat} (t : Nat) (slots : List Word) (trailer : Nat) (hcheck : u.checkIn = some 0)
    (hlast : u.lastCtr = some last) :
    let o := checkOutcome ((last + u.since + 1) % 16) (trailer % 16) (trailer / 16) (tdmCrc slots) 0xFF
    (tdmTake u t slots trailer).counts = u.counts.count o ∧
      (tdmTake u t slots trailer).got = insertKey u.got t (if o.delivers then slots else List.replicate 16 0) := by
  rw [tdmTake, if_pos hcheck, tdmOutcome, hlast]
  exact ⟨rfl, rfl⟩

theorem checkOutcome_good {expected ctr crc want mask : Nat} (hctr : ctr = expected) (hcrc : crc = want) :
    checkOutcome expected ctr crc want mask = .good := if_pos ⟨hctr, hcrc⟩

theorem checkOutcome_crc {expected ctr crc want mask : Nat} (hcrc : crc ≠ want) (hmark : crc ≠ want ^^^ mask) :
    checkOutcome expected ctr crc want mask = .crcError := by
  rw [checkOutcome, if_neg (fun h => hcrc h.2), if_neg (fun h => hmark h.2), if_neg hcrc]

theorem lookupD_insertKey_same {α : Type} (l : List (Nat × α)) (k : Nat) (v d : α) : lookupD (insertKey l k v) k d = v := by
  rw [lookupD_insertKey, if_pos rfl]

/-! ## Packets of an owned IN stream -/

/-- The samples of a frame as a stream delivers them. -/
def frameSamples (x : Stream) (f : List (BitVec 24)) : List Word := (List.range x.ch).map (fun i => w18i (sampleIn x.res (f.getD i 0)))

/-- The frames of a packet whose service interval began at a tick, from frame k on. -/
def deliverFrom (x : Stream) (start k : Nat) (frames : List (List (BitVec 24))) (y : Stream) : Stream :=
  ((frames.zipIdx k).map (fun f => (start + f.2, f.1))).foldl (fun (y : Stream) f => y.deliver f.1 (frameSamples x f.2)) y

theorem deliverFrom_cons (x : Stream) (start k : Nat) (f : List (BitVec 24)) (frames : List (List (BitVec 24))) (y : Stream) :
    deliverFrom x start k (f :: frames) y = deliverFrom x start (k + 1) frames (y.deliver (start + k) (frameSamples x f)) := rfl

theorem deliverFrom_begun (x : Stream) (start k : Nat) (frames : List (List (BitVec 24))) (y : Stream) :
    (deliverFrom x start k frames y).begun = y.begun := by
  induction frames generalizing k y with
  | nil => rfl
  | cons f frames ih => rw [deliverFrom_cons, ih]; rfl

/-- Frames delivered later leave an earlier one. -/
theorem deliverFrom_before {x y : Stream} {n : Nat} (start k : Nat) (frames : List (List (BitVec 24))) (hdue : ∀ t, y.due t = t + n)
    {j : Nat} (hj : j < start + k + n) : lookupD (deliverFrom x start k frames y).got j [] = lookupD y.got j [] := by
  induction frames generalizing k y with
  | nil => rfl
  | cons f frames ih =>
    rw [deliverFrom_cons, ih (y := y.deliver (start + k) (frameSamples x f)) (k + 1) (by exact hdue) (by omega)]
    show lookupD (insertKey y.got (y.due (start + k)) (frameSamples x f)) j [] = _
    rw [lookupD_insertKey, if_neg (by rw [hdue]; omega)]

/-- Each frame of a packet is delivered at the tick that is due. -/
theorem deliverFrom_got {x y : Stream} {n : Nat} (start k : Nat) (frames : List (List (BitVec 24))) (hdue : ∀ t, y.due t = t + n)
    {i : Nat} (hi : i < frames.length) :
    lookupD (deliverFrom x start k frames y).got (start + (k + i) + n) [] = frameSamples x (frames.getD i []) := by
  induction frames generalizing k i y with
  | nil => exact absurd hi (Nat.not_lt_zero _)
  | cons f frames ih =>
    rw [deliverFrom_cons]
    cases i with
    | zero =>
      rw [deliverFrom_before (n := n) _ _ _ (by exact hdue) (by omega)]
      show lookupD (insertKey y.got (y.due (start + k)) (frameSamples x f)) (start + (k + 0) + n) [] = _
      rw [hdue]
      exact lookupD_insertKey_same _ _ _ _
    | succ i =>
      have hrest := ih (k := k + 1) (y := y.deliver (start + k) (frameSamples x f)) (by exact hdue) (Nat.lt_of_succ_lt_succ hi)
      rw [show k + 1 + i = k + (i + 1) by omega] at hrest
      exact hrest

theorem countStream_frame (port loc chan missing dropped excess : Nat) (s : State) :
    Frame [.sw] s (countStream port loc chan missing dropped excess s) := by
  have honly := countStream_only port loc chan missing dropped excess s
  unfold OnlySw at honly
  intro g hg
  cases g <;> simp_all [same]

/-- The stream of a packet takes its frames, and no other stream changes. -/
theorem streamPacket_plain {x : Stream} (start : Nat) (fs : List (List (BitVec 24))) {s : State} (hctx : x.ctx = none) :
    Frame [.own, .sw] s (streamPacket x start fs s) ∧ (streamPacket x start fs s).own.streams = s.own.streams.map (fun z =>
      if z.port == x.port && z.addr == x.addr && z.iface == x.iface then
        deliverFrom x start 0 (fs.take x.perPacket) { x with begun := true } else z) := by
  have hcount := countStream_frame (x.port + 1) (locWord x.speed x.hubPort x.addr) x.first 0 0 (fs.length - x.perPacket) s
  have hnone : x.ctx.bind (fun k => (ctxOf k (countStream (x.port + 1) (locWord x.speed x.hubPort x.addr) x.first 0 0
      (fs.length - x.perPacket) s)).map (fun c => (k, c))) = none := by rw [hctx]; rfl
  simp only [streamPacket, hnone]
  refine ⟨Frame_mono (Frame_trans hcount (frame_own _ _)) (by simp), ?_⟩
  simp only [mapStreams]
  rw [show (countStream (x.port + 1) (locWord x.speed x.hubPort x.addr) x.first 0 0 (fs.length - x.perPacket) s).own = s.own from
    hcount .own (by decide)]
  rfl

theorem crossCore_dsp {n : Nat} {s : State} (h : (queueOf 12 0 s).length + n ≤ 256) :
    crossCore .iso dspDest n s = rewriteCells (freeCells n s) s := by
  have hone : egresses dspDest = [12] := by decide
  simp only [crossCore, hone, List.foldl_cons, List.foldl_nil, makeRoom_room h]

/-- A packet of an untagged IN stream that runs. -/
theorem exec_ownedStreamPacket {p : DownPort} {addr : BitVec 7} {iface : Nat} {fs : List (List (BitVec 24))} {s : State} {x : Stream} {n : Nat}
    (hfind : s.own.streams.find? (fun x => x.port == p.val && x.addr == addr.toNat && x.iface == iface && !x.dirOut) = some x)
    (hrun : streamRuns x s = true) (hn : n = cellCount (fs.length * x.ch * subslotBytes x.res)) :
    exec (.ownedStreamPacket p addr iface fs) s = .next (
      let r := crossIso (p.val + 1) dspDest n (x.port + 1, locWord x.speed x.hubPort x.addr, x.first) (fresh s)
      if r.1 then streamPacket x (r.2.clk.tick.toNat - r.2.clk.tick.toNat % x.perPacket) fs r.2 else r.2) := by
  subst hn
  have hfind' : (fresh s).own.streams.find? (fun x => x.port == p.val && x.addr == addr.toNat && x.iface == iface && !x.dirOut) = some x := hfind
  have hrun' : streamRuns x (fresh s) = true := hrun
  refine congrArg Host.Outcome.next ?_
  simp only [hfind', hrun', if_true]

/-- The samples of a packet's frames stand at the ticks at which they are due. -/
theorem deliverFrom_packet {x : Stream} (start : Nat) (fs : List (List (BitVec 24))) (hctx : x.ctx = none) {i : Nat}
    (hi : i < x.perPacket) (hlen : i < fs.length) :
    lookupD (deliverFrom x start 0 (fs.take x.perPacket) { x with begun := true }).got (start + i + x.perPacket) [] =
      frameSamples x (fs.getD i []) := by
  have hdue (t : Nat) : ({ x with begun := true } : Stream).due t = t + x.perPacket := by
    show t + x.perPacket + (if x.ctx.isSome = true then 4 else 0) = _
    rw [hctx]
    rfl
  have htake : i < (fs.take x.perPacket).length := by
    rw [List.length_take]
    omega
  have hgot := deliverFrom_got (x := x) start 0 (fs.take x.perPacket) hdue htake
  rw [Nat.zero_add] at hgot
  rw [hgot]
  simp [List.getD, hi]

/-! ## Connections of pass-through ports -/

theorem wakeOnPort_frame (usb3 : Bool) (k : Nat) (e : WakeEvent) (s : State) : Frame [.out, .hub] s (wakeOnPort usb3 k e s) := by
  have honly := wakeOnPort_only usb3 k e s
  unfold OnlyOutHub at honly
  intro g hg
  cases g <;> simp_all [same]

theorem exec_connects {p : DownPort} {sp : Speed} {s : State} (hlen : p.val < s.ports.length) (hsit : situation (sp == .ss) p.val s = .pass)
    (hlive : portLive p.val s = true) :
    ∃ t, exec (.passThroughConnectChange p true sp) s = .next t ∧ Frame [.out, .hub, .ports, .sw] (fresh s) t ∧
      (sideOf (sp == .ss) (portOf p.val t)).connection = true ∧ (sideOf (sp == .ss) (portOf p.val t)).cConnection = true ∧
      (sideOf (sp == .ss) (portOf p.val t)).speed = some sp := by
  have hlive' : portLive p.val (fresh s) = true := hlive
  have hsit' : ¬ situation (sp == .ss) p.val (fresh s) ≠ .pass := fun h => h hsit
  obtain ⟨u, hu⟩ : ∃ u, u = linkOf p.val (sp == .ss) .u0 (mapPort p.val (DownPortState.attach sp) (fresh s)) := ⟨_, rfl⟩
  have hframe : Frame [.ports, .sw] (fresh s) u := by
    rw [hu]
    exact Frame_trans (mapPort_frame _ _ _) (linkOf_frame _ _ _ _)
  have hports : p.val < u.ports.length := by
    rw [hu, show (linkOf p.val (sp == .ss) .u0 (mapPort p.val (DownPortState.attach sp) (fresh s))).ports = _ from
      (linkOf_frame _ _ _ _) .ports (by decide), mapPort_length]
    exact hlen
  obtain ⟨v, hv⟩ : ∃ v, v = mapSide (sp == .ss) p.val (fun x =>
    { x with connection := true, enable := x.enable || (sp == .ss), speed := some sp, cConnection := true }) u := ⟨_, rfl⟩
  have hset : Frame [.ports] u v := by
    rw [hv]
    exact mapPort_frame _ _ _
  have hwake := wakeOnPort_frame (sp == .ss) p.val .connect v
  have hside : sideOf (sp == .ss) (portOf p.val (wakeOnPort (sp == .ss) p.val .connect v)) =
      { sideOf (sp == .ss) (portOf p.val u) with
        connection := true, enable := (sideOf (sp == .ss) (portOf p.val u)).enable || (sp == .ss), speed := some sp, cConnection := true } := by
    rw [portOf_congr (hwake .ports (by decide)), hv, portOf_mapSide hports]
  refine ⟨wakeOnPort (sp == .ss) p.val .connect v, congrArg Host.Outcome.next ?_, ?_, ?_⟩
  · simp only [connectChange, if_neg hsit', if_true, hlive', hv, hu]
  · exact Frame_mono (Frame_trans (Frame_trans hframe hset) hwake) (by simp)
  · rw [hside]
    exact ⟨rfl, rfl, rfl⟩

theorem detachSide_sides (super usb3 : Bool) (p : DownPortState) : sideOf usb3 (p.detachSide super) = sideOf usb3 p := by
  unfold DownPortState.detachSide
  split <;> rfl

theorem exec_disconnects {p : DownPort} {sp : Speed} {s : State} (hlen : p.val < s.ports.length)
    (hsit : situation (sp == .ss) p.val s = .pass) (hconn : (sideOf (sp == .ss) (portOf p.val s)).connection = true) :
    ∃ t, exec (.passThroughConnectChange p false sp) s = .next t ∧
      (sideOf (sp == .ss) (portOf p.val t)).connection = false ∧ (sideOf (sp == .ss) (portOf p.val t)).enable = false ∧
      (sideOf (sp == .ss) (portOf p.val t)).cConnection = true ∧ t.clk = s.clk ∧ t.cfg = s.cfg := by
  have hsit' : ¬ situation (sp == .ss) p.val (fresh s) ≠ .pass := fun h => h hsit
  have hconn' : (sideOf (sp == .ss) (portOf p.val (fresh s))).connection = true := hconn
  obtain ⟨u, hu⟩ : ∃ u, u = mapSide (sp == .ss) p.val (fun x =>
    { x with connection := false, enable := false, suspend := false, l1 := false, speed := none, cConnection := true }) (fresh s) := ⟨_, rfl⟩
  have huframe : Frame [.ports] (fresh s) u := by
    rw [hu]
    exact mapPort_frame _ _ _
  have hulen : p.val < u.ports.length := by
    rw [hu, mapSide, mapPort_length]
    exact hlen
  have huside : sideOf (sp == .ss) (portOf p.val u) = { sideOf (sp == .ss) (portOf p.val s) with
      connection := false, enable := false, suspend := false, l1 := false, speed := none, cConnection := true } := by
    rw [hu, portOf_mapSide (s := fresh s) hlen]
    rfl
  obtain ⟨v, hv⟩ : ∃ v, v = linkOf p.val (sp == .ss) .rxDetect (mapPort p.val (DownPortState.detachSide (sp == .ss)) u) := ⟨_, rfl⟩
  have hvports : v.ports = (mapPort p.val (DownPortState.detachSide (sp == .ss)) u).ports := by
    rw [hv]
    exact (linkOf_frame _ _ _ _) .ports (by decide)
  have hvframe : Frame [.ports, .sw] u v := by
    rw [hv]
    exact Frame_trans (mapPort_frame _ _ _) (linkOf_frame _ _ _ _)
  have hvlen : p.val < v.ports.length := by
    rw [hvports, mapPort_length]
    exact hulen
  have hwake := wakeOnPort_frame (sp == .ss) p.val .disconnect (flushPort p.val v)
  have hflush := flushPort_tree p.val v
  have hside : sideOf (sp == .ss) (portOf p.val (wakeOnPort (sp == .ss) p.val .disconnect (flushPort p.val v))) =
      sideOf (sp == .ss) (portOf p.val u) := by
    have hidle (x : DownPortState) : sideOf (sp == .ss) (ttIdled x) = sideOf (sp == .ss) x := rfl
    rw [portOf_congr (hwake .ports (by decide)), portOf_flushPort hvlen, hidle, portOf_congr hvports, portOf_mapPort hulen, detachSide_sides]
  refine ⟨wakeOnPort (sp == .ss) p.val .disconnect (flushPort p.val v), congrArg Host.Outcome.next ?_, ?_, ?_, ?_, ?_, ?_⟩
  · simp only [connectChange, if_neg hsit', Bool.false_eq_true, if_false, hconn', if_true, hv, hu]
  · rw [hside, huside]
  · rw [hside, huside]
  · rw [hside, huside]
  · exact (hwake .clk (by decide)).trans (hflush.clk.trans ((hvframe .clk (by decide)).trans (huframe .clk (by decide))))
  · exact (hwake .cfg (by decide)).trans (hflush.cfg.trans ((hvframe .cfg (by decide)).trans (huframe .cfg (by decide))))

/-- Settles O47: the trailer unit's outcome follows from R263's table, and a stream's frames enter its table of received frames at
distinct ticks, so that none replaces another of its packet. -/
theorem streamsAndTdmFrames : Obligations.StreamsAndTdmFrames := by
  unfold Obligations.StreamsAndTdmFrames
  refine ⟨fun s hroot hawake => ?_, fun p slots tr s u last hslots hunits hrun hawake hentry hu hcheck hlast => ⟨fun hcrc hctr => ?_,
    fun hcrc hmark => ?_⟩, fun p slots tr s hslots => ⟨_, if_neg hslots⟩, fun p addr iface fs s x n hfind hrun hctx hn =>
    ⟨fun hroom => ?_, fun hroom hqueue => ?_⟩, fun p sp s hlen hsit => ⟨exec_connects hlen hsit, exec_disconnects hlen hsit⟩⟩
  · obtain ⟨t, ht, hframe, hclk, hout⟩ := exec_tdmFrameOut hroot hawake
    exact ⟨t, ht, hframe, hclk, hout, fun p _ => tdmOut_frame p s⟩
  · subst hu
    obtain ⟨t, ht, hframe, hunit⟩ := exec_tdmFrameIn tr hslots hunits hrun hawake hentry
    obtain ⟨hcounts, hgot⟩ := tdmTake_checked s.clk.tick.toNat slots tr.toNat hcheck hlast
    rw [checkOutcome_good hctr hcrc] at hcounts hgot
    refine ⟨t, ht, hframe, ?_, ?_⟩
    · rw [hunit, hcounts]
      rfl
    · rw [hunit, hgot]
      exact lookupD_insertKey_same _ _ _ _
  · subst hu
    obtain ⟨t, ht, hframe, hunit⟩ := exec_tdmFrameIn tr hslots hunits hrun hawake hentry
    obtain ⟨hcounts, hgot⟩ := tdmTake_checked s.clk.tick.toNat slots tr.toNat hcheck hlast
    rw [checkOutcome_crc hcrc hmark] at hcounts hgot
    refine ⟨t, ht, hframe, ?_, ?_⟩
    · rw [hunit, hcounts]
      rfl
    · rw [hunit, hgot]
      exact lookupD_insertKey_same _ _ _ _
  · rw [exec_ownedStreamPacket hfind hrun hn, crossIso_noRoom (s := fresh s) _ hroom]
    rfl
  · obtain ⟨hframe, hstreams⟩ := streamPacket_plain (s.clk.tick.toNat - s.clk.tick.toNat % x.perPacket) fs
      (s := rewriteCells (freeCells n (fresh s)) (fresh s)) hctx
    refine ⟨_, _, ?_, Frame_mono (Frame_trans (frame_sw (fresh s) _) hframe) (by simp), ?_, hstreams, fun i hi hlen =>
      deliverFrom_packet _ fs hctx hi hlen⟩
    · rw [exec_ownedStreamPacket hfind hrun hn, crossIso_room (s := fresh s) _ hroom, crossCore_dsp (s := fresh s) hqueue]
      rfl
    · exact deliverFrom_begun _ _ _ _ _

end Sys2Proof.Proofs
end

section
/-!
Packets of the function's bulk endpoints (R96 to R99).
-/

namespace Sys2Proof.Proofs

open Sys2Proof
open Sys2Proof.Machine
open Sys2Proof.Safety
open Sys2Proof.Laws

/-! ## Containers -/

theorem containers_short {l : List Byte} (h : l.length < 3) : containers l = ([], l) := by
  match l, h with
  | [], _ => rfl
  | [_], _ => rfl
  | [_, _], _ => rfl

/-- The value of three bytes, its end bit and its PRIO. -/
theorem container_bits (a b c : Byte) :
    bitOf (a.toNat + 256 * b.toNat + 65536 * c.toNat) 23 = bitOf c.toNat 7 ∧
      (a.toNat + 256 * b.toNat + 65536 * c.toNat) / 2 ^ 20 % 4 = c.toNat / 16 % 4 := by
  have ha := a.isLt
  have hb := b.isLt
  have hc : (a.toNat + 256 * b.toNat + 65536 * c.toNat) / 65536 = c.toNat := by omega
  refine ⟨?_, ?_⟩
  · unfold bitOf
    rw [show (a.toNat + 256 * b.toNat + 65536 * c.toNat) / 2 ^ 23 = c.toNat / 2 ^ 7 by omega]
  · omega

/-! ## Bulk OUT -/

/-- A packet acknowledged: its containers are taken and its remainder kept. -/
def bulkTaken (bytes : List Byte) (cs : List Nat) (left : List Byte) (s : State) : State :=
  let s := cs.foldl (fun s c => takeContainer c s) s
  emit (.handshake .ack) { s with mbx := { s.mbx with usbBytes := left }, hub := { s.hub with ram := { s.hub.ram with bulkOut := bytes } } }

theorem bulkTaken_frame (bytes : List Byte) (v : Nat) (s : State) :
    Frame [.out, .mbx, .hub] (takeContainer v s) (bulkTaken bytes [v] [] s) := by
  intro g hg
  cases g <;> simp_all [same, bulkTaken, emit]

section BulkOut

variable {s : State} {bytes left : List Byte} {cs : List Nat} (hup : usbUp s = true) (hlen : bytes.length ≤ 1024)
  (hcs : containers (s.mbx.usbBytes ++ bytes) = (cs, left))
include hup hlen hcs

theorem exec_bulkOut_taken (hroom : roomFor (addressed s.mbx.usbOpen cs) s = true)
    (hcore : coreRoom .bulk 0 0x800 (cellCount bytes.length) s = true) :
    exec (.bulkOutPacket bytes) s = .next (bulkTaken bytes cs left (crossCore .bulk 0x800 (cellCount bytes.length) (fresh s))) := by
  have hup' : usbUp (fresh s) = true := hup
  have hcs' : containers ((fresh s).mbx.usbBytes ++ bytes) = (cs, left) := hcs
  have hroom' : roomFor (addressed (fresh s).mbx.usbOpen cs) (fresh s) = true := hroom
  have hcore' : coreRoom .bulk 0 0x800 (cellCount bytes.length) (fresh s) = true := hcore
  refine (if_pos hlen).trans (congrArg Host.Outcome.next ?_)
  simp only [bulkOut, hup', hcs', hroom']
  exact if_pos hcore'

theorem exec_bulkOut_nak (hroom : roomFor (addressed s.mbx.usbOpen cs) s = false) :
    exec (.bulkOutPacket bytes) s = .next { fresh s with out := [.handshake .nak] } := by
  have hup' : usbUp (fresh s) = true := hup
  have hcs' : containers ((fresh s).mbx.usbBytes ++ bytes) = (cs, left) := hcs
  have hroom' : roomFor (addressed (fresh s).mbx.usbOpen cs) (fresh s) = false := hroom
  refine (if_pos hlen).trans (congrArg Host.Outcome.next ?_)
  simp only [bulkOut, hup', hcs', hroom']
  rfl

end BulkOut

theorem roomFor_one {k : Fin 4} {s : State} (h : (subQueue .u k.val s).used < 512) : roomFor [k] s = true := by
  refine List.all_eq_true.mpr fun j _ => ?_
  by_cases hj : k.val = j
  · subst hj
    simp [List.filter]
    omega
  · have hne : (k.val == j) = false := beq_false_of_ne hj
    simp [List.filter, hne]

/-- The one container that opens and ends its packet. -/
theorem takeContainer_whole {v : Nat} {k : Nat} {s : State} (hopen : s.mbx.usbOpen = none) (hend : bitOf v 23 = true)
    (hk : v / 2 ^ 20 % 4 = k) (htakes : takesWords (subQueue .u k s)) (hsize : s.mbx.inU.length = 4) :
    let t := takeContainer v s
    Frame [.mbx, .zon] s t ∧ t.mbx = { s.mbx with inU := t.mbx.inU } ∧
      subQueue .u k t = { subQueue .u k s with
        packets := (subQueue .u k s).packets ++ [{ words := (subQueue .u k s).part ++ [mbxWord (w18 v) true], arrival := s.clk.tick }]
        part := [] } := by
  have hself : ({ s with mbx := { s.mbx with usbOpen := none } } : State) = s := by rw [← hopen]
  have hkv : (Fin.ofNat 4 (v / 2 ^ 20)).val = k := hk
  have htake : takeContainer v s = completePacket .u k (subQueue .u k s) (mbxWord (w18 v) true) s := by
    simp only [takeContainer, hopen, hend, Option.getD_none, hkv, if_true]
    rw [hself, acceptWord_completed htakes rfl]
  have hklt : k < (subQueues .u s).length := by
    show k < s.mbx.inU.length
    omega
  obtain ⟨hframe, hmbx, -⟩ := completePacket_facts .u k (subQueue .u k s) (mbxWord (w18 v) true) s
  simp only [htake]
  refine ⟨hframe, ?_, ?_⟩
  · rw [hmbx]
    rfl
  · rw [subQueue_of_mbx hmbx, subQueue_setSubQueue hklt]

/-! ## Bulk IN -/

theorem containerOf_length (w : MbxWord) : (containerOf w).length = 3 := rfl

theorem fillChunk_all {max : Nat} (ws : List MbxWord) (bs : List Byte) (hclean : ∀ w ∈ ws, w.poisoned = false)
    (hlen : bs.length + 3 * ws.length < max) : fillChunk max bs ws = (bs ++ ws.flatMap containerOf, [], 0) := by
  induction ws generalizing bs with
  | nil => rw [fillChunk, List.flatMap_nil, List.append_nil]
  | cons w ws ih =>
    rw [List.length_cons] at hlen
    rw [fillChunk, if_neg (by omega), ih (bs ++ containerOf w) (fun x hx => hclean x (List.mem_cons_of_mem _ hx))
      (by rw [List.length_append, containerOf_length]; omega), hclean w List.mem_cons_self]
    simp [bit]

theorem flatMap_containers_length (ws : List MbxWord) : (ws.flatMap containerOf).length = 3 * ws.length := by
  induction ws with
  | nil => rfl
  | cons w ws ih =>
    rw [List.flatMap_cons, List.length_append, ih, containerOf_length, List.length_cons]
    omega

/-- A packet that fills less than one USB packet is answered whole and ends the transfer. -/
theorem bulkInStep_short {max : Nat} {pk : OutPacket} (rest : List OutPacket) (hclean : ∀ w ∈ pk.words, w.poisoned = false)
    (hlen : 3 * pk.words.length < max) :
    bulkInStep max (pk :: rest) [] false = (some (pk.words.flatMap containerOf), rest, [], false, 0) := by
  have hfill := fillChunk_all pk.words [] hclean (by simpa using hlen)
  rw [List.nil_append] at hfill
  have hbytes := flatMap_containers_length pk.words
  rw [bulkInStep, if_neg Bool.false_ne_true]
  simp only [hfill]
  rw [List.take_of_length_le (by omega), List.drop_of_length_le (by omega), decide_eq_false (by omega)]

section BulkIn

variable {s : State} (hup : usbUp s = true)
include hup

theorem exec_bulkIn_reply_nak (hq : s.mbx.reply = []) (htail : s.mbx.replyTail = false) :
    exec (.bulkInToken false) s = .next { fresh s with out := [.handshake .nak] } := by
  have hup' : usbUp (fresh s) = true := hup
  have hstep : bulkInStep (bulkMax (fresh s)) (fresh s).mbx.reply (fresh s).mbx.replyXfer (fresh s).mbx.replyTail =
      (none, [], s.mbx.replyXfer, false, 0) := by
    rw [show (fresh s).mbx.reply = [] from hq, show (fresh s).mbx.replyTail = false from htail]
    rfl
  refine congrArg Host.Outcome.next ?_
  simp only [bulkIn, hup', hstep]
  rfl

theorem exec_bulkIn_event_nak (hq : s.mbx.event = []) (htail : s.mbx.eventTail = false) :
    exec (.bulkInToken true) s = .next { fresh s with out := [.handshake .nak] } := by
  have hup' : usbUp (fresh s) = true := hup
  have hstep : bulkInStep (bulkMax (fresh s)) (fresh s).mbx.event (fresh s).mbx.eventXfer (fresh s).mbx.eventTail =
      (none, [], s.mbx.eventXfer, false, 0) := by
    rw [show (fresh s).mbx.event = [] from hq, show (fresh s).mbx.eventTail = false from htail]
    rfl
  refine congrArg Host.Outcome.next ?_
  simp only [bulkIn, hup', hstep]
  rfl

variable {pk : OutPacket} {rest : List OutPacket} (hclean : ∀ w ∈ pk.words, w.poisoned = false) (hlen : 3 * pk.words.length < bulkMax s)
  (hcore : coreRoom .bulk 11 1 (cellCount (pk.words.flatMap containerOf).length) s = true)
include hclean hlen hcore

theorem exec_bulkIn_reply (hq : s.mbx.reply = pk :: rest) (htail : s.mbx.replyTail = false) (hxfer : s.mbx.replyXfer = []) :
    exec (.bulkInToken false) s = .next { crossCore .bulk 1 (cellCount (pk.words.flatMap containerOf).length) (fresh s) with
      out := [.usbData (pk.words.flatMap containerOf)], mbx := { s.mbx with reply := rest }
      hub := { s.hub with ram := { s.hub.ram with reply := pk.words.flatMap containerOf } } } := by
  have hup' : usbUp (fresh s) = true := hup
  have hcore' : coreRoom .bulk 11 1 (cellCount (pk.words.flatMap containerOf).length) (fresh s) = true := hcore
  have hstep : bulkInStep (bulkMax (fresh s)) (fresh s).mbx.reply (fresh s).mbx.replyXfer (fresh s).mbx.replyTail =
      (some (pk.words.flatMap containerOf), rest, [], false, 0) := by
    rw [show (fresh s).mbx.reply = pk :: rest from hq, show (fresh s).mbx.replyXfer = [] from hxfer,
      show (fresh s).mbx.replyTail = false from htail]
    exact bulkInStep_short rest hclean hlen
  have hmbx : ({ s.mbx with reply := rest } : Mailbox) = { s.mbx with reply := rest, replyXfer := [], replyTail := false } := by
    rw [← hxfer, ← htail]
  refine congrArg Host.Outcome.next ?_
  simp only [bulkIn, hup', hstep, hmbx]
  exact if_pos hcore'

theorem exec_bulkIn_event (hq : s.mbx.event = pk :: rest) (htail : s.mbx.eventTail = false) (hxfer : s.mbx.eventXfer = []) :
    exec (.bulkInToken true) s = .next { crossCore .bulk 1 (cellCount (pk.words.flatMap containerOf).length) (fresh s) with
      out := [.usbData (pk.words.flatMap containerOf)], mbx := { s.mbx with event := rest }
      hub := { s.hub with ram := { s.hub.ram with event := pk.words.flatMap containerOf } } } := by
  have hup' : usbUp (fresh s) = true := hup
  have hcore' : coreRoom .bulk 11 1 (cellCount (pk.words.flatMap containerOf).length) (fresh s) = true := hcore
  have hstep : bulkInStep (bulkMax (fresh s)) (fresh s).mbx.event (fresh s).mbx.eventXfer (fresh s).mbx.eventTail =
      (some (pk.words.flatMap containerOf), rest, [], false, 0) := by
    rw [show (fresh s).mbx.event = pk :: rest from hq, show (fresh s).mbx.eventXfer = [] from hxfer,
      show (fresh s).mbx.eventTail = false from htail]
    exact bulkInStep_short rest hclean hlen
  have hmbx : ({ s.mbx with event := rest } : Mailbox) = { s.mbx with event := rest, eventXfer := [], eventTail := false } := by
    rw [← hxfer, ← htail]
  refine congrArg Host.Outcome.next ?_
  simp only [bulkIn, hup', hstep, hmbx]
  exact if_pos hcore'

end BulkIn

/-- A packet of one container that opens and ends its packet. -/
theorem exec_bulkOut_whole {s : State} {a b c : Byte} (hup : usbUp s = true) (hcore : coreRoom .bulk 0 0x800 1 s = true)
    (hbytes : s.mbx.usbBytes = []) (hopen : s.mbx.usbOpen = none) (hend : bitOf c.toNat 7 = true)
    (htakes : takesWords (subQueue .u (c.toNat / 16 % 4) s)) (hsize : s.mbx.inU.length = 4) :
    ∃ t, exec (.bulkOutPacket [a, b, c]) s = .next t ∧ Frame [.out, .mbx, .zon, .hub, .sw] (fresh s) t ∧ t.out = [.handshake .ack] ∧
      t.mbx.usbBytes = [] ∧ t.mbx.usbOpen = none ∧ t.hub = { s.hub with ram := { s.hub.ram with bulkOut := [a, b, c] } } ∧
      subQueue .u (c.toNat / 16 % 4) t = { subQueue .u (c.toNat / 16 % 4) s with
        packets := (subQueue .u (c.toNat / 16 % 4) s).packets ++
          [{ words := (subQueue .u (c.toNat / 16 % 4) s).part ++ [mbxWord (w18 (a.toNat + 256 * b.toNat + 65536 * c.toNat)) true]
             arrival := s.clk.tick }]
        part := [] } := by
  obtain ⟨v, hv⟩ : ∃ v, v = a.toNat + 256 * b.toNat + 65536 * c.toNat := ⟨_, rfl⟩
  obtain ⟨hbit, hprio⟩ := container_bits a b c
  rw [← hv] at hbit hprio ⊢
  have hcs : containers (s.mbx.usbBytes ++ [a, b, c]) = ([v], []) := by
    rw [hbytes, hv]
    rfl
  have hroom : roomFor (addressed s.mbx.usbOpen [v]) s = true := by
    rw [hopen]
    refine roomFor_one (k := Fin.ofNat 4 (v / 2 ^ 20)) ?_
    rw [show (Fin.ofNat 4 (v / 2 ^ 20)).val = c.toNat / 16 % 4 from hprio]
    exact htakes.2.1
  obtain ⟨u, hu⟩ : ∃ u, u = crossCore .bulk 0x800 1 (fresh s) := ⟨_, rfl⟩
  have husw : u = { fresh s with sw := u.sw } := by
    rw [hu]
    exact crossCore_sw (by decide) _ _ _
  have humbx : u.mbx = s.mbx := by rw [husw]; rfl
  have huqueue : subQueue .u (c.toNat / 16 % 4) u = subQueue .u (c.toNat / 16 % 4) s := subQueue_of_mbx humbx _ _
  obtain ⟨hframe, hmbx, hqueue⟩ := takeContainer_whole (v := v) (by rw [humbx]; exact hopen) (hbit.trans hend) hprio
    (by rw [huqueue]; exact htakes) (by rw [humbx]; exact hsize)
  have hone : cellCount [a, b, c].length = 1 := by simp [cellCount]
  have hexec := exec_bulkOut_taken (bytes := [a, b, c]) hup (by simp) hcs hroom (by rw [hone]; exact hcore)
  rw [hone, ← hu] at hexec
  have huframe : Frame [.sw] (fresh s) u := by
    rw [husw]
    exact frame_sw _ _
  have hout : (takeContainer v u).out = [] := (hframe .out (by decide)).trans (huframe .out (by decide))
  have hhub : (takeContainer v u).hub = s.hub := (hframe .hub (by decide)).trans (huframe .hub (by decide))
  refine ⟨_, hexec, ?_, ?_, rfl, ?_, ?_, ?_⟩
  · exact Frame_mono (Frame_trans (Frame_trans huframe hframe) (bulkTaken_frame _ _ _)) (by simp)
  · show (takeContainer v u).out ++ [_] = _
    rw [hout]
    rfl
  · show (takeContainer v u).mbx.usbOpen = none
    rw [hmbx, humbx]
    exact hopen
  · show ({ (takeContainer v u).hub with ram := { (takeContainer v u).hub.ram with bulkOut := [a, b, c] } } : Hub) = _
    rw [hhub]
  · have hclk : u.clk = s.clk := huframe .clk (by decide)
    rw [huqueue, hclk] at hqueue
    exact hqueue

/-- Settles O14: each packet by its containers and the room for them, each token by the queue's first packet. -/
theorem bulkEndpoints : Obligations.BulkEndpoints := by
  unfold Obligations.BulkEndpoints
  refine fun s hup => ⟨fun bytes hlen hcore hshort => ?_, fun a b c => exec_bulkOut_whole hup, fun bytes hlen hroom => ?_,
    exec_bulkIn_reply_nak hup, exec_bulkIn_event_nak hup, fun pk rest hq htail hxfer hclean hlen bs hbs hcore => ?_,
    fun pk rest hq htail hxfer hclean hlen bs hbs hcore => ?_⟩
  · rw [exec_bulkOut_taken hup hlen (containers_short hshort) (by cases s.mbx.usbOpen <;> rfl) hcore]
    rfl
  · exact exec_bulkOut_nak hup hlen (cs := (containers (s.mbx.usbBytes ++ bytes)).1) rfl hroom
  · subst hbs
    exact exec_bulkIn_reply hup hclean hlen hcore hq htail hxfer
  · subst hbs
    exact exec_bulkIn_event hup hclean hlen hcore hq htail hxfer

end Sys2Proof.Proofs
end

section
/-!
What a fault, a slow-clock edge and a tamper action leave of the AON domain, and the events of security (R112, R424 to R436, R447).
-/

namespace Sys2Proof.Proofs

open Sys2Proof
open Sys2Proof.Machine
open Sys2Proof.Safety
open Sys2Proof.Laws

/-! ## The AON domain and the boot state over a fault -/

/-- A fault writes of the AON domain the history, safe state and the reset cause, and of the boot state the events held, the resets
requested and the fault that requested one; the reset cause only while a warm chip reset is in progress. -/
structure FaultStep (s t : State) : Prop where
  aon : t.aon = { s.aon with hist := t.aon.hist, safeActive := t.aon.safeActive, safeLatched := t.aon.safeLatched, rstCause := t.aon.rstCause }
  boot : t.boot = { s.boot with held := t.boot.held, warmReq := t.boot.warmReq, resetFault := t.boot.resetFault }
  cause : s.boot.warmBusy = false → t.aon.rstCause = s.aon.rstCause

theorem FaultStep.of_eq {s t : State} (haon : t.aon = s.aon) (hboot : t.boot = s.boot) : FaultStep s t :=
  ⟨by rw [haon], by rw [hboot], fun _ => by rw [haon]⟩

theorem FaultStep.refl (s : State) : FaultStep s s := .of_eq rfl rfl

theorem FaultStep.trans {s t u : State} (h : FaultStep s t) (h' : FaultStep t u) : FaultStep s u :=
  ⟨by rw [h'.aon, h.aon], by rw [h'.boot, h.boot], fun hb => (h'.cause (by rw [h.boot]; exact hb)).trans (h.cause hb)⟩

theorem FaultStep.ite {s t u : State} {p : Prop} [Decidable p] (h : FaultStep s t) (h' : FaultStep s u) : FaultStep s (if p then t else u) := by
  split
  · exact h
  · exact h'

theorem post_faultStep (w0 : Word) (ps : List Word) (s : State) : FaultStep s (post w0 ps s) := by
  have haon : (post w0 ps s).aon = s.aon := by simp
  refine ⟨by rw [haon], ?_, fun _ => by rw [haon]⟩
  unfold post
  split
  · rw [show (postAt w0 ps s.clk.tick s).boot = s.boot by simp]
  · rfl

theorem requestWarm_faultStep (c : WarmCause) (s : State) : FaultStep s (requestWarm c s) := by
  unfold requestWarm
  split
  · rename_i hbusy
    exact ⟨rfl, rfl, fun h => absurd (h.symm.trans hbusy) Bool.false_ne_true⟩
  · exact ⟨rfl, rfl, fun _ => rfl⟩

theorem react_faultStep (src : BitVec 12) (cls sev : Nat) (esc : Bool) (s : State) : FaultStep s (react src cls sev esc s) := by
  have counted (t : State) (f : Faults) : FaultStep t { t with flt := f } := .of_eq rfl rfl
  have noted (t : State) (e : Option HeldEvent) : FaultStep t { t with boot := { t.boot with resetFault := e } } :=
    ⟨rfl, rfl, fun _ => rfl⟩
  unfold react
  extract_lets words first s₁ f₁ s₂ f₂ s₃ e b
  have h₁ : FaultStep s s₁ := .ite (.refl s) (post_faultStep ..)
  have h₂ : FaultStep s s₂ := .ite (h₁.trans (counted _ _)) h₁
  have h₃ : FaultStep s s₃ := .ite (h₂.trans (counted _ _)) h₂
  exact .ite ((h₃.trans (noted _ _)).trans (requestWarm_faultStep ..)) h₃

theorem enterSafe_faultStep (src : BitVec 12) (reason : Nat) (s : State) : FaultStep s (enterSafe src reason s) := by
  unfold enterSafe
  exact .ite (.refl s) ⟨rfl, rfl, fun _ => rfl⟩

theorem addHistory_faultStep (src : BitVec 12) (cls sev : Nat) (esc : Bool) (s : State) : FaultStep s (addHistory src cls sev esc s) :=
  ⟨rfl, rfl, fun _ => rfl⟩

theorem applyFault_faultStep (src : BitVec 12) (cls sev : Nat) (esc : Bool) (s : State) : FaultStep s (applyFault src cls sev esc s) := by
  have listed (t : State) (f : Faults) : FaultStep t { t with flt := f } := .of_eq rfl rfl
  have applied (t : State) : FaultStep t (zoneOcc 5 cls 0 none (countingFault t)) := .of_eq (by simp) (by simp)
  exact ((listed _ _).trans (addHistory_faultStep ..)).trans ((react_faultStep ..).trans (applied _))

theorem takeFault_faultStep (src : BitVec 12) (conf reason : Nat) (s : State) : FaultStep s (takeFault src conf reason s) := by
  cases hnew : isUnacked src s with
  | true =>
    have hlatched : isUnacked src (latchStatus src s) = true := hnew
    simp only [takeFault, hlatched]
    exact .of_eq (by simp) (by simp)
  | false =>
    have latched : FaultStep s (countFault src (latchStatus src s)) := .of_eq rfl rfl
    rw [takeFault_new reason hnew]
    refine .ite ?_ (.ite ((latched.trans (applyFault_faultStep ..)).trans (enterSafe_faultStep ..)) (latched.trans (applyFault_faultStep ..)))
    exact latched.trans (.of_eq (by simp) (by simp))

theorem raiseFault_faultStep (src : BitVec 12) (s : State) : FaultStep s (raiseFault src s) := by
  unfold raiseFault
  exact .ite (.refl s) (takeFault_faultStep ..)

theorem aonFault_faultStep (src : BitVec 12) (s : State) : FaultStep s (aonFault src s) := by
  have marked (t : State) (p : Power) : FaultStep t { t with pwr := p } := .of_eq rfl rfl
  unfold aonFault
  exact .ite (.ite (addHistory_faultStep ..) (.refl s)) (.ite ((raiseFault_faultStep ..).trans (marked _ _)) (raiseFault_faultStep ..))

theorem FaultStep.tampStat {s t : State} (h : FaultStep s t) : t.aon.tampStat = s.aon.tampStat := by rw [h.aon]

/-! ## Slow-clock edges leave the tamper sources -/

theorem applyPosted_tampStat (w : Posted) (s : State) : (applyPosted w s).aon.tampStat = s.aon.tampStat := by
  have wake : (voteWakePol s).aon.tampStat = s.aon.tampStat := by
    unfold voteWakePol
    split
    · rfl
    · exact (raiseFault_faultStep _ _).tampStat
  have tamper : (voteTampPol s).aon.tampStat = s.aon.tampStat := by
    unfold voteTampPol
    split
    · rfl
    · exact (raiseFault_faultStep _ _).tampStat
  have seconds (a : Aon) (x : BitVec 36) : ({ a with rtcSec := x } : Aon).tampStat = a.tampStat := rfl
  have alarm (a : Aon) (x : BitVec 36) : ({ a with rtcAlm := x } : Aon).tampStat = a.tampStat := rfl
  simp only [applyPosted]
  split
  case h_2 => exact wake
  case h_4 => exact tamper
  case h_7 => exact seconds _ _
  case h_8 => exact seconds _ _
  case h_9 => exact alarm _ _
  case h_10 => exact alarm _ _
  all_goals (try split) <;> rfl

theorem aonEdge_tampStat (s : State) : (aonEdge s).aon.tampStat = s.aon.tampStat := by
  have applied (l : List Posted) (t : State) : (l.foldl (fun s w => applyPosted w s) t).aon.tampStat = t.aon.tampStat := by
    induction l generalizing t with
    | nil => rfl
    | cons w l ih => exact (ih _).trans (applyPosted_tampStat w t)
  exact applied _ _

theorem slowTime_tampStat (n : Nat) (s : State) : (slowTime n s).aon.tampStat = s.aon.tampStat := by
  have edge (t : State) : (slowEdge t).aon.tampStat = t.aon.tampStat := aonEdge_tampStat (aonTime 1 t)
  match n with
  | 0 => rfl
  | 1 => exact edge s
  | k + 2 => exact (edge _).trans (edge _)

theorem sleepTime_tampStat (n : Nat) (s : State) : (sleepTime n s).aon.tampStat = s.aon.tampStat := by
  unfold sleepTime
  split
  · exact slowTime_tampStat _ _
  · rfl

/-! ## EPOCH -/

/-- Fuses burned in the three copies are burned in their vote. -/
theorem vote_burn {n : Nat} (t : Trip n) (m : BitVec n) : (t.burn m).vote = t.vote ||| m := by
  refine BitVec.eq_of_getLsbD_eq fun i _ => ?_
  simp only [Trip.vote, Trip.burn, BitVec.getLsbD_or, BitVec.getLsbD_and]
  cases t.a.getLsbD i <;> cases t.b.getLsbD i <;> cases t.c.getLsbD i <;> cases m.getLsbD i <;> rfl

/-- The index of the highest burned fuse. -/
def topFuse (v : BitVec 8) : Nat := (List.range 8).foldl (fun m k => if bitOf v.toNat k then k else m) 0

theorem epoch_eq_topFuse (o : Otp) : o.epoch = topFuse o.epochFuses.vote := rfl

theorem topFuse_burned : ∀ v : BitVec 8, topFuse v < 7 → topFuse (v ||| (1#8 <<< (topFuse v + 1))) = topFuse v + 1 := by decide

theorem epoch_burnEpoch {o : Otp} (h : o.epoch < 7) : o.burnEpoch.epoch = o.epoch + 1 := by
  have hvote : o.burnEpoch.epochFuses.vote = o.epochFuses.vote ||| (1#8 <<< (o.epoch + 1)) := vote_burn _ _
  rw [epoch_eq_topFuse, hvote]
  exact topFuse_burned _ h

/-! ## Sessions and debug responses -/

theorem exec_sessionCounterExhausted {b : Box} {s : State} {ss : Session} (hopen : sessionOf b s = some ss) (hlast : 262143 ≤ ss.counter) :
    exec (.sessionCounterExhausted b) s = .next (postSession b ss.provisioning false 4 (setSession b none (fresh s))) := by
  have hopen' : sessionOf b (fresh s) = some ss := hopen
  refine congrArg Host.Outcome.next ?_
  simp only [hopen', if_pos hlast, closeSession]

/-- What the alarm A1 leaves of the vault. -/
theorem alarmA1_sec (s : State) : (alarmA1 s).sec = { s.sec with sessU := none, sessS := none, challenge := none } := by
  have closed (b : Box) (t : State) : (closeSession b 1 t).sec = (setSession b none t).sec := by
    unfold closeSession
    split
    · simp [postSession]
    · next h => cases b <;> rw [setSession, ← show sessionOf _ t = none from h] <;> rfl
  show { (closeSession .s 1 (closeSession .u 1 s)).sec with challenge := none } = _
  rw [closed, setSession]
  show { { (closeSession .u 1 s).sec with sessS := none } with challenge := none } = _
  rw [closed]
  rfl

theorem exec_dbgResp {key sig : List Byte} {ch : Challenge} {s : State} (hch : s.sec.challenge = some ch) (hin : since ch.start s < 2880000)
    (hkey : debugKey key ch.scope s = true)
    (hsig : ecdsaVerify key (sha256 (debugMessage ch s)) (sig.take 32) (sig.drop 32) = true) :
    exec (.dbgResp key sig) s = .next (
      let t := if ch.scope = 2 then alarmA1 (fresh s) else fresh s
      { t with sec := { t.sec with challenge := none, debug := ch.scope } }) := by
  have hch' : (fresh s).sec.challenge = some ch := hch
  have hall : since ch.start (fresh s) < 60 * Config.tkPerS ∧ debugKey key ch.scope (fresh s) = true ∧
      ecdsaVerify key (sha256 (debugMessage ch (fresh s))) (sig.take 32) (sig.drop 32) = true := ⟨hin, hkey, hsig⟩
  refine congrArg Host.Outcome.next ?_
  simp only [hch', if_pos hall]

theorem exec_dbgResp_fails {key sig : List Byte} {ch : Challenge} {s : State} (hch : s.sec.challenge = some ch)
    (h : 2880000 ≤ since ch.start s ∨ debugKey key ch.scope s = false ∨
      ecdsaVerify key (sha256 (debugMessage ch s)) (sig.take 32) (sig.drop 32) = false) :
    exec (.dbgResp key sig) s = .next (debugFail (fresh s)) := by
  have hch' : (fresh s).sec.challenge = some ch := hch
  have hnot : ¬ (since ch.start (fresh s) < 60 * Config.tkPerS ∧ debugKey key ch.scope (fresh s) = true ∧
      ecdsaVerify key (sha256 (debugMessage ch (fresh s))) (sig.take 32) (sig.drop 32) = true) := by
    rintro ⟨hin, hkey, hsig⟩
    rcases h with hlate | hbad | hbad
    · exact Nat.not_lt.mpr hlate hin
    · exact Bool.noConfusion (hbad.symm.trans hkey)
    · exact Bool.noConfusion (hbad.symm.trans hsig)
  refine congrArg Host.Outcome.next ?_
  simp only [hch', if_neg hnot]

theorem exec_debugChallengeTimeout {ch : Challenge} {s : State} (hch : s.sec.challenge = some ch) (hlate : 2880000 ≤ since ch.start s) :
    exec .debugChallengeTimeout s = .next (debugFail (fresh s)) := by
  have hch' : (fresh s).sec.challenge = some ch := hch
  have hlate' : 60 * Config.tkPerS ≤ since ch.start (fresh s) := hlate
  refine congrArg Host.Outcome.next ?_
  simp only [hch', if_pos hlate']

/-! ## Tamper actions -/

/-- Steps that write the memory alone, done in turn. -/
theorem foldl_mem {α : Type} {f : State → α → State} (hf : ∀ s a, f s a = { s with mem := (f s a).mem }) (l : List α) (s : State) :
    l.foldl f s = { s with mem := (l.foldl f s).mem } := by
  induction l generalizing s with
  | nil => rfl
  | cons a l ih =>
    rw [List.foldl_cons, ih, hf]

/-- The next fuse is burned, or, after the last one, the blobs are erased and EXHAUSTED is burned. -/
theorem burnEpoch_cases (s : State) : (7 ≤ s.sec.otp.epoch ∧ ∃ m, burnEpoch s =
      { s with mem := m, sec := { s.sec with otp := s.sec.otp.burnExhausted } }) ∨
    (s.sec.otp.epoch < 7 ∧ burnEpoch s = { s with sec := { s.sec with otp := s.sec.otp.burnEpoch } }) := by
  unfold burnEpoch
  split
  · next h =>
    generalize hu : List.foldl _ s [0, 1] = u
    have hmem : u = { s with mem := u.mem } := by
      rw [← hu]
      refine foldl_mem (fun t k => ?_) _ _
      split <;> rfl
    refine .inl ⟨h, u.mem, ?_⟩
    rw [hmem]
  · next h => exact .inr ⟨by omega, rfl⟩

theorem burnEpoch_sec (s : State) : (burnEpoch s).sec = { s.sec with otp := (burnEpoch s).sec.otp } ∧
    (burnEpoch s).sec.otp.epoch = if 7 ≤ s.sec.otp.epoch then s.sec.otp.epoch else s.sec.otp.epoch + 1 := by
  rcases burnEpoch_cases s with ⟨hlast, m, h⟩ | ⟨hnext, h⟩
  · rw [h, if_pos hlast]
    exact ⟨rfl, rfl⟩
  · rw [h, if_neg (by omega)]
    exact ⟨rfl, epoch_burnEpoch hnext⟩

theorem burnEpoch_groups (s : State) : (burnEpoch s).aon = s.aon ∧ (burnEpoch s).clk = s.clk ∧ (burnEpoch s).cfg = s.cfg := by
  rcases burnEpoch_cases s with ⟨-, m, h⟩ | ⟨-, h⟩ <;> rw [h] <;> exact ⟨rfl, rfl, rfl⟩

/-- The vault is erased, and a SEC.PROVISION in progress ends with STATE. -/
def vaultErased (s : State) : State :=
  let s := { s with sec := { s.sec with hak := none, actions := [2, 1, 1, 1], authLimit := 8 } }
  if s.sec.op.isSome then groupDone 11 stState { s with sec := { s.sec with op := none } } else s

theorem vaultErased_sec (s : State) :
    (vaultErased s).sec = { s.sec with hak := none, actions := [2, 1, 1, 1], authLimit := 8, op := none } := by
  have done (t : State) : (groupDone 11 stState t).sec = t.sec := by simp
  unfold vaultErased
  dsimp only
  split
  · rw [done]
  · next h =>
    have hnone : s.sec.op = none := Option.not_isSome_iff_eq_none.mp h
    simp only [hnone]

/-- What the alarm A2 leaves of the vault. -/
theorem alarmA2_sec (s : State) : let v := (alarmA2 s).sec
    v.hak = none ∧ v.op = none ∧ v.sessU = none ∧ v.sessS = none ∧ v.challenge = none ∧
      v.otp.epoch = if 7 ≤ s.sec.otp.epoch then s.sec.otp.epoch else s.sec.otp.epoch + 1 := by
  obtain ⟨hburn, hepoch⟩ := burnEpoch_sec (alarmA1 s)
  rw [alarmA1_sec] at hburn hepoch
  have hsec : (alarmA2 s).sec = _ := vaultErased_sec (burnEpoch (alarmA1 s))
  dsimp only
  rw [hsec]
  refine ⟨rfl, rfl, ?_, ?_, ?_, hepoch⟩
  all_goals
    dsimp only
    rw [hburn]

/-- What a tamper source's action leaves. -/
theorem takeAction_sec (a : Nat) (s : State) : let v := (takeAction a s).sec
    (a = 0 → v = s.sec) ∧ (1 ≤ a → v.sessU = none ∧ v.sessS = none ∧ v.challenge = none) ∧
      (2 ≤ a → v.hak = none ∧ v.op = none ∧ v.otp.epoch = if 7 ≤ s.sec.otp.epoch then s.sec.otp.epoch else s.sec.otp.epoch + 1) := by
  match a with
  | 0 => exact ⟨fun _ => rfl, fun h => absurd h (by omega), fun h => absurd h (by omega)⟩
  | 1 =>
    refine ⟨fun h => absurd h (by omega), fun _ => ?_, fun h => absurd h (by omega)⟩
    rw [show takeAction 1 s = alarmA1 s from rfl, alarmA1_sec]
    exact ⟨rfl, rfl, rfl⟩
  | n + 2 =>
    obtain ⟨hhak, hop, hu, hs, hch, hepoch⟩ := alarmA2_sec s
    exact ⟨fun h => absurd h (by omega), fun _ => ⟨hu, hs, hch⟩, fun _ => ⟨hhak, hop, hepoch⟩⟩

/-- A tamper action writes neither the AON domain, the clock nor the configuration. -/
theorem takeAction_groups (a : Nat) (s : State) :
    (takeAction a s).aon = s.aon ∧ (takeAction a s).clk = s.clk ∧ (takeAction a s).cfg = s.cfg := by
  have alarm (t : State) : (alarmA1 t).aon = t.aon ∧ (alarmA1 t).clk = t.clk ∧ (alarmA1 t).cfg = t.cfg := by simp
  match a with
  | 0 => exact ⟨rfl, rfl, rfl⟩
  | 1 => exact alarm s
  | n + 2 =>
    obtain ⟨haon, hclk, hcfg⟩ := alarm s
    obtain ⟨haonb, hclkb, hcfgb⟩ := burnEpoch_groups (alarmA1 s)
    have done (t : State) : (groupDone 11 stState t).aon = t.aon ∧ (groupDone 11 stState t).clk = t.clk ∧ (groupDone 11 stState t).cfg = t.cfg := by simp
    show (alarmA2 s).aon = _ ∧ (alarmA2 s).clk = _ ∧ (alarmA2 s).cfg = _
    simp only [alarmA2]
    split
    · obtain ⟨haond, hclkd, hcfgd⟩ := done _
      exact ⟨haond.trans (haonb.trans haon), hclkd.trans (hclkb.trans hclk), hcfgd.trans (hcfgb.trans hcfg)⟩
    · exact ⟨haonb.trans haon, hclkb.trans hclk, hcfgb.trans hcfg⟩

theorem exec_tamper {k : Fin 4} (periods : Nat) {s : State} (h : k.val < 2 ∨ bitOf s.sec.tamperDue.toNat k.val = true) :
    exec (.tamper ⟨periods, k⟩) s = .next (assertTamper k.val (sleepTime periods (fresh s))) := by
  have hsec : (sleepTime periods (fresh s)).sec = s.sec := by simp
  exact congrArg Host.Outcome.next (if_pos (by rw [hsec]; exact h))

/-- A tamper source is latched and takes its action. -/
theorem assertTamper_facts (k : Nat) (s : State) : let t := assertTamper k s
    t.aon.tampStat = s.aon.tampStat ||| (1#4 <<< k) ∧ t.clk = s.clk ∧ t.cfg = s.cfg ∧
      ∃ u : State, u.sec = { s.sec with tamperDue := s.sec.tamperDue &&& ~~~(1#4 <<< k) } ∧
        t.sec = (takeAction (s.sec.actions.getD k 0) u).sec := by
  obtain ⟨v, hv⟩ : ∃ v : State, v = { s with
    aon := { s.aon with tampStat := s.aon.tampStat ||| (1#4 <<< k) }
    sec := { s.sec with tamperDue := s.sec.tamperDue &&& ~~~(1#4 <<< k) } } := ⟨_, rfl⟩
  obtain ⟨u, hu⟩ : ∃ u, u = aonFault (BitVec.ofNat 12 (0o5060 + k)) v := ⟨_, rfl⟩
  obtain ⟨haon, hclk, hcfg⟩ := takeAction_groups (s.sec.actions.getD k 0) u
  have hfault : u.aon.tampStat = v.aon.tampStat ∧ u.clk = v.clk ∧ u.cfg = v.cfg ∧ u.sec = v.sec := by
    rw [hu]
    exact ⟨(aonFault_faultStep _ v).tampStat, by simp, by simp, by simp⟩
  obtain ⟨htamp, hclku, hcfgu, hsecu⟩ := hfault
  have hassert : assertTamper k s =
      let w := takeAction (s.sec.actions.getD k 0) u
      if w.pwr.state = .hibernate then w else post 0o130103 [w18 k, w18 (s.sec.actions.getD k 0), w18 w.sec.otp.epoch] w := by
    rw [hu, hv]
    rfl
  have hposted : let w := takeAction (s.sec.actions.getD k 0) u
      (assertTamper k s).aon = w.aon ∧ (assertTamper k s).clk = w.clk ∧ (assertTamper k s).cfg = w.cfg ∧ (assertTamper k s).sec = w.sec := by
    rw [hassert]
    dsimp only
    split
    · exact ⟨rfl, rfl, rfl, rfl⟩
    · simp
  obtain ⟨haont, hclkt, hcfgt, hsect⟩ := hposted
  refine ⟨?_, ?_, ?_, u, ?_, hsect⟩
  · rw [haont, haon, htamp, hv]
  · rw [hclkt, hclk, hclku, hv]
  · rw [hcfgt, hcfg, hcfgu, hv]
  · rw [hsecu, hv]

/-- A tamper source found asserted, or due. -/
theorem exec_tamper_facts {k : Fin 4} (periods : Nat) {s : State} (h : k.val < 2 ∨ bitOf s.sec.tamperDue.toNat k.val = true) :
    ∃ t, exec (.tamper ⟨periods, k⟩) s = .next t ∧ t.aon.tampStat = s.aon.tampStat ||| (1#4 <<< k.val) ∧
        t.clk = (sleepTime periods (fresh s)).clk ∧ t.cfg = s.cfg ∧
        (s.sec.actions.getD k.val 0 = 0 → t.sec.hak = s.sec.hak ∧ t.sec.sessU = s.sec.sessU ∧ t.sec.sessS = s.sec.sessS) ∧
        (1 ≤ s.sec.actions.getD k.val 0 → t.sec.sessU = none ∧ t.sec.sessS = none ∧ t.sec.challenge = none) ∧
        (2 ≤ s.sec.actions.getD k.val 0 → t.sec.hak = none ∧ t.sec.op = none ∧
          t.sec.otp.epoch = (if 7 ≤ s.sec.otp.epoch then s.sec.otp.epoch else s.sec.otp.epoch + 1)) := by
  have hslept : (sleepTime periods (fresh s)).sec = s.sec ∧ (sleepTime periods (fresh s)).cfg = s.cfg := by simp
  obtain ⟨hsec, hcfg⟩ := hslept
  obtain ⟨htamp, hclk, hcfgt, u, husec, htsec⟩ := assertTamper_facts k.val (sleepTime periods (fresh s))
  obtain ⟨hnone, hone, htwo⟩ := takeAction_sec (s.sec.actions.getD k.val 0) u
  rw [hsec] at husec htsec
  rw [husec] at hnone htwo
  refine ⟨_, exec_tamper periods h, ?_, hclk, hcfgt.trans hcfg, fun ha => ?_, fun ha => ?_, fun ha => ?_⟩
  · rw [htamp, sleepTime_tampStat]
    rfl
  · rw [htsec, hnone ha]
    exact ⟨rfl, rfl, rfl⟩
  · rw [htsec]
    exact hone ha
  · rw [htsec]
    exact htwo ha

/-! ## Vault faults and anti-rollback -/

theorem loadVault_sec (s : State) : (loadVault s).clk = s.clk ∧ (loadVault s).sec.sessU = s.sec.sessU ∧
    (loadVault s).sec.sessS = s.sec.sessS ∧ (loadVault s).sec.otp = s.sec.otp := by
  unfold loadVault
  split <;> exact ⟨rfl, rfl, rfl, rfl⟩

theorem exec_vaultFault (a : Bool) (s : State) : ∃ t, exec (.vaultFault a) s = .next t ∧ t.sec.sessU = none ∧ t.sec.sessS = none ∧
    t.sec.otp = s.sec.otp ∧ t.clk = s.clk := by
  obtain ⟨u, hu⟩ : ∃ u, u = raiseFault (if a then 0o0061 else 0o0060) (fresh s) := ⟨_, rfl⟩
  have hfault : u.sec = s.sec ∧ u.clk = s.clk := by
    rw [hu]
    simp
  obtain ⟨hclk, hsu, hss, hotp⟩ := loadVault_sec { u with sec := { u.sec with sessU := none, sessS := none } }
  refine ⟨_, congrArg Host.Outcome.next (by rw [hu]), hsu, hss, hotp.trans ?_, hclk.trans hfault.2⟩
  show u.sec.otp = s.sec.otp
  rw [hfault.1]

theorem exec_antirollBurn {fw : FwInfo} {s : State} (hfw : s.boot.fw = some fw) (hrun : s.boot.phase = .running) (hsource : fw.source ≠ 2)
    (hold : s.sec.otp.antiroll < fw.rollback) (hcti : s.cfg.active.isSome = true) (hawake : awake s = true)
    (hsafe : s.aon.safeActive = false) (hstable : 2880000 ≤ since s.sec.stableFrom s) :
    exec .antirollBurn s = .next { fresh s with sec := { s.sec with otp := s.sec.otp.burnAntiroll fw.rollback } } := by
  have hfw' : (fresh s).boot.fw = some fw := hfw
  have hall : ((fresh s).boot.phase == .running && fw.source != 2 && decide ((fresh s).sec.otp.antiroll < fw.rollback) &&
      (fresh s).cfg.active.isSome && awake (fresh s) && !(fresh s).aon.safeActive &&
      decide (60 * Config.tkPerS ≤ since (fresh s).sec.stableFrom (fresh s))) = true := by
    rw [show (fresh s).boot.phase = .running from hrun, show (fresh s).cfg.active.isSome = true from hcti,
      show awake (fresh s) = true from hawake, show (fresh s).aon.safeActive = false from hsafe,
      decide_eq_true (show (fresh s).sec.otp.antiroll < fw.rollback from hold),
      decide_eq_true (show 60 * Config.tkPerS ≤ since (fresh s).sec.stableFrom (fresh s) from hstable), bne_iff_ne.mpr hsource]
    rfl
  refine congrArg Host.Outcome.next ?_
  simp only [hfw', if_pos hall]
  rfl

/-- Settles O54: the actions of a tamper source nest, and neither a fault nor a slow-clock edge writes TAMP_STAT. -/
theorem securityEvents : Obligations.SecurityEvents := by
  unfold Obligations.SecurityEvents
  refine fun s => ⟨fun b ss hopen hlast => ⟨_, exec_sessionCounterExhausted hopen hlast, ?_, ?_, ?_⟩, fun key sig ch hch =>
    ⟨fun hin hkey hsig => ?_, exec_dbgResp_fails hch, exec_debugChallengeTimeout hch⟩, fun k periods h => exec_tamper_facts periods h,
    fun a => exec_vaultFault a s, fun fw hfw hrun hsource hold hcti hawake hsafe hstable =>
      exec_antirollBurn hfw hrun hsource hold hcti hawake hsafe hstable⟩
  · rw [sessionOf_of_sec (s := setSession b none (fresh s)) (by simp [postSession])]
    cases b <;> rfl
  · rw [sessionOf_of_sec (s := setSession b none (fresh s)) (by simp [postSession])]
    cases b <;> rfl
  · intro g hg
    cases g <;> simp_all [same, postSession]
  · refine ⟨_, exec_dbgResp hch hin hkey hsig, rfl, rfl, ?_, ?_, ?_⟩
    all_goals dsimp only; split
    · rw [alarmA1_sec]
      rfl
    · rfl
    · rw [alarmA1_sec]
      rfl
    · rfl
    · simp
    · rfl

end Sys2Proof.Proofs
end

section
/-!
The watchdog, the clock monitor and the frame timers (R40, R63, R66, R71, R72, R438).
-/

namespace Sys2Proof.Proofs

open Sys2Proof
open Sys2Proof.Machine
open Sys2Proof.Safety
open Sys2Proof.Laws

/-! ## Watchdog -/

section Watchdog

variable {s : State}

theorem exec_watchdogKickMissed (harmed : s.boot.wdArmed = true) (hfirst : s.boot.kickMissed = false) (hlate : 480 ≤ since s.boot.lastKick s) :
    exec .watchdogKickMissed s = .next (raiseFault 0o0160 { fresh s with boot := { s.boot with kickMissed := true } }) := by
  refine congrArg Host.Outcome.next (if_pos ?_)
  rw [show (fresh s).boot.wdArmed = true from harmed, show (fresh s).boot.kickMissed = false from hfirst,
    decide_eq_true (show kickLimit ≤ since (fresh s).boot.lastKick (fresh s) from hlate)]
  rfl

theorem exec_watchdogReset (harmed : s.boot.wdArmed = true) (hlate : 4800 ≤ since s.boot.lastKick s) :
    exec .watchdogReset s = .next (requestWarm .watchdog (fresh s)) := by
  refine congrArg Host.Outcome.next (if_pos ?_)
  rw [show (fresh s).boot.wdArmed = true from harmed,
    decide_eq_true (show 10 * kickLimit ≤ since (fresh s).boot.lastKick (fresh s) from hlate)]
  rfl

theorem requestWarm_free {t : State} (h : t.boot.warmBusy = false) (c : WarmCause) :
    requestWarm c t = { t with boot := { t.boot with warmReq := t.boot.warmReq ++ [c] } } := if_neg (by rw [h]; exact Bool.false_ne_true)

theorem requestWarm_busy {t : State} (h : t.boot.warmBusy = true) (c : WarmCause) :
    requestWarm c t = { t with aon := { t.aon with rstCause := t.aon.rstCause ||| (1#7 <<< warmBit c) } } := if_pos h

end Watchdog

/-! ## Clock monitor -/

/-- What a failed check does to the clocks. -/
def checkedClock (k : Nat) (c : Clock) : Clock :=
  if k = 0 then { c with refOk := false, ssLocked := false, slowRc := true, relock := false }
  else if k = 2 then { c with ssLocked := false } else c

theorem raiseFault_frame (src : BitVec 12) (s : State) : Frame [.out, .boot, .aon, .mbx, .flt, .hub, .zon] s (raiseFault src s) := by
  have honly := raiseFault_only src s
  unfold OnlyOutBootAonMbxFltHubZon at honly
  intro g hg
  cases g <;> simp_all [same]

theorem frame_clk (s : State) (c : Clock) : Frame [.clk] s { s with clk := c } := by
  intro g hg
  cases g <;> simp_all [same]

theorem exec_clockMonitorFault {s : State} (hawake : awake s = true) (hroot : s.clk.rootLocked = true) (k : Fin 5) :
    exec (.clockMonitorFault k) s = .next (raiseFault (BitVec.ofNat 12 (0o5100 + k.val)) { fresh s with clk := checkedClock k.val s.clk }) := by
  refine congrArg Host.Outcome.next ((if_pos ?_).trans (congrArg (raiseFault _) ?_))
  · rw [show awake (fresh s) = true from hawake]
    exact hroot
  · unfold checkedClock
    split
    · next h => rw [if_pos h]; rfl
    · next h => rw [if_neg (by omega), if_pos h]; rfl
    · next h₀ h₂ => rw [if_neg h₀, if_neg h₂]; rfl

/-! ## Frame timers -/

/-- The timestamp of a SuperSpeed port. -/
def superPackets (k : Nat) (s : State) : List Out :=
  if ((portOf k s).speedOn true).isSome then [.timestamp (k + 1) (frameOf s.clk.tick.toNat) (microOf s.clk.tick.toNat)] else []

/-- The SOF of a port's USB 2 side, once a frame or every microframe. -/
def sofPackets (k : Nat) (s : State) : List Out :=
  match (portOf k s).speedOn false with
  | some .fs => if microOf s.clk.tick.toNat = 0 then [.sof (k + 1) (frameOf s.clk.tick.toNat) 0] else []
  | some .ls => if microOf s.clk.tick.toNat = 0 then [.sof (k + 1) (frameOf s.clk.tick.toNat) 0] else []
  | some _ => [.sof (k + 1) (frameOf s.clk.tick.toNat) (microOf s.clk.tick.toNat)]
  | none => if (portOf k s).attached then [] else [.sof (k + 1) (frameOf s.clk.tick.toNat) (microOf s.clk.tick.toNat)]

/-- What a port's frame timer sends at a microframe. -/
def framePackets (s : State) (k : Nat) : List Out := if frameTimerRuns k s then superPackets k s ++ sofPackets k s else []

/-- A frame timer writes the outputs alone. -/
theorem framePacket_eq (s : State) (o : List Out) (k : Nat) :
    framePacket { s with out := o } k = { s with out := o ++ framePackets s k } := by
  have hruns : frameTimerRuns k { s with out := o } = frameTimerRuns k s := rfl
  have hport : portOf k { s with out := o } = portOf k s := rfl
  unfold framePacket framePackets
  simp only [hruns, hport]
  cases frameTimerRuns k s with
  | false => simp
  | true =>
    have hsuper : (if ((portOf k s).speedOn true).isSome = true then
        emit (.timestamp (k + 1) (frameOf s.clk.tick.toNat) (microOf s.clk.tick.toNat)) { s with out := o } else { s with out := o }) =
          { s with out := o ++ superPackets k s } := by
      unfold superPackets
      split <;> simp [emit]
    simp only [hsuper, Bool.not_true, Bool.false_eq_true, if_false, if_true]
    generalize superPackets k s = y
    unfold sofPackets
    cases (portOf k s).speedOn false with
    | none => dsimp only; split <;> simp [emit]
    | some v => cases v <;> dsimp only <;> (try split) <;> simp [emit]

theorem framePackets_all (s : State) (l : List Nat) (o : List Out) :
    l.foldl framePacket { s with out := o } = { s with out := o ++ l.flatMap (framePackets s) } := by
  induction l generalizing o with
  | nil => simp
  | cons k l ih => rw [List.foldl_cons, framePacket_eq, ih, List.flatMap_cons, List.append_assoc]

theorem exec_microframeStart {s : State} (h : s.clk.tick.toNat % 6 = 0) :
    exec .microframeStart s = .next { fresh s with out := (List.range 10).flatMap (framePackets s) } :=
  congrArg Host.Outcome.next ((if_pos h).trans (framePackets_all s (List.range 10) []))

theorem mem_microframe {s : State} {k : Nat} {o : Out} (hk : k < 10) (hrun : frameTimerRuns k s = true)
    (h : o ∈ superPackets k s ++ sofPackets k s) : o ∈ (List.range 10).flatMap (framePackets s) := by
  refine List.mem_flatMap.mpr ⟨k, List.mem_range.mpr hk, ?_⟩
  rw [framePackets, if_pos hrun]
  exact h

/-- Settles O38: each event by its condition, and a port's packets of a microframe by the speeds of its device. -/
theorem watchdogClocksAndFrames : Obligations.WatchdogClocksAndFrames := by
  unfold Obligations.WatchdogClocksAndFrames
  refine fun s => ⟨exec_watchdogKickMissed, fun harmed hlate => ⟨fun hfree => ?_, fun hbusy => ?_⟩, fun hrun hcti => ?_,
    fun hawake hroot k => ?_, fun href hroot hfree => ?_, fun hroot => ?_, fun hsleep => ?_, fun hmicro => ?_⟩
  · rw [exec_watchdogReset harmed hlate, requestWarm_free (t := fresh s) hfree]
    rfl
  · rw [exec_watchdogReset harmed hlate, requestWarm_busy (t := fresh s) hbusy]
    rfl
  · exact congrArg Host.Outcome.next (if_pos ⟨hrun, hcti⟩)
  · have hframe := raiseFault_frame (BitVec.ofNat 12 (0o5100 + k.val)) { fresh s with clk := checkedClock k.val s.clk }
    exact ⟨_, exec_clockMonitorFault hawake hroot k, hframe .clk (by decide), Frame_mono (Frame_trans (frame_clk _ _) hframe) (by simp)⟩
  · have hbad : ¬ (fresh s).clk.refOk = true := by rw [show (fresh s).clk.refOk = false from href]; exact Bool.false_ne_true
    exact congrArg Host.Outcome.next ((if_neg hbad).trans ((if_pos hroot).trans (requestWarm_free (t := { fresh s with clk := { s.clk with refOk := true, relock := true } }) hfree _)))
  · cases href : s.clk.refOk with
    | false =>
      have hbad : ¬ (fresh s).clk.refOk = true := by rw [show (fresh s).clk.refOk = false from href]; exact Bool.false_ne_true
      exact congrArg Host.Outcome.next ((if_neg hbad).trans (if_neg (by rw [show (fresh s).clk.rootLocked = false from hroot]; exact Bool.false_ne_true)))
    | true =>
      have hkeep : ({ fresh s with clk := { s.clk with refOk := true } } : State) = fresh s := by rw [← href]; rfl
      rw [hkeep]
      exact congrArg Host.Outcome.next (if_pos href)
  · exact congrArg Host.Outcome.next (if_pos hsleep)
  · refine ⟨_, exec_microframeStart hmicro, frame_out _ _, fun k hk hrun hspeed => mem_microframe hk hrun ?_,
      fun k hk hrun hspeed => mem_microframe hk hrun ?_⟩
    · refine List.mem_append_right _ ?_
      rw [sofPackets, hspeed]
      exact List.mem_singleton.mpr rfl
    · refine List.mem_append_left _ ?_
      rw [superPackets, if_pos hspeed]
      exact List.mem_singleton.mpr rfl

end Sys2Proof.Proofs
end

section
/-!
The quiet period, the heartbeat, the scrubbers, the free-list audit and lost events (R24, R110, R204, R254, R388, R397, R400).
-/

namespace Sys2Proof.Proofs

open Sys2Proof
open Sys2Proof.Machine
open Sys2Proof.Safety
open Sys2Proof.Laws

/-! ## Leaving safe state -/

theorem exec_quietPeriodExpiry {s : State} (hblock : atBlock s = true) (hpassed : quietPassed s = true) :
    exec .quietPeriodExpiry s = .next (exitSafe 0 (fresh s)) := by
  refine congrArg Host.Outcome.next (if_pos ?_)
  rw [show atBlock (fresh s) = true from hblock]
  exact hpassed

theorem exitSafe_aon (reason : Nat) (s : State) : (exitSafe reason s).aon = { s.aon with
    safeActive := false, safeLatched := false, safeQuiet := false, recov := min 255 (s.aon.recov + 1) } := by
  simp only [exitSafe]
  simp

theorem exitSafe_frame (reason : Nat) (s : State) : Frame [.out, .boot, .aon, .mbx, .flt, .hub, .zon] s (exitSafe reason s) := by
  have honly := exitSafe_only reason s
  unfold OnlyOutBootAonMbxFltHubZon at honly
  intro g hg
  cases g <;> simp_all [same]

/-! ## Faults of the collector -/

theorem collectorFault_safe {s : State} (hnew : isUnacked 0o5201 s = false) (hoff : blockOff 0o5201 s = false)
    (hsev : 5 ≤ (sevEntry 0o5201 s).vote.toNat % 8) : (raiseFault 0o5201 s).aon.safeActive = true := by
  have hdef : (sourceDef (0o5201#12).toNat).isSome = true := by decide
  rw [show raiseFault 0o5201 s = _ from raiseFault_on hdef hoff]
  obtain ⟨-, -, -, hfive, -⟩ := takeFault_facts ((sevEntry 0o5201 s).vote.toNat % 8) (if (0o5201#12) = 0o5201 then 2 else 0) hnew
  refine hfive ?_
  have hsum : min 5 ((sevEntry 0o5201 s).vote.toNat % 8 + sameClassUnacked 0o5201 s) = 5 := Nat.min_eq_left (by omega)
  simp only [appliedSeverity, hsum]
  rfl

/-! ## Heartbeat -/

/-- The zones without their host mutes, and the occurrence of the loss. -/
def heartbeatLost (s : State) : State :=
  zoneOcc 3 0 0 none (post 0o010601 [0]
    { s with zon := { s.zon with hbLost := true, zones := s.zon.zones.map (fun z => { z with hostMute := false }) } })

theorem heartbeatLost_zon (s : State) : (heartbeatLost s).zon = { s.zon with
    hbLost := true, zones := s.zon.zones.map (fun z => { z with hostMute := false }), occs := s.zon.occs ++ [⟨s.clk.tick, 3, 0, 0, none⟩] } := by
  simp [heartbeatLost, zoneOcc]

theorem heartbeatLost_frame (s : State) : Frame [.out, .boot, .mbx, .hub, .zon] s (heartbeatLost s) := by
  intro g hg
  cases g <;> simp_all [same, heartbeatLost]

theorem exec_heartbeatLoss {s : State} (hrun : s.boot.phase = .running) (hawake : awake s = true) (hblock : atBlock s = true)
    (hheard : s.zon.hbLost = false) (hlate : hbTimeout s ≤ since s.zon.hbTick s) :
    exec .heartbeatLoss s = .next (heartbeatLost (fresh s)) :=
  congrArg Host.Outcome.next (if_pos ⟨hrun, hawake, hblock, hheard, hlate⟩)

/-! ## Patrol scrub -/

theorem raiseTimes_frame (src : BitVec 12) (n : Nat) (s : State) : Frame [.out, .boot, .aon, .mbx, .flt, .hub, .zon] s (raiseTimes src n s) := by
  induction n generalizing s with
  | zero => exact Frame_refl _ _
  | succ n ih => exact Frame_mono (Frame_trans (raiseFault_frame src s) (ih _)) (by simp)

theorem scrubStash_facts (s : State) : (scrubStash s).mem = { s.mem with
      stashWalk := if s.mem.stashWalk + 1 = 524288 then 0 else s.mem.stashWalk + 1
      stashPass := (scrubStash s).mem.stashPass, stashErr := (scrubStash s).mem.stashErr } ∧ (scrubStash s).clk = s.clk := by
  have raised (src : BitVec 12) (t : State) : (raiseFault src t).mem = t.mem ∧ (raiseFault src t).clk = t.clk := by simp
  have bad (g : Nat) (t : State) : (stashUncorrectable g t).mem = t.mem ∧ (stashUncorrectable g t).clk = t.clk := by simp
  simp only [scrubStash, decide_eq_true_eq]
  split
  · exact ⟨rfl, rfl⟩
  · split
    · obtain ⟨hmem, hclk⟩ := raised (bankSource s.mem.stashWalk 1) { s with mem := { s.mem with
        stashWalk := if s.mem.stashWalk + 1 = 524288 then 0 else s.mem.stashWalk + 1
        stashPass := if s.mem.stashWalk + 1 = 524288 then s.clk.tick else s.mem.stashPass
        stashErr := eraseKey s.mem.stashErr s.mem.stashWalk } }
      exact ⟨by rw [hmem], hclk⟩
    · split
      · obtain ⟨hmem, hclk⟩ := bad s.mem.stashWalk { s with mem := { s.mem with
          stashWalk := if s.mem.stashWalk + 1 = 524288 then 0 else s.mem.stashWalk + 1
          stashPass := if s.mem.stashWalk + 1 = 524288 then s.clk.tick else s.mem.stashPass } }
        exact ⟨by rw [hmem], hclk⟩
      · exact ⟨rfl, rfl⟩

theorem scrubCell_facts (s : State) : (scrubCell s).mem = { s.mem with
      cellWalk := if s.mem.cellWalk + 1 = 65536 then 0 else s.mem.cellWalk + 1
      cellPass := if s.mem.cellWalk + 1 = 65536 then s.clk.tick else s.mem.cellPass } ∧ (scrubCell s).clk = s.clk := by
  have raised (src : BitVec 12) (t : State) : (raiseFault src t).mem = t.mem ∧ (raiseFault src t).clk = t.clk := by simp
  have spoiled (i : Nat) (c : Cell) (t : State) : (spoilCell i c t).mem = t.mem ∧ (spoilCell i c t).clk = t.clk := by
    have hframe := raiseTimes_frame 0o3020 (cellErrors i t).2 { t with sw := { t.sw with cells := insertKey t.sw.cells i { c with bad := true } } }
    exact ⟨hframe .mem (by decide), hframe .clk (by decide)⟩
  simp only [scrubCell, decide_eq_true_eq]
  split
  · exact ⟨rfl, rfl⟩
  · split
    · exact raised _ _
    · split
      · split
        · exact ⟨rfl, rfl⟩
        · exact spoiled _ _ _
      · split
        · exact ⟨rfl, rfl⟩
        · exact raised _ _

theorem exec_patrolScrub (s : State) : ∃ t, exec .patrolScrub s = .next t ∧ t.mem.stash = s.mem.stash ∧ t.mem.flash = s.mem.flash ∧
    t.mem.stashWalk = (if s.mem.stashWalk + 1 = 524288 then 0 else s.mem.stashWalk + 1) ∧
    t.mem.cellWalk = (if s.mem.cellWalk + 1 = 65536 then 0 else s.mem.cellWalk + 1) ∧ t.clk = s.clk := by
  obtain ⟨hstash, hclk⟩ := scrubStash_facts (fresh s)
  obtain ⟨hcell, hclk'⟩ := scrubCell_facts (scrubStash (fresh s))
  refine ⟨_, rfl, ?_, ?_, ?_, ?_, hclk'.trans hclk⟩
  · rw [hcell, hstash]
    rfl
  · rw [hcell, hstash]
    rfl
  · rw [hcell, hstash]
    rfl
  · rw [hcell, hstash]
    rfl

/-! ## Free-list audit -/

/-- The cells, each with the references found in the queues. -/
def settled (s : State) : List (Nat × Cell) := s.sw.cells.filterMap (fun c =>
  if queueRefs c.1 s = 0 then none else some (c.1, { c.2 with refs := queueRefs c.1 s, refBad := false }))

theorem mem_settled {s : State} {x : Nat × Cell} (h : x ∈ settled s) : x.2.refs = queueRefs x.1 s ∧ x.2.refs ≠ 0 ∧ x.2.refBad = false := by
  obtain ⟨c, -, hc⟩ := List.mem_filterMap.mp h
  split at hc
  · exact absurd hc (by simp)
  · next hn =>
    obtain rfl := Option.some.inj hc
    exact ⟨rfl, hn, rfl⟩

/-- The core after an audit. -/
def auditedCore (s : State) : Switch := { s.sw with
  leaked := (s.sw.leaked.filter (fun l => !l.2)).map (fun l => (l.1, true)), twice := [], lastAudit := s.clk.tick, cells := settled s }

theorem audit_facts (s : State) : (audit s).sw = auditedCore s ∧ Frame [.out, .boot, .aon, .mbx, .flt, .hub, .zon, .sw] s (audit s) := by
  obtain ⟨u, hu⟩ : ∃ u, u = raiseTimes 0o3022 (s.sw.cells.filter (fun c => c.2.refBad)).length s := ⟨_, rfl⟩
  have hraised : Frame [.out, .boot, .aon, .mbx, .flt, .hub, .zon] s u := by
    rw [hu]
    exact raiseTimes_frame _ _ _
  have hsw : u.sw = s.sw := hraised .sw (by decide)
  obtain ⟨v, hv⟩ : ∃ v, v = settleRefs { u with sw := { u.sw with
    leaked := (s.sw.leaked.filter (fun l => !l.2)).map (fun l => (l.1, true)), twice := [], lastAudit := u.clk.tick } } := ⟨_, rfl⟩
  have hvsw : v.sw = auditedCore s := by
    have hclk : u.clk = s.clk := hraised .clk (by decide)
    rw [hv]
    simp only [settleRefs, auditedCore, settled, queueRefs, hsw, hclk]
    rfl
  have hset : Frame [.sw] u v := by
    rw [hv]
    exact frame_sw _ _
  have hvframe : Frame [.out, .boot, .aon, .mbx, .flt, .hub, .zon, .sw] s v := Frame_trans hraised hset
  obtain ⟨ps, hps⟩ : ∃ ps, audit s = if (decide (0 < unaccounted s) || decide (s.sw.twice ≠ [])) = true then
      post 0o010403 ps (raiseFault 0o3040 v) else v := by
    rw [hv, hu]
    exact ⟨_, rfl⟩
  rw [hps]
  split
  · have hlast : Frame [.out, .boot, .aon, .mbx, .flt, .hub, .zon] v (post 0o010403 ps (raiseFault 0o3040 v)) := by
      intro g hg
      cases g <;> simp_all [same]
    exact ⟨(hlast .sw (by decide)).trans hvsw, Frame_mono (Frame_trans hvframe hlast) (by simp)⟩
  · exact ⟨hvsw, hvframe⟩

theorem exec_freeListAudit {s : State} (h : 4800 ≤ since s.sw.lastAudit s) : exec .freeListAudit s = .next (audit (fresh s)) :=
  congrArg Host.Outcome.next (if_pos h)

/-! ## Lost events -/

theorem exec_eventsLost {w0 : Word} {ps : List Word} {s : State} (hstarted : s.boot.started = true) (hfull : eventFits ps s = false) :
    exec (.eventsLost w0 ps) s = .next { fresh s with
      mbx := { s.mbx with lost := min 262143 (s.mbx.lost + 1), eventSeq := s.mbx.eventSeq + 1 } } := by
  have hcond : ((fresh s).boot.started && !eventFits ps (fresh s)) = true := by
    rw [show (fresh s).boot.started = true from hstarted, show eventFits ps (fresh s) = false from hfull]
    rfl
  refine congrArg Host.Outcome.next ((if_pos hcond).trans ?_)
  rw [post, if_pos (show (fresh s).boot.started = true from hstarted), postAt,
    if_neg (by rw [show eventFits ps (fresh s) = false from hfull]; exact Bool.false_ne_true)]
  rfl

/-- Settles O42: each monitor's effect under its condition; a fault writes neither the memories, the core nor the clock. -/
theorem monitorsRaiseTheirSources : Obligations.MonitorsRaiseTheirSources := by
  unfold Obligations.MonitorsRaiseTheirSources
  refine fun s => ⟨fun hblock hpassed => ?_, rfl, fun hnew hoff hsev => ⟨_, rfl, ?_⟩, fun hrun hawake hblock hheard hlate => ?_,
    exec_patrolScrub s, ⟨fun hlate => ?_, fun hlate => ?_⟩, fun hlate => ?_, rfl, rfl, fun w0 ps => exec_eventsLost⟩
  · obtain ⟨-, -, -, hexits, hhold, hfive⟩ := exitSafe_facts 0 (fresh s)
    exact ⟨_, exec_quietPeriodExpiry hblock hpassed, exitSafe_aon 0 _, hexits, hhold, hfive, exitSafe_frame 0 _⟩
  · exact collectorFault_safe (s := fresh s) hnew hoff hsev
  · exact ⟨_, exec_heartbeatLoss hrun hawake hblock hheard hlate, heartbeatLost_frame _, heartbeatLost_zon _⟩
  · exact congrArg Host.Outcome.next (if_pos (decide_eq_true hlate))
  · exact congrArg Host.Outcome.next (if_pos (decide_eq_true hlate))
  · obtain ⟨hsw, hframe⟩ := audit_facts (fresh s)
    refine ⟨_, exec_freeListAudit hlate, ?_, ?_, ?_, ?_, ?_, hframe⟩
    · rw [hsw]; rfl
    · rw [hsw]; rfl
    · rw [hsw]; rfl
    · rw [hsw]; rfl
    · rw [hsw]
      exact fun x hx => mem_settled hx

end Sys2Proof.Proofs
end

section
/-!
Sample sets, trips, backoff, latches and the power-fail warning (R343 to R362).
-/

namespace Sys2Proof.Proofs

open Sys2Proof
open Sys2Proof.Machine
open Sys2Proof.Safety
open Sys2Proof.Laws

/-! ## Groups that events, flushes and a removed tree touch -/

theorem post_frame (w0 : Word) (ps : List Word) (s : State) : Frame [.out, .boot, .mbx, .hub] s (post w0 ps s) := by
  intro g hg
  cases g <;> simp_all [same]

theorem emit_frame (o : Out) (s : State) : Frame [.out] s (emit o s) := frame_out s _

theorem countDropped_frame (l : List Nat) (s : State) : Frame [.sw] s (countDropped l s) := by
  refine Frame_foldl (fun s i => ?_) l s
  split
  · split
    · exact countStream_frame _ _ _ _ _ _ _
    · exact Frame_refl _ _
  · exact Frame_refl _ _

theorem flushLink_frame (cut : Bool) (k : Nat) (s : State) :
    Frame [.out, .boot, .aon, .mbx, .flt, .hub, .sw, .zon, .ports] s (flushLink cut k s) := by
  have held (iso : Nat) (t : State) : Frame [.sw, .out, .boot, .mbx, .hub] t (endHold k 2 iso t) :=
    Frame_trans (l := [.sw]) (frame_sw _ _) (post_frame _ _ _)
  unfold flushLink
  split
  · have hcount := countDropped_frame (queueOf k 0 s) s
    have hflush := OnlyFlush.frame (flushEgress_only cut k (countDropped (queueOf k 0 s) s))
    exact Frame_mono (Frame_trans (Frame_trans hcount hflush) (held _ _)) (by simp)
  · exact OnlyFlush.frame (Machine.flush_only cut k s)

theorem flushPort_frame (k : Nat) (s : State) : Frame [.out, .boot, .aon, .mbx, .flt, .hub, .sw, .zon, .ports] s (flushPort k s) := by
  unfold flushPort
  split
  · exact flushLink_frame _ _ _
  · exact OnlyFlush.frame (Machine.flush_only _ _ _)

theorem forgetDevice_frame (d : OwnedDev) (s : State) : Frame [.own, .ports, .zon] s (forgetDevice d s) := by
  obtain ⟨hgroups, hhub, hout⟩ := forgetDevice_only d s
  unfold OnlyTree at hgroups
  intro g hg
  cases g <;> simp_all [same]

theorem detachDevice_frame (fault : Bool) (d : OwnedDev) (s : State) :
    Frame [.out, .boot, .aon, .mbx, .flt, .hub, .zon, .own, .ports] s (detachDevice fault d s) := by
  obtain ⟨u, hu⟩ : ∃ u, u = post 0o030602 [w18 (d.port + 1), w18 (devLoc d)] (forgetDevice d s) := ⟨_, rfl⟩
  have hposted : Frame [.own, .ports, .zon, .out, .boot, .mbx, .hub] s u := by
    rw [hu]
    exact Frame_trans (forgetDevice_frame d s) (post_frame _ _ _)
  have hdetach : detachDevice fault d s = if (fault && carriesTag d s) = true then raiseFault 0o2021 u else u := by
    rw [hu]
    rfl
  rw [hdetach]
  split
  · exact Frame_mono (Frame_trans hposted (raiseFault_frame _ _)) (by simp)
  · exact Frame_mono hposted (by simp)

theorem detachTree_frame (k hubPort : Nat) (fault : Bool) (s : State) :
    Frame [.out, .boot, .aon, .mbx, .flt, .hub, .zon, .own, .ports, .sw] s (detachTree k hubPort fault s) := by
  have cleared (t : State) : Frame [.ports] t (clearFailures k hubPort t) := by
    have honly := clearFailures_only k hubPort t
    unfold OnlyPorts at honly
    intro g hg
    cases g <;> simp_all [same]
  have hdetached := Frame_foldl (fun s d => detachDevice_frame fault d s) (lostDevices k hubPort s) s
  unfold detachTree
  dsimp only
  split
  · exact Frame_mono (Frame_trans (Frame_trans hdetached (cleared _)) (flushPort_frame _ _)) (by simp)
  · exact Frame_mono (Frame_trans hdetached (cleared _)) (by simp)

theorem pdGone_frame (n : Nat) (s : State) : Frame [.out, .boot, .mbx, .hub, .flex] s (pdGone n s) := by
  unfold pdGone
  split
  · exact pdDone_frame _ _ _
  · exact Frame_refl _ _

/-- The end of a port's PD command leaves its record but for the command. -/
theorem flexAt_pdGone {n : Nat} {s : State} (h : n < s.flex.length) : flexAt n (pdGone n s) = { flexAt n s with cmd := none } := by
  unfold pdGone
  split
  · exact flexAt_pdDone _ h
  · next hnone => rw [← hnone]

/-! ## Readings -/

/-- What a sample set reads of a port. -/
def reading (f : Flex) : Nat × Int × Int := (f.vbus, f.iA, f.iB)

/-- What a port's part of a sample set leaves: the clock, the configuration, the rails read and every port's readings. -/
structure SetStep (s t : State) : Prop where
  clk : t.clk = s.clk
  cfg : t.cfg = s.cfg
  rails : t.rails.vsrc5 = s.rails.vsrc5 ∧ t.rails.vsrch = s.rails.vsrch ∧ t.rails.vin = s.rails.vin
  flex : t.flex.map reading = s.flex.map reading

theorem SetStep.trans {s t u : State} (h : SetStep s t) (h' : SetStep t u) : SetStep s u := by
  obtain ⟨hc, hg, ⟨h5, hh, hv⟩, hf⟩ := h
  obtain ⟨hc', hg', ⟨h5', hh', hv'⟩, hf'⟩ := h'
  exact ⟨hc'.trans hc, hg'.trans hg, ⟨h5'.trans h5, hh'.trans hh, hv'.trans hv⟩, hf'.trans hf⟩

/-- An operation on other groups. -/
theorem SetStep.of_frame {l : List Group} {s t : State} (h : Frame l s t) (hout : ∀ g ∈ [Group.clk, .cfg, .rails, .flex], g ∉ l) : SetStep s t := by
  have hrails : t.rails = s.rails := h .rails (hout _ (by simp))
  have hflex : t.flex = s.flex := h .flex (hout _ (by simp))
  exact ⟨h .clk (hout _ (by simp)), h .cfg (hout _ (by simp)), by rw [hrails]; exact ⟨rfl, rfl, rfl⟩, by rw [hflex]⟩

theorem SetStep.refl (s : State) : SetStep s s := .of_frame (Frame_refl [] s) (by simp)

theorem SetStep.ite {s t u : State} {p : Prop} [Decidable p] (h : SetStep s t) (h' : SetStep s u) : SetStep s (if p then t else u) := by
  split
  · exact h
  · exact h'

theorem SetStep.foldl {α : Type} {f : State → α → State} (h : ∀ s a, SetStep s (f s a)) (l : List α) (s : State) : SetStep s (l.foldl f s) := by
  induction l generalizing s with
  | nil => exact .refl s
  | cons a l ih => exact (h s a).trans (ih _)

theorem post_set (w0 : Word) (ps : List Word) (s : State) : SetStep s (post w0 ps s) := .of_frame (post_frame w0 ps s) (by decide)

theorem raiseFault_set (src : BitVec 12) (s : State) : SetStep s (raiseFault src s) := .of_frame (raiseFault_frame src s) (by decide)

/-- A change of a port's record that keeps its readings. -/
theorem mapFlex_set {f : Flex → Flex} (h : ∀ x, reading (f x) = reading x) (n : Nat) (s : State) : SetStep s (mapFlex n f s) := by
  have modified (l : List Flex) (n : Nat) : (listModify l n f).map reading = l.map reading := by
    induction l generalizing n with
    | nil => rfl
    | cons x l ih =>
      cases n with
      | zero => exact congrArg (· :: l.map reading) (h x)
      | succ n => exact congrArg (reading x :: ·) (ih n)
  exact ⟨rfl, rfl, ⟨rfl, rfl, rfl⟩, modified s.flex n⟩

theorem pdGone_set (n : Nat) (s : State) : SetStep s (pdGone n s) := by
  have done (c status : Nat) (t : State) : SetStep t (pdDone n status t) := by
    unfold pdDone
    refine .ite ?_ (.refl t)
    have hdone : Frame [.out, .boot, .mbx, .hub] (mapFlex n (fun f => { f with cmd := none }) t)
        (groupDone 0o15 status (mapFlex n (fun f => { f with cmd := none }) t)) := by
      intro g hg
      cases g <;> simp_all [same]
    have hcmd : SetStep t (mapFlex n (fun f => { f with cmd := none }) t) := mapFlex_set (fun _ => by rfl) n t
    have hset := SetStep.of_frame hdone (by decide)
    exact hcmd.trans hset
  unfold pdGone
  split
  · exact done 0 _ s
  · exact .refl s

theorem settleCc_set (n : Nat) (s : State) : SetStep s (settleCc n s) := by
  refine mapFlex_set (fun x => ?_) n s
  split <;> rfl

/-! ## Trips -/

/-- The event of a trip, the removal of an owned tree or the over-current of a pass-through port. -/
def tripEvents (n cause : Nat) (ps : List Word) (latch : Bool) (s : State) : State :=
  let s := raiseFault (BitVec.ofNat 12 (0o4100 + 0o20 * n + cause)) s
  let s := post 0o150705 ps s
  let s := if latch then post 0o151002 [w18 (n + 1), 1] s else s
  if (portOf n s).owned then detachTree n 0 true s
  else
    let s := mapPort n (fun p =>
      { p with usb2 := { p.usb2 with cOverCurrent := true }, usb3 := { p.usb3 with cOverCurrent := true } }) s
    wakeOnPort true n .overCurrent (wakeOnPort false n .overCurrent s)

theorem tripEvents_frame (n cause : Nat) (ps : List Word) (latch : Bool) (s : State) :
    Frame [.out, .boot, .aon, .mbx, .flt, .hub, .zon, .own, .ports, .sw] s (tripEvents n cause ps latch s) := by
  obtain ⟨u, hu⟩ : ∃ u, u = if latch then post 0o151002 [w18 (n + 1), 1] (post 0o150705 ps
      (raiseFault (BitVec.ofNat 12 (0o4100 + 0o20 * n + cause)) s)) else post 0o150705 ps
      (raiseFault (BitVec.ofNat 12 (0o4100 + 0o20 * n + cause)) s) := ⟨_, rfl⟩
  have hposted : Frame [.out, .boot, .aon, .mbx, .flt, .hub, .zon] s u := by
    have hone := Frame_trans (raiseFault_frame (BitVec.ofNat 12 (0o4100 + 0o20 * n + cause)) s) (post_frame 0o150705 ps _)
    rw [hu]
    split
    · exact Frame_mono (Frame_trans hone (post_frame _ _ _)) (by simp)
    · exact Frame_mono hone (by simp)
  have hevents : tripEvents n cause ps latch s = if (portOf n u).owned then detachTree n 0 true u
      else wakeOnPort true n .overCurrent (wakeOnPort false n .overCurrent (mapPort n (fun p =>
        { p with usb2 := { p.usb2 with cOverCurrent := true }, usb3 := { p.usb3 with cOverCurrent := true } }) u)) := by
    rw [hu]
    rfl
  rw [hevents]
  split
  · exact Frame_mono (Frame_trans hposted (detachTree_frame _ _ _ _)) (by simp)
  · exact Frame_mono (Frame_trans (Frame_trans (Frame_trans hposted (mapPort_frame _ _ _)) (wakeOnPort_frame _ _ _ _))
      (wakeOnPort_frame _ _ _ _)) (by simp)

/-- What a trip makes of the port's record (R349, R355, R357). -/
def trippedFlex (cause : Nat) (f : Flex) (t : Tick) (g : Flex) : Flex :=
  let shorts := if cause = 2 then min 3 (f.shorts + 1) else f.shorts
  let latch := (cause == 2 && shorts == 3) || cause == 7
  { g.unpower.leave .open with
    disch := decide (cause ≠ 7), trips := f.trips + 1, shorts := shorts, shortLast := cause == 2, latched := latch, absent := 0
    backoff := if latch then none else some (t + BitVec.ofNat 54 (backoffMs (f.trips + 1) * Config.tkPerMs)) }

theorem trip_eq (n cause : Nat) (s : State) : ∃ ps latch, trip n cause s =
    tripEvents n cause ps latch (mapFlex n (trippedFlex cause (flexAt n s) s.clk.tick) (pdGone n s)) := ⟨_, _, rfl⟩

theorem trip_set (n cause : Nat) (s : State) : SetStep s (trip n cause s) := by
  obtain ⟨ps, latch, h⟩ := trip_eq n cause s
  rw [h]
  have hrecord : SetStep (pdGone n s) (mapFlex n (trippedFlex cause (flexAt n s) s.clk.tick) (pdGone n s)) := mapFlex_set (fun _ => by rfl) n _
  have hevents := SetStep.of_frame (tripEvents_frame n cause ps latch (mapFlex n (trippedFlex cause (flexAt n s) s.clk.tick) (pdGone n s))) (by decide)
  exact ((pdGone_set n s).trans hrecord).trans hevents

theorem flexAt_trip {n : Nat} (cause : Nat) {s : State} (h : n < s.flex.length) :
    flexAt n (trip n cause s) = trippedFlex cause (flexAt n s) s.clk.tick { flexAt n s with cmd := none } := by
  obtain ⟨ps, latch, heq⟩ := trip_eq n cause s
  have hlen : n < (pdGone n s).flex.length := by
    have hmap := congrArg List.length (pdGone_set n s).flex
    rw [List.length_map, List.length_map] at hmap
    omega
  rw [heq, flexAt_congr (tripEvents_frame n cause ps latch _ .flex (by decide)), flexAt_mapFlex hlen, flexAt_pdGone h]

/-! ## One port's part of a sample set -/

theorem stepModels_reading (n : Nat) (s : State) (f : Flex) : reading (stepModels n s f) = reading f := rfl

theorem stepRamp_reading (s : State) (f : Flex) : reading (stepRamp s f) = reading f := by
  unfold stepRamp
  split <;> rfl

theorem addEnergy_reading (s : State) (f : Flex) : reading (addEnergy s f) = reading f := by
  unfold addEnergy
  split <;> rfl

theorem stepCounts_reading (n : Nat) (s : State) (f : Flex) : reading (stepCounts n s f) = reading f := rfl

theorem stepDischarge_reading (f : Flex) : reading (stepDischarge f) = reading f := by
  unfold stepDischarge
  (repeat' split) <;> rfl

theorem finishRamp_reading (s : State) (f : Flex) : reading (finishRamp s f) = reading f := by
  unfold finishRamp
  (repeat' split) <;> rfl

theorem stepHand_reading (s : State) (f : Flex) : reading (stepHand s f) = reading f := by
  unfold stepHand
  (repeat' split) <;> (try dsimp only) <;> (repeat' split) <;> rfl

theorem stepLag_reading (n : Nat) (s : State) (f : Flex) : reading (stepLag n s f) = reading f := by
  unfold stepLag
  (repeat' split) <;> rfl

theorem stepSteady_reading (s : State) (f : Flex) : reading (stepSteady s f) = reading f := rfl

theorem enterFallback_set (n : Nat) (s : State) : SetStep s (enterFallback n s) := by
  have hflag : SetStep s (mapFlex n (fun f => { f with fallback := true, fbSets := 0 }) s) := mapFlex_set (fun _ => by rfl) n s
  exact (hflag.trans (post_set ..)).trans (raiseFault_set ..)

theorem finishRemoval_set (n : Nat) (s : State) : SetStep s (finishRemoval n s) := by
  have left (t : State) : SetStep t (mapFlex n (fun f => f.leave .open) t) := mapFlex_set (fun _ => by rfl) n t
  unfold finishRemoval
  dsimp only
  split
  · exact .ite (.refl s) ((((pdGone_set n s).trans (post_set ..)).trans (left _)).trans (settleCc_set ..))
  · exact .refl s

theorem stepHardReset_set (n : Nat) (s : State) : SetStep s (stepHardReset n s) := by
  unfold stepHardReset
  dsimp only
  split
  · exact .refl s
  · refine .ite (.ite ?_ (.refl s)) (.ite ?_ (.refl s))
    · exact mapFlex_set (fun _ => by rfl) n s
    · exact mapFlex_set (fun _ => by rfl) n s

theorem stepErrorRecovery_set (n : Nat) (s : State) : SetStep s (stepErrorRecovery n s) := by
  have ended : SetStep s (mapFlex n (fun f => { f with errorFrom := none }) s) := mapFlex_set (fun _ => by rfl) n s
  unfold stepErrorRecovery
  split
  · exact .ite ((ended.trans (settleCc_set ..)).trans (pdGone_set ..)) (.refl s)
  · exact .refl s

theorem portSet_set (s : State) (n : Nat) : SetStep s (portSet s n) := by
  have modelled (t : State) (x : Flex) : reading (stepCounts n t (addEnergy t (stepRamp t (stepModels n t x)))) = reading x := by
    rw [stepCounts_reading, addEnergy_reading, stepRamp_reading, stepModels_reading]
  have stepped (t : State) (x : Flex) : reading (stepLag n t (stepHand t (finishRamp t (stepDischarge x)))) = reading x := by
    rw [stepLag_reading, stepHand_reading, finishRamp_reading, stepDischarge_reading]
  have untripped (t : State) : SetStep t (stepErrorRecovery n (stepHardReset n (finishRemoval n (mapFlex n (stepSteady t) t)))) :=
    (((mapFlex_set (stepSteady_reading t) n t).trans (finishRemoval_set ..)).trans (stepHardReset_set ..)).trans (stepErrorRecovery_set ..)
  unfold portSet
  extract_lets s₁ f s₂ s₃
  have h₁ : SetStep s s₁ := mapFlex_set (fun _ => by rfl) n s
  have h₂ : SetStep s s₂ := .ite (h₁.trans (enterFallback_set n s₁)) h₁
  have h₃ : SetStep s s₃ := h₂.trans (mapFlex_set (modelled s₂) n s₂)
  split
  · exact h₃.trans (trip_set ..)
  · exact (h₃.trans (mapFlex_set (stepped s₃) n s₃)).trans (untripped _)

/-! ## The sample set -/

/-- A port's readings are stored. -/
def readInto (a : AdcSet) (s : State) (n : Nat) : State :=
  mapFlex n (fun f => { f with iA := a.iA.getD n 0, iB := a.iB.getD n 0, vbus := a.vbus.getD n 0 }) s

theorem flexAt_mapFlex_other {n k : Nat} (h : k ≠ n) (f : Flex → Flex) (s : State) : flexAt k (mapFlex n f s) = flexAt k s :=
  listModify_getD_other h s.flex f {}

theorem readAll_reading (a : AdcSet) {k : Nat} (l : List Nat) {s : State} (h : k < s.flex.length) :
    reading (flexAt k (l.foldl (readInto a) s)) =
      if k ∈ l then (a.vbus.getD k 0, a.iA.getD k 0, a.iB.getD k 0) else reading (flexAt k s) := by
  induction l generalizing s with
  | nil => rfl
  | cons n l ih =>
    rw [List.foldl_cons, ih (s := readInto a s n) (by rw [readInto, mapFlex_length]; exact h)]
    by_cases hkl : k ∈ l
    · rw [if_pos hkl, if_pos (List.mem_cons_of_mem _ hkl)]
    · by_cases hkn : k = n
      · subst hkn
        rw [if_neg hkl, if_pos List.mem_cons_self, readInto, flexAt_mapFlex h]
        rfl
      · rw [if_neg hkl, if_neg (by simp [hkn, hkl]), readInto, flexAt_mapFlex_other hkn]

theorem readAll_groups (a : AdcSet) (s : State) : Frame [.flex] s ((List.range 4).foldl (readInto a) s) :=
  Frame_foldl (fun s n => mapFlex_frame n _ s) _ s

theorem checkVhi_set (s : State) : SetStep s (checkVhi s) := by
  have noted (t : State) (b : Bool) : SetStep t { t with rails := { t.rails with vhiBad := b } } := ⟨rfl, rfl, ⟨rfl, rfl, rfl⟩, rfl⟩
  unfold checkVhi
  exact .ite ((noted _ _).trans (raiseFault_set ..)) (noted _ _)

theorem sampleSet_set (a : AdcSet) (s : State) :
    SetStep ((List.range 4).foldl (readInto a) { s with rails := { s.rails with vsrc5 := a.vsrc5, vsrch := a.vsrch, vin := a.vin } })
      (sampleSet a s) := by
  have ports (t : State) : SetStep t ((List.range 4).foldl portSet t) := .foldl portSet_set _ t
  have checked (t : State) : SetStep t (if t.cfg.active.isSome then checkVhi t else t) := .ite (checkVhi_set t) (.refl t)
  obtain ⟨u, hu⟩ : ∃ u, u = (List.range 4).foldl (readInto a)
    { s with rails := { s.rails with vsrc5 := a.vsrc5, vsrch := a.vsrch, vin := a.vin } } := ⟨_, rfl⟩
  have hset : sampleSet a s = (List.range 4).foldl portSet (if u.cfg.active.isSome then checkVhi u else u) := by
    unfold readInto at hu
    simp only [sampleSet, ← hu]
  rw [hset, ← hu]
  exact (checked u).trans (ports _)

/-- A port's readings by the list of all. -/
theorem reading_flexAt (k : Nat) (s : State) : reading (flexAt k s) = (s.flex.map reading).getD k (reading {}) := by
  rw [flexAt, List.getD_map]

theorem exec_adcSampleSet {a : AdcSet} {s : State} (hlen : s.flex.length = 4) (hA : a.iA.length = 4) (hB : a.iB.length = 4)
    (hV : a.vbus.length = 4) (hon : s.pwr.state ≠ .hibernate) : ∃ t, exec (.adcSampleSet a) s = .next t ∧
      t.rails.vsrc5 = a.vsrc5 ∧ t.rails.vsrch = a.vsrch ∧ t.rails.vin = a.vin ∧ t.clk = s.clk ∧ t.cfg = s.cfg ∧
      (∀ k < 4, (flexAt k t).vbus = a.vbus.getD k 0 ∧ (flexAt k t).iA = a.iA.getD k 0 ∧ (flexAt k t).iB = a.iB.getD k 0) := by
  obtain ⟨v, hv⟩ : ∃ v : State, v = { fresh s with rails := { s.rails with vsrc5 := a.vsrc5, vsrch := a.vsrch, vin := a.vin } } := ⟨_, rfl⟩
  have hread := readAll_groups a v
  obtain ⟨hclk, hcfg, ⟨h5, hh, hvin⟩, hflex⟩ : SetStep ((List.range 4).foldl (readInto a) v) (sampleSet a (fresh s)) :=
    hv ▸ sampleSet_set a (fresh s)
  have hrails : ((List.range 4).foldl (readInto a) v).rails = v.rails := hread .rails (by decide)
  rw [hrails] at h5 hh hvin
  refine ⟨sampleSet a (fresh s), (if_pos ⟨hA, hB, hV⟩).trans (congrArg Host.Outcome.next (if_neg hon)), ?_, ?_, ?_, ?_, ?_, fun k hk => ?_⟩
  · rw [h5, hv]
  · rw [hh, hv]
  · rw [hvin, hv]
  · rw [hclk, show ((List.range 4).foldl (readInto a) v).clk = v.clk from hread .clk (by decide), hv]
    rfl
  · rw [hcfg, show ((List.range 4).foldl (readInto a) v).cfg = v.cfg from hread .cfg (by decide), hv]
    rfl
  · have hat : reading (flexAt k (sampleSet a (fresh s))) = (a.vbus.getD k 0, a.iA.getD k 0, a.iB.getD k 0) := by
      rw [reading_flexAt, hflex, ← reading_flexAt, readAll_reading a _ (by rw [hv]; show k < s.flex.length; omega),
        if_pos (List.mem_range.mpr hk)]
    injection hat with hvbus hrest
    injection hrest with hiA hiB
    exact ⟨hvbus, hiA, hiB⟩

/-! ## The short trip, backoff and latch -/

theorem exec_shortTrip {n : FlexPort} {i : Nat} {s : State} (hon : s.pwr.state ≠ .hibernate) (hany : anyOn (flexAt n.val s) s = true)
    (hover : shortI n.val s ≤ i) : exec (.shortTrip n i) s = .next (trip n.val 2 (fresh s)) :=
  congrArg Host.Outcome.next (if_pos ⟨hon, hany, le_trans hover (Nat.le_add_right _ _)⟩)

theorem shortTrip_record (f : Flex) (t : Tick) (g : Flex) : let r := trippedFlex 2 f t g
    r.gate5 = .off ∧ r.gateH = .off ∧ r.contract = none ∧ r.cc = .open ∧ r.trips = f.trips + 1 ∧ r.shorts = min 3 (f.shorts + 1) ∧
      r.latched = decide (2 ≤ f.shorts) ∧ (f.shorts < 2 → r.backoff = some (t + BitVec.ofNat 54 (200 * 2 ^ min f.trips 5 * 48))) := by
  have hlatch : (min 3 (f.shorts + 1) == 3) = decide (2 ≤ f.shorts) := by
    by_cases h : 2 ≤ f.shorts
    · rw [Nat.min_eq_left (by omega), decide_eq_true h]
      rfl
    · rw [Nat.min_eq_right (by omega), decide_eq_false h]
      exact beq_false_of_ne (by omega)
  refine ⟨rfl, rfl, rfl, rfl, rfl, rfl, ?_, fun hfew => ?_⟩
  · show ((min 3 (f.shorts + 1) == 3) || false) = _
    rw [hlatch, Bool.or_false]
  · show (if ((min 3 (f.shorts + 1) == 3) || false) = true then none else
      some (t + BitVec.ofNat 54 (backoffMs (f.trips + 1) * Config.tkPerMs))) = _
    rw [hlatch, decide_eq_false (by omega)]
    rfl

theorem flexAt_settleCc {n : Nat} {s : State} (h : n < s.flex.length) : flexAt n (settleCc n s) =
    if (flexAt n s).role = .unattached then { flexAt n s with cc := restCc n s, trySince := none } else flexAt n s :=
  flexAt_mapFlex h _

theorem settleCc_frame (n : Nat) (s : State) : Frame [.flex] s (settleCc n s) := mapFlex_frame n _ s

/-- A port that is armed again. -/
theorem rearm_facts {n : Nat} (state : Nat) {s : State} (h : n < s.flex.length) : let t := rearm n state s
    (flexAt n t).backoff = none ∧ (flexAt n t).latched = false ∧ (flexAt n t).trips = (flexAt n s).trips ∧
      (flexAt n t).shorts = (flexAt n s).shorts ∧ Frame [.out, .boot, .mbx, .hub, .flex] s t := by
  obtain ⟨u, hu⟩ : ∃ u, u = mapFlex n (fun f => { f with latched := false, backoff := none, absent := 0 }) s := ⟨_, rfl⟩
  have hlen : n < u.flex.length := by
    rw [hu, mapFlex_length]
    exact h
  have hat : flexAt n u = { flexAt n s with latched := false, backoff := none, absent := 0 } := by
    rw [hu, flexAt_mapFlex h]
  have hrearm : rearm n state s = post 0o151002 [w18 (n + 1), w18 state] (settleCc n u) := by
    rw [hu]
    rfl
  have hframe : Frame [.flex, .flex, .out, .boot, .mbx, .hub] s (rearm n state s) := by
    have hone : Frame [.flex] s u := by
      rw [hu]
      exact mapFlex_frame _ _ _
    rw [hrearm]
    exact Frame_trans (Frame_trans hone (settleCc_frame n u)) (post_frame _ _ _)
  have hflex : flexAt n (rearm n state s) = flexAt n (settleCc n u) := by
    rw [hrearm]
    exact flexAt_congr (post_frame _ _ _ .flex (by decide)) n
  dsimp only
  rw [hflex, flexAt_settleCc hlen, hat]
  refine ⟨?_, ?_, ?_, ?_, Frame_mono hframe (by simp)⟩
  all_goals split <;> rfl

theorem exec_backoffExpiry {n : FlexPort} {e : Tick} {s : State} (hback : (flexAt n.val s).backoff = some e)
    (hpast : e.toNat ≤ s.clk.tick.toNat) (hcool : cooled n.val s = true) : exec (.backoffExpiry n) s = .next (rearm n.val 0 (fresh s)) := by
  have hback' : (flexAt n.val (fresh s)).backoff = some e := hback
  refine congrArg Host.Outcome.next ?_
  simp only [hback']
  exact if_pos ⟨hpast, hcool⟩

theorem exec_latchProbe {n : FlexPort} {s : State} (rd : Bool) (hlatched : (flexAt n.val s).latched = true) :
    exec (.latchProbe n rd) s = .next (if rd then (if 3 ≤ (flexAt n.val s).absent then endLatch n.val (fresh s)
      else mapFlex n.val (fun f => { f with absent := 0 }) (fresh s)) else mapFlex n.val (fun f => { f with absent := f.absent + 1 }) (fresh s)) := by
  have hlatched' : (flexAt n.val (fresh s)).latched = true := hlatched
  refine congrArg Host.Outcome.next ?_
  simp only [hlatched']
  rfl

theorem endLatch_facts {n : Nat} {s : State} (h : n < s.flex.length) (hlatched : (flexAt n s).latched = true) :
    (flexAt n (endLatch n s)).latched = false ∧ (flexAt n (endLatch n s)).trips = 0 ∧ (flexAt n (endLatch n s)).shorts = 0 := by
  have hend : endLatch n s = rearm n 2 (mapFlex n (fun f => { f with trips := 0, shorts := 0 }) s) := if_pos hlatched
  obtain ⟨-, hl, ht, hs, -⟩ := rearm_facts 2 (n := n) (s := mapFlex n (fun f => { f with trips := 0, shorts := 0 }) s)
    (by rw [mapFlex_length]; exact h)
  rw [flexAt_mapFlex h] at ht hs
  rw [hend]
  exact ⟨hl, ht, hs⟩

theorem exec_consecClear {n : FlexPort} {from_ : Tick} {s : State} (hsteady : (flexAt n.val s).steadyFrom = some from_)
    (hlong : efuseParam n.val 15 s * 48000 ≤ since from_ s) :
    exec (.consecClear n) s = .next (mapFlex n.val (fun f => { f with trips := 0, shorts := 0 }) (fresh s)) := by
  have hsteady' : (flexAt n.val (fresh s)).steadyFrom = some from_ := hsteady
  refine congrArg Host.Outcome.next ?_
  simp only [hsteady']
  exact if_pos hlong

/-! ## The power-fail warning -/

theorem setPfail_facts (on : Bool) (s : State) : (setPfail on s).rails.pfail = on ∧
    Frame [.out, .boot, .mbx, .hub, .flex, .rails] s (setPfail on s) := by
  obtain ⟨u, hu⟩ : ∃ u, u = (List.range 4).foldl alertPort { s with rails := { s.rails with pfail := on } } := ⟨_, rfl⟩
  have alerted (t : State) (n : Nat) : Frame [.out, .flex] t (alertPort t n) := by
    have honly := alertPort_only t n
    unfold OnlyOutFlex at honly
    intro g hg
    cases g <;> simp_all [same]
  have hrails : u.rails = { s.rails with pfail := on } := by
    rw [hu]
    exact (Frame_foldl alerted (List.range 4) { s with rails := { s.rails with pfail := on } }) .rails (by decide)
  have hset : setPfail on s = if awake u then post 0o151101 [w18 (bit on)] u else { u with rails := { u.rails with pfailSleep := some on } } := by
    simp only [setPfail, ← hu]
  refine ⟨?_, ?_⟩
  · rw [hset]
    split
    · rw [show (post 0o151101 [w18 (bit on)] u).rails = u.rails from post_frame _ _ _ .rails (by decide), hrails]
    · show u.rails.pfail = on
      rw [hrails]
  · have honly := setPfail_only on s
    unfold OnlyOutBootMbxHubFlexRails at honly
    intro g hg
    cases g <;> simp_all [same]

theorem exec_pfailWarnAssert {vin : BitVec 12} {s : State} (hlow : vin.toNat < pfailTh s) (hon : s.pwr.state ≠ .hibernate)
    (hoff : s.rails.pfail = false) : exec (.pfailWarnAssert vin) s = .next (setPfail true (fresh s)) :=
  congrArg Host.Outcome.next (if_pos ⟨show pfailTh s ≠ 0 by omega, hlow, hon, hoff⟩)

theorem exec_pfailWarnRelease {s : State} (hon : s.rails.pfail = true) (hpwr : s.pwr.state ≠ .hibernate)
    (hhigh : pfailTh s = 0 ∨ 1200 * pfailTh s + 20 * 4096 < 1200 * s.rails.vin) :
    exec .pfailWarnRelease s = .next (setPfail false (fresh s)) := congrArg Host.Outcome.next (if_pos ⟨hon, hpwr, hhigh⟩)

/-- Settles O59: no step of a sample set writes the readings, and a trip's record is fixed before its events are posted. -/
theorem portFusing : Obligations.PortFusing := by
  unfold Obligations.PortFusing
  refine fun s hlen => ⟨fun a hA hB hV hon => exec_adcSampleSet hlen hA hB hV hon, fun a hbad => ⟨_, if_neg ?_⟩,
    fun n i hon hany hover => ⟨_, exec_shortTrip hon hany hover, ?_⟩, fun n e hback hpast hcool => ?_, fun n hlatched => ⟨fun habsent => ?_, ?_⟩,
    fun n from_ hsteady hlong => ⟨_, exec_consecClear hsteady hlong, mapFlex_frame _ _ _, ?_⟩,
    fun vin hlow hon hoff => ⟨_, exec_pfailWarnAssert hlow hon hoff, setPfail_facts true (fresh s)⟩,
    fun hon hpwr hhigh => ⟨_, exec_pfailWarnRelease hon hpwr hhigh, setPfail_facts false (fresh s)⟩⟩
  · rintro ⟨hA, hB, hV⟩
    tauto
  · rw [flexAt_trip 2 (s := fresh s) (by show n.val < s.flex.length; omega)]
    exact shortTrip_record (flexAt n.val s) s.clk.tick _
  · obtain ⟨hb, hl, -, -, hframe⟩ := rearm_facts (n := n.val) 0 (s := fresh s) (by show n.val < s.flex.length; omega)
    exact ⟨_, exec_backoffExpiry hback hpast hcool, hb, hl, Frame_mono hframe (by simp)⟩
  · refine ⟨_, (exec_latchProbe true hlatched).trans (congrArg Host.Outcome.next (if_pos habsent)), ?_⟩
    exact endLatch_facts (s := fresh s) (by show n.val < s.flex.length; omega) hlatched
  · exact ⟨_, exec_latchProbe false hlatched, mapFlex_frame _ _ _, flexAt_mapFlex (s := fresh s) (by show n.val < s.flex.length; omega) _⟩
  · exact flexAt_mapFlex (s := fresh s) (by show n.val < s.flex.length; omega) _

end Sys2Proof.Proofs
end

section
/-!
VCONN, the PD messages and the alive-loop mode (R323, R333 to R341).
-/

namespace Sys2Proof.Proofs

open Sys2Proof
open Sys2Proof.Machine
open Sys2Proof.Safety
open Sys2Proof.Laws

/-! ## Ends of a port's command -/

theorem pdDone_length (n status : Nat) (s : State) : (pdDone n status s).flex.length = s.flex.length := by
  have done (t : State) : (groupDone 0o15 status t).flex = t.flex := by simp
  unfold pdDone
  split
  · rw [done, mapFlex_length]
  · rfl

theorem pdDoneIf_length (n code status : Nat) (s : State) : (pdDoneIf n code status s).flex.length = s.flex.length := by
  unfold pdDoneIf
  split
  · exact pdDone_length ..
  · rfl

theorem pdDoneIf_frame (n code status : Nat) (s : State) : Frame [.out, .boot, .mbx, .hub, .flex] s (pdDoneIf n code status s) := by
  unfold pdDoneIf
  split
  · exact pdDone_frame _ _ _
  · exact Frame_refl _ _

/-- The end of a command leaves the record of its port but for the command. -/
theorem flexAt_pdDoneIf {n : Nat} (code status : Nat) {s : State} (h : n < s.flex.length) :
    ∃ c, flexAt n (pdDoneIf n code status s) = { flexAt n s with cmd := c } := by
  unfold pdDoneIf
  split
  · exact ⟨none, flexAt_pdDone status h⟩
  · exact ⟨(flexAt n s).cmd, rfl⟩

theorem pdDoneIf_out (n code status : Nat) (s : State) {o : Out} (h : o ∈ s.out) : o ∈ (pdDoneIf n code status s).out := by
  unfold pdDoneIf pdDone
  split
  · split
    · exact groupDone_out _ _ _ h
    · exact h
  · exact h

theorem flexAt_post (w0 : Word) (ps : List Word) (n : Nat) (s : State) : flexAt n (post w0 ps s) = flexAt n s :=
  flexAt_congr (post_frame w0 ps s .flex (by decide)) n

theorem flexAt_raiseFault (src : BitVec 12) (n : Nat) (s : State) : flexAt n (raiseFault src s) = flexAt n s :=
  flexAt_congr (raiseFault_frame src s .flex (by decide)) n

/-! ## VCONN -/

/-- VCONN goes to the partner: Accept, and PD.VCONN after its PS_RDY. -/
theorem exec_vconnGiven {n : FlexPort} {s : State} (hheard : heard n.val s = true) (hpwr : s.pwr.state ≠ .sleep)
    (htrans : (flexAt n.val s).trans = none) (hswap : (flexAt n.val s).swap = none) (hlen : s.flex.length = 4)
    (hvconn : (flexAt n.val s).vconn = true) : exec (.vconnSwap n false .ack true) s = .next (postVconn n.val false false
      (mapFlex n.val (fun f => { f with vconn := false, vconnWasSink := true })
        (emit (.pd n.val .accept) (mapFlex n.val (fun f => { f with swap := none, swapWaits := 0 }) (fresh s))))) := by
  obtain ⟨u, hu⟩ : ∃ u, u = mapFlex n.val (fun f => { f with swap := none, swapWaits := 0 }) (fresh s) := ⟨_, rfl⟩
  have hat : flexAt n.val u = { flexAt n.val s with swap := none, swapWaits := 0 } := by
    rw [hu]
    exact flexAt_mapFlex (s := fresh s) (by show n.val < s.flex.length; omega) _
  have hheard' : heard n.val (fresh s) = true := hheard
  have hcalm : ¬ ((fresh s).pwr.state = .sleep ∨ (flexAt n.val (fresh s)).trans.isSome = true) := by
    rintro (h | h)
    · exact hpwr h
    · rw [show (flexAt n.val (fresh s)).trans = none from htrans] at h
      exact Bool.noConfusion h
  have hallowed : swapAllowed n.val u = true := by
    rw [swapAllowed, hat]
    exact if_pos hvconn
  have hturn : turnVconn n.val true (emit (.pd n.val .accept) u) =
      (mapFlex n.val (fun f => { f with vconn := false, vconnWasSink := true }) (emit (.pd n.val .accept) u), true) := by
    rw [turnVconn, show flexAt n.val (emit (.pd n.val .accept) u) = flexAt n.val u from rfl, hat]
    exact if_pos hvconn
  have hswap' : (flexAt n.val (fresh s)).swap = none := hswap
  refine congrArg Host.Outcome.next ?_
  simp only [hheard', partnerSwap, if_neg hcalm, hswap', ← hu, hallowed, hturn]
  rfl

theorem exec_vconnWaits {n : FlexPort} {s : State} (hheard : heard n.val s = true) (hpwr : s.pwr.state = .sleep) (a : Answer) (b : Bool) :
    exec (.vconnSwap n false a b) s = .next { fresh s with out := [.pd n.val .wait] } := by
  have hheard' : heard n.val (fresh s) = true := hheard
  have hsleep : (fresh s).pwr.state = .sleep ∨ (flexAt n.val (fresh s)).trans.isSome = true := .inl hpwr
  refine congrArg Host.Outcome.next ?_
  simp only [hheard', partnerSwap, if_pos hsleep]
  rfl

theorem exec_vconnOverCurrent {n : FlexPort} {s : State} (hlen : s.flex.length = 4) (hpwr : s.pwr.state ≠ .hibernate)
    (hvconn : (flexAt n.val s).vconn = true) : ∃ t, exec (.vconnOverCurrent n) s = .next t ∧
      flexAt n.val t = { flexAt n.val s with vconn := false, vconnTrip := true } ∧
      Frame [.out, .boot, .aon, .mbx, .flt, .hub, .zon, .flex] (fresh s) t := by
  obtain ⟨u, hu⟩ : ∃ u, u = mapFlex n.val (fun f => { f with vconn := false, vconnTrip := true }) (fresh s) := ⟨_, rfl⟩
  have hat : flexAt n.val u = { flexAt n.val s with vconn := false, vconnTrip := true } := by
    rw [hu]
    exact flexAt_mapFlex (s := fresh s) (by show n.val < s.flex.length; omega) _
  have hmap : Frame [.flex] (fresh s) u := by
    rw [hu]
    exact mapFlex_frame _ _ _
  have hpost : Frame [.out, .boot, .mbx, .hub] (raiseFault 0o4040 u) (postVconn n.val false true (raiseFault 0o4040 u)) := post_frame _ _ _
  refine ⟨postVconn n.val false true (raiseFault 0o4040 u), congrArg Host.Outcome.next ((if_pos ⟨hpwr, hvconn⟩).trans (by rw [hu])), ?_, ?_⟩
  · rw [flexAt_congr (hpost .flex (by decide)), flexAt_raiseFault, hat]
  · exact Frame_mono (Frame_trans (Frame_trans hmap (raiseFault_frame 0o4040 u)) hpost) (by simp)

/-! ## Messages -/

/-- A port that has heard its partner keeps its revision. -/
theorem hear_spoken {n : Nat} {s : State} (h : (flexAt n s).spoken = true) (rev2 : Bool) : hear n rev2 s = s := by
  have same (l : List Flex) (k : Nat) (hk : (l.getD k {}).spoken = true) :
      listModify l k (fun f => if f.spoken then f else { f with spoken := true, rev3 := !rev2 }) = l := by
    induction l generalizing k with
    | nil => rfl
    | cons x l ih =>
      cases k with
      | zero => exact congrArg (· :: l) (if_pos hk)
      | succ k => exact congrArg (x :: ·) (ih k hk)
  show { s with flex := _ } = s
  rw [same s.flex n h]

section Message

variable {n : FlexPort} {s : State} (hheard : heard n.val s = true) (hspoken : (flexAt n.val s).spoken = true)
  (hhard : (flexAt n.val s).hardFrom = none) (rev2 : Bool)
include hheard hspoken hhard

theorem exec_sourceMessage (hrole : (flexAt n.val s).role = .source) (m : PdMsg) :
    exec (.pdMessage n rev2 m) s = .next (sourceMessage n.val m (fresh s)) := by
  have hheard' : heard n.val (fresh s) = true := hheard
  have hhear : hear n.val rev2 (fresh s) = fresh s := hear_spoken (s := fresh s) hspoken rev2
  have hhard' : (flexAt n.val (fresh s)).hardFrom = none := hhard
  have hrole' : (flexAt n.val (fresh s)).role = .source := hrole
  refine congrArg Host.Outcome.next ?_
  simp only [hheard', hhear, hhard', hrole']
  rfl

theorem exec_sinkMessage (hrole : (flexAt n.val s).role ≠ .source) (m : PdMsg) :
    exec (.pdMessage n rev2 m) s = .next (sinkMessage n.val m (fresh s)) := by
  have hheard' : heard n.val (fresh s) = true := hheard
  have hhear : hear n.val rev2 (fresh s) = fresh s := hear_spoken (s := fresh s) hspoken rev2
  have hhard' : (flexAt n.val (fresh s)).hardFrom = none := hhard
  have hrole' : ¬ (flexAt n.val (fresh s)).role = .source := hrole
  refine congrArg Host.Outcome.next ?_
  simp only [hheard', hhear, hhard', if_neg hrole']
  rfl

end Message

/-- Capabilities sent: the offer and what awaits its answer. -/
theorem sendCaps_facts {n : Nat} (reason : Nat) (answered : Bool) {s : State} (h : n < s.flex.length) :
    (sendCaps n reason answered s).out = s.out ++ [.pd n (.sourceCapabilities ((pdosOf n s).map pdoObject))] ∧
      flexAt n (sendCaps n reason answered s) = { flexAt n s with
        offered := pdosOf n s, capsCount := (flexAt n s).capsCount + 1, capsTick := s.clk.tick, awaiting := answered, reason := reason } ∧
      Frame [.out, .flex] s (sendCaps n reason answered s) :=
  ⟨rfl, flexAt_mapFlex h _, Frame_mono (Frame_trans (mapFlex_frame n _ s) (frame_out _ _)) (by simp)⟩

theorem exec_getStatus {n : FlexPort} {s : State} (hheard : heard n.val s = true) (hrole : (flexAt n.val s).role = .source)
    (hrev : (flexAt n.val s).rev3 = true) : exec (.getStatus n) s =
      .next { fresh s with out := [.pd n.val (.status (!s.rails.pfail) (statusTemp n.val s))] } := by
  have hheard' : heard n.val (fresh s) = true := hheard
  have hboth : (flexAt n.val (fresh s)).role = .source ∧ (flexAt n.val (fresh s)).rev3 = true := ⟨hrole, hrev⟩
  refine congrArg Host.Outcome.next ?_
  simp only [hheard', if_pos hboth]
  rfl

theorem exec_discoverIdentity {n : FlexPort} {s : State} (hup : upstreamB s = some n.val) (hheard : heard n.val s = true)
    (hrole : (flexAt n.val s).role = .sinkB) (hpwr : s.pwr.state ≠ .sleep) : exec (.discoverIdentity 0xFF00 1) s =
      .next { fresh s with out := [.pd n.val (.vdm 0xFF00A041 [0x48002F5A, 0, 0x18130420])] } := by
  have hup' : upstreamB (fresh s) = some n.val := hup
  have hboth : (heard n.val (fresh s) && (flexAt n.val (fresh s)).role == .sinkB) = true := by
    rw [show heard n.val (fresh s) = true from hheard, show (flexAt n.val (fresh s)).role = .sinkB from hrole]
    rfl
  refine congrArg Host.Outcome.next ?_
  simp only [hup', if_pos hboth]
  exact if_pos ⟨hpwr, trivial, trivial⟩

/-! ## The alive loop -/

/-- The VDMs that discovery sends leave the records of the ports. -/
theorem sentVdms_frame (n : Nat) (l : List (BitVec 32)) (s : State) : Frame [.out] s (l.foldl (fun s h => emit (.pd n (.vdm h [])) s) s) :=
  Frame_foldl (fun s _ => frame_out s _) l s

theorem exec_altModeLoopStart {n : FlexPort} {s : State} {k : Contract} (hlen : s.flex.length = 4) (hheard : heard n.val s = true)
    (hawake : awake s = true) (hrole : (flexAt n.val s).role = .source) (hcontract : (flexAt n.val s).contract = some k)
    (htrans : (flexAt n.val s).trans = none) (hdisc : (flexAt n.val s).discover = true) :
    ∃ t, exec (.altModeLoopStart n ⟨.ack, .ack, true, .ack, 1, .ack⟩) s = .next t ∧
        (flexAt n.val t).altMode = true ∧ (flexAt n.val t).loop = true ∧ (flexAt n.val t).discover = false ∧
        Frame [.out, .boot, .mbx, .hub, .flex] (fresh s) t := by
  have hall : (heard n.val (fresh s) && awake (fresh s) && (flexAt n.val (fresh s)).role == .source && (flexAt n.val (fresh s)).contract.isSome &&
      (flexAt n.val (fresh s)).trans.isNone && (flexAt n.val (fresh s)).discover) = true := by
    rw [show heard n.val (fresh s) = true from hheard, show awake (fresh s) = true from hawake,
      show (flexAt n.val (fresh s)).role = .source from hrole, show (flexAt n.val (fresh s)).contract = some k from hcontract,
      show (flexAt n.val (fresh s)).trans = none from htrans, show (flexAt n.val (fresh s)).discover = true from hdisc]
    rfl
  obtain ⟨l, hl⟩ : ∃ l, discovery ⟨.ack, .ack, true, .ack, 1, .ack⟩ (altSvid (fresh s)) = (l, stOk) := ⟨_, rfl⟩
  obtain ⟨u, hu⟩ : ∃ u, u = l.foldl (fun s h => emit (.pd n.val (.vdm h [])) s) (fresh s) := ⟨_, rfl⟩
  have hsent : Frame [.out] (fresh s) u := by
    rw [hu]
    exact sentVdms_frame _ _ _
  obtain ⟨v, hv⟩ : ∃ v, v = mapFlex n.val (fun f => { f with discover := false, altMode := f.altMode || true, loop := f.loop || true }) u := ⟨_, rfl⟩
  have hflex : u.flex = s.flex := hsent .flex (by decide)
  have hvlen : n.val < v.flex.length := by
    rw [hv, mapFlex_length, hflex]
    omega
  have hvat : flexAt n.val v =
      { flexAt n.val s with discover := false, altMode := (flexAt n.val s).altMode || true, loop := (flexAt n.val s).loop || true } := by
    rw [hv, flexAt_mapFlex (by rw [hflex]; omega), flexAt_congr hflex]
  have hpost : Frame [.out, .boot, .mbx, .hub] v (postAlt n.val 1 v) := post_frame _ _ _
  obtain ⟨c, hc⟩ := flexAt_pdDoneIf (n := n.val) 4 stOk (s := postAlt n.val 1 v) (by rwa [show (postAlt n.val 1 v).flex = v.flex from hpost .flex (by decide)])
  rw [show flexAt n.val (postAlt n.val 1 v) = flexAt n.val v from flexAt_congr (hpost .flex (by decide)) _, hvat] at hc
  refine ⟨pdDoneIf n.val 4 stOk (postAlt n.val 1 v), ?_, ?_, ?_, ?_, ?_⟩
  · refine congrArg Host.Outcome.next ?_
    simp only [if_pos hall, hl, ← hu, hv]
    rfl
  · rw [hc]
    exact Bool.or_true _
  · rw [hc]
    exact Bool.or_true _
  · rw [hc]
  · have hmap : Frame [.flex] u v := by
      rw [hv]
      exact mapFlex_frame _ _ _
    exact Frame_mono (Frame_trans (Frame_trans (Frame_trans hsent hmap) hpost) (pdDoneIf_frame _ _ _ _)) (by simp)

section FaultReturn

variable {n : FlexPort} {s : State} {att : Bool} (hruns : flexRuns s = true)
  (halt : (flexAt n.val s).altMode = true) (hloop : (flexAt n.val s).loop = true ∨ att = true)
include hruns halt hloop

theorem faultReturn_heard : (flexRuns (fresh s) && (flexAt n.val (fresh s)).altMode && ((flexAt n.val (fresh s)).loop || att)) = true := by
  rw [show flexRuns (fresh s) = true from hruns, show (flexAt n.val (fresh s)).altMode = true from halt]
  rcases hloop with h | h
  · rw [show (flexAt n.val (fresh s)).loop = true from h]
    rfl
  · rw [h, Bool.or_true]
    rfl

variable (hlen : s.flex.length = 4)
include hlen

theorem exec_faultReturnAsserted (hoff : (flexAt n.val s).faultRet = false) : ∃ t, exec (.faultReturnAsserted n att) s = .next t ∧
    flexAt n.val t = { flexAt n.val s with faultRet := true } ∧ Frame [.out, .boot, .aon, .mbx, .flt, .hub, .zon, .flex] (fresh s) t := by
  have hheard := faultReturn_heard hruns halt hloop
  obtain ⟨u, hu⟩ : ∃ u, u = mapFlex n.val (fun f => { f with faultRet := true }) (fresh s) := ⟨_, rfl⟩
  have hat : flexAt n.val u = { flexAt n.val s with faultRet := true } := by
    rw [hu]
    exact flexAt_mapFlex (s := fresh s) (by show n.val < s.flex.length; omega) _
  have hmap : Frame [.flex] (fresh s) u := by
    rw [hu]
    exact mapFlex_frame _ _ _
  have hpost : Frame [.out, .boot, .mbx, .hub] u (postAlt n.val 3 u) := post_frame _ _ _
  refine ⟨raiseFault 0o4041 (postAlt n.val 3 u), congrArg Host.Outcome.next ((if_pos ?_).trans (by rw [hu])), ?_, ?_⟩
  · rw [hheard, show (flexAt n.val (fresh s)).faultRet = false from hoff]
    rfl
  · rw [flexAt_raiseFault, flexAt_congr (hpost .flex (by decide)), hat]
  · exact Frame_mono (Frame_trans (Frame_trans hmap hpost) (raiseFault_frame _ _)) (by simp)

theorem exec_faultReturnReleased (hon : (flexAt n.val s).faultRet = true) : ∃ t, exec (.faultReturnReleased n att) s = .next t ∧
    flexAt n.val t = { flexAt n.val s with faultRet := false } ∧ Frame [.out, .boot, .mbx, .hub, .flex] (fresh s) t := by
  have hheard := faultReturn_heard hruns halt hloop
  obtain ⟨u, hu⟩ : ∃ u, u = mapFlex n.val (fun f => { f with faultRet := false }) (fresh s) := ⟨_, rfl⟩
  have hat : flexAt n.val u = { flexAt n.val s with faultRet := false } := by
    rw [hu]
    exact flexAt_mapFlex (s := fresh s) (by show n.val < s.flex.length; omega) _
  have hmap : Frame [.flex] (fresh s) u := by
    rw [hu]
    exact mapFlex_frame _ _ _
  have hpost : Frame [.out, .boot, .mbx, .hub] u (postAlt n.val 4 u) := post_frame _ _ _
  refine ⟨postAlt n.val 4 u, congrArg Host.Outcome.next ((if_pos ?_).trans (by rw [hu])), ?_, ?_⟩
  · rw [hheard, show (flexAt n.val (fresh s)).faultRet = true from hon]
    rfl
  · rw [flexAt_congr (hpost .flex (by decide)), hat]
  · exact Frame_mono (Frame_trans hmap hpost) (by simp)

end FaultReturn

/-- Settles O58: each message by the state of its port; the end of a command writes the command alone. -/
theorem pdMessagesAndLoop : Obligations.PdMessagesAndLoop := by
  unfold Obligations.PdMessagesAndLoop
  refine fun n s hlen => ⟨fun hheard hpwr htrans hswap hvconn => ?_, fun hheard hpwr a b => exec_vconnWaits hheard hpwr a b,
    exec_vconnOverCurrent hlen, exec_getStatus, fun hheard hspoken hhard rev2 => ⟨fun hrole => ?_, fun hrole htrans => ?_, fun hrole => ?_⟩,
    exec_discoverIdentity, fun k hheard hawake hrole hcontract htrans hdisc => exec_altModeLoopStart hlen hheard hawake hrole hcontract htrans hdisc,
    fun att hruns halt hloop => ⟨exec_faultReturnAsserted hruns halt hloop hlen, exec_faultReturnReleased hruns halt hloop hlen⟩⟩
  · obtain ⟨u, hu⟩ : ∃ u, u = emit (.pd n.val .accept) (mapFlex n.val (fun f => { f with swap := none, swapWaits := 0 }) (fresh s)) := ⟨_, rfl⟩
    have hulen : n.val < u.flex.length := by
      rw [hu]
      show n.val < (listModify s.flex n.val _).length
      rw [listModify_length]
      omega
    have hout : Frame [.flex, .out] (fresh s) u := by
      rw [hu]
      exact Frame_trans (l := [.flex]) (mapFlex_frame _ _ _) (frame_out _ _)
    obtain ⟨v, hv⟩ : ∃ v, v = mapFlex n.val (fun f => { f with vconn := false, vconnWasSink := true }) u := ⟨_, rfl⟩
    have hset : Frame [.flex] u v := by
      rw [hv]
      exact mapFlex_frame _ _ _
    have hpost : Frame [.out, .boot, .mbx, .hub] v (postVconn n.val false false v) := post_frame _ _ _
    have hat : flexAt n.val (postVconn n.val false false v) = { flexAt n.val u with vconn := false, vconnWasSink := true } := by
      rw [flexAt_congr (hpost .flex (by decide)), hv, flexAt_mapFlex hulen]
    refine ⟨postVconn n.val false false v, (exec_vconnGiven hheard hpwr htrans hswap hlen hvconn).trans (by rw [hv, hu]), post_out _ _ _ ?_, ?_, ?_,
      Frame_mono (Frame_trans (Frame_trans hout hset) hpost) (by simp)⟩
    · rw [hv, hu]
      exact List.mem_append_right _ (List.mem_singleton.mpr rfl)
    · rw [hat]
    · rw [hat]
  · rw [exec_sourceMessage hheard hspoken hhard rev2 hrole]
    rfl
  · obtain ⟨hout, hat, hframe⟩ := sendCaps_facts (n := n.val) 1 true (s := fresh s) (by show n.val < s.flex.length; omega)
    have hidle : ¬ (flexAt n.val (fresh s)).trans.isSome = true := by
      rw [show (flexAt n.val (fresh s)).trans = none from htrans]
      exact Bool.false_ne_true
    refine ⟨_, (exec_sourceMessage hheard hspoken hhard rev2 hrole _).trans (congrArg Host.Outcome.next (if_neg hidle)), hout, ?_, hframe⟩
    rw [hat]
  · rw [exec_sinkMessage hheard hspoken hhard rev2 hrole]
    rfl

end Sys2Proof.Proofs
end

section
/-!
PD requests, contracts, capabilities and resets (R319, R324, R326, R328, R329).
-/

namespace Sys2Proof.Proofs

open Sys2Proof
open Sys2Proof.Machine
open Sys2Proof.Safety
open Sys2Proof.Laws

/-! ## Requests -/

/-- What a port's first message writes. -/
theorem flexAt_hear {n : Nat} (rev2 : Bool) {s : State} (h : n < s.flex.length) : ∃ a b, flexAt n (hear n rev2 s) =
    { flexAt n s with spoken := a, rev3 := b } := by
  rw [hear, flexAt_mapFlex h]
  split
  · exact ⟨(flexAt n s).spoken, (flexAt n s).rev3, rfl⟩
  · exact ⟨true, !rev2, rfl⟩

theorem hear_out (n : Nat) (rev2 : Bool) (s : State) : (hear n rev2 s).out = s.out := rfl

section Request

variable {n : FlexPort} {s : State} (hlen : s.flex.length = 4) (hheard : heard n.val s = true) (hrole : (flexAt n.val s).role = .source)
  (hhard : (flexAt n.val s).hardFrom = none) (hoffer : (flexAt n.val s).offered ≠ []) (r : PdRequest)
include hheard hrole hhard hoffer

theorem exec_pdRequest : exec (.pdRequest n r) s = .next (takeRequest n.val r (hear n.val r.rev2 (fresh s))) := by
  refine congrArg Host.Outcome.next (if_pos ?_)
  rw [show heard n.val (fresh s) = true from hheard, show (flexAt n.val (fresh s)).role = .source from hrole,
    show (flexAt n.val (fresh s)).hardFrom = none from hhard,
    show (flexAt n.val (fresh s)).offered.isEmpty = false from List.isEmpty_eq_false_iff.mpr hoffer]
  rfl

include hlen

theorem pdRequest_waits (htrans : (flexAt n.val s).trans.isSome = true) : ∃ t, exec (.pdRequest n r) s = .next t ∧
    t.out = [.pd n.val .wait] ∧ (flexAt n.val t).trans = (flexAt n.val s).trans := by
  obtain ⟨a, b, hat⟩ := flexAt_hear (n := n.val) r.rev2 (s := fresh s) (by show n.val < s.flex.length; omega)
  obtain ⟨u, hu⟩ : ∃ u, u = hear n.val r.rev2 (fresh s) := ⟨_, rfl⟩
  rw [← hu] at hat
  have htaken : takeRequest n.val r u = emit (.pd n.val .wait) u := by
    simp only [takeRequest, hat]
    exact if_pos htrans
  refine ⟨emit (.pd n.val .wait) u, (exec_pdRequest hheard hrole hhard hoffer r).trans (by rw [← hu, htaken]), ?_, ?_⟩
  · show u.out ++ _ = _
    rw [hu]
    rfl
  · show (flexAt n.val u).trans = _
    rw [hat]
    rfl

theorem pdRequest_rejected (htrans : (flexAt n.val s).trans = none) (hbad : acceptable (flexAt n.val s) r = none) :
    ∃ t, exec (.pdRequest n r) s = .next t ∧ t.out = [.pd n.val .reject] ∧ (flexAt n.val t).contract = (flexAt n.val s).contract ∧
      (flexAt n.val t).trans = none := by
  obtain ⟨a, b, hat⟩ := flexAt_hear (n := n.val) r.rev2 (s := fresh s) (by show n.val < s.flex.length; omega)
  obtain ⟨u, hu⟩ : ∃ u, u = hear n.val r.rev2 (fresh s) := ⟨_, rfl⟩
  rw [← hu] at hat
  have hidle : (flexAt n.val u).trans = none := by
    rw [hat]
    exact htrans
  have hbad' : acceptable (flexAt n.val u) r = none := by
    rw [hat]
    exact hbad
  have htaken : takeRequest n.val r u = emit (.pd n.val .reject) u := by
    simp only [takeRequest, hidle, hbad']
    rfl
  refine ⟨emit (.pd n.val .reject) u, (exec_pdRequest hheard hrole hhard hoffer r).trans (by rw [← hu, htaken]), ?_, ?_, hidle⟩
  · show u.out ++ _ = _
    rw [hu]
    rfl
  · show (flexAt n.val u).contract = _
    rw [hat]
    rfl

theorem pdRequest_accepted {v : Nat} (htrans : (flexAt n.val s).trans = none) (hgood : acceptable (flexAt n.val s) r = some v) :
    ∃ t q, exec (.pdRequest n r) s = .next t ∧ t.out = [.pd n.val .accept] ∧ (flexAt n.val t).trans = some q ∧
      q.dst = ⟨v, r.maxCur, r.mismatch⟩ ∧ q.begun = false ∧ (flexAt n.val t).awaiting = false := by
  obtain ⟨a, b, hat⟩ := flexAt_hear (n := n.val) r.rev2 (s := fresh s) (by show n.val < s.flex.length; omega)
  obtain ⟨u, hu⟩ : ∃ u, u = hear n.val r.rev2 (fresh s) := ⟨_, rfl⟩
  rw [← hu] at hat
  have hulen : n.val < u.flex.length := by
    rw [hu, hear, mapFlex_length]
    show n.val < s.flex.length
    omega
  have hidle : (flexAt n.val u).trans = none := by
    rw [hat]
    exact htrans
  have hgood' : acceptable (flexAt n.val u) r = some v := by
    rw [hat]
    exact hgood
  obtain ⟨q, hq, hdst, hbegun⟩ : ∃ q : Trans, takeRequest n.val r u =
      emit (.pd n.val .accept) (mapFlex n.val (fun f => { f with trans := some q, awaiting := false }) u) ∧
      q.dst = ⟨v, r.maxCur, r.mismatch⟩ ∧ q.begun = false := by
    simp only [takeRequest, hidle, hgood']
    exact ⟨_, rfl, rfl, rfl⟩
  have hrecord : flexAt n.val (mapFlex n.val (fun f => { f with trans := some q, awaiting := false }) u) =
      { flexAt n.val u with trans := some q, awaiting := false } := flexAt_mapFlex hulen _
  refine ⟨_, q, (exec_pdRequest hheard hrole hhard hoffer r).trans (by rw [← hu, hq]), ?_, ?_, hdst, hbegun, ?_⟩
  · show u.out ++ _ = _
    rw [hu]
    rfl
  · exact congrArg Flex.trans hrecord
  · exact congrArg Flex.awaiting hrecord

end Request

/-! ## Transitions and contracts -/

theorem exec_voltageTransition {n : FlexPort} {s : State} {q : Trans} (hruns : flexRuns s = true) (htrans : (flexAt n.val s).trans = some q)
    (hbegun : q.begun = false) (hsame : q.same = false) : exec (.voltageTransition n) s = .next (mapFlex n.val (fun f =>
      { f with trans := some { q with begun := true }
               gateH := .linear
               gate5 := if 5 < q.dst.volt then .blocking else .off
               ramp := some { start := f.vbus, target := 1000 * q.dst.volt, sets := 0, energy := 0, fbEnergy := 0 } }) (fresh s)) := by
  have htrans' : (flexAt n.val (fresh s)).trans = some q := htrans
  have hruns' : flexRuns (fresh s) = true := hruns
  refine congrArg Host.Outcome.next ?_
  simp only [htrans', hruns', hbegun, hsame]
  rfl

/-- What the port deferred writes of its record the Alert alone. -/
theorem startDeferred_facts {n : Nat} {s : State} (h : n < s.flex.length) : ∃ a, flexAt n (startDeferred n s) =
    { flexAt n s with alertDue := a } ∧ (∀ o ∈ s.out, o ∈ (startDeferred n s).out) ∧ Frame [.out, .flex] s (startDeferred n s) := by
  have honly := startDeferred_only n s
  unfold OnlyOutFlex at honly
  have hframe : Frame [.out, .flex] s (startDeferred n s) := by
    intro g hg
    cases g <;> simp_all [same]
  refine ⟨(flexAt n (startDeferred n s)).alertDue, ?_, fun o ho => ?_, hframe⟩
  · simp only [startDeferred]
    split
    · rw [show flexAt n (emit (.pd n (.alert 0x20000000)) (mapFlex n (fun f => { f with alertDue := false }) s)) =
        flexAt n (mapFlex n (fun f => { f with alertDue := false }) s) from rfl, flexAt_mapFlex h]
    · split <;> rfl
  · simp only [startDeferred]
    split
    · exact List.mem_append_left _ ho
    · split
      · exact List.mem_append_left _ ho
      · exact ho

/-- The record of a port whose new contract is in force. -/
def contracted (auto : Bool) (k : Contract) (f : Flex) : Flex :=
  { f with contract := some k, trans := none, hardResets := 0, reason := 1, rp := if f.rev3 then 2 else f.rp
           discover := f.discover || auto }

theorem exec_pdContract {n : FlexPort} {s : State} {q : Trans} (hlen : s.flex.length = 4) (hruns : flexRuns s = true)
    (htrans : (flexAt n.val s).trans = some q) (hready : q.same = true ∨ ∃ k, q.hand = some k ∧ 100 ≤ k)
    (hthere : (flexAt n.val s).removed = none) : ∃ t, exec (.pdContract n) s = .next t ∧ Frame [.out, .boot, .mbx, .hub, .flex] (fresh s) t ∧
      .pd n.val .psRdy ∈ t.out ∧ (flexAt n.val t).contract = some q.dst ∧ (flexAt n.val t).trans = none ∧
      (flexAt n.val t).hardResets = 0 := by
  have htrans' : (flexAt n.val (fresh s)).trans = some q := htrans
  have hps : psReady q = true := by
    rcases hready with h | ⟨k, hk, hlate⟩
    · rw [psReady, h]
      rfl
    · rw [psReady, hk, Bool.or_eq_true]
      exact .inr (decide_eq_true hlate)
  have hall : (flexRuns (fresh s) && psReady q && (flexAt n.val (fresh s)).removed.isNone) = true := by
    rw [show flexRuns (fresh s) = true from hruns, hps, show (flexAt n.val (fresh s)).removed = none from hthere]
    rfl
  obtain ⟨u, hu⟩ : ∃ u, u = emit (.pd n.val .psRdy) (fresh s) := ⟨_, rfl⟩
  obtain ⟨auto, hauto⟩ : ∃ auto, auto = ((flexAt n.val (fresh s)).contract.isNone && bitOf (param 321 12 0o17 (fresh s)) n.val) := ⟨_, rfl⟩
  obtain ⟨v, hv⟩ : ∃ v, v = mapFlex n.val (contracted auto q.dst) u := ⟨_, rfl⟩
  have hexec : exec (.pdContract n) s = .next (startDeferred n.val (pdDoneIf n.val 5 stOk
      (post 0o150304 [w18 (n.val + 1), w18 q.dst.volt, w18 q.dst.cur, w18 (bit q.dst.mismatch * 8 + q.reason)] v))) := by
    refine congrArg Host.Outcome.next ?_
    simp only [htrans', if_pos hall, hu, hv, hauto]
    rfl
  obtain ⟨w, hw⟩ : ∃ w, w = post 0o150304 [w18 (n.val + 1), w18 q.dst.volt, w18 q.dst.cur, w18 (bit q.dst.mismatch * 8 + q.reason)] v := ⟨_, rfl⟩
  rw [← hw] at hexec
  have hulen : n.val < u.flex.length := by
    rw [hu]
    show n.val < s.flex.length
    omega
  have hvlen : n.val < v.flex.length := by
    rw [hv, mapFlex_length]
    exact hulen
  have hvat : flexAt n.val v = contracted auto q.dst (flexAt n.val u) := by
    rw [hv, flexAt_mapFlex hulen]
  have hpost : Frame [.out, .boot, .mbx, .hub] v w := hw ▸ post_frame _ _ v
  have hwlen : n.val < w.flex.length := by rwa [show w.flex = v.flex from hpost .flex (by decide)]
  obtain ⟨c, hc⟩ := flexAt_pdDoneIf (n := n.val) 5 stOk (s := w) hwlen
  obtain ⟨a, ha, hout, hdeferred⟩ := startDeferred_facts (n := n.val) (s := pdDoneIf n.val 5 stOk w) (by rwa [pdDoneIf_length])
  rw [hc, flexAt_congr (hpost .flex (by decide)), hvat] at ha
  refine ⟨_, hexec, ?_, ?_, ?_, ?_, ?_⟩
  · have hstart : Frame [.out, .flex] (fresh s) v := by
      rw [hv, hu]
      exact Frame_trans (l := [.out]) (emit_frame _ _) (mapFlex_frame _ _ _)
    exact Frame_mono (Frame_trans (Frame_trans (Frame_trans hstart hpost) (pdDoneIf_frame _ _ _ _)) hdeferred) (by simp)
  · refine hout _ (pdDoneIf_out _ _ _ _ ?_)
    rw [hw]
    refine post_out _ _ _ ?_
    rw [hv, hu]
    exact List.mem_append_right _ (List.mem_singleton.mpr rfl)
  · rw [ha]
    rfl
  · rw [ha]
    rfl
  · rw [ha]
    rfl

/-! ## Capabilities -/

theorem exec_sourceCapabilitiesRepeat {n : FlexPort} {s : State} (hruns : flexRuns s = true) (hrole : (flexAt n.val s).role = .source)
    (hramp : (flexAt n.val s).ramp = none) (hgate : (flexAt n.val s).gate5 = .full) (hcontract : (flexAt n.val s).contract = none)
    (htrans : (flexAt n.val s).trans = none) (hawait : (flexAt n.val s).awaiting = false) (hhard : (flexAt n.val s).hardFrom = none)
    (hfew : (flexAt n.val s).capsCount < 50) (g : Bool) : exec (.sourceCapabilitiesRepeat n g) s =
      .next (sendCaps n.val (flexAt n.val s).reason (g && (flexAt n.val s).pd) (fresh s)) := by
  refine congrArg Host.Outcome.next (if_pos ?_)
  rw [show flexRuns (fresh s) = true from hruns, show flexAt n.val (fresh s) = flexAt n.val s from rfl, hrole, hramp, hgate, hcontract, htrans,
    hawait, hhard, decide_eq_true hfew]
  rfl

theorem pdosOf_rp (n : Nat) (f : Flex → Nat) (s : State) : pdosOf n (mapFlex n (fun x => { x with rp := f x }) s) = pdosOf n s := by
  have halloc : (flexAt n (mapFlex n (fun x => { x with rp := f x }) s)).alloc = (flexAt n s).alloc := by
    by_cases h : n < s.flex.length
    · rw [flexAt_mapFlex h]
    · have hnone : ∀ t : State, t.flex.length ≤ n → flexAt n t = {} := fun t ht => List.getD_eq_default _ _ ht
      rw [hnone s (Nat.not_lt.mp h), hnone _ (by rw [mapFlex_length]; exact Nat.not_lt.mp h)]
  unfold pdosOf
  rw [halloc]
  rfl

theorem exec_budgetRenegotiation {n : FlexPort} {s : State} (hlen : s.flex.length = 4) (hruns : flexRuns s = true) (hawake : awake s = true)
    (hturn : renegotiates n.val s = true) : ∃ t, exec (.budgetRenegotiation n) s = .next t ∧ Frame [.out, .flex] (fresh s) t ∧
      t.out = [.pd n.val (.sourceCapabilities ((pdosOf n.val s).map pdoObject))] ∧ (flexAt n.val t).awaiting = true ∧
      (flexAt n.val t).reason = 2 := by
  have hfw : fwRuns s = true := ((Bool.and_eq_true _ _).mp hruns).1
  have hall : (awake (fresh s) && fwRuns (fresh s) && renegotiates n.val (fresh s)) = true := by
    rw [show awake (fresh s) = true from hawake, show fwRuns (fresh s) = true from hfw]
    exact hturn
  obtain ⟨u, hu⟩ : ∃ u, u = mapFlex n.val (fun f => { f with rp := if f.rev3 then 1 else f.rp }) (fresh s) := ⟨_, rfl⟩
  have hulen : n.val < u.flex.length := by
    rw [hu, mapFlex_length]
    show n.val < s.flex.length
    omega
  have hmap : Frame [.flex] (fresh s) u := by
    rw [hu]
    exact mapFlex_frame _ _ _
  obtain ⟨hout, hat, hframe⟩ := sendCaps_facts (n := n.val) 2 true hulen
  have hpdos : pdosOf n.val u = pdosOf n.val s := by
    rw [hu]
    exact pdosOf_rp n.val (fun f => if f.rev3 then 1 else f.rp) (fresh s)
  refine ⟨sendCaps n.val 2 true u, congrArg Host.Outcome.next ((if_pos hall).trans (by rw [hu])), Frame_mono (Frame_trans hmap hframe) (by simp), ?_, ?_, ?_⟩
  · rw [hout, hpdos, show u.out = [] from hmap .out (by decide)]
    rfl
  · rw [hat]
  · rw [hat]

/-! ## Resets -/

/-- What a Hard_Reset, sent or received, makes of the port (R324). -/
theorem hardReset_record {n : Nat} (sent : Bool) {s : State} (h : n < s.flex.length) : let f := flexAt n (hardReset n sent s)
    f.contract = none ∧ f.hardResets = (flexAt n s).hardResets + bit sent ∧ ((flexAt n s).role = .source → f.hardFrom = some s.clk.tick) ∧
      (sent = true → .pd n .hardReset ∈ (hardReset n sent s).out) := by
  obtain ⟨x, hx⟩ : ∃ x, x = post 0o150602 [w18 (n + 1), w18 (bit sent)] (if sent then emit (.pd n .hardReset) s else s) := ⟨_, rfl⟩
  have hbegin : Frame [.out] s (if sent then emit (.pd n .hardReset) s else s) := by
    split
    · exact emit_frame _ _
    · exact Frame_refl _ _
  have hposted : Frame [.out, .out, .boot, .mbx, .hub] s x := by
    rw [hx]
    exact Frame_trans hbegin (post_frame _ _ _)
  have hxflex : x.flex = s.flex := hposted .flex (by decide)
  have hxclk : x.clk = s.clk := hposted .clk (by decide)
  obtain ⟨y, hy⟩ : ∃ y, y = pdDoneIf n 4 stState x := ⟨_, rfl⟩
  obtain ⟨z, hz⟩ : ∃ z, z = pdDoneIf n 3 stState y := ⟨_, rfl⟩
  obtain ⟨c, hc⟩ := flexAt_pdDoneIf (n := n) 4 stState (s := x) (by rwa [hxflex])
  have hylen : n < y.flex.length := by
    rw [hy, pdDoneIf_length, hxflex]
    exact h
  obtain ⟨d, hd⟩ := flexAt_pdDoneIf (n := n) 3 stState (s := y) hylen
  rw [← hy] at hc
  rw [← hz, hc, flexAt_congr hxflex] at hd
  have hzlen : n < z.flex.length := by
    rw [hz, pdDoneIf_length]
    exact hylen
  have hreset : hardReset n sent s = mapFlex n (fun f =>
      let g := { f with contract := none, trans := none, awaiting := false, offered := [], capsCount := 0, swap := none, swapWaits := 0,
                        alertDue := false, reason := 4, hardResets := f.hardResets + bit sent }
      if f.role = .source then { g with hardFrom := some x.clk.tick, hardOff := false, hardVconn := f.vconn } else g.endMode) z := by
    rw [hz, hy, hx]
    rfl
  rw [hreset, flexAt_mapFlex hzlen, hd, hxclk]
  refine ⟨?_, ?_, fun hrole => ?_, fun hsent => ?_⟩
  · dsimp only
    split <;> rfl
  · dsimp only
    split <;> rfl
  · dsimp only
    rw [if_pos hrole]
  · subst hsent
    show _ ∈ z.out
    rw [hz, hy]
    refine pdDoneIf_out _ _ _ _ (pdDoneIf_out _ _ _ _ ?_)
    rw [hx]
    exact post_out _ _ _ (List.mem_append_right _ (List.mem_singleton.mpr rfl))

theorem hardReset_frame (n : Nat) (sent : Bool) (s : State) : Frame [.out, .boot, .mbx, .hub, .flex] s (hardReset n sent s) := by
  have honly := hardReset_only n sent s
  unfold OnlyOutBootMbxHubFlex at honly
  intro g hg
  cases g <;> simp_all [same]

/-- The record of a port that goes to ErrorRecovery. -/
def recovering (t : Tick) (f : Flex) : Flex := { f.unpower.leave .open with errorFrom := some t }

section Reset

variable {n : FlexPort} {s : State} (hlen : s.flex.length = 4) (hruns : flexRuns s = true) (hrole : (flexAt n.val s).role = .source)
  (hawait : (flexAt n.val s).awaiting = true)
include hruns hrole hawait

theorem exec_senderResponseTimeout (hfew : (flexAt n.val s).hardResets < 2) :
    exec (.senderResponseTimeout n) s = .next (hardReset n.val true (fresh s)) := by
  refine congrArg Host.Outcome.next (if_pos ?_)
  rw [show flexRuns (fresh s) = true from hruns, show flexAt n.val (fresh s) = flexAt n.val s from rfl, hrole, hawait, decide_eq_true hfew]
  rfl

include hlen in
theorem exec_errorRecovery (hmany : 2 ≤ (flexAt n.val s).hardResets) : ∃ t, exec (.errorRecovery n) s = .next t ∧
    (flexAt n.val t).errorFrom = some s.clk.tick ∧ (flexAt n.val t).cc = .open ∧ (flexAt n.val t).gate5 = .off ∧
    (flexAt n.val t).contract = none := by
  have hpost := post_frame 0o150602 [w18 (n.val + 1), 3] (fresh s)
  obtain ⟨u, hu⟩ : ∃ u, u = post 0o150602 [w18 (n.val + 1), 3] (fresh s) := ⟨_, rfl⟩
  rw [← hu] at hpost
  have hat : flexAt n.val (mapFlex n.val (recovering s.clk.tick) u) = recovering s.clk.tick (flexAt n.val s) := by
    rw [flexAt_mapFlex (by rw [show u.flex = s.flex from hpost .flex (by decide)]; omega), flexAt_congr (hpost .flex (by decide))]
    rfl
  have hall : (flexRuns (fresh s) && (flexAt n.val (fresh s)).role == .source && (flexAt n.val (fresh s)).awaiting &&
      decide (2 ≤ (flexAt n.val (fresh s)).hardResets)) = true := by
    rw [show flexRuns (fresh s) = true from hruns, show flexAt n.val (fresh s) = flexAt n.val s from rfl, hrole, hawait, decide_eq_true hmany]
    rfl
  refine ⟨mapFlex n.val (recovering s.clk.tick) u, congrArg Host.Outcome.next ((if_pos hall).trans (by rw [hu]; rfl)), ?_, ?_, ?_, ?_⟩
  · exact congrArg Flex.errorFrom hat
  · exact congrArg Flex.cc hat
  · exact congrArg Flex.gate5 hat
  · exact congrArg Flex.contract hat

end Reset

/-- Settles O57: a Request is answered by the transition that runs and by the offer; a reset writes the record after its events. -/
theorem contractsAreNegotiated : Obligations.ContractsAreNegotiated := by
  unfold Obligations.ContractsAreNegotiated
  refine fun n s hlen hruns => ⟨fun r hheard hrole hhard hoffer => ⟨pdRequest_waits hlen hheard hrole hhard hoffer r,
      pdRequest_rejected hlen hheard hrole hhard hoffer r, fun v => pdRequest_accepted hlen hheard hrole hhard hoffer r⟩,
    fun q htrans hbegun hsame => ⟨_, exec_voltageTransition hruns htrans hbegun hsame, mapFlex_frame _ _ _, ?_⟩,
    fun q htrans hready hthere => exec_pdContract hlen hruns htrans hready hthere,
    fun hrole hramp hgate hcontract htrans hawait hhard hfew g => ?_, exec_budgetRenegotiation hlen hruns,
    fun hrole hawait => ⟨fun hfew => ?_, exec_errorRecovery hlen hruns hrole hawait⟩, fun hheard => ?_⟩
  · rw [flexAt_mapFlex (s := fresh s) (by show n.val < s.flex.length; omega)]
    exact ⟨rfl, rfl, rfl⟩
  · obtain ⟨hout, hat, hframe⟩ := sendCaps_facts (n := n.val) (flexAt n.val s).reason (g && (flexAt n.val s).pd) (s := fresh s)
      (by show n.val < s.flex.length; omega)
    refine ⟨_, exec_sourceCapabilitiesRepeat hruns hrole hramp hgate hcontract htrans hawait hhard hfew g, hframe, hout,
      congrArg Flex.offered hat, congrArg Flex.capsCount hat, congrArg Flex.awaiting hat⟩
  · obtain ⟨hcontract, hcount, hfrom, hsent⟩ := hardReset_record (n := n.val) true (s := fresh s) (by show n.val < s.flex.length; omega)
    exact ⟨_, exec_senderResponseTimeout hruns hrole hawait hfew, hsent rfl, hfrom hrole, hcontract, hcount⟩
  · obtain ⟨hcontract, hcount, -, -⟩ := hardReset_record (n := n.val) false (s := fresh s) (by show n.val < s.flex.length; omega)
    exact ⟨_, congrArg Host.Outcome.next (if_pos hheard), hcontract, hcount, hardReset_frame _ _ _⟩

end Sys2Proof.Proofs
end

section
/-!
Type-C attach, toggle, refusal and detach (R313, R316, R319 to R321, R323, R332).
-/

namespace Sys2Proof.Proofs

open Sys2Proof
open Sys2Proof.Machine
open Sys2Proof.Safety
open Sys2Proof.Laws

/-! ## A change of a port's record, then its event -/

/-- A port's record changes and an event is posted. -/
theorem recordedEvent {n : Nat} {s : State} (h : n < s.flex.length) (f : Flex → Flex) (w0 : Word) (ps : List Word) :
    Frame [.out, .boot, .mbx, .hub, .flex] s (post w0 ps (mapFlex n f s)) ∧ flexAt n (post w0 ps (mapFlex n f s)) = f (flexAt n s) ∧
      ∀ m, m ≠ n → flexAt m (post w0 ps (mapFlex n f s)) = flexAt m s := by
  refine ⟨Frame_mono (Frame_trans (mapFlex_frame n f s) (post_frame _ _ _)) (by simp), ?_, fun m hm => ?_⟩
  · rw [flexAt_post, flexAt_mapFlex h]
  · rw [flexAt_post, flexAt_mapFlex_other hm]

section Waiting

variable {n : FlexPort} {s : State} (hlen : s.flex.length = 4) (hruns : flexRuns s = true) (hcc : ccAllowed n.val s = true)
  (hrole : (flexAt n.val s).role = .unattached)
include hruns hcc hrole

theorem waiting_of {cc : CcState} (h : (flexAt n.val s).cc = cc) : waiting n.val cc (fresh s) = true := by
  have hat : flexAt n.val (fresh s) = flexAt n.val s := rfl
  simp only [waiting, show flexRuns (fresh s) = true from hruns, show ccAllowed n.val (fresh s) = true from hcc, hat, hrole, h]
  cases cc <;> rfl

/-- The record of a source that attaches. -/
def sourced (cc2 pd vconn : Bool) (f : Flex) : Flex :=
  { f.rampUp with role := .source, trySince := none, cc2 := cc2, pd := pd, vconn := vconn, rp := rpLevel f.alloc, steadyFrom := none }

theorem exec_ccAttach (cc2 ra pd : Bool) (h : (flexAt n.val s).cc = .rp) (hsource : flexRole n.val s ≠ 2) :
    exec (.ccAttach n cc2 ra pd) s = .next (postAttach n.val 1 cc2 (mapFlex n.val (sourced cc2 pd (ra && vconnPort n.val s)) (fresh s))) := by
  refine congrArg Host.Outcome.next (if_pos ?_)
  rw [waiting_of hruns hcc hrole h]
  exact bne_iff_ne.mpr hsource

/-- The record of a port that changes between Rp and Rd. -/
def toggled (f : Flex) : Flex := if f.cc = .rp then { f with cc := .rd } else { f with cc := .rp, trySince := none }

theorem exec_drpToggle (hdrp : flexRole n.val s = 1) (hidle : trying n.val s = false) :
    exec (.drpToggle n) s = .next (mapFlex n.val toggled (fresh s)) := by
  refine congrArg Host.Outcome.next (if_pos ?_)
  rw [show flexRuns (fresh s) = true from hruns, show ccAllowed n.val (fresh s) = true from hcc, show flexRole n.val (fresh s) = 1 from hdrp,
    show (flexAt n.val (fresh s)).role = .unattached from hrole, show trying n.val (fresh s) = false from hidle]
  rfl

theorem exec_sinkAttach_tries (cc2 pd : Bool) (h : (flexAt n.val s).cc = .rd) (htry : triesSource n.val s = true) :
    exec (.sinkAttach n cc2 pd) s = .next (mapFlex n.val (fun f => { f with cc := .rp, trySince := some s.clk.tick }) (fresh s)) := by
  refine congrArg Host.Outcome.next (if_pos ?_)
  rw [waiting_of hruns hcc hrole h]
  exact htry

/-- The record of a port on which a source attaches. -/
def sinked (b cc2 pd : Bool) (f : Flex) : Flex :=
  { f with role := if b then .sinkB else .sinkRefused, trySince := none, cc2 := cc2, pd := pd }

theorem exec_sinkAttach (cc2 pd : Bool) (h : (flexAt n.val s).cc = .rd) (htry : triesSource n.val s = false) :
    exec (.sinkAttach n cc2 pd) s = .next (postAttach n.val (if flexRole n.val s == 2 then 2 else 3) cc2
      (mapFlex n.val (sinked (flexRole n.val s == 2) cc2 pd) (fresh s))) := by
  have hwait := waiting_of hruns hcc hrole h
  refine congrArg Host.Outcome.next ((if_neg ?_).trans (if_pos hwait))
  rw [hwait, show triesSource n.val (fresh s) = false from htry]
  exact Bool.false_ne_true

theorem exec_accessoryRefused :
    exec (.accessoryRefused n) s = .next (postAttach n.val 4 false (mapFlex n.val (fun f => { f with role := .accessory }) (fresh s))) := by
  refine congrArg Host.Outcome.next (if_pos ?_)
  rw [show flexRuns (fresh s) = true from hruns, show ccAllowed n.val (fresh s) = true from hcc,
    show (flexAt n.val (fresh s)).role = .unattached from hrole]
  rfl

end Waiting

/-! ## Detach -/

/-- The record of a partner's port once it has left, under the termination that the port returns to. -/
theorem flexAt_left {n : Nat} {s : State} (h : n < s.flex.length) {f : Flex → Flex} (hf : ∀ x, (f x).role = .unattached) :
    ∃ cc y, flexAt n (settleCc n (mapFlex n f s)) = { f (flexAt n s) with cc := cc, trySince := y } := by
  rw [flexAt_settleCc (by rwa [mapFlex_length]), flexAt_mapFlex h, if_pos (hf _)]
  exact ⟨_, _, rfl⟩

/-- The partner of a source or an accessory leaves (R320). -/
theorem sourceDetach_facts {n : Nat} {s : State} (h : n < s.flex.length) : let f := flexAt n (sourceDetach n s)
    f.role = .unattached ∧ f.contract = none ∧ f.vconn = false ∧ f.altMode = false ∧
      ((flexAt n s).role = .source → f.gate5 = .off ∧ f.gateH = .off ∧ f.disch = true) := by
  obtain ⟨u, hu⟩ : ∃ u, u = postDetach n (flexPower (flexAt n s)) (rampMj (flexAt n s).ramp) (pdGone n s) := ⟨_, rfl⟩
  have hpost : Frame [.out, .boot, .mbx, .hub] (pdGone n s) u := hu ▸ post_frame _ _ _
  have hulen : n < u.flex.length := by
    have hmap := congrArg List.length (pdGone_set n s).flex
    rw [List.length_map, List.length_map] at hmap
    rw [show u.flex = (pdGone n s).flex from hpost .flex (by decide)]
    omega
  have huat : flexAt n u = { flexAt n s with cmd := none } := by
    rw [flexAt_congr (hpost .flex (by decide)), flexAt_pdGone h]
  have hdetach : sourceDetach n s = settleCc n (mapFlex n (fun f => (if f.role = .accessory then f else f.unpower).leave .open) u) := by
    rw [hu]
    rfl
  obtain ⟨cc, y, hat⟩ := flexAt_left hulen (f := fun f => (if f.role = .accessory then f else f.unpower).leave .open) (fun _ => rfl)
  rw [← hdetach, huat] at hat
  dsimp only
  rw [hat]
  refine ⟨rfl, rfl, rfl, rfl, fun hsource => ?_⟩
  dsimp only
  rw [if_neg (by rw [hsource]; decide)]
  exact ⟨rfl, rfl, rfl⟩

theorem sourceDetach_frame (n : Nat) (s : State) : Frame [.out, .boot, .mbx, .hub, .flex] s (sourceDetach n s) := by
  have honly := sourceDetach_only n s
  unfold OnlyOutBootMbxHubFlex at honly
  intro g hg
  cases g <;> simp_all [same]

theorem exec_ccDetach {n : FlexPort} {s : State} (hruns : flexRuns s = true)
    (hrole : (flexAt n.val s).role = .source ∨ (flexAt n.val s).role = .accessory) (htrans : inTransition (flexAt n.val s) = false)
    (hthere : (flexAt n.val s).removed = none) : exec (.ccDetach n) s = .next (sourceDetach n.val (fresh s)) := by
  refine congrArg Host.Outcome.next (if_pos ?_)
  rw [show flexRuns (fresh s) = true from hruns, show flexAt n.val (fresh s) = flexAt n.val s from rfl, htrans, hthere]
  rcases hrole with h | h <;> rw [h] <;> rfl

theorem exec_removalDuringTransition {n : FlexPort} {s : State} (hruns : flexRuns s = true) (htrans : inTransition (flexAt n.val s) = true)
    (hthere : (flexAt n.val s).removed = none) : exec (.removalDuringTransition n) s = .next (mapFlex n.val (fun f =>
      { f.unpower with vconn := false, removed := some (flexPower f, rampMj f.ramp) }) (fresh s)) := by
  refine congrArg Host.Outcome.next (if_pos ?_)
  rw [show flexRuns (fresh s) = true from hruns, show flexAt n.val (fresh s) = flexAt n.val s from rfl, htrans, hthere]
  rfl

/-- The partner of a sink leaves (R321). -/
theorem sinkLeaves_facts {n : Nat} {s : State} (h : n < s.flex.length) : (flexAt n (sinkLeaves n s)).role = .unattached ∧
    (flexAt n (sinkLeaves n s)).contract = none ∧ Frame [.out, .boot, .mbx, .hub, .flex] s (sinkLeaves n s) := by
  obtain ⟨u, hu⟩ : ∃ u, u = postDetach n (flexPower (flexAt n s)) 0 (pdGone n s) := ⟨_, rfl⟩
  have hpost : Frame [.out, .boot, .mbx, .hub] (pdGone n s) u := hu ▸ post_frame _ _ _
  have hulen : n < u.flex.length := by
    have hmap := congrArg List.length (pdGone_set n s).flex
    rw [List.length_map, List.length_map] at hmap
    rw [show u.flex = (pdGone n s).flex from hpost .flex (by decide)]
    omega
  have hleave : sinkLeaves n s = settleCc n (mapFlex n (fun f => f.leave .open) u) := by
    rw [hu]
    rfl
  obtain ⟨cc, y, hat⟩ := flexAt_left hulen (f := fun f => f.leave .open) (fun _ => rfl)
  rw [← hleave] at hat
  rw [hat]
  have honly := sinkLeaves_only n s
  unfold OnlyOutBootMbxHubFlex at honly
  refine ⟨rfl, rfl, fun g hg => ?_⟩
  cases g <;> simp_all [same]

theorem exec_sinkDetach {n : FlexPort} {s : State} (hlen : s.flex.length = 4) (hruns : flexRuns s = true)
    (hrole : (flexAt n.val s).role = .sinkB ∨ (flexAt n.val s).role = .sinkRefused) (hface : carriesFace n.val s = false) :
    ∃ t, exec (.sinkDetach n) s = .next t ∧ (flexAt n.val t).role = .unattached ∧ (flexAt n.val t).contract = none ∧ t.clk = s.clk ∧
      t.cfg = s.cfg := by
  obtain ⟨hunattached, hcontract, hframe⟩ := sinkLeaves_facts (n := n.val) (s := fresh s) (by show n.val < s.flex.length; omega)
  obtain ⟨u, hu⟩ : ∃ u, u = sinkLeaves n.val (fresh s) := ⟨_, rfl⟩
  rw [← hu] at hunattached hcontract hframe
  have hall : (flexRuns (fresh s) && ((flexAt n.val (fresh s)).role == .sinkB || (flexAt n.val (fresh s)).role == .sinkRefused)) = true := by
    rw [show flexRuns (fresh s) = true from hruns, show flexAt n.val (fresh s) = flexAt n.val s from rfl]
    rcases hrole with h | h <;> rw [h] <;> rfl
  have hface' : carriesFace n.val (fresh s) = false := hface
  have hgone (b : Bool) : (flexAt n.val (if b then setAvail .b false u else u)).role = .unattached ∧
      (flexAt n.val (if b then setAvail .b false u else u)).contract = none ∧ (if b then setAvail .b false u else u).clk = s.clk ∧
      (if b then setAvail .b false u else u).cfg = s.cfg := by
    cases b <;> exact ⟨hunattached, hcontract, hframe .clk (by decide), hframe .cfg (by decide)⟩
  refine ⟨_, congrArg Host.Outcome.next ((if_pos hall).trans ?_), hgone ((flexAt n.val s).role == .sinkB)⟩
  simp only [hface', ← hu]
  rfl

/-- Settles O56: an attach writes the record before its event, and a detach ends in the record of an unattached port. -/
theorem typeCAttachAndDetach : Obligations.TypeCAttachAndDetach := by
  unfold Obligations.TypeCAttachAndDetach
  intro n s hlen hruns
  have hn : n.val < (fresh s).flex.length := by
    show n.val < s.flex.length
    omega
  refine ⟨fun hcc hrole => ⟨fun cc2 ra pd h hsource => ?_, fun hdrp hidle => ⟨_, exec_drpToggle hruns hcc hrole hdrp hidle, mapFlex_frame _ _ _,
      flexAt_mapFlex hn _⟩, fun cc2 pd h => ?_, ?_⟩, fun hrole htrans hthere => ?_, fun htrans hthere => ?_,
    fun hrole hface => exec_sinkDetach hlen hruns hrole hface⟩
  · obtain ⟨hframe, hat, hother⟩ := recordedEvent hn (sourced cc2 pd (ra && vconnPort n.val s)) 0o150102 [w18 (n.val + 1), w18 (bit cc2 * 8 + 1)]
    refine ⟨_, exec_ccAttach hruns hcc hrole cc2 ra pd h hsource, hframe, congrArg Flex.role hat, congrArg Flex.cc2 hat,
      congrArg Flex.pd hat, congrArg Flex.vconn hat, congrArg Flex.gate5 hat, hother⟩
  · cases htry : triesSource n.val s with
    | true => exact ⟨_, exec_sinkAttach_tries hruns hcc hrole cc2 pd h htry, fun _ => ⟨mapFlex_frame _ _ _, flexAt_mapFlex hn _⟩, fun h => nomatch h⟩
    | false =>
      obtain ⟨hframe, hat, -⟩ := recordedEvent hn (sinked (flexRole n.val s == 2) cc2 pd) 0o150102
        [w18 (n.val + 1), w18 (bit cc2 * 8 + if flexRole n.val s == 2 then 2 else 3)]
      refine ⟨_, exec_sinkAttach hruns hcc hrole cc2 pd h htry, fun h => (nomatch h), fun _ => ⟨hframe, hat.trans ?_⟩⟩
      simp only [sinked, beq_iff_eq]
      rfl
  · obtain ⟨hframe, hat, -⟩ := recordedEvent hn (fun f => { f with role := .accessory }) 0o150102 [w18 (n.val + 1), w18 (bit false * 8 + 4)]
    exact ⟨_, exec_accessoryRefused hruns hcc hrole, hframe, hat⟩
  · obtain ⟨hunattached, hcontract, hvconn, halt, hgates⟩ := sourceDetach_facts hn
    exact ⟨_, exec_ccDetach hruns hrole htrans hthere, sourceDetach_frame _ _, hunattached, hcontract, hvconn, halt, hgates⟩
  · have hat := flexAt_mapFlex hn (fun f =>
      { f.unpower with vconn := false, removed := some (flexPower f, rampMj f.ramp) })
    exact ⟨_, exec_removalDuringTransition hruns htrans hthere, mapFlex_frame _ _ _, congrArg Flex.gate5 hat, congrArg Flex.gateH hat,
      congrArg Flex.vconn hat, congrArg (fun f => f.removed.isSome) hat⟩

end Sys2Proof.Proofs
end

section
/-!
Pavane runs from attempt to end, and the TEST commands (R407 to R419).
-/

namespace Sys2Proof.Proofs

open Sys2Proof
open Sys2Proof.Machine
open Sys2Proof.Safety
open Sys2Proof.Laws

theorem frame_pav (s : State) (p : Pavane) : Frame [.pav] s { s with pav := p } := by
  intro g hg
  cases g <;> simp_all [same]

/-! ## A run starts -/

theorem observe_frame (r : PavRun) (s : State) : Frame [.own] s (observe r s) := by
  unfold observe
  split
  · exact frame_own _ _
  · exact Frame_refl _ _

theorem observe_other {r : PavRun} {s : State} (h : (nextSteps r).head? ≠ some 9) : observe r s = s := if_neg h

/-- A run that starts: its record, the return from DOZE and what it leaves. -/
theorem startRun_facts (mask : Nat) (byCommand : Bool) (cur : PavResult) (s : State) : let t := startRun mask byCommand cur s
    t.pwr = { s.pwr with state := .run } ∧ (∃ r, t.pav.run = some r ∧ r.start = s.clk.tick ∧ r.mask = mask ∧ r.byCommand = byCommand ∧ r.cur = cur) ∧
      Frame [.own, .pav, .pwr] s t := by
  obtain ⟨r, hr⟩ : ∃ r : PavRun, r = ⟨s.clk.tick, mask, byCommand, s.pwr.state == .doze, cur, 0⟩ := ⟨_, rfl⟩
  obtain ⟨u, hu⟩ : ∃ u : State, u = { s with
    pav := { s.pav with run := some r, resume := none, abortReq := false, trigger := false, doneDue := false }
    pwr := { s.pwr with state := .run } } := ⟨_, rfl⟩
  have hstart : startRun mask byCommand cur s = observe r u := by
    rw [hu, hr]
    rfl
  have hset : Frame [.pav, .pwr] s u := by
    intro g hg
    cases g <;> simp_all [same]
  have hobserve := observe_frame r u
  dsimp only
  rw [hstart]
  refine ⟨?_, ⟨r, ?_, ?_⟩, Frame_mono (Frame_trans hset hobserve) (by simp)⟩
  · rw [show (observe r u).pwr = u.pwr from hobserve .pwr (by decide), hu]
  · rw [show (observe r u).pav = u.pav from hobserve .pav (by decide), hu]
  · rw [hr]
    exact ⟨rfl, rfl, rfl, rfl⟩

theorem exec_pavaneAttempt {s : State} (hrun : s.boot.phase = .running) (hblock : atBlock s = true) (hdue : attemptDue s = true)
    (hnone : s.pav.run = none) : exec .pavaneAttempt s = .next (attempt (fresh s)) := by
  refine congrArg Host.Outcome.next (if_pos ?_)
  rw [show (fresh s).boot.phase = .running from hrun, show atBlock (fresh s) = true from hblock, show attemptDue (fresh s) = true from hdue,
    show (fresh s).pav.run = none from hnone]
  rfl

/-- The attempt is noted, and the next is due at the retry instant. -/
def attemptNoted (s : State) : State :=
  { s with pav := { s.pav with windowEnd := some (windowEnd s), nextTry := s.aon.rtcSec.toNat + pavRetry s } }

theorem attempt_starts {s : State} (hready : pavaneReady s = true) (hresume : s.pav.resume = none) :
    attempt s = startRun (pavSteps s) false (emptyResult s) (attemptNoted s) := by
  simp only [attempt, hready, hresume]
  rfl

theorem attempt_waits {s : State} (hready : pavaneReady s = false) : attempt s = attemptNoted s :=
  if_neg (by rw [hready]; exact Bool.false_ne_true)

/-! ## A step passes -/

theorem bitOf_setBit (m k x : Nat) : bitOf (setBit m k) x = (bitOf m x || decide (k = x)) := by
  rw [bitOf_testBit, bitOf_testBit, setBit, Nat.testBit_or, Nat.testBit_two_pow]

/-- The step that passed is the one that leaves the list. -/
theorem stepsLeft_passed {r q : PavRun} {k : Nat} {l : List Nat} (hmask : q.mask = r.mask) (hfailed : q.cur.failed = r.cur.failed)
    (hpassed : q.cur.passed = setBit r.cur.passed k) (hleft : stepsLeft r = k :: l) : stepsLeft q = l := by
  have hfilter : stepsLeft q = (stepsLeft r).filter (fun x => decide (x ≠ k)) := by
    rw [stepsLeft, stepsLeft, List.filter_filter, hmask, hfailed, hpassed]
    refine List.filter_congr fun x _ => ?_
    rw [bitOf_setBit, Bool.not_or, show (!decide (k = x)) = decide (x ≠ k) by simp [eq_comm]]
    cases decide (x ≠ k) <;> cases bitOf r.mask x <;> cases bitOf r.cur.passed x <;> rfl
  have hnodup : (k :: l).Nodup := hleft ▸ List.nodup_range.filter _
  rw [hfilter, hleft, List.filter_cons_of_neg (by simp), List.filter_eq_self]
  rintro x hx
  exact decide_eq_true fun h => (List.nodup_cons.mp hnodup).1 (h ▸ hx)

/-- The record of a run after a step that passed without findings. -/
def stepPassed (k : Nat) (r : PavRun) : PavRun :=
  { r with levels := 0, cur := { r.cur with passed := setBit r.cur.passed k, sources := (r.cur.sources ++ []).take 32 } }

theorem exec_pavaneStep {r : PavRun} {rep : StepReport} {k j : Nat} {rest : List Nat} {s : State} (hrun : s.pav.run = some r)
    (hphase : s.boot.phase = .running) (hadmitted : rep.admitted = true) (hlevels : r.levels = 0) (hleft : stepsLeft r = k :: j :: rest)
    (h8 : k ≠ 8) (h9 : k ≠ 9) (h10 : k ≠ 10) (hfailed : rep.failed = []) (hbad : rep.badMessages = []) (hskip : rep.skipped = 0) :
    exec (.pavaneStep rep) s = .next (observe (stepPassed k r) (setRun (stepPassed k r) (fresh s))) := by
  have hrun' : (fresh s).pav.run = some r := hrun
  have hall : ((fresh s).boot.phase == .running && rep.admitted) = true := by
    rw [show (fresh s).boot.phase = .running from hphase, hadmitted]
    rfl
  have hnext : nextSteps r = k :: j :: rest := by
    rw [nextSteps, if_neg (by omega), hleft]
  have hmore : ¬ stepsLeft (stepPassed k r) = [] := by
    rw [stepsLeft_passed (r := r) (q := stepPassed k r) rfl rfl rfl hleft]
    exact List.cons_ne_nil _ _
  have hother : otherStep k r rep (fresh s) = stepDone (stepPassed k r) (fresh s) := by
    rw [otherStep, if_neg h8, if_neg h9]
    simp only [hfailed, hbad, hskip, ite_self, List.map_nil, List.append_nil, List.foldl_nil]
    simp [recordStep, stepPassed]
  refine congrArg Host.Outcome.next ?_
  simp only [hrun', if_pos hall, hnext, if_neg h10, hother, stepDone, if_neg hmore]

/-! ## Abort, end and overdue -/

/-- A run that ends for a reason, its offsets reverted, and its steps left for a later attempt. -/
theorem closeRun_aborted (r : PavRun) (reason : Nat) (mask : Nat) (s : State) :
    let t := { closeRun r reason (revertOffsets s) with pav := { (closeRun r reason (revertOffsets s)).pav with resume := some mask } }
    Frame [.pav, .pwr] s t ∧ t.pav.run = none ∧ t.pav.doneDue = true ∧ t.pav.result.reason = reason ∧ t.pav.result.passed = r.cur.passed ∧
      t.pav.resume = some mask ∧ t.pav.provisional = [0, 0, 0, 0] ∧ t.pwr.ageOfs = s.sec.otp.ageOfs := by
  refine ⟨fun g hg => ?_, rfl, rfl, rfl, rfl, rfl, rfl, rfl⟩
  cases g <;> simp_all [same, closeRun, revertOffsets]

theorem exec_pavaneAbort {reason : Fin 6} {r : PavRun} {s : State} (hrun : s.pav.run = some r) (hblock : atBlock s = true)
    (hholds : abortHolds reason.val s = true) : ∃ t, exec (.pavaneAbort reason) s = .next t ∧ Frame [.pav, .pwr] (fresh s) t ∧
      t.pav.run = none ∧ t.pav.doneDue = true ∧ t.pav.result.reason = reason.val ∧ t.pav.result.passed = r.cur.passed ∧
      t.pav.resume = some r.mask ∧ t.pav.provisional = [0, 0, 0, 0] ∧ t.pwr.ageOfs = s.sec.otp.ageOfs := by
  have hrun' : (fresh s).pav.run = some r := hrun
  have hall : (atBlock (fresh s) && abortHolds reason.val (fresh s)) = true := by
    rw [show atBlock (fresh s) = true from hblock]
    exact hholds
  obtain ⟨q, hq, hmask, hpassed⟩ : ∃ q : PavRun, q = (if 0 < r.levels then { r with cur := { r.cur with failed := r.cur.failed % 1024 } } else r) ∧
      q.mask = r.mask ∧ q.cur.passed = r.cur.passed := by
    refine ⟨_, rfl, ?_, ?_⟩ <;> split <;> rfl
  obtain ⟨hframe, hnone, hdone, hreason, hkept, hresume, hprov, hofs⟩ := closeRun_aborted q reason.val q.mask (fresh s)
  refine ⟨_, congrArg Host.Outcome.next ?_, hframe, hnone, hdone, hreason, hkept.trans hpassed, hresume.trans (by rw [hmask]), hprov, hofs⟩
  simp only [hrun', if_pos hall, ← hq]

theorem exec_testDone {s : State} (hdue : s.pav.doneDue = true) : exec .testDone s = .next (groupDone 10 (if s.pav.result.reason = 7 then 0 else 6)
    { post 0o120105 [w18 s.pav.result.passed, w18 s.pav.result.failed, w18 s.pav.result.notRun, w18 s.pav.result.reason,
      w18 s.pav.result.partner] (fresh s) with pav := { s.pav with doneDue := false } }) := by
  have hpav (w0 : Word) (ps : List Word) : (post w0 ps (fresh s)).pav = s.pav := post_frame w0 ps (fresh s) .pav (by decide)
  refine congrArg Host.Outcome.next ((if_pos hdue).trans ?_)
  simp only [hpav]
  rfl

theorem exec_testOverdue {s : State} (hphase : s.boot.phase = .running) (hlate : 24 ≤ hoursSince s) (hnew : s.pav.overdueH < hoursSince s) :
    exec .testOverdue s = .next (post 0o120301 [w18 (min 262143 (hoursSince s))]
      { fresh s with pav := { s.pav with overdueH := hoursSince s } }) := by
  refine congrArg Host.Outcome.next (if_pos ?_)
  rw [show (fresh s).boot.phase = .running from hphase, decide_eq_true (show 24 ≤ hoursSince (fresh s) from hlate),
    decide_eq_true (show (fresh s).pav.overdueH < hoursSince (fresh s) from hnew)]
  rfl

/-! ## The TEST commands -/

section Test

variable {s u : State} {c : Command}

theorem pav_of_Taken {code : Nat} {v : Command → Bool} {n : Command → State → Bool} (h : Taken code v n s c u) : u.pav = s.pav :=
  Taken_same h State.pav fun _ _ _ _ _ _ => rfl

theorem exec_testRun (h : Taken 0o1201 anyVariant noAuth s c u) (hfree : longOf 10 s = none) (hmask : c.p 1 ≤ 0o3777)
    (hready : pavaneReady s = true) (hnone : s.pav.run = none) : exec .testRun s = .next
      (startRun (if c.p 1 = 0 then pavSteps (accepted c u) else c.p 1) true (emptyResult (accepted c u)) (accepted c u)) := by
  have hready' : pavaneReady u = true := (Taken_same h pavaneReady fun _ _ _ _ _ _ => rfl).trans hready
  have hnone' : u.pav.run = none := (congrArg Pavane.run (pav_of_Taken h)).trans hnone
  refine long_accepted h hfree ?_
  simp only [hready', hnone', decide_eq_false (Nat.not_lt.mpr hmask)]
  rfl

theorem exec_testAbort (h : Taken 0o1202 anyVariant noAuth s c u) (hrun : s.pav.run.isSome = true) :
    exec .testAbort s = .next (replied c [] { u with pav := { u.pav with abortReq := true } }) := by
  refine immediate_taken _ _ h ?_
  have hrun' : u.pav.run.isNone = false := by
    rw [pav_of_Taken h, ← Option.not_isSome, hrun]
    rfl
  simp only [hrun']
  rfl

theorem exec_testResult (h : Taken 0o1203 anyVariant noAuth s c u) :
    exec .testResult s = .next (replied c (resultWords s.pav.result) u) := by
  rw [← pav_of_Taken h]
  exact immediate_taken _ _ h rfl

theorem exec_testAgeing (h : Taken 0o1204 anyVariant noAuth s c u) (hlevel : c.p 1 ≤ 3) :
    exec .testAgeing s = .next (replied c (ageingWords (c.p 1) s) u) := by
  have hwords : ageingWords (c.p 1) u = ageingWords (c.p 1) s := Taken_same h (ageingWords (c.p 1)) fun _ _ _ _ _ _ => rfl
  rw [← hwords]
  refine immediate_taken _ _ h ?_
  simp only [decide_eq_false (Nat.not_lt.mpr hlevel)]
  rfl

end Test

/-- Settles O52: a step that passes leaves the list of the steps left, whose head is the next. -/
theorem pavaneRunsAndTestCommands : Obligations.PavaneRunsAndTestCommands := by
  unfold Obligations.PavaneRunsAndTestCommands
  refine ⟨fun s => ⟨fun hphase hblock hdue hnone => ⟨fun hready hresume => ?_, fun hready => ?_⟩,
      fun r rep k j rest hrun hphase hadmitted hlevels hleft h8 h9 h10 hfailed hbad hskip => ?_, fun reason r => exec_pavaneAbort, exec_testDone,
      exec_testOverdue⟩,
    fun s u c => ⟨fun h hfree hmask hready hnone => ?_, exec_testAbort, exec_testResult, exec_testAgeing⟩⟩
  · obtain ⟨hpwr, ⟨r, hr, hstart, hmask, hcmd, hcur⟩, hframe⟩ := startRun_facts (pavSteps (fresh s)) false (emptyResult (fresh s)) (attemptNoted (fresh s))
    have hnoted : Frame [.pav] (fresh s) (attemptNoted (fresh s)) := frame_pav _ _
    refine ⟨_, (exec_pavaneAttempt hphase hblock hdue hnone).trans (congrArg Host.Outcome.next (attempt_starts (s := fresh s) hready hresume)),
      Frame_mono (Frame_trans hnoted hframe) (by simp), hpwr, r, hr, hstart, hmask, hcmd, ?_⟩
    rw [hcur]
    exact ⟨rfl, rfl, rfl⟩
  · exact (exec_pavaneAttempt hphase hblock hdue hnone).trans (congrArg Host.Outcome.next (attempt_waits (s := fresh s) hready))
  · have hset : Frame [.pav] (fresh s) (setRun (stepPassed k r) (fresh s)) := frame_pav _ _
    have hobserve := observe_frame (stepPassed k r) (setRun (stepPassed k r) (fresh s))
    have hnext : stepsLeft (stepPassed k r) = j :: rest := stepsLeft_passed (r := r) rfl rfl rfl hleft
    refine ⟨_, stepPassed k r, exec_pavaneStep hrun hphase hadmitted hlevels hleft h8 h9 h10 hfailed hbad hskip,
      Frame_mono (Frame_trans hset hobserve) (by simp), fun hj => ?_, hobserve .pav (by decide), rfl, rfl, rfl, hnext⟩
    rw [observe_other]
    · rfl
    · rw [nextSteps, if_neg (by exact Nat.lt_irrefl 0), hnext]
      exact fun h => hj (Option.some.inj h)
  · obtain ⟨hpwr, ⟨r, hr, hstart, hmask', hcmd, hcur⟩, hframe⟩ := startRun_facts
      (if c.p 1 = 0 then pavSteps (accepted c u) else c.p 1) true (emptyResult (accepted c u)) (accepted c u)
    have hacc := OnlyMbx.frame (accepted_only c u)
    have hsteps : pavSteps (accepted c u) = pavSteps s := by
      have hcfg : (accepted c u).cfg = s.cfg := (hacc .cfg (by decide)).trans (cfg_of_Taken h)
      unfold pavSteps param
      rw [hcfg]
    have hclk : (accepted c u).clk = s.clk := (hacc .clk (by decide)).trans (clk_of_Taken h)
    refine ⟨_, r, exec_testRun h hfree hmask hready hnone, hframe .mbx (by decide), hr, hstart.trans (by rw [hclk]), hmask'.trans (by rw [hsteps]),
      hcmd, ?_, Frame_mono (Frame_trans (Frame_trans (Frame_of_Taken h) hacc) hframe) (by simp), ?_⟩
    · rw [hcur]
      rfl
    · rw [hpwr]

end Sys2Proof.Proofs
end

section
/-!
The wake from SLEEP over no slow-clock period (R374): the RTC's fraction passes into its seconds at an edge of the slow clock, so without
one it stays as it stands.
-/

namespace Sys2Proof.Proofs

open Sys2Proof
open Sys2Proof.Machine

/-- A device asleep with a wake source set, whose RTC_SUB holds a whole second. -/
def wholeFraction : State :=
  { State.reset with pwr := { State.reset.pwr with state := .sleep, waking := true }, aon := { State.reset.aon with rtcSub := 32000 } }

/-- What a step leaves in RTC_SUB. -/
def rtcSubAfter (i : Instr) (s : State) : Option Nat :=
  match exec i s with
  | .next t => some t.aon.rtcSub
  | _ => none

/-- No edge of the slow clock folds the fraction into the seconds. -/
theorem wholeFraction_stays : rtcSubAfter (.wakeFromSleep 0 0) wholeFraction = some 32000 := by decide +kernel

/-- Refutes O51: a wake from SLEEP over 0 periods leaves the RTC_SUB of `wholeFraction` at 32 000, and not at its remainder 0. -/
theorem not_sleepWakeAndLevels : ¬ Obligations.SleepWakeAndLevels := by
  intro h
  obtain ⟨-, -, -, -, wakes, -⟩ := h wholeFraction
  obtain ⟨t, hexec, -, -, -, -, -, -, -, hrtc, -⟩ := wakes 0 0 rfl rfl
  obtain ⟨hsub, -⟩ := hrtc rfl
  have hstays : some t.aon.rtcSub = some 32000 := by
    rw [← wholeFraction_stays, rtcSubAfter, hexec]
  rw [hsub] at hstays
  exact absurd hstays (by decide)

end Sys2Proof.Proofs
end

section
/-!
The boot ROM, the recovery loader and the directory rebuild (R42 to R45, R59, R276, R428, R447).
-/

namespace Sys2Proof.Proofs

open Sys2Proof
open Sys2Proof.Machine
open Sys2Proof.Safety
open Sys2Proof.Laws

/-! ## The periods until the root PLL locks keep the straps -/

theorem aonEdge_straps (s : State) : (aonEdge s).boot.straps = s.boot.straps :=
  foldl_keeps (fun t : State => t.boot.straps) (fun s w => applyPosted w s) (fun t w => applyPosted_straps t w) _ _

theorem slowTime_straps (n : Nat) (s : State) : (slowTime n s).boot.straps = s.boot.straps := by
  have edge (t : State) : (slowEdge t).boot.straps = t.boot.straps := aonEdge_straps (aonTime 1 t)
  match n with
  | 0 => rfl
  | 1 => exact edge s
  | k + 2 => exact (edge _).trans (edge _)

theorem timeToLock_straps (n : Nat) (s : State) : (timeToLock n s).boot.straps = s.boot.straps := by
  unfold timeToLock
  split
  · exact slowTime_straps n _
  · exact slowTime_straps n s

theorem timeToLock_tick {n : Nat} {s : State} (h : s.boot.fromHibernate = false) : (timeToLock n s).clk.tick = s.clk.tick := by
  have hclk : (slowTime n s).clk = s.clk := by simp
  rw [timeToLock, if_neg (by rw [h]; exact Bool.false_ne_true), hclk]

theorem timeToLock_frame (n : Nat) (s : State) :
    Frame [.out, .free, .clk, .boot, .aon, .win, .mbx, .flt, .hub, .zon, .pwr] s (timeToLock n s) := by
  have honly := timeToLock_only n s
  unfold OnlyOutFreeClkBootAonWinMbxFltHubZonPwr at honly
  intro g hg
  cases g <;> simp_all [same]

/-! ## The boot ROM -/

theorem runBootRom_frame (s : State) : Frame [.out, .boot, .aon] s (runBootRom s) := by
  have honly := runBootRom_only s
  unfold OnlyOutBootAon at honly
  intro g hg
  cases g <;> simp_all [same]

/-- What the straps select (R42 to R45). -/
theorem runBootRom_selects {s : State} {b : Straps} (hb : s.boot.straps = b) :
    (b.testEn = false → .xspiReset ∈ (runBootRom s).out) ∧
    (runBootRom s).boot.phase = (if b.testEn then .factory else if b.boot1 then (if b.boot0 then .halted else .loader) else .bootRom) ∧
    (runBootRom s).aon = (if b.testEn = false ∧ b.boot1 = true ∧ b.boot0 = true
      then { s.aon with rstCause := s.aon.rstCause ||| 0x20 } else s.aon) := by
  have hsent : Out.xspiReset ∈ (emit .xspiReset s).out := List.mem_append_right _ List.mem_cons_self
  simp only [runBootRom, hb]
  cases b.testEn with
  | true => exact ⟨nofun, rfl, rfl⟩
  | false =>
    cases b.boot1 with
    | false => exact ⟨fun _ => hsent, rfl, rfl⟩
    | true => cases b.boot0 <;> exact ⟨fun _ => hsent, rfl, rfl⟩

theorem exec_rootPllLock {s u : State} {n : BitVec 9} (hphase : s.boot.phase = .oscillator) (href : s.clk.refOk = true)
    (hn : n = Config.freeBits 9 s.free) (hu : u = timeToLock n.toNat { fresh s with free := s.free + 1 }) :
    exec .rootPllLock s = .next
      (runBootRom { u with clk := { u.clk with rootLocked := true, ssLocked := true, slowRc := false, relock := false } }) := by
  rw [hu, hn]
  exact congrArg Host.Outcome.next (if_pos ⟨hphase, href⟩)

theorem exec_rootPllLock_waits {s : State} (h : s.boot.phase ≠ .oscillator ∨ s.clk.refOk = false) :
    exec .rootPllLock s = .next (fresh s) := by
  refine congrArg Host.Outcome.next (if_neg fun ⟨hphase, href⟩ => ?_)
  rcases h with h | h
  · exact h hphase
  · exact Bool.false_ne_true (h.symm.trans href)

/-- The boot ROM starts under the straps that the periods until the lock leave. -/
theorem rootPllLock_boots {s u : State} {n : BitVec 9} (hphase : s.boot.phase = .oscillator) (href : s.clk.refOk = true)
    (hn : n = Config.freeBits 9 s.free) (hu : u = timeToLock n.toNat { fresh s with free := s.free + 1 }) :
    ∃ t, exec .rootPllLock s = .next t ∧ Frame [.out, .free, .clk, .boot, .aon, .win, .mbx, .flt, .hub, .zon, .pwr] (fresh s) t ∧
      t.clk = { u.clk with rootLocked := true, ssLocked := true, slowRc := false, relock := false } ∧
      (s.boot.fromHibernate = false → t.clk.tick = s.clk.tick) ∧ (s.boot.straps.testEn = false → .xspiReset ∈ t.out) ∧
      t.boot.phase = (if s.boot.straps.testEn then .factory else if s.boot.straps.boot1 then
        (if s.boot.straps.boot0 then .halted else .loader) else .bootRom) ∧
      t.aon = (if s.boot.straps.testEn = false ∧ s.boot.straps.boot1 = true ∧ s.boot.straps.boot0 = true
        then { u.aon with rstCause := u.aon.rstCause ||| 0x20 } else u.aon) := by
  have hstraps : u.boot.straps = s.boot.straps := by rw [hu, timeToLock_straps]; rfl
  have hwait : Frame [.out, .free, .clk, .boot, .aon, .win, .mbx, .flt, .hub, .zon, .pwr] { fresh s with free := s.free + 1 } u :=
    hu ▸ timeToLock_frame _ _
  have hdrawn : Frame [.free] (fresh s) { fresh s with free := s.free + 1 } := by
    intro g hg
    cases g <;> simp_all [same]
  let w : State := { u with clk := { u.clk with rootLocked := true, ssLocked := true, slowRc := false, relock := false } }
  obtain ⟨hsent, hboot, haon⟩ := runBootRom_selects (s := w) hstraps
  have hclk : (runBootRom w).clk = w.clk := runBootRom_frame w .clk (by decide)
  refine ⟨_, exec_rootPllLock hphase href hn hu, ?_, hclk, fun hcold => ?_, hsent, hboot, haon⟩
  · exact Frame_mono (Frame_trans (Frame_trans (Frame_trans hdrawn hwait) (frame_clk u w.clk)) (runBootRom_frame w)) (by simp)
  · show (runBootRom w).clk.tick = _
    rw [hclk]
    show u.clk.tick = _
    rw [hu, timeToLock_tick (by exact hcold)]
    rfl

/-- The directory and the firmware slots are read from flash, and judged by the OTP. -/
theorem flashBytes_congr {s t : State} (a n : Nat) (h : t.mem = s.mem) : flashBytes a n t = flashBytes a n s := by
  rw [flashBytes, flashBytes, h]

theorem dirCopy_congr {s t : State} (a : Nat) (h : t.mem = s.mem) : dirCopy a t = dirCopy a s := by
  unfold dirCopy
  rw [flashBytes_congr a 4096 h]

theorem directory_congr {s t : State} (h : t.mem = s.mem) : directory t = directory s := by
  unfold directory
  rw [dirCopy_congr 0 h, dirCopy_congr 4096 h]

theorem acceptFirmware_congr {s t : State} (b : List Byte) (n : Nat) (h : t.sec = s.sec) :
    acceptFirmware b n t = acceptFirmware b n s := by
  unfold acceptFirmware keyInSlot
  rw [h]

theorem slotFirmware_congr {s t : State} (k : Nat) (b : Bool) (hmem : t.mem = s.mem) (hsec : t.sec = s.sec) :
    slotFirmware k b t = slotFirmware k b s := by
  unfold slotFirmware
  rw [regionOf_congr hmem 1 k, hsec]
  simp only [flashBytes_congr _ _ hmem, acceptFirmware_congr _ _ hsec]

theorem exec_bootRomStart {a b : Bool} {s : State} (hphase : s.boot.phase = .bootRom) :
    (∀ fw, selectFirmware a b s = some fw →
      exec (.bootRomStart a b) s = .next { fresh s with boot := { s.boot with phase := .verified, fw := some fw } }) ∧
    (selectFirmware a b s = none → exec (.bootRomStart a b) s = .next { fresh s with boot := { s.boot with phase := .halted } }) := by
  have hslot (k : Nat) (c : Bool) : slotFirmware k c (fresh s) = slotFirmware k c s := slotFirmware_congr k c (by rfl) (by rfl)
  have hselect : selectFirmware a b (fresh s) = selectFirmware a b s := by
    unfold selectFirmware
    rw [hslot, hslot]
  refine ⟨fun fw hfw => ?_, fun hnone => ?_⟩
  · refine congrArg Host.Outcome.next ((if_pos hphase).trans ?_)
    simp only [hselect, hfw]
    rfl
  · refine congrArg Host.Outcome.next ((if_pos hphase).trans ?_)
    simp only [hselect, hnone]
    rfl

/-! ## The recovery loader -/

theorem exec_loaderData {k : Nat} {c : Command} {s w : State} (h : loaderTakes 0o7701 (fresh s) = some (k, c))
    (hw : w = takeLoader k (fresh s)) : exec .loaderData s = .next
      (if c.p 3 < 1 ∨ 480 < c.p 3 ∨ 2031616 < c.p 1 + 2 ^ 18 * c.p 2 + c.p 3 then postReply c 3 [] w
       else postReply c 0 [] { w with mem := { s.mem with
        stash := Memory.writeBytes stashErased s.mem.stash (stashAddr 1 0 + (c.p 1 + 2 ^ 18 * c.p 2))
          ((pairBytes (c.params.drop 3)).take (c.p 3)) } }) := by
  have hmem : w.mem = s.mem := by rw [hw]; simp
  refine congrArg Host.Outcome.next ?_
  simp only [h]
  rw [← hw, ← hmem]
  rfl

theorem exec_loaderRun {k : Nat} {c : Command} {b : List Byte} {s w : State} (h : loaderTakes 0o7702 (fresh s) = some (k, c))
    (hw : w = takeLoader k (fresh s)) (hb : b = stashBytes (stashAddr 1 0) (min (c.p 1 + 2 ^ 18 * c.p 2) 2031616) s) :
    exec .loaderRun s = .next
      (if acceptFirmware b s.sec.otp.antiroll s && decide (bundleLen b ≤ c.p 1 + 2 ^ 18 * c.p 2) then
        postReply c 0 [] { w with boot := { s.boot with phase := .verified, fw := some (fwInfoOf 2 b) } }
       else postReply c 5 [] { w with mem := { s.mem with stash := Memory.erase s.mem.stash (stashAddr 1 0) (9 * 6 * 65536) } }) := by
  have hmem : w.mem = s.mem := by rw [hw]; simp
  have hsec : w.sec = s.sec := by rw [hw]; simp
  have hboot : w.boot = s.boot := by rw [hw]; simp
  have hstaged : stashBytes stagingBase (min (stageOffset c) Config.fwLimit) w = b := by
    rw [hb, stashBytes, stashBytes, hmem]
    rfl
  have haccept : acceptFirmware b w.sec.otp.antiroll w = acceptFirmware b s.sec.otp.antiroll s := by
    rw [acceptFirmware_congr b _ hsec, hsec]
  refine congrArg Host.Outcome.next ?_
  simp only [h]
  rw [← hw, hstaged, haccept, ← hmem, ← hboot]
  rfl

/-! ## The directory -/

theorem rebuildDirectory_frame (s : State) : Frame [.out, .boot, .mbx, .mem, .hub] s (rebuildDirectory s) := by
  have honly := rebuildDirectory_only s
  unfold OnlyOutBootMbxMemHub at honly
  intro g hg
  cases g <;> simp_all [same]

theorem rebuildDirectory_phase (s : State) : (rebuildDirectory s).boot.phase = s.boot.phase := by
  have posted (w0 : Word) (ps : List Word) (t : State) : (post w0 ps t).boot.phase = t.boot.phase := by
    rw [(post_faultStep w0 ps t).boot]
  have written (u v : State) (h : v.boot = u.boot) : v.boot.phase = u.boot.phase := congrArg Boot.phase h
  exact (posted _ _ _).trans (written s _ (by simp))

theorem exec_directoryRebuilt {fw : FwInfo} {s : State} (hphase : s.boot.phase = .verified) (hfw : s.boot.fw = some fw)
    (hsource : fw.source = 2) (hdir : directory s = none) (hnew : s.boot.rebuilt = false) : exec .directoryRebuilt s = .next
      { rebuildDirectory (fresh s) with boot := { (rebuildDirectory (fresh s)).boot with rebuilt := true } } := by
  have hfw' : (fresh s).boot.fw = some fw := hfw
  have hguard : ((fresh s).boot.phase == .verified && fw.source == 2 && (directory (fresh s)).isNone && !(fresh s).boot.rebuilt) = true := by
    have hphase' : (fresh s).boot.phase = .verified := hphase
    have hnew' : (fresh s).boot.rebuilt = false := hnew
    rw [hphase', hsource, (directory_congr (by rfl)).trans hdir, hnew']
    rfl
  refine congrArg Host.Outcome.next ?_
  simp only [hfw']
  exact if_pos hguard

/-- Settles O36: the straps select what runs, the loader stages and verifies, and the directory is rebuilt. -/
theorem bootRomAndLoader : Obligations.BootRomAndLoader := by
  refine ⟨fun n s u => rootPllLock_boots, fun s => exec_rootPllLock_waits, fun a b s => exec_bootRomStart,
    fun k c s w h hw => ⟨fun hmin hmax hlimit => ?_, fun hbad => ?_⟩, fun k c b s w h hw hb => ⟨fun haccept hlen => ?_, fun hbad => ?_⟩,
    fun fw s hphase hfw hsource hdir hnew => ⟨_, exec_directoryRebuilt hphase hfw hsource hdir hnew, rfl, ?_, ?_, ?_⟩⟩
  · rw [exec_loaderData h hw, if_neg (by omega)]
  · rw [exec_loaderData h hw, if_pos hbad]
  · rw [exec_loaderRun h hw hb, if_pos (by rw [haccept, decide_eq_true hlen]; rfl)]
  · refine (exec_loaderRun h hw hb).trans (congrArg Host.Outcome.next (if_neg fun hgood => ?_))
    obtain ⟨hvalid, hfits⟩ := Bool.and_eq_true_iff.mp hgood
    rcases hbad with hbad | hbad
    · exact Bool.false_ne_true (hbad.symm.trans hvalid)
    · exact absurd (of_decide_eq_true hfits) (Nat.not_le.mpr hbad)
  · exact (rebuildDirectory_phase (fresh s)).trans hphase
  · exact rebuildDirectory_frame (fresh s) .clk (by decide)
  · exact rebuildDirectory_frame (fresh s) .cfg (by decide)

end Sys2Proof.Proofs
end

section
/-!
The firmware starts (R441, R443, R444): its choice of an image, or the unconfigured device with no port owned or powered (R131).
-/

namespace Sys2Proof.Proofs

open Sys2Proof
open Sys2Proof.Machine
open Sys2Proof.Safety
open Sys2Proof.Laws

/-! ## The boot state and the AON domain over flushes and ended commands -/

theorem FaultStep.foldl {α : Type} {f : State → α → State} (h : ∀ s a, FaultStep s (f s a)) (l : List α) (s : State) :
    FaultStep s (l.foldl f s) := by
  induction l generalizing s with
  | nil => exact .refl s
  | cons a l ih => exact (h s a).trans (ih _)

theorem FaultStep.of_frame {l : List Group} {s t : State} (h : Frame l s t) (haon : .aon ∉ l) (hboot : .boot ∉ l) : FaultStep s t :=
  .of_eq (h .aon haon) (h .boot hboot)

theorem releaseCell_faultStep (i : Nat) (s : State) : FaultStep s (releaseCell i s) := by
  have moved (x : Switch) : FaultStep s { s with sw := x } := .of_eq rfl rfl
  unfold releaseCell
  split
  · exact .refl s
  · exact .ite (raiseFault_faultStep ..) (.ite (moved _) (moved _))

theorem flushEgress_faultStep (cut : Bool) (e : Nat) (s : State) : FaultStep s (flushEgress cut e s).2 := by
  have emptied : FaultStep s (setQueue e 2 [] (setQueue e 1 [] (setQueue e 0 [] s))) := .of_eq (by simp) (by simp)
  have idled (t : State) (l : List DownPortState) : FaultStep t { t with ports := l } := .of_eq rfl rfl
  have sent (t : State) (o : Out) : FaultStep t (emit o t) := .of_eq rfl rfl
  have released := emptied.trans (.foldl (fun s i => releaseCell_faultStep i s) (queueOf e 0 s ++ queueOf e 1 s ++ queueOf e 2 s) _)
  exact .ite ((released.trans (idled _ _)).trans (sent _ _)) (released.trans (idled _ _))

theorem flushLink_faultStep (cut : Bool) (k : Nat) (s : State) : FaultStep s (flushLink cut k s) := by
  have counted (l : List Nat) (t : State) : FaultStep t (countDropped l t) := .of_frame (countDropped_frame l t) (by decide) (by decide)
  have ended (iso : Nat) (t : State) : FaultStep t (endHold k 2 iso t) :=
    (FaultStep.of_eq (by simp) (by simp)).trans (post_faultStep _ _ (setLink k { t.sw.links.getD k {} with down := none } t))
  unfold flushLink
  exact .ite (((counted _ _).trans (flushEgress_faultStep ..)).trans (ended _ _)) (flushEgress_faultStep ..)

theorem flushPort_faultStep (k : Nat) (s : State) : FaultStep s (flushPort k s) := by
  unfold flushPort
  exact .ite (flushLink_faultStep ..) (flushEgress_faultStep ..)

theorem cmdDone_faultStep (l : LongCmd) (status : Nat) (s : State) : FaultStep s (cmdDone l status s) := by
  have filed : FaultStep s (setRecords l.box (finishRecord l.word0 l.seq (w18 status) (records l.box s)) s) := .of_eq (by simp) (by simp)
  have ended (t : State) (m : Mailbox) : FaultStep t { t with mbx := m } := .of_eq rfl rfl
  exact (filed.trans (ended _ _)).trans (post_faultStep ..)

theorem groupDone_faultStep (group status : Nat) (s : State) : FaultStep s (groupDone group status s) := by
  unfold groupDone
  split
  · exact cmdDone_faultStep ..
  · exact .refl s

theorem endReset_faultStep (k : Nat) (place : Option Nat) (s : State) : FaultStep s (endReset k place s) := by
  have noted (x : Owned) : FaultStep s { s with own := x } := .of_eq rfl rfl
  unfold endReset
  split
  · exact .ite ((noted _).trans (groupDone_faultStep ..)) (.refl s)
  · exact .refl s

theorem flexOff_faultStep (n : Nat) (s : State) : FaultStep s (flexOff n s) := by
  have marked (t : State) (f : Flex → Flex) : FaultStep t (mapFlex n f t) := .of_eq rfl rfl
  have gone : FaultStep s (pdGone n s) := by
    simp only [pdGone, pdDone]
    split
    · exact .ite ((marked _ _).trans (groupDone_faultStep ..)) (.refl s)
    · exact .refl s
  exact gone.trans (marked _ _)

theorem cutPower_faultStep (k : Nat) (s : State) : FaultStep s (cutPower k s) := by
  have mapped (t : State) (f : DownPortState → DownPortState) : FaultStep t (mapPort k f t) := .of_eq rfl rfl
  have off : FaultStep s (flushPort k (mapPort k (fun p => { p.sidesOff.detach with powered := false }) s)) :=
    (mapped s _).trans (flushPort_faultStep ..)
  exact .ite (off.trans (flexOff_faultStep ..)) off

theorem disown_faultStep (s : State) (k : Nat) : FaultStep s (disown s k) := by
  have forgotten : FaultStep s (forgetTree k 0 s) := .of_frame (forgetTree_frame k 0 s) (by decide) (by decide)
  have mapped (t : State) (f : DownPortState → DownPortState) : FaultStep t (mapPort k f t) := .of_eq rfl rfl
  unfold disown
  exact .ite ((forgotten.trans (mapped _ _)).trans (endReset_faultStep ..)) (.refl s)

/-! ## Ports that are given up -/

/-- The groups of a port that gives up its owner and its power. -/
def portGroups : List Group := [.out, .boot, .aon, .mbx, .flt, .hub, .ports, .own, .sw, .zon, .flex]

theorem groupDone_frame (group status : Nat) (s : State) : Frame [.out, .boot, .mbx, .hub] s (groupDone group status s) := by
  have honly := groupDone_only group status s
  unfold OnlyOutBootMbxHub at honly
  intro g hg
  cases g <;> simp_all [same]

theorem endReset_frame (k : Nat) (place : Option Nat) (s : State) : Frame portGroups s (endReset k place s) := by
  unfold endReset
  split
  · split
    · exact Frame_mono (Frame_trans (frame_own s _) (groupDone_frame _ _ _)) (by simp [portGroups])
    · exact Frame_refl _ _
  · exact Frame_refl _ _

theorem disown_frame (s : State) (k : Nat) : Frame portGroups s (disown s k) := by
  unfold disown
  split
  · have hgone := Frame_trans (forgetTree_frame k 0 s)
      (mapPort_frame k (fun p => { p with owned := false, change := .none, enumDone := true, reserved := 0 }) (forgetTree k 0 s))
    exact Frame_mono (Frame_trans hgone (endReset_frame _ _ _)) (by simp [portGroups])
  · exact Frame_refl _ _

theorem flexOff_frame (n : Nat) (s : State) : Frame [.out, .boot, .mbx, .hub, .flex] s (flexOff n s) :=
  Frame_mono (Frame_trans (pdGone_frame n s) (mapFlex_frame _ _ _)) (by simp)

theorem cutPower_frame (k : Nat) (s : State) : Frame portGroups s (cutPower k s) := by
  have off := Frame_trans (mapPort_frame k (fun p => { p.sidesOff.detach with powered := false }) s) (flushPort_frame k _)
  unfold cutPower
  dsimp only
  split
  · exact Frame_mono (Frame_trans off (flexOff_frame _ _)) (by simp [portGroups])
  · exact Frame_mono off (by simp [portGroups])

/-- A port of the list and its update, in and out of range. -/
theorem portOf_mapPort_ite (j k : Nat) (f : DownPortState → DownPortState) (s : State) :
    portOf j (mapPort k f s) = if j = k ∧ k < s.ports.length then f (portOf j s) else portOf j s := listModify_getD ..

/-- Ports that are not owned stay so, and ports without power stay so. -/
def StaysOff (s t : State) : Prop := ∀ j, ((portOf j s).owned = false → (portOf j t).owned = false) ∧
  ((portOf j s).powered = false → (portOf j t).powered = false)

theorem StaysOff.trans {s t u : State} (h : StaysOff s t) (h' : StaysOff t u) : StaysOff s u := fun j =>
  ⟨fun ho => (h' j).1 ((h j).1 ho), fun hp => (h' j).2 ((h j).2 hp)⟩

theorem StaysOff.of_ports {s t : State} (h : t.ports = s.ports) : StaysOff s t := fun j => by
  rw [portOf_congr h]
  exact ⟨id, id⟩

theorem StaysOff.mapPort {f : DownPortState → DownPortState} (h : ∀ p, (p.owned = false → (f p).owned = false) ∧
    (p.powered = false → (f p).powered = false)) (k : Nat) (s : State) : StaysOff s (mapPort k f s) := fun j => by
  rw [portOf_mapPort_ite]
  split
  · exact h _
  · exact ⟨id, id⟩

theorem flushPort_staysOff (k : Nat) (s : State) : StaysOff s (flushPort k s) := by
  have hmap : (flushPort k s).ports = (mapPort k ttIdled s).ports := flushPort_ports k s
  exact (StaysOff.mapPort (f := ttIdled) (fun _ => ⟨id, id⟩) k s).trans (.of_ports hmap)

theorem cutPower_staysOff (k : Nat) (s : State) : StaysOff s (cutPower k s) := by
  have off : StaysOff s (flushPort k (mapPort k (fun p => { p.sidesOff.detach with powered := false }) s)) :=
    (StaysOff.mapPort (fun _ => by exact ⟨id, fun _ => rfl⟩) k s).trans (flushPort_staysOff k _)
  unfold cutPower
  dsimp only
  split
  · exact off.trans (.of_ports (flexOff_frame k _ .ports (by decide)))
  · exact off

theorem cutPower_powered (k : Nat) (s : State) : (portOf k (cutPower k s)).powered = false := by
  have off : (portOf k (flushPort k (mapPort k (fun p => { p.sidesOff.detach with powered := false }) s))).powered = false := by
    refine (flushPort_staysOff k _ k).2 ?_
    rw [portOf_mapPort_ite]
    split
    · rfl
    · rename_i hout
      have hlen : s.ports.length ≤ k := by omega
      rw [portOf, List.getD_eq_default _ _ hlen]
  unfold cutPower
  dsimp only
  split
  · rw [portOf_congr (flexOff_frame k _ .ports (by decide))]
    exact off
  · exact off

theorem StaysOff.of_powers {s t : State} (h : powers t = powers s) : StaysOff s t := fun j => by
  have read (u : State) : ((portOf j u).owned, (portOf j u).powered, (portOf j u).forceOff) = (powers u).getD j (false, false, false) :=
    (List.getD_map u.ports ({} : DownPortState) (fun p => (p.owned, p.powered, p.forceOff))).symm
  have hread := (read t).trans ((congrArg (fun l => l.getD j (false, false, false)) h).trans (read s).symm)
  obtain ⟨howned, hrest⟩ := Prod.mk.inj hread
  obtain ⟨hpowered, -⟩ := Prod.mk.inj hrest
  rw [howned, hpowered]
  exact ⟨id, id⟩

theorem endReset_ports (k : Nat) (place : Option Nat) (s : State) : (endReset k place s).ports = s.ports := by simp

theorem disown_owned (s : State) (k : Nat) : StaysOff s (disown s k) ∧ (portOf k (disown s k)).owned = false := by
  unfold disown
  split
  · refine ⟨?_, ?_⟩
    · exact ((StaysOff.of_powers (powers_forgetTree k 0 s)).trans (.mapPort (fun _ => by exact ⟨fun _ => rfl, id⟩) k _)).trans
        (.of_ports (endReset_ports _ _ _))
    · rw [portOf_congr (endReset_ports _ _ _), portOf_mapPort_ite]
      split
      · rfl
      · rename_i hout
        rw [portOf, List.getD_eq_default _ _ (by omega)]
  · rename_i hown
    exact ⟨.of_ports rfl, Bool.eq_false_iff.mpr hown⟩

/-- A port that the device gives up, and its power with it. -/
def givenUp (s : State) (k : Nat) : State := cutPower k (disown s k)

theorem givenUp_off (s : State) (k : Nat) : StaysOff s (givenUp s k) ∧ (portOf k (givenUp s k)).owned = false ∧
    (portOf k (givenUp s k)).powered = false := by
  obtain ⟨hstay, howned⟩ := disown_owned s k
  exact ⟨hstay.trans (cutPower_staysOff k _), (cutPower_staysOff k _ k).1 howned, cutPower_powered k _⟩

/-- Every port of a list that is given up is off. -/
theorem givenUp_all (l : List Nat) (s : State) : StaysOff s (l.foldl givenUp s) ∧
    ∀ k ∈ l, (portOf k (l.foldl givenUp s)).owned = false ∧ (portOf k (l.foldl givenUp s)).powered = false := by
  induction l generalizing s with
  | nil => exact ⟨.of_ports rfl, nofun⟩
  | cons k l ih =>
    obtain ⟨hstay, howned, hpowered⟩ := givenUp_off s k
    obtain ⟨hrest, hall⟩ := ih (givenUp s k)
    refine ⟨hstay.trans hrest, fun j hj => ?_⟩
    rcases List.mem_cons.mp hj with rfl | hj
    · exact ⟨(hrest j).1 howned, (hrest j).2 hpowered⟩
    · exact hall j hj

theorem givenUp_frame (s : State) (k : Nat) : Frame portGroups s (givenUp s k) :=
  Frame_mono (Frame_trans (disown_frame s k) (cutPower_frame k _)) (by simp [portGroups])

theorem givenUp_faultStep (s : State) (k : Nat) : FaultStep s (givenUp s k) := (disown_faultStep s k).trans (cutPower_faultStep k _)

/-! ## The end of a start -/

theorem finishStart_frame (outcome : Nat) (s : State) : Frame [.out, .boot, .mbx, .hub, .pwr] s (finishStart outcome s) := by
  have honly := finishStart_only outcome s
  unfold OnlyOutBootMbxHubPwr at honly
  intro g hg
  cases g <;> simp_all [same]

theorem finishStart_boot (outcome : Nat) (s : State) : (finishStart outcome s).boot = { s.boot with
    started := true, held := (finishStart outcome s).boot.held, warmBusy := false
    resetFault := (finishStart outcome s).boot.resetFault, warmReq := (finishStart outcome s).boot.warmReq
    fromHibernate := (finishStart outcome s).boot.fromHibernate } := by
  have posted (w0 : Word) (ps : List Word) (k : Tick) (t : State) : (postAt w0 ps k t).boot = t.boot := by simp
  have released (l : List HeldEvent) (t : State) :
      (l.foldl (fun s e => postAt e.word0 e.params e.tick s) t).boot = t.boot :=
    foldl_keeps State.boot (fun s (e : HeldEvent) => postAt e.word0 e.params e.tick s) (fun _ _ => posted _ _ _ _) l t
  have ended (t : State) (p : Power) : FaultStep t { t with pwr := p } := .of_eq rfl rfl
  unfold finishStart
  extract_lets held ms b₁ s₁ s₂ s₃ b₄ s₄
  have h₃ : s₃.boot = s₁.boot := (released held s₂).trans (posted _ _ _ _)
  split
  · have hwake : FaultStep { s₃ with boot := { s₃.boot with fromHibernate := false } } s₄ := post_faultStep ..
    split
    · rename_i l _
      have hdone := hwake.trans ((ended s₄ { s₄.pwr with entryCmd := none }).trans (cmdDone_faultStep l stOk _))
      rw [hdone.boot, h₃]
    · rw [hwake.boot, h₃]
  · rw [h₃]

/-! ## The device without an image -/

/-- The boot state that a start notes: the watchdog, the reset cause and the firmware. -/
def startMarks (b : Boot) : Bool × Tick × BitVec 7 × Option FwInfo := (b.wdArmed, b.lastKick, b.causeAtStart, b.fw)

theorem FaultStep.marks {s t : State} (h : FaultStep s t) : startMarks t.boot = startMarks s.boot := by
  rw [h.boot]
  rfl

/-- The tables, the zones and the audio state are gone, and the firmware runs. -/
def unconfigured (s : State) : State :=
  { s with
    cfg := { s.cfg with
      unconfigured := true, active := none, gen := 0, crc := 0, header := [], signed := [], live := [], overlay := [], overlaySeq := 0
      overlayCopy := none, pending := [], next := none, nextIsLoad := false, reloading := false }
    zon := { s.zon with zones := [], occs := [] }
    aud := {}
    boot := { s.boot with phase := .running }
    hub := { s.hub with waitFace := true } }

theorem runUnconfigured_eq (s : State) : runUnconfigured s = finishStart 2 (unconfigured ((List.range 10).foldl givenUp s)) := by
  have hstep : (fun (s : State) k => cutPower k (disown s k)) = givenUp := rfl
  unfold runUnconfigured
  rw [hstep]
  generalize (List.range 10).foldl givenUp s = u
  rfl

/-- The ports are given up, and then the tables. -/
theorem runUnconfigured_facts (s : State) :
    let t := runUnconfigured s
    startMarks t.boot = startMarks s.boot ∧ t.clk = s.clk ∧ t.boot.phase = .running ∧ t.cfg.unconfigured = true ∧ t.cfg.active = none ∧
    t.cfg.live = [] ∧ ∀ k < 10, (portOf k t).owned = false ∧ (portOf k t).powered = false := by
  have hports := (givenUp_all (List.range 10) s).2
  have hfault := FaultStep.foldl givenUp_faultStep (List.range 10) s
  have hframe := Frame_foldl givenUp_frame (List.range 10) s
  obtain ⟨u, hu⟩ : ∃ u, u = (List.range 10).foldl givenUp s := ⟨_, rfl⟩
  rw [← hu] at hports hfault hframe
  have hboot := finishStart_boot 2 (unconfigured u)
  have hrest := finishStart_frame 2 (unconfigured u)
  have hc : (finishStart 2 (unconfigured u)).cfg = (unconfigured u).cfg := hrest .cfg (by decide)
  have hclk : (finishStart 2 (unconfigured u)).clk = u.clk := hrest .clk (by decide)
  intro t
  rw [show t = finishStart 2 (unconfigured u) from hu ▸ runUnconfigured_eq s, hc]
  refine ⟨?_, hclk.trans (hframe .clk (by decide)), ?_, rfl, rfl, rfl, fun k hk => ?_⟩
  · rw [hboot]
    exact hfault.marks
  · rw [hboot]
    rfl
  · rw [portOf_congr (s := u) (hrest .ports (by decide))]
    exact hports k (List.mem_range.mpr hk)

/-! ## The slots are read -/

theorem rejectImage_step (k reason : Nat) (s : State) : FaultStep s (rejectImage k reason s) ∧
    Frame [.out, .boot, .aon, .mbx, .flt, .hub, .zon] s (rejectImage k reason s) := by
  have read (t : State) : FaultStep t (flashReadFault false t) := raiseFault_faultStep 0o4321 t
  refine ⟨?_, ?_⟩
  · exact (FaultStep.ite (read s) (.refl s)).trans ((post_faultStep ..).trans (raiseFault_faultStep ..))
  · have honly := rejectImage_only k reason s
    unfold OnlyOutBootAonMbxFltHubZon at honly
    intro g hg
    cases g <;> simp_all [same]

theorem checkSlots_step (a b : Bool) (l : List Nat) (s : State) : FaultStep s (checkSlots a b l s).2 ∧
    Frame [.out, .boot, .aon, .mbx, .flt, .hub, .zon] s (checkSlots a b l s).2 := by
  induction l generalizing s with
  | nil => exact ⟨.refl s, Frame_refl _ s⟩
  | cons k l ih =>
    cases hslot : checkSlot k (if k = 0 then a else b) s with
    | inl reason =>
      obtain ⟨hfault, hframe⟩ := rejectImage_step k reason s
      obtain ⟨hrest, hleft⟩ := ih (rejectImage k reason s)
      rw [checkSlots_fails l hslot]
      exact ⟨hfault.trans hrest, Frame_mono (Frame_trans hframe hleft) (by simp)⟩
    | inr img =>
      rw [checkSlots_passes l hslot]
      exact ih s

/-! ## The start -/

theorem readOtp_step (s : State) : FaultStep s (readOtp s) := by
  have raised (src : BitVec 12) (t : State) : FaultStep t (raiseFault src t) := raiseFault_faultStep src t
  have step (p : Prop) [Decidable p] (src : BitVec 12) (t : State) : FaultStep t (if p then raiseFault src t else t) :=
    .ite (raised src t) (.refl t)
  have agree : FaultStep s (if s.sec.otp.agrees then s else raiseFault 0o0240 s) := .ite (.refl s) (raised _ s)
  exact (agree.trans (step _ _ _)).trans (step _ _ _)

/-- The firmware's notes of its start, on the state that the OTP's reading leaves. -/
def noted (s : State) : State :=
  let fw := s.boot.fw.getD ⟨0, 0, 0, 0⟩
  { s with
    win := { s.win with idFw := w18 (fw.major * 4096 + fw.minor * 64) }
    pwr := { s.pwr with ageOfs := s.sec.otp.ageOfs, pl0Retired := s.sec.otp.pl0Retired }
    boot := { s.boot with
      wdArmed := true, lastKick := s.clk.tick, kickMissed := false, causeAtStart := s.aon.rstCause
      held := s.boot.held ++ (match s.boot.resetFault with | some e => [e] | none => []) } }

theorem startFirmware_eq (s : State) : startFirmware s =
    discardLoads (if (noted (readOtp s)).boot.warmBusy then noted (readOtp s) else loadVault (noted (readOtp s))) := rfl

/-- What the firmware notes before it looks for an image. -/
theorem startFirmware_facts (s : State) :
    let t := startFirmware s
    t.boot.wdArmed = true ∧ t.boot.lastKick = s.clk.tick ∧ (s.boot.warmBusy = false → t.boot.causeAtStart = s.aon.rstCause) ∧
    t.boot.fw = s.boot.fw ∧ t.boot.warmBusy = s.boot.warmBusy ∧ t.clk = s.clk := by
  have hread := readOtp_step s
  have hclk : (readOtp s).clk = s.clk := by simp
  have hload (t : State) : (loadVault t).boot = t.boot ∧ (loadVault t).clk = t.clk := by
    unfold loadVault
    split <;> exact ⟨rfl, rfl⟩
  have hdisc (t : State) : (discardLoads t).boot = t.boot ∧ (discardLoads t).clk = t.clk := by simp
  have hnoted : (startFirmware s).boot = (noted (readOtp s)).boot ∧ (startFirmware s).clk = (readOtp s).clk := by
    rw [startFirmware_eq, (hdisc _).1, (hdisc _).2]
    split
    · exact ⟨rfl, rfl⟩
    · exact hload _
  intro t
  rw [show t = startFirmware s from rfl, hnoted.1, hnoted.2, hclk]
  refine ⟨rfl, congrArg Clock.tick hclk, hread.cause, ?_, ?_, rfl⟩
  · show (readOtp s).boot.fw = _
    rw [hread.boot]
  · show (readOtp s).boot.warmBusy = _
    rw [hread.boot]

/-- The firmware's choice: an image to activate, or the unconfigured device. -/
theorem chooseCti_facts (a b : Bool) (s : State) :
    let t := chooseCti a b s
    startMarks t.boot = startMarks s.boot ∧ t.clk = s.clk ∧
    ((t.boot.phase = .starting ∧ t.cfg.next.isSome = true) ∨ (t.boot.phase = .running ∧ t.cfg.unconfigured = true ∧
      t.cfg.active = none ∧ t.cfg.live = [] ∧ ∀ k < 10, (portOf k t).owned = false ∧ (portOf k t).powered = false)) := by
  obtain ⟨hfault, hframe⟩ := checkSlots_step a b [0, 1] s
  have hclk : (checkSlots a b [0, 1] s).2.clk = s.clk := hframe .clk (by decide)
  obtain ⟨v, hv⟩ : ∃ v, v = (checkSlots a b [0, 1] s).2 := ⟨_, rfl⟩
  rw [← hv] at hfault hclk
  unfold chooseCti
  split
  · exact ⟨rfl, rfl, .inl ⟨rfl, rfl⟩⟩
  · dsimp only
    rw [← hv]
    split
    · exact ⟨hfault.marks, hclk, .inl ⟨rfl, rfl⟩⟩
    · have hrun := runUnconfigured_facts { v with boot := { v.boot with ctiKept := false } }
      generalize runUnconfigured { v with boot := { v.boot with ctiKept := false } } = t at hrun ⊢
      obtain ⟨hmarks, hc, hfacts⟩ := hrun
      exact ⟨hmarks.trans hfault.marks, hc.trans hclk, .inr hfacts⟩

theorem exec_firmwareStart {a b : Bool} {s : State} (hphase : s.boot.phase = .verified) (hdir : (directory s).isSome = true) :
    exec (.firmwareStart a b) s = .next (chooseCti a b (startFirmware (fresh s))) := by
  have hguard : ((fresh s).boot.phase == .verified && ((directory (fresh s)).isSome || (fresh s).boot.rebuilt)) = true := by
    have hphase' : (fresh s).boot.phase = .verified := hphase
    rw [hphase', directory_congr (s := s) (by rfl), hdir]
    rfl
  exact congrArg Host.Outcome.next (if_pos hguard)

theorem firmwareStart_starts {a b : Bool} {s : State} (hphase : s.boot.phase = .verified) (hdir : (directory s).isSome = true) :
    ∃ t, exec (.firmwareStart a b) s = .next t ∧ t.boot.wdArmed = true ∧ t.boot.lastKick = s.clk.tick ∧
      (s.boot.warmBusy = false → t.boot.causeAtStart = s.aon.rstCause) ∧ t.boot.fw = s.boot.fw ∧ t.clk = s.clk ∧
      ((t.boot.phase = .starting ∧ t.cfg.next.isSome = true) ∨ (t.boot.phase = .running ∧ t.cfg.unconfigured = true ∧
        t.cfg.active = none ∧ t.cfg.live = [] ∧ ∀ k < 10, (portOf k t).owned = false ∧ (portOf k t).powered = false)) := by
  obtain ⟨harmed, hkick, hcause, hfw, -, hclk⟩ := startFirmware_facts (fresh s)
  obtain ⟨hmarks, hclock, hchoice⟩ := chooseCti_facts a b (startFirmware (fresh s))
  obtain ⟨marmed, mrest⟩ := Prod.mk.inj hmarks
  obtain ⟨mkick, mrest⟩ := Prod.mk.inj mrest
  obtain ⟨mcause, mfw⟩ := Prod.mk.inj mrest
  exact ⟨_, exec_firmwareStart hphase hdir, marmed.trans harmed, mkick.trans hkick, fun h => mcause.trans (hcause h), mfw.trans hfw,
    hclock.trans hclk, hchoice⟩

end Sys2Proof.Proofs
end

section
/-!
An image takes effect (R130, R132), and the firmware's start and activation together.
-/

namespace Sys2Proof.Proofs

open Sys2Proof
open Sys2Proof.Machine
open Sys2Proof.Safety
open Sys2Proof.Laws

/-! ## The ports at an activation -/

theorem activateOwner_frame (first : Bool) (old : List Table) (s : State) (k : Nat) :
    Frame portGroups s (activateOwner first old s k) := by
  have mapped (t : State) (h : Frame portGroups s t) (f : DownPortState → DownPortState) : Frame portGroups s (mapPort k f t) :=
    Frame_mono (Frame_trans h (mapPort_frame k f t)) (by simp [portGroups])
  have given (p : Prop) [Decidable p] : Frame portGroups s (if p then disown s k else s) := by
    split
    · exact disown_frame s k
    · exact Frame_refl _ s
  unfold activateOwner
  extract_lets want no t
  have ht : Frame portGroups s t := given _
  split
  · exact mapped t ht _
  · split
    · split
      · exact mapped t ht _
      · exact ht
    · split
      · exact mapped t ht _
      · exact mapped t ht _

theorem followRole_frame (old : List Table) (s : State) (n : Nat) : Frame portGroups s (followRole old s n) := by
  unfold followRole
  split
  · exact Frame_refl _ s
  · extract_lets t u v
    have ht : Frame portGroups s t := Frame_mono (Frame_trans (pdGone_frame n s) (mapFlex_frame _ _ _)) (by simp [portGroups])
    have hv : Frame portGroups s v := by
      refine if hb : isUpstreamB n t = true then ?_ else ?_
      · have hport := Frame_trans (disown_frame t n) (flushPort_frame n u)
        have hshown := Frame_trans (Frame_trans ht hport) (mapPort_frame n
          (fun p => { p.sidesOff.detach with ownIgnored := ownBit u.cfg.live n, hostPower := false }) (flushPort n u))
        rw [show v = _ from if_pos hb]
        exact Frame_mono hshown (by simp [portGroups])
      · rw [show v = t from if_neg hb]
        exact ht
    exact Frame_mono (Frame_trans hv (settleCc_frame n v)) (by simp [portGroups])

theorem restorePower_frame (k : Nat) (s : State) : Frame portGroups s (restorePower k s) := by
  have honly := restorePower_only k s
  unfold OnlyPortsFlex at honly
  intro g hg
  cases g <;> simp_all [same, portGroups]

theorem activatePort_frame (old : List Table) (s : State) (k : Nat) : Frame portGroups s (activatePort old s k) := by
  unfold activatePort
  split
  · exact cutPower_frame k s
  · extract_lets t
    have ht : Frame portGroups s t := by
      refine if hk : k < 4 then ?_ else ?_
      · rw [show t = _ from if_pos hk]
        exact Frame_mono (Frame_trans (followRole_frame old s k) (settleCc_frame k _)) (by simp [portGroups])
      · rw [show t = s from if_neg hk]
        exact Frame_refl _ s
    split
    · exact Frame_mono (Frame_trans ht (restorePower_frame k t)) (by simp)
    · exact ht

theorem softReset_frame (s : State) (n : Nat) : Frame portGroups s (softReset s n) := by
  have honly := softReset_only s n
  unfold OnlyOutFlex at honly
  intro g hg
  cases g <;> simp_all [same, portGroups]

theorem renewPlace_frame (k : Nat) (s : State) : Frame portGroups s (renewPlace k 0 s) := by
  obtain ⟨w, rest, hrenew⟩ := renewPlace_tree k s
  rw [hrenew]
  exact Frame_mono (Frame_trans (Frame_trans (forgetTree_frame k 0 s) (mapPort_frame k _ _)) (frame_out _ _)) (by simp [portGroups])

theorem warmTrees_frame (s : State) : Frame portGroups s (warmTrees s) := by
  have renewed (t : State) (k : Nat) :
      Frame portGroups t (if (portOf k t).owned && (portOf k t).attached then renewPlace k 0 t else t) := by
    split
    · exact renewPlace_frame k t
    · exact Frame_refl _ t
  unfold warmTrees
  split
  · exact Frame_refl _ s
  · exact Frame_mono (Frame_trans (frame_own s { s.own with cacheOk := true }) (Frame_foldl renewed (List.range 10) _)) (by simp [portGroups])

theorem activatePorts_frame (a : Activation) (first : Bool) (own old : List Table) (s : State) :
    Frame portGroups s (activatePorts a first own old s) := by
  have hports := Frame_trans (Frame_foldl (activateOwner_frame first own) (List.range 10) s)
    (Frame_foldl (activatePort_frame (if first then [] else old)) (List.range 10) _)
  unfold activatePorts
  dsimp only
  split
  · exact Frame_mono (Frame_trans (Frame_trans hports (Frame_foldl softReset_frame (List.range 4) _)) (warmTrees_frame _))
      (by simp [portGroups])
  · exact Frame_mono hports (by simp [portGroups])

/-! ## The image comes into force -/

/-- The image is the one in force, and none waits. -/
def InForce (img : Image) (c : Cfg) : Prop :=
  c.unconfigured = false ∧ c.active = some img.slot ∧ c.gen = img.gen ∧ c.crc = img.crc ∧ c.signed = img.tables ∧ c.next = none

theorem settleCommit_inForce {img : Image} {same : Bool} {s : State} (h : InForce img s.cfg) : InForce img (settleCommit same s).cfg := by
  have hdone (t : State) : (groupDone 2 stTimeout t).cfg = t.cfg := by simp
  unfold settleCommit
  split
  · exact h
  · split
    · exact h
    · rw [hdone]
      exact h

theorem takeImage_inForce (a : Activation) (img : Image) (s : State) : InForce img (takeImage a img s).cfg := by
  unfold takeImage
  exact settleCommit_inForce ⟨rfl, rfl, rfl, rfl, rfl, rfl⟩

/-- What the settings of an activation leave: configuration and tick. -/
theorem concludeStart_facts (a : Activation) (s : State) : (concludeStart a s).cfg = s.cfg ∧
    (concludeStart a s).clk.tick = s.clk.tick ∧ (a.starts = true → (concludeStart a s).boot.phase = .running) := by
  have quiet (t : State) : (restartQuiet t).boot = t.boot ∧ (restartQuiet t).clk = t.clk := by simp
  refine ⟨by simp, ?_, fun hstarts => ?_⟩
  · unfold concludeStart
    split
    · split <;> rfl
    · dsimp only
      split
      · rw [(quiet _).2]
      · rfl
  · unfold concludeStart
    rw [hstarts]
    dsimp only
    split
    · next h => exact absurd h (by decide)
    · split
      · rw [(quiet _).1]
      · rfl

/-- The report of an activation concludes a start. -/
theorem reportActivation_boot (a : Activation) (s : State) :
    (reportActivation a s).boot.ctiUp = s.boot.ctiUp ∧ (reportActivation a s).boot.phase = s.boot.phase ∧
    (a.starts = true → (reportActivation a s).boot.started = true ∧ (reportActivation a s).boot.warmBusy = false) := by
  have hpost := post_faultStep 0o020103 ([w18 (s.cfg.active.getD 0)] ++ wordsOf s.cfg.gen 2) s
  obtain ⟨u, hu⟩ : ∃ u, u = post 0o020103 ([w18 (s.cfg.active.getD 0)] ++ wordsOf s.cfg.gen 2) s := ⟨_, rfl⟩
  rw [← hu] at hpost
  have finished (o : Nat) : (finishStart o u).boot.ctiUp = s.boot.ctiUp ∧ (finishStart o u).boot.phase = s.boot.phase ∧
      (finishStart o u).boot.started = true ∧ (finishStart o u).boot.warmBusy = false := by
    rw [finishStart_boot, hpost.boot]
    exact ⟨rfl, rfl, rfl, rfl⟩
  have kept {t : State} (h : FaultStep s t) : t.boot.ctiUp = s.boot.ctiUp ∧ t.boot.phase = s.boot.phase := by
    rw [h.boot]
    exact ⟨rfl, rfl⟩
  unfold reportActivation
  rw [← hu]
  cases a with
  | cold => exact ⟨(finished 1).1, (finished 1).2.1, fun _ => (finished 1).2.2⟩
  | kept => exact ⟨(finished 0).1, (finished 0).2.1, fun _ => (finished 0).2.2⟩
  | warmLoad => exact ⟨(finished 1).1, (finished 1).2.1, fun _ => (finished 1).2.2⟩
  | load =>
    obtain ⟨hup, hphase⟩ := kept (hpost.trans (groupDone_faultStep 2 stOk u))
    exact ⟨hup, hphase, nofun⟩
  | reload =>
    obtain ⟨hup, hphase⟩ := kept hpost
    exact ⟨hup, hphase, nofun⟩

theorem activationOf_starts {s : State} (h : s.boot.phase = .starting) : (activationOf s).starts = true := by
  unfold activationOf
  rw [if_pos h]
  split
  · rfl
  · split <;> rfl

/-- The state of an activation whose settings, zones, audio and ports are in force. -/
def configured (img : Image) (s : State) : State :=
  let a := activationOf s
  let old := s.cfg.live
  let t := takeImage a img s
  let t := loadSeverity { t with flt := { t.flt with quietSet := none } }
  let t := loadOutputs (activateZones a old t)
  let t := activateReturn old (activateTdm a old (assignPairs (activateAudio a old t)))
  activatePorts a s.cfg.active.isNone (committedTables s) old t

/-- The activation is counted: the CTI is up, and the firmware is stable from this tick on. -/
def ctiIsUp (s : State) : State :=
  { s with boot := { s.boot with ctiUp := true }, clk := { s.clk with mclk := mclkOf s }, sec := { s.sec with stableFrom := s.clk.tick } }

theorem activate_eq (img : Image) (s : State) : activate img s =
    recheckWaiting (reportActivation (activationOf s)
      (syncOff (trimBanks (ctiIsUp (concludeStart (activationOf s) (configured img s)))))) := rfl

theorem configured_facts (img : Image) (s : State) : InForce img (configured img s).cfg ∧ (configured img s).clk = s.clk := by
  unfold configured
  extract_lets a old t₁ f t₂ t₃ t₄
  have hframe := activatePorts_frame a s.cfg.active.isNone (committedTables s) old t₄
  have hcfg : t₄.cfg = t₁.cfg := by simp [t₄, t₃, t₂]
  have hclk : t₄.clk = t₁.clk := by simp [t₄, t₃, t₂]
  have htaken : t₁.clk = s.clk := by simp [t₁]
  rw [hframe .cfg (by decide), hframe .clk (by decide), hcfg, hclk, htaken]
  exact ⟨takeImage_inForce a img s, rfl⟩

theorem activate_facts (img : Image) (s : State) :
    let t := activate img s
    InForce img t.cfg ∧ t.boot.ctiUp = true ∧ t.clk.tick = s.clk.tick ∧
    (s.boot.phase = .starting → t.boot.phase = .running ∧ t.boot.started = true ∧ t.boot.warmBusy = false) := by
  obtain ⟨hforce, hclock⟩ := configured_facts img s
  obtain ⟨hcfg, htick, hruns⟩ := concludeStart_facts (activationOf s) (configured img s)
  obtain ⟨u, hu⟩ : ∃ u, u = syncOff (trimBanks (ctiIsUp (concludeStart (activationOf s) (configured img s)))) := ⟨_, rfl⟩
  have hboot : u.boot = { (concludeStart (activationOf s) (configured img s)).boot with ctiUp := true } := by rw [hu]; rfl
  have hucfg : u.cfg = (configured img s).cfg := by rw [hu]; exact hcfg
  have huclk : u.clk.tick = s.clk.tick := by rw [hu]; exact htick.trans (congrArg Clock.tick hclock)
  obtain ⟨hup, hphase, hstarted⟩ := reportActivation_boot (activationOf s) u
  have hreport : (reportActivation (activationOf s) u).cfg = u.cfg ∧ (reportActivation (activationOf s) u).clk = u.clk := by simp
  have hrecheck (v : State) : (recheckWaiting v).cfg = v.cfg ∧ (recheckWaiting v).clk = v.clk ∧ (recheckWaiting v).boot = v.boot := by simp
  obtain ⟨ecfg, eclk, eboot⟩ := hrecheck (reportActivation (activationOf s) u)
  intro t
  rw [show t = _ from activate_eq img s, ← hu, ecfg, eclk, eboot, hreport.1, hreport.2, hucfg]
  refine ⟨hforce, ?_, huclk, fun hstarting => ?_⟩
  · rw [hup, hboot]
  · have hstarts := activationOf_starts hstarting
    refine ⟨?_, hstarted hstarts⟩
    rw [hphase, hboot]
    exact hruns hstarts

theorem exec_ctiActivation {img : Image} {s : State} (hnext : s.cfg.next = some img) (hfw : fwRuns s = true) (hawake : awake s = true)
    (hentering : entering s = false) (hblock : atBlock s = true) (hdue : s.boot.phase = .starting ∨ s.clk.lastBlock ≠ some s.clk.tick) :
    exec .ctiActivation s = .next (activate img (fresh s)) := by
  have hnext' : (fresh s).cfg.next = some img := hnext
  have hguard : activates (fresh s) = true := by
    show (fwRuns s && awake s && !entering s && atBlock s && (s.boot.phase == .starting || s.clk.lastBlock != some s.clk.tick)) = true
    rw [hfw, hawake, hentering, hblock]
    rcases hdue with h | h <;> simp [h]
  refine congrArg Host.Outcome.next ?_
  simp only [hnext']
  exact if_pos hguard

theorem exec_ctiReload {a b : Bool} {s : State} (hdue : s.cfg.reloading = true) (hnext : s.cfg.next = none) (hphase : s.boot.phase = .running)
    (hawake : awake s = true) : ∃ t, exec (.ctiReload a b) s = .next t ∧
      t.cfg.next = newestImage (checkSlots a b ([0, 1].filter (fun k => slotOpen s != some k)) (fresh s)).1 ∧
      t.cfg.nextIsLoad = false ∧ t.cfg.active = s.cfg.active ∧ t.cfg.live = s.cfg.live ∧ t.clk = s.clk := by
  have hguard : ((fresh s).cfg.reloading && (fresh s).cfg.next.isNone && (fresh s).boot.phase == .running && awake (fresh s)) = true := by
    show (s.cfg.reloading && s.cfg.next.isNone && s.boot.phase == .running && awake s) = true
    rw [hdue, hnext, hphase, hawake]
    rfl
  obtain ⟨l, hl⟩ : ∃ l, l = loadSlots 0 (fresh s) := ⟨_, rfl⟩
  have hslots : l = [0, 1].filter (fun k => slotOpen s != some k) := hl
  obtain ⟨-, hframe⟩ := checkSlots_step a b l (fresh s)
  have hcfg : (checkSlots a b l (fresh s)).2.cfg = s.cfg := hframe .cfg (by decide)
  have hclk : (checkSlots a b l (fresh s)).2.clk = s.clk := hframe .clk (by decide)
  refine ⟨{ (checkSlots a b l (fresh s)).2 with cfg := { (checkSlots a b l (fresh s)).2.cfg with
    next := newestImage (checkSlots a b l (fresh s)).1, nextIsLoad := false } }, ?_, ?_, rfl, ?_, ?_, hclk⟩
  · rw [hl]
    exact congrArg Host.Outcome.next (if_pos hguard)
  · rw [← hslots]
  · show (checkSlots a b l (fresh s)).2.cfg.active = _
    rw [hcfg]
  · show (checkSlots a b l (fresh s)).2.cfg.live = _
    rw [hcfg]

/-- Settles O37: the start notes and chooses, the image comes into force at a boundary, and a reload reads the slots again. -/
theorem firmwareStartAndActivation : Obligations.FirmwareStartAndActivation := by
  refine ⟨fun a b s => firmwareStart_starts, fun img s hnext hfw hawake hentering hblock hdue => ?_, fun a b s => exec_ctiReload⟩
  obtain ⟨⟨hun, hact, hgen, hcrc, hsigned, hnone⟩, hup, htick, hstart⟩ := activate_facts img (fresh s)
  exact ⟨_, exec_ctiActivation hnext hfw hawake hentering hblock hdue, hun, hact, hgen, hcrc, hsigned, hnone, hup, htick, hstart⟩

end Sys2Proof.Proofs
end

section
/-!
What the work of a block leaves for its end: the tick, the queue, the flash, the marks of the watchdog, the snapshot's number and the
power entry. One rule for each operation of a block boundary.
-/

namespace Sys2Proof.Proofs

open Sys2Proof
open Sys2Proof.Machine
open Sys2Proof.Safety
open Sys2Proof.Laws

/-- What the end of a block reads of the state before it. -/
def blockView (s : State) : Tick × List Instr × Memory × (Bool × Bool) × Word × Entry :=
  (s.clk.tick, s.pending, s.mem.flash, (s.boot.wdArmed, s.boot.ctiUp), s.snap.seq, s.pwr.entry)

/-- A step of the block's work. -/
structure BlockStep (s t : State) : Prop where
  view : blockView t = blockView s

section Rules

variable {s t u : State}

theorem BlockStep.refl (s : State) : BlockStep s s := ⟨rfl⟩

theorem BlockStep.trans (h : BlockStep s t) (h' : BlockStep t u) : BlockStep s u := ⟨h'.view.trans h.view⟩

/-- The last operation of a chain, before the rest of it. -/
theorem BlockStep.after (h' : BlockStep t u) (h : BlockStep s t) : BlockStep s u := h.trans h'

theorem BlockStep.ite {p : Prop} [Decidable p] (h : BlockStep s t) (h' : BlockStep s u) : BlockStep s (if p then t else u) := by
  split
  · exact h
  · exact h'

theorem BlockStep.foldl {α : Type} {f : State → α → State} (h : ∀ s a, BlockStep s (f s a)) (l : List α) (s : State) :
    BlockStep s (l.foldl f s) := ⟨foldl_keeps blockView f (fun s a => (h s a).view) l s⟩

/-- A fold that carries a state beside its results. -/
theorem BlockStep.foldl_snd {α β : Type} {f : β × State → α → β × State} (h : ∀ p a, BlockStep p.2 (f p a).2) (l : List α)
    (p : β × State) : BlockStep p.2 (l.foldl f p).2 := by
  induction l generalizing p with
  | nil => exact .refl p.2
  | cons a l ih => exact (h p a).trans (ih _)

/-- The groups that the view reads are the same. -/
theorem BlockStep.of_groups (h : t.clk = s.clk ∧ t.pending = s.pending ∧ t.mem = s.mem ∧ t.boot = s.boot ∧ t.snap = s.snap ∧ t.pwr = s.pwr) :
    BlockStep s t := by
  obtain ⟨hclk, hpending, hmem, hboot, hsnap, hpwr⟩ := h
  exact ⟨by rw [blockView, hclk, hpending, hmem, hboot, hsnap, hpwr, blockView]⟩

/-- The memory changes in Stash alone. -/
theorem BlockStep.of_flash (hflash : t.mem.flash = s.mem.flash)
    (h : t.clk = s.clk ∧ t.pending = s.pending ∧ t.boot = s.boot ∧ t.snap = s.snap ∧ t.pwr = s.pwr) : BlockStep s t := by
  obtain ⟨hclk, hpending, hboot, hsnap, hpwr⟩ := h
  exact ⟨by rw [blockView, hclk, hpending, hflash, hboot, hsnap, hpwr, blockView]⟩

/-- The boot state changes as an event or a fault changes it. -/
theorem BlockStep.of_fault (hf : FaultStep s t) (h : t.clk = s.clk ∧ t.pending = s.pending ∧ t.mem = s.mem ∧ t.snap = s.snap ∧ t.pwr = s.pwr) :
    BlockStep s t := by
  obtain ⟨hclk, hpending, hmem, hsnap, hpwr⟩ := h
  exact ⟨by rw [blockView, hclk, hpending, hmem, hf.boot, hsnap, hpwr, blockView]⟩

theorem BlockStep.of_frame {l : List Group} (hf : FaultStep s t) (h : Frame l s t) (hl : ∀ g ∈ [Group.clk, .pending, .mem, .snap, .pwr], g ∉ l) :
    BlockStep s t :=
  .of_fault hf ⟨h .clk (hl _ (by decide)), h .pending (hl _ (by decide)), h .mem (hl _ (by decide)), h .snap (hl _ (by decide)),
    h .pwr (hl _ (by decide))⟩

/-- A write to groups that the view does not read. -/
theorem BlockStep.write {out : List Out} {free : Nat} {aon : Aon} {win : Window} {mbx : Mailbox} {flt : Faults} {cfg : Cfg} {hub : Hub}
    {ports : List DownPortState} {own : Owned} {sw : Switch} {aud : Audio} {zon : Zones} {msg : Messages} {flex : List Flex}
    {rails : Rails} {pav : Pavane} {sec : Security} (h : BlockStep s t) :
    BlockStep s { t with out := out, free := free, aon := aon, win := win, mbx := mbx, flt := flt, cfg := cfg, hub := hub, ports := ports
                         own := own, sw := sw, aud := aud, zon := zon, msg := msg, flex := flex, rails := rails, pav := pav, sec := sec } :=
  ⟨h.view⟩

end Rules

/-! ## Events, faults and commands -/

theorem post_blockStep (w0 : Word) (ps : List Word) (s : State) : BlockStep s (post w0 ps s) := .of_fault (post_faultStep ..) (by simp)

theorem raiseFault_blockStep (src : BitVec 12) (s : State) : BlockStep s (raiseFault src s) := .of_fault (raiseFault_faultStep ..) (by simp)

theorem takeFault_blockStep (src : BitVec 12) (conf reason : Nat) (s : State) : BlockStep s (takeFault src conf reason s) :=
  .of_fault (takeFault_faultStep ..) (by simp)

theorem groupDone_blockStep (group status : Nat) (s : State) : BlockStep s (groupDone group status s) :=
  .of_fault (groupDone_faultStep ..) (by simp)

theorem exitSafe_blockStep (reason : Nat) (s : State) : BlockStep s (exitSafe reason s) := by
  have acknowledged (p : Unacked → Bool) (t : State) : BlockStep t (acknowledge p t) := .of_groups (by simp)
  exact ((BlockStep.write (.refl s)).trans (acknowledged _ _)).trans ((post_blockStep ..).trans (.write (.refl _)))

theorem answer_blockStep (c : Command) (status : Nat) (rs : List Word) (long inProgress : Bool) (s : State) :
    BlockStep s (answer c status rs long inProgress s) := .of_groups (by simp)

theorem releaseAtBoundary_blockStep (c : Command) (s : State) : BlockStep s (releaseAtBoundary c s) := by
  unfold releaseAtBoundary
  exact .ite (answer_blockStep ..) ((exitSafe_blockStep ..).trans (answer_blockStep ..))

/-! ## Tables, delay lines and roles -/

theorem allocate_blockStep (n format cap delay : Nat) (s : State) : BlockStep s (allocate n format cap delay s) :=
  .of_flash (allocate_flash ..) (by simp)

theorem removeEntry_blockStep (e : MapEntry) (s : State) : BlockStep s (removeEntry e s) := by
  unfold removeEntry
  dsimp only
  split
  case h_3 => exact allocate_blockStep ..
  all_goals exact .of_groups (by simp)

theorem applyEntry_blockStep (e : MapEntry) (s : State) : BlockStep s (applyEntry e s) := by
  unfold applyEntry
  dsimp only
  split
  case h_3 => exact .ite (.refl s) (allocate_blockStep ..)
  case h_2 => split <;> exact .of_groups (by simp)
  case h_5 => exact .ite (.refl s) (.of_groups (by simp))
  all_goals exact .of_groups (by simp)

theorem applyRouteTable_blockStep (old new : List Table) (written : List Nat) (s : State) :
    BlockStep s (applyRouteTable old new written s) :=
  (BlockStep.foldl (fun s (e : Nat × MapEntry) => removeEntry_blockStep e.2 s) _ s).trans
    (.foldl (fun s (e : Nat × MapEntry) => applyEntry_blockStep e.2 s) _ _)

theorem followRole_blockStep (old : List Table) (s : State) (n : Nat) : BlockStep s (followRole old s n) := by
  have mapped (t : State) (f : DownPortState → DownPortState) : BlockStep t (mapPort n f t) := .write (.refl t)
  have left (t : State) (f : Flex → Flex) : BlockStep t (mapFlex n f t) := .write (.refl t)
  have gone : BlockStep s (flexOff n s) := .of_frame (flexOff_faultStep n s) (flexOff_frame n s) (by decide)
  have given (t : State) : BlockStep t (disown t n) := .of_frame (disown_faultStep t n) (disown_frame t n) (by decide)
  have flushed (t : State) : BlockStep t (flushPort n t) := .of_frame (flushPort_faultStep n t) (flushPort_frame n t) (by decide)
  unfold followRole
  refine .ite (.refl s) (gone.trans ?_)
  exact (BlockStep.ite (((given _).trans (flushed _)).trans (mapped _ _)) (.refl _)).trans (left _ _)

theorem takeChanges_blockStep (cs : List Change) (s : State) : BlockStep s (takeChanges cs s) := by
  have placed (p : Prop) [Decidable p] (old new : List Table) (l : List Nat) (t : State) :
      BlockStep t (if p then applyRouteTable old new l t else t) := .ite (applyRouteTable_blockStep ..) (.refl t)
  have zones (p : Prop) [Decidable p] (old : List Table) (t : State) :
      BlockStep t (if p then loadOutputs (syncZones old true t) else t) := .ite (.of_groups (by simp)) (.refl t)
  have severities (p : Prop) [Decidable p] (old : List Table) (l : List Change) (t : State) :
      BlockStep t (if p then changeQuiet l (changeSeverity old l t) else t) := .ite (.of_groups (by simp)) (.refl t)
  have roles (p : Prop) [Decidable p] (old : List Table) (t : State) :
      BlockStep t (if p then (List.range 4).foldl (followRole old) t else t) := .ite (.foldl (followRole_blockStep old) _ t) (.refl t)
  have returns (p : Prop) [Decidable p] (h : Hub) (t : State) : BlockStep t (if p then { t with hub := h } else t) :=
    .ite (.write (.refl t)) (.refl t)
  unfold takeChanges
  extract_lets old l cfg t₀ touched t₁ t₂ t₃ t₄ hub
  have h₁ : BlockStep s t₁ := (BlockStep.write (.refl s)).trans (placed _ _ _ _ t₀)
  exact (((h₁.trans (zones _ _ t₁)).trans (severities _ _ _ t₂)).trans (roles _ _ t₃)).trans (returns _ _ t₄)

theorem persist_blockStep (on : Bool) (coding : Option (List Change)) (s : State) : BlockStep s (persist on coding s) := by
  unfold persist
  split
  · exact .write (.refl s)
  · exact .refl s

/-! ## Message voices -/

theorem endVoice_blockStep (v reason : Nat) (s : State) : BlockStep s (endVoice v reason s) := by
  have lost (t : State) : BlockStep t (loseVoice v t) := .of_groups (by simp)
  unfold endVoice
  split
  · exact .refl s
  · exact ((BlockStep.write (.refl s)).trans (post_blockStep _ _ (setVoice v none s))).trans (lost _)

theorem runPlay_blockStep (c : Command) (s : State) : BlockStep s (runPlay c s).2 := by
  unfold runPlay
  split
  · split
    · exact post_blockStep ..
    · exact .write (.refl s)
  · exact post_blockStep ..

theorem runStop_blockStep (c : Command) (s : State) : BlockStep s (runStop c s).2 := by
  unfold runStop
  split
  · exact .foldl (fun s v => endVoice_blockStep v 1 s) _ s
  · split
    · exact .refl s
    · exact endVoice_blockStep ..

theorem writeRows_flash (l : List (Nat × Nat)) (s : State) :
    (l.foldl (fun s r => writeRow (cacheRow r.1) r.2 s) s).mem.flash = s.mem.flash :=
  foldl_keeps (fun s => s.mem.flash) (fun s (r : Nat × Nat) => writeRow (cacheRow r.1) r.2 s) (fun s _ => writeRow_flash _ _ s) l s

theorem storeFrame_flash (m : Msg) (f : CacheFrame × Nat) (s : State) : (storeFrame m f s).mem.flash = s.mem.flash := by
  unfold storeFrame
  extract_lets bs
  exact writeRows_flash (f.1.rows.zip (rowsOfBytes f.1.rows.length bs)) s

theorem pinMessage_blockStep (m : Msg) (secs : Nat) (s : State) : BlockStep s (pinMessage m secs s) := by
  have dropped (t : State) : (dropCache m.number t).mem.flash = t.mem.flash := rfl
  have pinned (f : Msg → Msg) (t : State) : (mapMsg m.number f t).mem.flash = t.mem.flash := rfl
  have hflash : (pinMessage m secs s).mem.flash = s.mem.flash := by
    unfold pinMessage
    dsimp only
    rw [pinned]
    split
    · exact (foldl_keeps (fun s => s.mem.flash) (fun s f => storeFrame m f s) (fun s f => storeFrame_flash m f s) _ _).trans (dropped s)
    · exact dropped s
  exact .of_flash hflash (by simp)

theorem pinInOrder_blockStep (l : List (Msg × Nat)) (s : State) : BlockStep s (pinInOrder l s) := by
  induction l generalizing s with
  | nil => exact .refl s
  | cons m l ih => exact .ite (ih s) (.ite ((pinMessage_blockStep ..).trans (ih _)) (.refl s))

/-! ## What waits for the boundary -/

theorem boundaryEffect_blockStep {c : Command} {s t : State} {rs : List Word} (h : boundaryEffect c s = some (rs, t)) : BlockStep s t := by
  have pair {p : List Word × State} (hp : some p = some (rs, t)) (hs : BlockStep s p.2) : BlockStep s t := by
    cases hp
    exact hs
  unfold boundaryEffect at h
  split at h
  case h_1 => exact pair h (.write (takeChanges_blockStep ..))
  case h_2 => exact pair h (.write (takeChanges_blockStep ..))
  case h_9 => exact pair h ((BlockStep.of_flash (setDelay_flash ..) (by simp)).trans (persist_blockStep ..))
  case h_11 => exact pair h ((BlockStep.of_flash (setDelayFormat_flash ..) (by simp)).trans (persist_blockStep ..))
  case h_12 => exact pair h (runPlay_blockStep c s)
  case h_13 => exact pair h (runStop_blockStep c s)
  case h_14 => cases h
  all_goals exact pair h (.of_groups (by simp))

theorem runWaiting_blockStep (s : State) : BlockStep s (runWaiting s) := by
  unfold runWaiting
  split
  · exact .refl s
  · rename_i c _
    obtain ⟨u, hu⟩ : ∃ u : State, u = { s with mbx := { s.mbx with waits := none } } := ⟨_, rfl⟩
    have taken : BlockStep s u := hu ▸ .write (.refl s)
    rw [← hu]
    dsimp only
    split
    · exact taken.trans (releaseAtBoundary_blockStep ..)
    · split
      · rename_i heffect
        exact (taken.trans (boundaryEffect_blockStep heffect)).trans (answer_blockStep ..)
      · exact taken

theorem announceSafe_blockStep (s : State) : BlockStep s (announceSafe s) := by
  unfold announceSafe
  split
  · exact .refl s
  · exact (BlockStep.write (.refl s)).trans (post_blockStep ..)

/-- The power-fail warning that SLEEP held back is posted. -/
def pfailShown (s : State) : State :=
  match s.rails.pfailSleep with
  | some on => post 0o151101 [w18 (bit on)] { s with rails := { s.rails with pfailSleep := none } }
  | none => s

theorem pfailShown_blockStep (s : State) : BlockStep s (pfailShown s) := by
  unfold pfailShown
  split
  · exact (BlockStep.write (.refl s)).trans (post_blockStep ..)
  · exact .refl s

theorem afterWake_blockStep (s : State) : BlockStep s (afterWake s) := by
  have cached (t : State) : BlockStep t (if t.msg.cache = [] then fillCache t else t) := .ite (pinInOrder_blockStep ..) (.refl t)
  unfold afterWake
  exact .ite (.refl s) (.write ((pfailShown_blockStep s).trans (cached _)))

end Sys2Proof.Proofs
end

section
/-!
A block boundary: zones, the switch core and audio, the end of the block with its snapshot and the watchdog's kick, and the ambient
measurement (R65, R89, R234, R395).
-/

namespace Sys2Proof.Proofs

open Sys2Proof
open Sys2Proof.Machine
open Sys2Proof.Safety
open Sys2Proof.Laws

/-! ## Zones -/

theorem heartbeatReturn_blockStep (s : State) : BlockStep s (heartbeatReturn s) := by
  have told (t : State) : BlockStep t (zoneOcc 3 0 1 none t) := .write (.refl t)
  unfold heartbeatReturn
  exact .ite (((BlockStep.write (.refl s)).trans (post_blockStep ..)).trans (told _)) (.refl s)

theorem runEvents_blockStep (ws : List Word) (os : List Occ) (z : Zone) (s : State) : BlockStep s (runEvents ws os z s).2 := by
  induction os generalizing z s with
  | nil => exact .refl s
  | cons o os ih =>
    simp only [runEvents]
    split
    · exact (post_blockStep ..).trans (ih _ _)
    · exact ih _ _

theorem runZone_blockStep (s : State) (z : Zone) : BlockStep s (runZone s z) := by
  have zoned (f : Zone → Zone) (t : State) : BlockStep t (mapZone z.num f t) := .write (.refl t)
  exact (runEvents_blockStep (machineOf z s) _ _ s).trans (zoned _ _)

theorem runZones_blockStep (s : State) : BlockStep s (runZones s) := by
  unfold runZones
  exact .ite (.refl s) (.foldl runZone_blockStep _ s)

theorem postDenied_blockStep (number : Nat) (ns : List Nat) (s : State) : BlockStep s (postDenied number ns s) := by
  have zoned (n : Nat) (f : Zone → Zone) (t : State) : BlockStep t (mapZone n f t) := .write (.refl t)
  unfold postDenied
  exact .foldl (fun s z => .ite ((zoned ..).trans (post_blockStep ..)) (.refl s)) _ s

theorem startMessage_blockStep (number : Nat) (ns : List Nat) (s : State) : BlockStep s (startMessage number ns s) := by
  have silent (t : State) : BlockStep t (noVoice ns t) := .of_groups (by simp)
  have taken (v : Nat) (m : Msg) (t : State) : BlockStep t (shareVoice v ns (takeVoice v m ns t)) := .of_groups (by simp)
  unfold startMessage
  split
  · exact (post_blockStep ..).trans (silent _)
  · split
    · exact (post_blockStep ..).trans (silent _)
    · split
      · exact taken _ _ _
      · split
        · exact (endVoice_blockStep ..).trans (taken _ _ _)
        · exact (silent s).trans (postDenied_blockStep ..)

theorem startAll_blockStep (k : Nat) (l : List (Nat × Nat)) (s : State) : BlockStep s (startAll k l s) := by
  induction k generalizing l s with
  | zero => exact .refl s
  | succ k ih =>
    cases l with
    | nil => exact .refl s
    | cons a l => exact (startMessage_blockStep ..).trans (ih _ _)

theorem applyActs_blockStep (s : State) : BlockStep s (applyActs s) := by
  have left (n : Nat) (t : State) : BlockStep t (leaveVoice n t) := .of_groups (by simp)
  unfold applyActs
  extract_lets asked zon t leavers u starts
  have ht : BlockStep s t := .write (.refl s)
  have hu : BlockStep t u := .foldl (fun s _ => left _ s) leavers t
  exact (ht.trans hu).trans (startAll_blockStep ..)

theorem zoneWork_blockStep (inp : BlockInputs) (s : State) : BlockStep s (zoneWork inp s) := by
  have sampled : BlockStep s (sampleInputs inp s) := .of_groups (by simp)
  have latched (t : State) : BlockStep t (latchTrigger t) := .ite (.write (.refl t)) (.refl t)
  have delivered (t : State) : BlockStep t (deliverOccs t) := .write (.refl t)
  have driven (t : State) : BlockStep t (driveOutputs t) := .write (.refl t)
  have read := (sampled.trans (heartbeatReturn_blockStep _)).trans (latched _)
  exact ((read.trans (delivered _)).trans (applyActs_blockStep _)).trans ((runZones_blockStep _).trans (driven _))

/-! ## The governor -/

theorem takeSensors_blockStep (inp : BlockInputs) (s : State) : BlockStep s (takeSensors inp s) := by
  have faulted (p : Prop) [Decidable p] (src : BitVec 12) (t : State) : BlockStep t (if p then raiseFault src t else t) :=
    .ite (raiseFault_blockStep ..) (.refl t)
  unfold takeSensors
  extract_lets tau t lo slow above tp p u v
  have hu : BlockStep s u := ⟨rfl⟩
  exact (hu.trans (faulted _ _ u)).trans (faulted _ _ v)

theorem chooseLevel_blockStep (l : Nat) (s : State) : BlockStep s (chooseLevel l s) := by
  have begun : BlockStep s (beginMove l s) := ⟨rfl⟩
  have counted (n : Nat) : BlockStep s { s with pwr := { s.pwr with downCount := n } } := ⟨rfl⟩
  unfold chooseLevel
  exact .ite (.refl s) (.ite begun (.ite (.ite begun (counted _)) (.ite begun (counted _))))

theorem postVariant_blockStep (s : State) (x : Nat × Nat) : BlockStep s (postVariant s x) := by
  have set (d : Dest) (t : State) : BlockStep t (setDest d t) := .write (.refl t)
  unfold postVariant
  exact .ite ((set _ s).trans (post_blockStep ..)) (.refl s)

theorem postGovernor_blockStep (s : State) : BlockStep s (postGovernor s) := by
  have shown (t : State) : BlockStep t { t with pwr := { t.pwr with govShown := t.pwr.govState, govPosted := some t.clk.tick } } := ⟨rfl⟩
  unfold postGovernor
  exact .ite ((post_blockStep ..).trans (shown _)) (.refl s)

/-- A change of the audio state and of the power state but for its entry. -/
theorem BlockStep.power {s t : State} {a : Audio} {p : Power} (h : BlockStep s t) (hp : p.entry = t.pwr.entry) :
    BlockStep s { t with aud := a, pwr := p } := by
  refine h.trans ⟨?_⟩
  rw [blockView, hp]
  rfl

theorem governor_blockStep (inp : BlockInputs) (s : State) : BlockStep s (governor inp s).2.2 := by
  have allocated (d : Decided) (t : State) : BlockStep t (setAllocations d t) := .of_groups (by simp)
  unfold governor
  extract_lets t d u aud pwr v w
  have hu : BlockStep s u := ((takeSensors_blockStep inp s).trans (chooseLevel_blockStep d.level t)).trans (allocated d _)
  have hv : BlockStep s v := hu.power rfl
  exact (hv.trans (.foldl postVariant_blockStep d.variants v)).trans (postGovernor_blockStep w)

/-! ## The switch core -/

theorem releaseCells_blockStep (l : List Nat) (s : State) : BlockStep s (releaseCells l s) :=
  .foldl (fun s i => .of_fault (releaseCell_faultStep i s) (by simp)) l s

theorem countStream_blockStep (port loc chan missing dropped excess : Nat) (s : State) :
    BlockStep s (countStream port loc chan missing dropped excess s) := .of_groups (by simp)

theorem makeRoom_blockStep (e n k : Nat) (s : State) : BlockStep s (makeRoom e n k s) := by
  have counted (l : List Nat) (t : State) : BlockStep t (countDropped l t) :=
    .of_frame (.of_frame (countDropped_frame l t) (by decide) (by decide)) (countDropped_frame l t) (by decide)
  have queued (q : List Nat) (t : State) : BlockStep t (setQueue e 0 q t) := .of_groups (by simp)
  induction k generalizing s with
  | zero => exact .refl s
  | succ k ih => exact .ite (.refl s) ((((counted _ s).trans (queued _ _)).trans (releaseCells_blockStep ..)).trans (ih _))

theorem makeRooms_blockStep (n : Nat) (l : List Nat) (s : State) : BlockStep s (l.foldl (fun s e => makeRoom e n 256 s) s) :=
  .foldl (fun s e => makeRoom_blockStep e n 256 s) l s

theorem crossIso_blockStep (src : Nat) (dest : BitVec 18) (n : Nat) (stream : Nat × Nat × Nat) (s : State) :
    BlockStep s (crossIso src dest n stream s).2 := by
  obtain ⟨port, loc, chan⟩ := stream
  have rewritten (l : List Nat) (t : State) : BlockStep t (rewriteCells l t) := .write (.refl t)
  unfold crossIso
  split
  · exact (makeRooms_blockStep n (egresses dest) s).trans (rewritten _ _)
  · exact countStream_blockStep port loc chan 0 1 0 s

theorem ingress_blockStep {deliver : IngressPacket → State → State} (hd : ∀ p s, BlockStep s (deliver p s)) (pkt : IngressPacket) (s : State) :
    BlockStep s (ingress deliver pkt s) := by
  have written (t : State) : BlockStep t (writeCells pkt t) := .of_groups (by simp)
  have room : BlockStep s (if pkt.cls = .iso then (egresses pkt.dest).foldl (fun s e => makeRoom e (cellCount pkt.payload.length) 256 s) s else s) :=
    .ite (makeRooms_blockStep ..) (.refl s)
  unfold ingress
  exact .ite (countStream_blockStep ..) (.ite ((room.trans (written _)).trans (hd _ _))
    (.ite (countStream_blockStep ..) (.ite (.write (.refl s)) (.write (.refl s)))))

/-! ## The sources of a block -/

theorem playSources_blockStep (s : State) : BlockStep s (playSources s).2 := by
  unfold playSources
  extract_lets ring
  split
  · exact .refl s
  · split
    · exact (BlockStep.write (.refl s)).trans ((crossIso_blockStep 11 dspDest _ playbackStream _).trans (countStream_blockStep ..))
    · exact .refl s

theorem takeTdm_blockStep (t port : Nat) (s : State) : BlockStep s (takeTdm t port s).2 := by
  have crossed : BlockStep s (if tdmEntries port 0 s = [] then (true, s) else
      crossIso (13 + port) dspDest tdmBlockCells (tdmStream port 0 s) s).2 := by
    split
    · exact .refl s
    · exact crossIso_blockStep ..
  simp only [takeTdm]
  exact (BlockStep.write crossed).trans (countStream_blockStep ..)

theorem takeOwned_blockStep (t : Nat) (s : State) : BlockStep s (takeOwned t s).2 := by
  have mapped (p : Stream → Bool) (f : Stream → Stream) (u : State) : BlockStep u (mapStreams p f u) := .write (.refl u)
  simp only [takeOwned]
  refine BlockStep.trans (t := { s with own := { s.own with ending := [] } }) (.write (.refl s))
    (.foldl_snd (p := ([], _)) (fun p x => ?_) _)
  split
  · exact .refl _
  · exact (mapped _ _ _).trans (countStream_blockStep ..)

theorem voiceSources_blockStep (muted : List Nat) (s : State) : BlockStep s (voiceSources muted s).2 := by
  have set (v : Nat) (x : Option Voice) (u : State) : BlockStep u (setVoice v x u) := .write (.refl u)
  simp only [voiceSources]
  refine .foldl_snd (p := ([], s)) (fun p v => ?_) _
  split
  · exact .refl _
  · split
    · exact .refl _
    · exact (set _ _ _).trans (countStream_blockStep ..)

theorem gatherSources_blockStep (muted : List Nat) (s : State) : BlockStep s (gatherSources muted s).2 := by
  have streams (t : Nat) := ((playSources_blockStep s).trans (takeTdm_blockStep t 0 _)).trans (takeTdm_blockStep t 1 _)
  simp only [gatherSources]
  exact ((streams _).trans (takeOwned_blockStep _ _)).trans (voiceSources_blockStep ..)

/-! ## Destinations -/

theorem readStored_blockStep (l : Delay) (i : Nat) (first : Bool) (s : State) : BlockStep s (readStored l i first s).2 := by
  have faulted (p q : Prop) [Decidable p] [Decidable q] (a b : BitVec 12) :
      BlockStep s (if p then raiseFault a s else if q then raiseFault b s else s) :=
    .ite (raiseFault_blockStep ..) (.ite (raiseFault_blockStep ..) (.refl s))
  unfold readStored
  extract_lets p rows q g wrong t row
  have ht : BlockStep s t := faulted _ _ _ _
  split
  · exact .write ht
  · split
    · exact ht
    · split
      · exact ht
      · split
        · exact .ite (ht.trans (raiseFault_blockStep ..)) ht
        · exact ht

theorem readDelay_blockStep (l : Delay) (newest delay : Nat) (first : Bool) (s : State) : BlockStep s (readDelay l newest delay first s).2 := by
  unfold readDelay
  split
  · exact .refl s
  · extract_lets i p
    split
    · exact .refl s
    · exact readStored_blockStep ..

theorem storeLine_blockStep (l : Delay) (s : State) : BlockStep s (storeLine l s).2 := by
  unfold storeLine
  extract_lets p
  split
  · exact .refl s
  · exact .of_flash (writeRow_flash ..) (by simp)

theorem delaySample_blockStep (l : Delay) (n : Nat) (x : Int) (s : State) : BlockStep s (delaySample l n x s).2.2 := by
  simp only [delaySample]
  refine BlockStep.trans ?_ (storeLine_blockStep ..)
  split
  · exact readDelay_blockStep ..
  · exact (readDelay_blockStep ..).trans (readDelay_blockStep ..)

theorem delaySamples_blockStep (l : Delay) (n : Nat) (s : State) (xs : List Int) : BlockStep s (delaySamples l n s xs).2.2 := by
  induction xs generalizing l n s with
  | nil => exact .refl s
  | cons x xs ih => exact (delaySample_blockStep l n x s).trans (ih _ _ _)

theorem destBlock_blockStep (srcs : List (Nat × List Int)) (n variant : Nat) (s : State) : BlockStep s (destBlock srcs n variant s).2 := by
  have set (d : Dest) (t : State) : BlockStep t (setDest d t) := .write (.refl t)
  simp only [destBlock]
  split
  · exact set _ s
  · refine BlockStep.trans ?_ (set _ _)
    split
    · exact delaySamples_blockStep ..
    · exact .refl s

theorem processBlock_blockStep (srcs : List (Nat × List Int)) (variants : List (Nat × Nat)) (s : State) :
    BlockStep s (processBlock srcs variants s) := by
  have blocks := BlockStep.foldl_snd (f := fun (acc : List (Nat × List Int) × State) n =>
    (acc.1 ++ [(n, (destBlock srcs n (lookupD variants n 0) acc.2).1)], (destBlock srcs n (lookupD variants n 0) acc.2).2))
    (fun acc n => destBlock_blockStep ..) (servedDests s) ([], s)
  exact .write blocks

theorem deadlineCheck_blockStep (missed : List Nat) (s : State) : BlockStep s (deadlineCheck missed s) := by
  unfold deadlineCheck
  exact (BlockStep.write (.refl s)).trans (.foldl (fun s _ => raiseFault_blockStep 0o3000 s) _ _)

theorem pairFaults_blockStep (m : BitVec 4) (s : State) : BlockStep s (pairFaults m s) :=
  .foldl (fun s _ => .ite (raiseFault_blockStep ..) (.refl s)) _ s

/-! ## The sinks of a block -/

theorem sendPackets_blockStep (k : Nat) (x : Stream) (s : State) : BlockStep s (sendPackets k x s).2 := by
  have taken (p : IngressPacket) (t : State) : BlockStep t (dspTakes p t) := .of_groups (by simp)
  induction k generalizing x s with
  | zero => exact .refl s
  | succ k ih =>
    simp only [sendPackets]
    split
    · exact .refl s
    · exact (ingress_blockStep taken _ s).trans (ih _ _)

theorem feedOwned_blockStep (t : Nat) (out : List (Nat × List Int)) (s : State) : BlockStep s (feedOwned t out s) := by
  have mapped (p : Stream → Bool) (f : Stream → Stream) (u : State) : BlockStep u (mapStreams p f u) := .write (.refl u)
  simp only [feedOwned]
  exact .foldl (fun s _ => .ite ((sendPackets_blockStep ..).trans (mapped _ _ _)) (.refl s)) _ s

theorem feedTdm_blockStep (s : State) : BlockStep s (feedTdm s) := by
  unfold feedTdm
  exact .foldl (fun s p => .ite (.refl s) (.write (crossIso_blockStep 12 (BitVec.ofNat 18 (2 ^ (13 + p))) tdmBlockCells (tdmStream p 1 s) s))) _ s

theorem feedCapture_blockStep (s : State) : BlockStep s (feedCapture s) := by
  have crossed := crossIso_blockStep 12 0x800 (cellCount (288 * 16)) captureStream s
  unfold feedCapture
  exact .ite (.ite (.write crossed) crossed) (.refl s)

theorem audioWork_blockStep (inp : BlockInputs) (s : State) : BlockStep s (audioWork inp s) := by
  have settled (t : State) : BlockStep t (startStreams (settleRp t)) := .write (t := settleRp t) (.write (.refl t))
  simp only [audioWork]
  refine .after (feedOwned_blockStep ..) (.after (feedTdm_blockStep _) (.after (feedCapture_blockStep _) ?_))
  refine .after (pairFaults_blockStep ..) (.after (processBlock_blockStep ..) (.after (deadlineCheck_blockStep ..) (.write ?_)))
  exact .after (gatherSources_blockStep ..) (.after (settled _) (governor_blockStep inp s))

end Sys2Proof.Proofs
end

section
/-!
The end of a block: its posts and commands, the snapshot, upsets and votes, and the watchdog's kick (R65, R89, R395); and the ambient
measurement.
-/

namespace Sys2Proof.Proofs

open Sys2Proof
open Sys2Proof.Machine
open Sys2Proof.Safety
open Sys2Proof.Laws

/-! ## Posts of a boundary -/

theorem postCounts_blockStep (s : State) : BlockStep s (postCounts s) := by
  unfold postCounts
  exact .foldl (fun s _ => .ite (.write (post_blockStep _ _ s)) (.refl s)) _ s

theorem postLost_blockStep (s : State) : BlockStep s (postLost s) := by
  have zoned (n : Nat) (f : Zone → Zone) (t : State) : BlockStep t (mapZone n f t) := .write (.refl t)
  unfold postLost
  exact .foldl (fun s _ => .ite ((zoned _ _ s).trans (post_blockStep ..)) (.refl s)) _ s

theorem tagFaults_blockStep (base : Nat) (counter crc fail : Bool) (s : State) : BlockStep s (tagFaults base counter crc fail s) := by
  have faulted (p : Prop) [Decidable p] (src : BitVec 12) (t : State) : BlockStep t (if p then raiseFault src t else t) :=
    .ite (raiseFault_blockStep ..) (.refl t)
  exact ((faulted _ _ s).trans (faulted _ _ _)).trans (faulted _ _ _)

theorem reportCtx_blockStep (port loc first : Nat) (x : Ctx) (s : State) : BlockStep s (reportCtx port loc first x s).2 := by
  unfold reportCtx
  split
  · exact post_blockStep ..
  · exact .refl s

theorem tagBoundary_blockStep (s : State) : BlockStep s (tagBoundary s) := by
  have set (c : Nat) (x : Option Ctx) (t : State) : BlockStep t (setCtx c x t) := .write (.refl t)
  unfold tagBoundary
  refine .after (.foldl (fun s p => .write (reportCtx_blockStep ..)) _ _) (.after (.foldl (fun s c => ?_) _ _) ?_)
  · split
    · exact .refl s
    · exact (reportCtx_blockStep ..).trans (set _ _ _)
  · exact .after (.foldl (fun s p => tagFaults_blockStep ..) _ _) (.after (tagFaults_blockStep ..) (.write (.refl s)))

/-! ## Commands that a boundary settles -/

theorem settleSelect_blockStep (s : State) : BlockStep s (settleSelect s) := by
  have ended : BlockStep s (endSwitch stOk s) := .ite ((BlockStep.write (.refl s)).trans (groupDone_blockStep ..)) (.refl s)
  exact .ite ended (.refl s)

theorem settleOwner_blockStep (s : State) : BlockStep s (settleOwner s) := by
  unfold settleOwner
  split
  · exact .ite ((BlockStep.write (.refl s)).trans (groupDone_blockStep ..)) (.refl s)
  · exact .refl s

theorem settleRequest_blockStep (s : State) : BlockStep s (settleRequest s) := by
  have ended (t : State) : BlockStep t (groupDone 8 stOk { t with pwr := { t.pwr with request := none } }) :=
    ((BlockStep.refl t).power (by rfl)).trans (groupDone_blockStep ..)
  unfold settleRequest
  split
  · split
    · exact (BlockStep.write (.refl s)).trans (ended _)
    · exact ((BlockStep.refl s).power (by rfl)).trans (ended _)
  · exact .refl s

theorem BlockStep.entry {s t : State} (h : BlockStep s t) : t.pwr.entry = s.pwr.entry := congrArg (fun v => v.2.2.2.2.2) h.view

/-- Without an entry in progress none is abandoned. -/
theorem settleCommands_blockStep {s : State} (h : s.pwr.entry = .none) : BlockStep s (settleCommands s) := by
  have settled := ((settleSelect_blockStep s).trans (settleOwner_blockStep _)).trans (settleRequest_blockStep _)
  unfold settleCommands
  extract_lets t u
  have hentry : t.pwr.entry = .none := settled.entry.trans h
  have hwhole : entryBroken t = false := by
    have hentering : entering t = false := by rw [entering, hentry]
    rw [entryBroken, hentering]
    rfl
  have hu : BlockStep s u := by
    show BlockStep s (if entryBroken t then abandonEntry t else t)
    rw [hwhole]
    exact settled
  exact .ite (hu.trans ⟨rfl⟩) hu

/-! ## Posted writes, votes and upsets -/

theorem voteWakePol_blockStep (s : State) : BlockStep s (voteWakePol s) := by
  unfold voteWakePol
  exact .ite (.refl s) ((BlockStep.write (.refl s)).trans (raiseFault_blockStep ..))

theorem voteTampPol_blockStep (s : State) : BlockStep s (voteTampPol s) := by
  unfold voteTampPol
  exact .ite (.refl s) ((BlockStep.write (.refl s)).trans (raiseFault_blockStep ..))

theorem applyPosted_blockStep (w : Posted) (s : State) : BlockStep s (applyPosted w s) := by
  have written (a : Aon) : BlockStep s { s with aon := a } := .write (.refl s)
  simp only [applyPosted]
  split
  case h_2 => exact .write (voteWakePol_blockStep s)
  case h_4 => exact .write (voteTampPol_blockStep s)
  case h_3 => exact .ite (written _) (.refl s)
  case h_5 => exact .ite (written _) (.refl s)
  case h_11 => exact .refl s
  all_goals exact written _

theorem postAon_blockStep (p : Path) (r op : Nat) (data : Word) (s : State) : BlockStep s (postAon p r op data s) := by
  have oldest : BlockStep s (applyOldest s) := by
    unfold applyOldest
    split
    · exact .refl s
    · exact (BlockStep.write (.refl s)).trans (applyPosted_blockStep ..)
  unfold postAon
  refine .ite (.write (.refl s)) ?_
  cases p with
  | mspi => exact .write (.refl s)
  | sup => exact .write oldest
  | usb => exact .refl s

theorem keepAlarm_blockStep (s : State) : BlockStep s (keepAlarm s) := by
  unfold keepAlarm
  exact .ite ((postAon_blockStep ..).trans (postAon_blockStep ..)) (.refl s)

theorem voteGuard_blockStep (p : Path) (s : State) : BlockStep s (voteGuard p s) := by
  have locked (g : Guard) : BlockStep s (setGuard p g s) := by cases p <;> exact .write (.refl s)
  exact .ite (.refl s) ((BlockStep.write (locked _)).trans (raiseFault_blockStep ..))

theorem raiseDisagreement_blockStep (s : State) : BlockStep s (raiseDisagreement s) :=
  (BlockStep.write (.refl s)).trans (takeFault_blockStep 0o0220 5 3 _)

theorem voteSev_blockStep (s : State) (src : Nat) : BlockStep s (voteSev src s) :=
  .ite (.refl s) ((BlockStep.write (.refl s)).trans (raiseDisagreement_blockStep _))

theorem sweepTrips_blockStep (s : State) : BlockStep s (sweepTrips s) := by
  have safectl (t : State) : BlockStep t (voteSafectl t) :=
    .ite (.refl t) ((BlockStep.write (.refl t)).trans (raiseDisagreement_blockStep _))
  have guards := ((voteGuard_blockStep .sup s).trans (voteGuard_blockStep .mspi _)).trans (voteGuard_blockStep .usb _)
  refine .after (voteTampPol_blockStep _) (.after (voteWakePol_blockStep _) ?_)
  exact .after (.foldl voteSev_blockStep _ _) (guards.trans (safectl _))

theorem takeUpset_blockStep (s : State) (u : Upset) : BlockStep s (takeUpset s u) := by
  have guarded (p : Path) (g : Guard) : BlockStep s (setGuard p g s) := by cases p <;> exact .write (.refl s)
  have queued (b : Box) (k : Nat) (q : SubQueue) : BlockStep s (setSubQueue b k q s) := by cases b <;> exact .write (.refl s)
  cases u with
  | stashRow g n => exact .ite ⟨rfl⟩ (.refl s)
  | bank7Record => exact ⟨rfl⟩
  | otpGroup g n => exact .write (t := { s with free := s.free + 1 }) (.write (.refl s))
  | guard p k v => exact guarded _ _
  | mbxWord b k p w m => exact queued _ _ _
  | outWord ev m => exact .ite (.write (.refl s)) (.write (.refl s))
  | severity src k v => exact .ite (.refl s) (.write (.refl s))
  | cellWord i n => exact .ite (.write (.refl s)) (.refl s)
  | leakCell i => exact .ite (.write (.refl s)) (.refl s)
  | freeTwice i => exact .ite (.write (.refl s)) (.refl s)
  | _ => exact .write (.refl s)

/-! ## The snapshot and the kick -/

/-- What the end of a block leaves: one snapshot more, and a kick when the firmware's tasks are complete. -/
structure BlockDone (done : Bool) (s t : State) : Prop where
  kept : t.clk.tick = s.clk.tick ∧ t.pending = s.pending ∧ t.mem.flash = s.mem.flash ∧ t.pwr.entry = s.pwr.entry
  seq : t.snap.seq = s.snap.seq + 1
  armed : t.boot.wdArmed = s.boot.wdArmed
  kick : done = true → t.boot.wdArmed = true → t.boot.lastKick = s.clk.tick ∧ (s.boot.ctiUp = true → t.boot.aliveOk = true)

theorem BlockStep.fields {s t : State} (h : BlockStep s t) : t.clk.tick = s.clk.tick ∧ t.pending = s.pending ∧
    t.mem.flash = s.mem.flash ∧ t.boot.wdArmed = s.boot.wdArmed ∧ t.boot.ctiUp = s.boot.ctiUp ∧ t.snap.seq = s.snap.seq ∧
    t.pwr.entry = s.pwr.entry := by
  obtain ⟨htick, hrest⟩ := Prod.mk.inj h.view
  obtain ⟨hpending, hrest⟩ := Prod.mk.inj hrest
  obtain ⟨hflash, hrest⟩ := Prod.mk.inj hrest
  obtain ⟨hboot, hrest⟩ := Prod.mk.inj hrest
  obtain ⟨hseq, hentry⟩ := Prod.mk.inj hrest
  obtain ⟨harmed, hup⟩ := Prod.mk.inj hboot
  exact ⟨htick, hpending, hflash, harmed, hup, hseq, hentry⟩

/-- The kick of a block whose tasks are complete. -/
theorem kickWatchdog_facts (done : Bool) (s : State) : (kickWatchdog done s).boot.wdArmed = s.boot.wdArmed ∧
    (done = true → (kickWatchdog done s).boot.wdArmed = true →
      (kickWatchdog done s).boot.lastKick = s.clk.tick ∧ (s.boot.ctiUp = true → (kickWatchdog done s).boot.aliveOk = true)) := by
  unfold kickWatchdog
  split
  · exact ⟨rfl, fun _ _ => ⟨rfl, fun hup => Bool.or_eq_true_iff.mpr (.inr hup)⟩⟩
  · rename_i hnot
    exact ⟨rfl, fun hdone harmed => absurd (Bool.and_eq_true_iff.mpr ⟨hdone, harmed⟩) hnot⟩

/-- The snapshot is taken, votes and upsets follow, and the watchdog is kicked. -/
theorem blockDone_of {inp : BlockInputs} {done : Bool} {s u w : State} (hu : BlockStep s u) (hw : BlockStep (takeSnapshot inp u) w) :
    BlockDone done s (kickWatchdog done w) := by
  obtain ⟨utick, upending, uflash, uarmed, uup, useq, uentry⟩ := hu.fields
  obtain ⟨wtick, wpending, wflash, warmed, wup, wseq, wentry⟩ := hw.fields
  obtain ⟨harmed, hkick⟩ := kickWatchdog_facts done w
  have hgroups : (kickWatchdog done w).clk = w.clk ∧ (kickWatchdog done w).pending = w.pending ∧ (kickWatchdog done w).mem = w.mem ∧
      (kickWatchdog done w).pwr = w.pwr ∧ (kickWatchdog done w).snap = w.snap := by simp
  obtain ⟨kclk, kpending, kmem, kpwr, ksnap⟩ := hgroups
  have htick : w.clk.tick = s.clk.tick := wtick.trans utick
  have hup : w.boot.ctiUp = s.boot.ctiUp := wup.trans uup
  rw [htick, hup] at hkick
  refine ⟨⟨?_, kpending.trans (wpending.trans upending), ?_, ?_⟩, ?_, harmed.trans (warmed.trans uarmed), hkick⟩
  · rw [kclk, htick]
  · rw [kmem]
    exact wflash.trans uflash
  · rw [kpwr]
    exact wentry.trans uentry
  · rw [ksnap, wseq]
    exact congrArg (· + 1) useq

/-- Lines are released, and upsets and votes follow. -/
theorem voted_blockStep (inp : BlockInputs) (s : State) :
    BlockStep s (sweepTrips (inp.upsets.foldl takeUpset (releaseLines inp.released s))) := by
  have released : BlockStep s (releaseLines inp.released s) := .of_groups (by simp)
  exact .after (sweepTrips_blockStep _) (.after (.foldl takeUpset_blockStep inp.upsets _) released)

theorem readOverCurrent_blockStep (low : BitVec 6) (s : State) : BlockStep s (readOverCurrent low s) := .of_groups (by simp)

theorem boundaryEnd_done (inp : BlockInputs) {s : State} (h : s.pwr.entry = .none) : BlockDone inp.tasksDone s (boundaryEnd inp s) := by
  have checked (t : State) : BlockStep t (checkFaces t) := .of_groups (by simp)
  have recorded (t : State) : BlockStep t (keepRecord t) := .of_groups (by simp)
  have posted : BlockStep s (tagBoundary (postLost (postCounts s))) :=
    ((postCounts_blockStep s).trans (postLost_blockStep _)).trans (tagBoundary_blockStep _)
  have settled := (posted.trans (settleCommands_blockStep (posted.entry.trans h))).trans (keepAlarm_blockStep _)
  have done := blockDone_of (done := inp.tasksDone) (inp := inp)
    ((settled.trans (checked _)).trans (readOverCurrent_blockStep inp.hsOc _)) ((recorded _).trans (voted_blockStep inp _))
  unfold boundaryEnd
  extract_lets a b c d sec
  have hd : BlockDone inp.tasksDone s d := done
  split
  · exact ⟨hd.kept, hd.seq, hd.armed, hd.kick⟩
  · exact hd

/-! ## The boundary -/

/-- The work before the end of the block. -/
theorem boundary_work (inp : BlockInputs) (s : State) : ∃ u, BlockStep s u ∧ (s.pwr.entry = .none →
    boundary inp s = { boundaryEnd inp u with clk := { (boundaryEnd inp u).clk with lastBlock := some (boundaryEnd inp u).clk.tick } }) := by
  have begun : BlockStep s (newBlock (runWaiting (announceSafe (afterWake s)))) :=
    .write (((afterWake_blockStep s).trans (announceSafe_blockStep _)).trans (runWaiting_blockStep _))
  obtain ⟨v, hv⟩ : ∃ v, v = newBlock (runWaiting (announceSafe (afterWake s))) := ⟨_, rfl⟩
  obtain ⟨u, hu⟩ : ∃ u, u = if v.cfg.unconfigured || entering v then v else audioWork inp (zoneWork inp v) := ⟨_, rfl⟩
  rw [← hv] at begun
  have worked : BlockStep s u := by
    rw [hu]
    exact .ite begun ((begun.trans (zoneWork_blockStep inp v)).trans (audioWork_blockStep inp _))
  refine ⟨u, worked, fun h => ?_⟩
  obtain ⟨⟨-, -, -, hentry⟩, -⟩ := boundaryEnd_done inp (worked.entry.trans h)
  have hawake : ¬ (boundaryEnd inp u).pwr.entry = .toHibernate := by
    rw [hentry, worked.entry, h]
    exact nofun
  have hends : boundary inp s = settleHibernate
      { boundaryEnd inp u with clk := { (boundaryEnd inp u).clk with lastBlock := some (boundaryEnd inp u).clk.tick } } := by
    rw [hu, hv]
    rfl
  rw [hends]
  exact if_neg hawake

theorem boundary_done (inp : BlockInputs) {s : State} (h : s.pwr.entry = .none) :
    BlockDone inp.tasksDone s (boundary inp s) ∧ (boundary inp s).clk.lastBlock = some s.clk.tick := by
  obtain ⟨u, hu, hboundary⟩ := boundary_work inp s
  obtain ⟨⟨btick, bpending, bflash, bentry⟩, bseq, barmed, bkick⟩ := boundaryEnd_done inp (hu.entry.trans h)
  obtain ⟨utick, upending, uflash, uarmed, uup, useq, uentry⟩ := hu.fields
  have htick : (boundaryEnd inp u).clk.tick = s.clk.tick := btick.trans utick
  rw [utick, uup] at bkick
  rw [hboundary h]
  exact ⟨⟨⟨htick, bpending.trans upending, bflash.trans uflash, bentry.trans uentry⟩, bseq.trans (congrArg (· + 1) useq),
    barmed.trans uarmed, bkick⟩, congrArg some htick⟩

theorem startBlock_done (inp : BlockInputs) (s : State) : BlockDone inp.tasksDone s (startBlock inp s) ∧
    (startBlock inp s).clk = { s.clk with lastBlock := some s.clk.tick } := by
  have done := blockDone_of (done := inp.tasksDone) (inp := inp) (readOverCurrent_blockStep inp.hsOc s) (voted_blockStep inp _)
  obtain ⟨u, hu⟩ : ∃ u, u = kickWatchdog inp.tasksDone (sweepTrips (inp.upsets.foldl takeUpset (releaseLines inp.released
    (takeSnapshot inp (readOverCurrent inp.hsOc s))))) := ⟨_, rfl⟩
  have hclk : u.clk = s.clk := by simp [hu]
  have hstart : startBlock inp s = { u with clk := { u.clk with lastBlock := some u.clk.tick } } := by
    rw [hu]
    rfl
  rw [← hu] at done
  rw [hstart, hclk]
  exact ⟨⟨⟨rfl, done.kept.2⟩, done.seq, done.armed, done.kick⟩, rfl⟩

theorem exec_blockBoundary {inp : BlockInputs} {s : State} (hdue : blockDue s = true) :
    exec (.blockBoundary inp) s = .next (boundary inp (fresh s)) := congrArg Host.Outcome.next (if_pos hdue)

theorem exec_blockBoundary_starting {inp : BlockInputs} {s : State} (hphase : s.boot.phase ≠ .running) (hbegins : blockBegins s = true) :
    exec (.blockBoundary inp) s = .next (startBlock inp (fresh s)) := by
  have hnot : ¬ blockDue (fresh s) = true := fun h => hphase (beq_iff_eq.mp (Bool.and_eq_true_iff.mp h).1)
  exact congrArg Host.Outcome.next ((if_neg hnot).trans (if_pos hbegins))

theorem exec_blockBoundary_taken {inp : BlockInputs} {s : State} (hlast : s.clk.lastBlock = some s.clk.tick) :
    exec (.blockBoundary inp) s = .next (fresh s) := by
  have hbegins : ¬ blockBegins (fresh s) = true := by
    show ¬ (s.clk.rootLocked && awake s && atBlock s && s.clk.lastBlock != some s.clk.tick) = true
    simp [hlast]
  have hnot : ¬ blockDue (fresh s) = true := fun h => hbegins (Bool.and_eq_true_iff.mp h).2
  exact congrArg Host.Outcome.next ((if_neg hnot).trans (if_neg hbegins))

/-! ## The ambient measurement -/

theorem ambientSecond_rest (s : State) (d : Dest) : { ambientSecond s d with ambient := none } = { d with ambient := none } := by
  unfold ambientSecond
  split
  · rfl
  · split
    · rfl
    · dsimp only
      split <;> rfl

theorem exec_ambientUpdate (s : State) : ∃ t, exec .ambientUpdate s = .next t ∧ Frame [.aud] (fresh s) t ∧
    t.aud.dests = s.aud.dests.map (ambientSecond s) ∧
    t.aud.dests.map (fun d => { d with ambient := none }) = s.aud.dests.map (fun d => { d with ambient := none }) := by
  have hsecond : ambientSecond (fresh s) = ambientSecond s := rfl
  refine ⟨{ fresh s with aud := { s.aud with dests := s.aud.dests.map (ambientSecond s) } }, ?_, ?_, rfl, ?_⟩
  · rw [← hsecond]
    rfl
  · intro g hg
    cases g <;> simp_all [same]
  · show (s.aud.dests.map (ambientSecond s)).map _ = _
    rw [List.map_map]
    exact List.map_congr_left fun d _ => ambientSecond_rest s d

/-- Settles O45: the block runs once at its boundary, up to its snapshot and kick. -/
theorem blockBoundaryRuns : Obligations.BlockBoundaryRuns := by
  refine ⟨fun inp s hdue hentry => ?_, fun inp s hphase hbegins => ?_, fun inp s => exec_blockBoundary_taken, exec_ambientUpdate⟩
  · obtain ⟨⟨⟨htick, hpending, hflash, -⟩, hseq, -, hkick⟩, hlast⟩ := boundary_done inp (s := fresh s) hentry
    exact ⟨_, exec_blockBoundary hdue, htick, hlast, hseq, hpending, hflash, hkick⟩
  · obtain ⟨⟨⟨-, hpending, hflash, -⟩, hseq, harmed, hkick⟩, hclk⟩ := startBlock_done inp (fresh s)
    exact ⟨_, exec_blockBoundary_starting hphase hbegins, hclk, hseq, hpending, hflash, fun hdone hs => hkick hdone (harmed.trans hs)⟩

end Sys2Proof.Proofs
end

section
/-!
What every command keeps: the queue, the canonical form of Stash and flash, and the numbers and depths of `Shape`. One rule per
operation, in the order of the model, from them one rule per command, and from these O2, O3 and O4.
-/

namespace Sys2Proof.Proofs

open Sys2Proof
open Sys2Proof.Machine
open Sys2Proof.Safety
open Sys2Proof.Laws

/-- The queue of commands and the numbers that `Shape` fixes are the same in both states. -/
@[simp] abbrev SameSizes (s t : State) : Prop :=
  t.pending = s.pending ∧ t.ports.length = s.ports.length ∧ t.flex.length = s.flex.length ∧
  t.sw.queues.length = s.sw.queues.length ∧ t.sw.links.length = s.sw.links.length ∧
  t.mbx.inU.length = s.mbx.inU.length ∧ t.mbx.inS.length = s.mbx.inS.length ∧
  t.own.ctxs.length = s.own.ctxs.length ∧ t.own.tdm.length = s.own.tdm.length

/-- The voices keep their number, posted writes and history their depths, and the byte memories their canonical form. -/
@[simp] abbrev KeepsBounds (s t : State) : Prop :=
  (s.msg.voices.length = 16 → t.msg.voices.length = 16) ∧
  (s.win.posted.length ≤ 8 → t.win.posted.length ≤ 8) ∧ (s.aon.hist.length ≤ 16 → t.aon.hist.length ≤ 16) ∧
  (Memory.wf stashErased s.mem.stash = true → Memory.wf stashErased t.mem.stash = true) ∧
  (Memory.wf flashErased s.mem.flash = true → Memory.wf flashErased t.mem.flash = true)

/-- What an operation that files no completion record keeps. -/
@[simp] abbrev Keeps (s t : State) : Prop :=
  SameSizes s t ∧ (t.mbx.doneU.length = s.mbx.doneU.length ∧ t.mbx.doneS.length = s.mbx.doneS.length) ∧ KeepsBounds s t

/-- What an operation that may file a completion record keeps. -/
@[simp] abbrev KeepsLive (s t : State) : Prop :=
  SameSizes s t ∧ ((s.mbx.doneU.length ≤ 64 → t.mbx.doneU.length ≤ 64) ∧
    (s.mbx.doneS.length ≤ 64 → t.mbx.doneS.length ≤ 64)) ∧ KeepsBounds s t

theorem SameSizes.trans {s t u : State} (h : SameSizes s t) (h' : SameSizes t u) : SameSizes s u := by
  simp only [SameSizes] at *
  grind

theorem KeepsBounds.trans {s t u : State} (h : KeepsBounds s t) (h' : KeepsBounds t u) : KeepsBounds s u := by
  simp only [KeepsBounds] at *
  grind

theorem Keeps.refl (s : State) : Keeps s s := by simp

theorem Keeps.trans {s t u : State} (h : Keeps s t) (h' : Keeps t u) : Keeps s u :=
  ⟨h.1.trans h'.1, ⟨h'.2.1.1.trans h.2.1.1, h'.2.1.2.trans h.2.1.2⟩, h.2.2.trans h'.2.2⟩

theorem Keeps.ite {c : Prop} [Decidable c] {s t u : State} (h : Keeps s t) (h' : Keeps s u) : Keeps s (if c then t else u) := by
  split
  · exact h
  · exact h'

theorem KeepsLive.trans {s t u : State} (h : KeepsLive s t) (h' : KeepsLive t u) : KeepsLive s u :=
  ⟨h.1.trans h'.1, ⟨fun x => h'.2.1.1 (h.2.1.1 x), fun x => h'.2.1.2 (h.2.1.2 x)⟩, h.2.2.trans h'.2.2⟩

theorem Keeps.live {s t : State} (h : Keeps s t) : KeepsLive s t :=
  ⟨h.1, ⟨fun x => h.2.1.1 ▸ x, fun x => h.2.1.2 ▸ x⟩, h.2.2⟩

/-- A fold of an operation that keeps the sizes keeps them. -/
theorem foldl_keeps_of {α : Type} {f : State → α → State} (h : ∀ s a, Keeps s (f s a)) (l : List α) (s : State) :
    Keeps s (l.foldl f s) := by
  induction l generalizing s with
  | nil => exact Keeps.refl s
  | cons a l ih => exact (h s a).trans (ih (f s a))

/-- A fold that carries a state beside other results. -/
theorem foldl_snd_keeps_of {α β : Type} {f : β × State → α → β × State} (h : ∀ p a, Keeps p.2 (f p a).2) (l : List α) (p : β × State) :
    Keeps p.2 (l.foldl f p).2 := by
  induction l generalizing p with
  | nil => exact Keeps.refl p.2
  | cons a l ih => exact (h p a).trans (ih (f p a))

@[simp] theorem foldl_keeps_of_simp {α : Type} (f : State → α → State) (h : ∀ s a, Keeps s (f s a)) (l : List α) (s : State) :
    Keeps s (l.foldl f s) := foldl_keeps_of h l s

@[simp] theorem finishRecord_length (w0 seq status : Word) (l : List Completion) :
    (finishRecord w0 seq status l).length = l.length := by
  induction l with
  | nil => rfl
  | cons c l ih =>
    rw [finishRecord]
    split
    · rfl
    · simpa using ih

@[simp] theorem setRecords_sizes (b : Box) (l : List Completion) (s : State) :
    SameSizes s (setRecords b l s) ∧ KeepsBounds s (setRecords b l s) := by
  cases b <;> simp [setRecords]

@[simp] theorem doneU_setRecords (b : Box) (l : List Completion) (s : State) :
    (setRecords b l s).mbx.doneU = if b = .u then l else s.mbx.doneU := by
  cases b <;> rfl

@[simp] theorem doneS_setRecords (b : Box) (l : List Completion) (s : State) :
    (setRecords b l s).mbx.doneS = if b = .s then l else s.mbx.doneS := by
  cases b <;> rfl

theorem length_le_of_filter {α : Type} {l : List α} {n : Nat} (p : α → Bool) (h : l.length ≤ n) : (l.filter p).length ≤ n :=
  (List.length_filter_le p l).trans h

/-- `Keeps` as a rigid proposition, for chains of operations that are followed backwards from the last one. -/
structure Kept (s t : State) : Prop where
  keeps : Keeps s t

theorem Kept.refl (s : State) : Kept s s := ⟨.refl s⟩

/-- The last operation of the chain, before the rest of it. -/
theorem Kept.op {s t u : State} (k : Keeps t u) (h : Kept s t) : Kept s u := ⟨h.keeps.trans k⟩

/-- A write to groups that hold none of the bounded parts. -/
theorem Kept.write {s t : State} {out : List Out} {free : Nat} {clk : Clock} {boot : Boot} {flt : Faults} {cfg : Cfg}
    {hub : Hub} {aud : Audio} {zon : Zones} {rails : Rails} {snap : Snapshot} {pwr : Power} {pav : Pavane} {sec : Security}
    (h : Kept s t) :
    Kept s { t with out := out, free := free, clk := clk, boot := boot, flt := flt, cfg := cfg, hub := hub, aud := aud, zon := zon
                    rails := rails, snap := snap, pwr := pwr, pav := pav, sec := sec } :=
  .op (by simp) h

theorem Kept.ite {s t u : State} {c : Prop} [Decidable c] (h : Kept s t) (h' : Kept s u) : Kept s (if c then t else u) := by
  split
  · exact h
  · exact h'

theorem Kept.foldl {α : Type} {f : State → α → State} {s t : State} {l : List α} (hf : ∀ s a, Keeps s (f s a)) (h : Kept s t) :
    Kept s (l.foldl f t) := .op (foldl_keeps_of hf l t) h

theorem syncOff_keeps (s : State) : Keeps s (syncOff s) := by simp

theorem loadSeverity_keeps (s : State) : Keeps s (loadSeverity s) := by simp

theorem loadOutputs_keeps (s : State) : Keeps s (loadOutputs s) := by simp

theorem activateReturn_keeps (old : List Table) (s : State) : Keeps s (activateReturn old s) := by simp

theorem concludeStart_keeps (a : Activation) (s : State) : Keeps s (concludeStart a s) := by simp

theorem assignPairs_keeps (s : State) : Keeps s (assignPairs s) := by simp

theorem checkFaces_keeps (s : State) : Keeps s (checkFaces s) := by simp

theorem keepRecord_keeps (s : State) : Keeps s (keepRecord s) := by simp

theorem releaseLines_keeps (l : List (BitVec 12)) (s : State) : Keeps s (releaseLines l s) := by simp

theorem kickWatchdog_keeps (done : Bool) (s : State) : Keeps s (kickWatchdog done s) := by simp

theorem clearChains_keeps (s : State) : Keeps s (clearChains s) := by simp

theorem keepReenter_keeps (s : State) : Keeps s (keepReenter s) := by simp

theorem tickReturns_keeps (s : State) : Keeps s (tickReturns s) := by simp

/-! ## Ops -/

@[simp] theorem flashWrite_keeps (a : Nat) (bs : List Byte) (s : State) : Keeps s (flashWrite a bs s) := by
  simp +contextual [flashWrite, Memory.wf_writeBytes]

@[simp] theorem flashErase_keeps (a n : Nat) (s : State) : Keeps s (flashErase a n s) := by
  simp +contextual [flashErase, Memory.wf_erase]

@[simp] theorem stashWrite_keeps (a : Nat) (bs : List Byte) (s : State) : Keeps s (stashWrite a bs s) := by
  simp +contextual [stashWrite, Memory.wf_writeBytes]

@[simp] theorem stashClear_keeps (a n : Nat) (s : State) : Keeps s (stashClear a n s) := by
  simp +contextual [stashClear, Memory.wf_erase]

@[simp] theorem drawBits_keeps (w : Nat) (s : State) : Keeps s (drawBits w s).2 := by simp

@[simp] theorem emit_keeps (o : Out) (s : State) : Keeps s (emit o s) := by simp

@[simp] theorem queueEvent_keeps (w0 : Word) (params : List Word) (t : Tick) (s : State) :
    Keeps s (queueEvent w0 params t s) := by
  simp only [queueEvent]
  simp +contextual

@[simp] theorem resumeFunction_keeps (s : State) : Keeps s (resumeFunction s) := by
  simp only [resumeFunction]
  (repeat' split) <;> simp +contextual

@[simp] theorem enqueueEvent_keeps (w0 : Word) (params : List Word) (t : Tick) (s : State) :
    Keeps s (enqueueEvent w0 params t s) := by
  simp only [enqueueEvent]
  (repeat' split) <;> simp +contextual

@[simp] theorem postAt_keeps (w0 : Word) (params : List Word) (t : Tick) (s : State) : Keeps s (postAt w0 params t s) := by
  simp only [postAt]
  (repeat' split) <;> simp +contextual

@[simp] theorem post_keeps (w0 : Word) (params : List Word) (s : State) : Keeps s (post w0 params s) := by
  simp only [post]
  (repeat' split) <;> simp +contextual

@[simp] theorem fileRecord_keeps (b : Box) (c : Completion) (s : State) : KeepsLive s (fileRecord b c s) := by
  cases b <;> simp +contextual [fileRecord, records]

@[simp] theorem cmdDone_keeps (l : LongCmd) (status : Nat) (s : State) : Keeps s (cmdDone l status s) := by
  cases h : l.box <;> simp +contextual [cmdDone, h, records]

@[simp] theorem groupDone_keeps (group status : Nat) (s : State) : Keeps s (groupDone group status s) := by
  simp only [groupDone]
  (repeat' split) <;> simp +contextual

@[simp] theorem addHistory_keeps (src : BitVec 12) (cls sev : Nat) (esc : Bool) (s : State) :
    Keeps s (addHistory src cls sev esc s) := by
  simp only [addHistory]
  simp +contextual

@[simp] theorem enterSafe_keeps (src : BitVec 12) (reason : Nat) (s : State) : Keeps s (enterSafe src reason s) := by
  simp only [enterSafe]
  (repeat' split) <;> simp +contextual

@[simp] theorem requestWarm_keeps (c : WarmCause) (s : State) : Keeps s (requestWarm c s) := by
  simp only [requestWarm]
  (repeat' split) <;> simp +contextual

@[simp] theorem react_keeps (src : BitVec 12) (cls sev : Nat) (esc : Bool) (s : State) : Keeps s (react src cls sev esc s) := by
  simp only [react]
  (repeat' split) <;> simp +contextual

@[simp] theorem takeFault_keeps (src : BitVec 12) (conf reason : Nat) (s : State) : Keeps s (takeFault src conf reason s) := by
  have taken (f : Faults) (cls sev : Nat) (esc : Bool) : Keeps s (zoneOcc 5 cls 0 none (countingFault (react src cls sev esc
      (addHistory src cls sev esc { countFault src (latchStatus src s) with flt := f })))) := by
    refine .trans (t := addHistory src cls sev esc { countFault src (latchStatus src s) with flt := f }) ?_ ?_
    · exact .trans (by simp) (addHistory_keeps ..)
    · exact (react_keeps src cls sev esc _).trans (by simp)
  simp only [takeFault]
  refine .ite ?_ (.ite ?_ (.ite ((taken ..).trans (enterSafe_keeps ..)) (taken ..)))
  · simp
  · simp

@[simp] theorem raiseFault_keeps (src : BitVec 12) (s : State) : Keeps s (raiseFault src s) := by
  simp only [raiseFault]
  (repeat' split) <;> simp +contextual

@[simp] theorem readOtp_keeps (s : State) : Keeps s (readOtp s) := by
  simp only [readOtp]
  exact ((Keeps.ite (.refl s) (raiseFault_keeps ..)).trans (.ite (raiseFault_keeps ..) (.refl _))).trans
    (.ite (raiseFault_keeps ..) (.refl _))

@[simp] theorem raiseDisagreement_keeps (s : State) : Keeps s (raiseDisagreement s) := by
  simp only [raiseDisagreement]
  simp +contextual

@[simp] theorem latchFaults_keeps (fs : List (BitVec 12 × Bool)) (s : State) : Keeps s (latchFaults fs s) := by
  refine foldl_keeps_of (fun s f => .ite ?_ (.refl s)) _ _
  simp +contextual

@[simp] theorem countVote_keeps (s : State) : Keeps s (countVote s) := by
  simp only [countVote]
  simp +contextual

@[simp] theorem regionWrite_keeps (a n : Nat) (bs : List Byte) (s : State) : Keeps s (regionWrite a n bs s) := by
  simp only [regionWrite]
  (repeat' split) <;> simp +contextual

@[simp] theorem loaderWrite_keeps (a n : Nat) (bs : List Byte) (s : State) : Keeps s (loaderWrite a n bs s) := by
  simp only [loaderWrite]
  simp +contextual

/-! ## Cells -/

@[simp] theorem countStream_keeps (port loc chan missing dropped excess : Nat) (s : State) :
    Keeps s (countStream port loc chan missing dropped excess s) := by
  simp only [countStream]
  (repeat' split) <;> simp +contextual

@[simp] theorem postCounts_keeps (s : State) : Keeps s (postCounts s) := by
  refine foldl_keeps_of (fun s c => .ite ?_ (.refl s)) _ _
  simp +contextual

@[simp] theorem setQueue_keeps (e cls : Nat) (q : List Nat) (s : State) : Keeps s (setQueue e cls q s) := by
  simp only [setQueue]
  simp +contextual

@[simp] theorem freeCell_keeps (i : Nat) (c : Cell) (s : State) : Keeps s (freeCell i c s) := by
  simp only [freeCell]
  (repeat' split) <;> simp +contextual

@[simp] theorem releaseCell_keeps (i : Nat) (s : State) : Keeps s (releaseCell i s) := by
  simp only [releaseCell]
  (repeat' split) <;> simp +contextual

@[simp] theorem releaseCells_keeps (l : List Nat) (s : State) : Keeps s (releaseCells l s) := by
  simp only [releaseCells]
  simp +contextual

@[simp] theorem countDropped_keeps (l : List Nat) (s : State) : Keeps s (countDropped l s) := by
  refine foldl_keeps_of (fun s i => ?_) _ _
  split
  · exact .ite (by simp) (.refl s)
  · exact .refl s

@[simp] theorem flushEgress_keeps (cut : Bool) (e : Nat) (s : State) : Keeps s (flushEgress cut e s).2 := by
  simp only [flushEgress]
  (repeat' split) <;> simp +contextual

@[simp] theorem flush_keeps (cut : Bool) (e : Nat) (s : State) : Keeps s (flush cut e s) := by
  simp only [flush]
  simp +contextual

@[simp] theorem makeRoom_keeps (e n k : Nat) (s : State) : Keeps s (makeRoom e n k s) := by
  induction k generalizing s with
  | zero => exact .refl s
  | succ k ih =>
    refine .ite (.refl s) (.trans ?_ (ih _))
    simp +contextual

@[simp] theorem rewriteCells_keeps (idx : List Nat) (s : State) : Keeps s (rewriteCells idx s) := by
  simp only [rewriteCells]
  simp +contextual

@[simp] theorem crossCore_keeps (cls : CellClass) (dest : BitVec 18) (n : Nat) (s : State) :
    Keeps s (crossCore cls dest n s) := by
  unfold crossCore
  split <;> simp +contextual

@[simp] theorem crossIso_keeps (src : Nat) (dest : BitVec 18) (n : Nat) (stream : Nat × Nat × Nat) (s : State) :
    Keeps s (crossIso src dest n stream s).2 := by
  simp only [crossIso]
  (repeat' split) <;> simp +contextual

/-! ## Operands -/

@[simp] theorem setGuard_keeps (p : Path) (g : Guard) (s : State) : Keeps s (setGuard p g s) := by
  simp only [setGuard]
  (repeat' split) <;> simp +contextual

@[simp] theorem setMbx_keeps (p : Path) (m : MbxRegs) (s : State) : Keeps s (setMbx p m s) := by
  simp only [setMbx]
  (repeat' split) <;> simp +contextual

@[simp] theorem setShadow_keeps (p : Path) (l : Shadow) (s : State) : Keeps s (setShadow p l s) := by
  simp only [setShadow]
  (repeat' split) <;> simp +contextual

@[simp] theorem setSubQueue_keeps (b : Box) (k : Nat) (q : SubQueue) (s : State) : Keeps s (setSubQueue b k q s) := by
  simp only [setSubQueue]
  (repeat' split) <;> simp +contextual

/-! ## Registers -/

@[simp] theorem voteGuard_keeps (p : Path) (s : State) : Keeps s (voteGuard p s) := by
  simp only [voteGuard]
  (repeat' split) <;> simp +contextual

@[simp] theorem voteSafectl_keeps (s : State) : Keeps s (voteSafectl s) := by
  simp only [voteSafectl]
  (repeat' split) <;> simp +contextual

@[simp] theorem voteSev_keeps (src : Nat) (s : State) : Keeps s (voteSev src s) := by
  simp only [voteSev]
  (repeat' split) <;> simp +contextual

@[simp] theorem voteWakePol_keeps (s : State) : Keeps s (voteWakePol s) := by
  simp only [voteWakePol]
  (repeat' split) <;> simp +contextual

@[simp] theorem voteTampPol_keeps (s : State) : Keeps s (voteTampPol s) := by
  simp only [voteTampPol]
  (repeat' split) <;> simp +contextual

@[simp] theorem applyPosted_posted (w : Posted) (s : State) : (applyPosted w s).win.posted = s.win.posted := by
  simp only [applyPosted, voteWakePol, voteTampPol, countVote]
  (repeat' split) <;> simp

theorem applyOldest_posted (s : State) : (applyOldest s).win.posted = s.win.posted.tail := by
  unfold applyOldest
  split
  · simp [*]
  · simp [*]

@[simp] theorem sweepTrips_keeps (s : State) : Keeps s (sweepTrips s) := by
  have guards : Keeps s (voteGuard .usb (voteGuard .mspi (voteGuard .sup s))) :=
    ((voteGuard_keeps ..).trans (voteGuard_keeps ..)).trans (voteGuard_keeps ..)
  simp only [sweepTrips]
  refine ((guards.trans (voteSafectl_keeps _)).trans ?_).trans ((voteWakePol_keeps _).trans (voteTampPol_keeps _))
  exact foldl_keeps_of (f := fun s src => voteSev src s) (fun s src => voteSev_keeps src s) _ _

@[simp] theorem applyPosted_keeps (w : Posted) (s : State) : Keeps s (applyPosted w s) := by
  simp only [applyPosted]
  (repeat' split) <;> simp +contextual

@[simp] theorem applyOldest_keeps (s : State) : Keeps s (applyOldest s) := by
  unfold applyOldest
  split
  · exact .refl s
  · rename_i w rest h
    refine .trans ?_ (applyPosted_keeps w _)
    simp [h]
    omega

theorem setWin_keeps {s : State} {w : Window} (h : s.win.posted.length ≤ 8 → w.posted.length ≤ 8) : Keeps s { s with win := w } := by
  simpa using h

@[simp] theorem aonEdge_keeps (s : State) : Keeps s (aonEdge s) := by
  have posted (l : List Posted) (t : State) : (l.foldl (fun s w => applyPosted w s) t).win.posted = t.win.posted :=
    foldl_keeps (fun s => s.win.posted) _ (fun s w => applyPosted_posted w s) l t
  simp only [aonEdge]
  simp +contextual [posted, length_le_of_filter]

@[simp] theorem aonTime_keeps (n : Nat) (s : State) : Keeps s (aonTime n s) := by
  simp only [aonTime]
  simp +contextual

@[simp] theorem slowEdge_keeps (s : State) : Keeps s (slowEdge s) := by
  simp only [slowEdge]
  simp +contextual

@[simp] theorem slowTime_keeps (n : Nat) (s : State) : Keeps s (slowTime n s) := by
  unfold slowTime
  split
  · exact .refl s
  · exact slowEdge_keeps s
  · exact ((aonTime_keeps ..).trans (slowEdge_keeps _)).trans (slowEdge_keeps _)

@[simp] theorem drainPosted_keeps (s : State) : Keeps s (drainPosted s) := by
  simp only [drainPosted]
  simp +contextual

@[simp] theorem asleepTime_keeps (n : Nat) (s : State) : Keeps s (asleepTime n s) := by
  simp only [asleepTime]
  simp +contextual

@[simp] theorem sleepTime_keeps (periods : Nat) (s : State) : Keeps s (sleepTime periods s) := by
  simp only [sleepTime]
  (repeat' split) <;> simp +contextual

@[simp] theorem postAon_keeps (p : Path) (r op : Nat) (data : Word) (s : State) : Keeps s (postAon p r op data s) := by
  simp only [postAon]
  split
  · simp
    omega
  · split
    · simp
    · have depth : s.win.posted.length ≤ 8 → s.win.posted.length - 1 + 1 ≤ 8 := by omega
      simp +contextual [applyOldest_posted, depth]
    · exact .refl s

@[simp] theorem popOut_keeps (s : State) : Keeps s (popOut s).2 := by
  simp only [popOut]
  (repeat' split) <;> simp +contextual

@[simp] theorem voteReg_keeps (p : Path) (r : Nat) (s : State) : Keeps s (voteReg p r s) := by
  simp only [voteReg]
  (repeat' split) <;> simp +contextual

@[simp] theorem readReg_keeps (p : Path) (r : Nat) (s : State) : Keeps s (readReg p r s).2 := by
  simp only [readReg]
  (repeat' split) <;> simp +contextual

@[simp] theorem lockPath_keeps (p : Path) (s : State) : Keeps s (lockPath p s) := by
  simp only [lockPath]
  simp +contextual

@[simp] theorem writeUnlock_keeps (p : Path) (d : Word) (s : State) : Keeps s (writeUnlock p d s) := by
  simp only [writeUnlock]
  (repeat' split) <;> simp +contextual

@[simp] theorem discardMark_keeps (p : Path) (s : State) : Keeps s (discardMark p s) := by
  simp only [discardMark]
  (repeat' split) <;> simp +contextual

@[simp] theorem badPair_keeps (p : Path) (s : State) : Keeps s (badPair p s) := by
  simp only [badPair]
  simp +contextual

@[simp] theorem applyGuarded_keeps (p : Path) (r v : Nat) (d : Word) (s : State) : Keeps s (applyGuarded p r v d s) := by
  simp only [applyGuarded]
  (repeat' split) <;> simp +contextual

@[simp] theorem guardedWriteReg_keeps (p : Path) (r op : Nat) (d : Word) (s : State) : Keeps s (guardedWriteReg p r op d s) := by
  unfold guardedWriteReg
  extract_lets s₁ isOpen s₂
  have h₂ : Keeps s s₂ := (voteGuard_keeps p s).trans (lockPath_keeps p s₁)
  refine h₂.trans (.ite ?_ (.ite (applyGuarded_keeps ..) (badPair_keeps p s₂)))
  exact (setGuard_keeps p _ s₂).trans (discardMark_keeps p _)

@[simp] theorem pokePlain_keeps (p : Path) (r op : Nat) (d : Word) (s : State) : Keeps s (pokePlain p r op d s) := by
  simp only [pokePlain]
  (repeat' split) <;> simp +contextual

@[simp] theorem pokeMaintained_keeps (r : Nat) (d : Word) (s : State) : Keeps s (pokeMaintained r d s) := by
  simp only [pokeMaintained]
  (repeat' split) <;> simp +contextual

/-! ## Mailbox -/

@[simp] theorem completePacket_keeps (b : Box) (k : Nat) (q : SubQueue) (w : MbxWord) (s : State) :
    Keeps s (completePacket b k q w s) := by
  simp only [completePacket]
  (repeat' split) <;> simp +contextual

@[simp] theorem dropPacket_keeps (b : Box) (k : Nat) (q : SubQueue) (w : MbxWord) (reason : Nat) (s : State) :
    Keeps s (dropPacket b k q w reason s) := by
  simp only [dropPacket]
  simp +contextual

@[simp] theorem acceptWord_keeps (b : Box) (k : Nat) (w : MbxWord) (s : State) : Keeps s (acceptWord b k w s) := by
  simp only [acceptWord]
  (repeat' split) <;> simp +contextual

@[simp] theorem flushS_keeps (mask : Nat) (s : State) : Keeps s (flushS mask s) := by
  exact foldl_keeps_of (fun s k => .ite (setSubQueue_keeps ..) (.refl s)) _ _

@[simp] theorem mspiWord_keeps (d : Word) (last : Bool) (s : State) : Keeps s (mspiWord d last s) := by
  simp only [mspiWord]
  simp +contextual

@[simp] theorem writeReg_keeps (p : Path) (r op : Nat) (d : Word) (s : State) : Keeps s (writeReg p r op d s) := by
  simp only [writeReg]
  (repeat' split) <;> simp +contextual

@[simp] theorem mspiRead_keeps (r : Nat) (s : State) : Keeps s (mspiRead r s) := by
  simp only [mspiRead]
  (repeat' split) <;> simp +contextual

@[simp] theorem mspiWrite_keeps (r op : Nat) (d : Word) (s : State) : Keeps s (mspiWrite r op d s) := by
  simp only [mspiWrite]
  (repeat' split) <;> simp +contextual

theorem overCore_keeps {f : State → State} (hf : ∀ s, Keeps s (f s)) (cls : CellClass) (toHost : Bool) (n : Nat) (s : State) :
    Keeps s (overCore cls toHost n f s) :=
  .ite ((crossCore_keeps ..).trans (hf _)) (emit_keeps _ s)

@[simp] theorem fillControl_keeps (bs : List Byte) (s : State) : Keeps s (fillControl bs s) := by simp

@[simp] theorem pathRead_keeps (p : Path) (r : Nat) (s : State) : Keeps s (pathRead p r s) := by
  simp only [pathRead]
  (repeat' split) <;> simp +contextual

@[simp] theorem pathWrite_keeps (p : Path) (r op : Nat) (d : Word) (s : State) : Keeps s (pathWrite p r op d s) := by
  simp only [pathWrite]
  (repeat' split) <;> simp +contextual

@[simp] theorem frameError_keeps (m : List Bool) (s : State) : Keeps s (frameError m s) := by
  simp only [frameError]
  (repeat' split) <;> simp +contextual

@[simp] theorem vendorRead_keeps (u : Setup) (again : Bool) (s : State) : Keeps s (vendorRead u again s) := by
  refine .ite (.refl s) (.ite (emit_keeps _ s) (overCore_keeps (fun s => ?_) _ _ _ s))
  split
  · simp
  · exact pathRead_keeps ..

@[simp] theorem vendorWrite_keeps (u : Setup) (d : BitVec 24) (completes : Bool) (s : State) :
    Keeps s (vendorWrite u d completes s) := by
  refine .ite (.refl s) (.ite (emit_keeps _ s) (overCore_keeps (fun s => ?_) _ _ _ s))
  refine (fillControl_keeps _ s).trans (.ite (emit_keeps ..) (.ite (.refl _) (pathWrite_keeps ..)))

@[simp] theorem takeContainer_keeps (c : Nat) (s : State) : Keeps s (takeContainer c s) := by
  simp only [takeContainer]
  (repeat' split) <;> simp +contextual

@[simp] theorem bulkOut_keeps (bytes : List Byte) (s : State) : Keeps s (bulkOut bytes s) := by
  simp only [bulkOut]
  refine .ite (.refl s) (.ite (overCore_keeps (fun t => ?_) _ _ _ s) (emit_keeps _ s))
  simp +contextual

@[simp] theorem poisonFaults_keeps (n : Nat) (s : State) : Keeps s (poisonFaults n s) := by
  induction n generalizing s with
  | zero => exact .refl s
  | succ n ih => exact (raiseFault_keeps _ s).trans (ih _)

@[simp] theorem bulkIn_keeps (event : Bool) (s : State) : Keeps s (bulkIn event s) := by
  unfold bulkIn
  refine .ite (.refl s) (.ite ?_ ?_) <;>
  · split
    · exact emit_keeps _ s
    · refine overCore_keeps (fun s => ?_) _ _ _ s
      refine .trans ?_ (poisonFaults_keeps _ _)
      simp

@[simp] theorem cutUsbMailbox_keeps (s : State) : Keeps s (cutUsbMailbox s) := by
  simp only [cutUsbMailbox]
  simp +contextual

/-! ## Command -/

@[simp] theorem inboundParity_keeps (b : Box) (p : Packet) (s : State) : Keeps s (inboundParity b p s) := by
  simp only [inboundParity]
  (repeat' split) <;> simp +contextual

@[simp] theorem takePacket_keeps (b : Box) (k : Nat) (p : Packet) (s : State) : Keeps s (takePacket b k p s) := by
  simp only [takePacket]
  (repeat' split) <;> simp +contextual

@[simp] theorem postReply_keeps (c : Command) (status : Nat) (results : List Word) (s : State) :
    Keeps s (postReply c status results s) := by
  simp only [postReply]
  (repeat' split) <;> simp +contextual

@[simp] theorem answer_keeps (c : Command) (status : Nat) (results : List Word) (long inProgress : Bool) (s : State) :
    KeepsLive s (answer c status results long inProgress s) := by
  simp only [answer]
  simp +contextual

theorem immediateCommand_keeps {run : Command → State → List Word × State} (hrun : ∀ c s, Keeps s (run c s).2) (code : Nat)
    (v : Command → Bool) (n : Command → State → Bool) (check : Command → State → Nat) (s : State) :
    KeepsLive s (immediateCommand code v n check run s) := by
  simp only [immediateCommand]
  (repeat' split) <;> simp +contextual [hrun]

theorem longCommand_keeps {run : Command → State → State} (hrun : ∀ c s, Keeps s (run c s)) (code : Nat)
    (v : Command → Bool) (n : Command → State → Bool) (check : Command → State → Nat) (s : State) :
    KeepsLive s (longCommand code v n check run s) := by
  simp only [longCommand]
  (repeat' split) <;> simp +contextual [hrun]

@[simp] theorem boundaryCommand_keeps (code : Nat) (v : Command → Bool) (n : Command → State → Bool) (check : Command → State → Nat)
    (s : State) : KeepsLive s (boundaryCommand code v n check s) := by
  simp only [boundaryCommand]
  (repeat' split) <;> simp +contextual

@[simp] theorem takeLoader_keeps (k : Nat) (s : State) : Keeps s (takeLoader k s) := by
  simp only [takeLoader]
  simp +contextual

@[simp] theorem badLoaderPacket_keeps (s : State) : Keeps s (badLoaderPacket s) := by
  simp only [badLoaderPacket]
  (repeat' split) <;> simp +contextual

@[simp] theorem badPacket_keeps (s : State) : KeepsLive s (badPacket s) := by
  simp only [badPacket]
  (repeat' split) <;> simp +contextual

/-! ## Flash -/

@[simp] theorem writeDirectory_keeps (es : List DirEntry) (s : State) : Keeps s (writeDirectory es s) := by
  simp only [writeDirectory]
  (repeat' split) <;> simp +contextual

@[simp] theorem rebuildDirectory_keeps (s : State) : Keeps s (rebuildDirectory s) := by
  unfold rebuildDirectory
  refine .trans ?_ (post_keeps ..)
  exact (((flashErase_keeps ..).trans (flashWrite_keeps ..)).trans (flashErase_keeps ..)).trans (flashWrite_keeps ..)

@[simp] theorem loadVault_keeps (s : State) : Keeps s (loadVault s) := by
  unfold loadVault
  split <;> exact ⟨by simp, ⟨rfl, rfl⟩, by simp⟩

@[simp] theorem writeBlob_keeps (slot seq : Nat) (s : State) : Keeps s (writeBlob slot seq s) := by
  unfold writeBlob
  rcases hd : drawBits 96 s with ⟨n, t⟩
  have drawn : Keeps s t := by simpa [hd] using drawBits_keeps 96 s
  dsimp only
  split
  · exact drawn.trans (.trans (flashErase_keeps _ 80 t) (flashWrite_keeps ..))
  · exact drawn

@[simp] theorem rewriteBlobs_keeps (s : State) : Keeps s (rewriteBlobs s) := by
  simp only [rewriteBlobs]
  (repeat' split) <;> simp +contextual

/-! ## Faults -/

@[simp] theorem exitSafe_keeps (reason : Nat) (s : State) : Keeps s (exitSafe reason s) := by
  simp only [exitSafe]
  (repeat' split) <;> simp +contextual

@[simp] theorem announceSafe_keeps (s : State) : Keeps s (announceSafe s) := by
  simp only [announceSafe]
  (repeat' split) <;> simp +contextual

@[simp] theorem releaseAtBoundary_keeps (c : Command) (s : State) : KeepsLive s (releaseAtBoundary c s) := by
  simp only [releaseAtBoundary]
  (repeat' split) <;> simp +contextual

@[simp] theorem safeEnter_keeps (hold : Bool) (s : State) : Keeps s (safeEnter hold s) := by
  simp only [safeEnter]
  (repeat' split) <;> simp +contextual

/-! ## Audio -/

@[simp] theorem setDest_keeps (d : Dest) (s : State) : Keeps s (setDest d s) := by simp

@[simp] theorem writeRow_keeps (g row : Nat) (s : State) : Keeps s (writeRow g row s) := by
  simp only [writeRow]
  simp +contextual

@[simp] theorem trimBanks_keeps (s : State) : Keeps s (trimBanks s) := by
  simp only [trimBanks]
  simp +contextual

@[simp] theorem powerBank_keeps (k : Nat) (s : State) : Keeps s (powerBank k s) := by
  simp only [powerBank]
  simp +contextual

@[simp] theorem clearExtents_keeps (format : Nat) (es : List Nat) (s : State) : Keeps s (clearExtents format es s) := by
  exact foldl_keeps_of (fun s e => foldl_keeps_of (fun s r => writeRow_keeps ..) _ s) _ s

@[simp] theorem allocate_keeps (n format cap delay : Nat) (s : State) : Keeps s (allocate n format cap delay s) := by
  unfold allocate
  refine .trans ?_ (trimBanks_keeps _)
  refine .trans ?_ (foldl_keeps_of (fun s e => powerBank_keeps _ s) _ _)
  refine .trans (.trans ?_ (clearExtents_keeps ..)) (setDest_keeps ..)
  simp

@[simp] theorem applyEntry_keeps (e : MapEntry) (s : State) : Keeps s (applyEntry e s) := by
  simp only [applyEntry]
  (repeat' split) <;> simp +contextual

@[simp] theorem removeEntry_keeps (e : MapEntry) (s : State) : Keeps s (removeEntry e s) := by
  simp only [removeEntry]
  (repeat' split) <;> simp +contextual

@[simp] theorem applyRouteTable_keeps (old new : List Table) (written : List Nat) (s : State) :
    Keeps s (applyRouteTable old new written s) := by
  exact (foldl_keeps_of (f := fun s e => removeEntry (Prod.snd e) s) (fun s e => removeEntry_keeps ..) _ s).trans
    (foldl_keeps_of (f := fun s e => applyEntry (Prod.snd e) s) (fun s e => applyEntry_keeps ..) _ _)

@[simp] theorem runRouteSet_keeps (c : Command) (s : State) : Keeps s (runRouteSet c s).2 := by simp

@[simp] theorem runRouteClear_keeps (c : Command) (s : State) : Keeps s (runRouteClear c s).2 := by simp

@[simp] theorem runSetEq_keeps (c : Command) (s : State) : Keeps s (runSetEq c s).2 := by simp

@[simp] theorem setDelay_keeps (c : Command) (s : State) : Keeps s (setDelay c s) := by
  simp only [setDelay]
  (repeat' split) <;> simp +contextual

@[simp] theorem runSetDelay_keeps (c : Command) (s : State) : Keeps s (runSetDelay c s).2 := by
  simp only [runSetDelay]
  simp +contextual

@[simp] theorem setDelayFormat_keeps (c : Command) (s : State) : Keeps s (setDelayFormat c s) := by
  simp only [setDelayFormat]
  (repeat' split) <;> simp +contextual

@[simp] theorem runDelayFormat_keeps (c : Command) (s : State) : Keeps s (runDelayFormat c s).2 := by
  simp only [runDelayFormat]
  simp +contextual

@[simp] theorem runSetDynamics_keeps (c : Command) (s : State) : Keeps s (runSetDynamics c s).2 := by simp

/-! ## Messages -/

@[simp] theorem mapMsg_keeps (number : Nat) (f : Msg → Msg) (s : State) : Keeps s (mapMsg number f s) := by
  simp only [mapMsg]
  simp +contextual

@[simp] theorem setVoice_keeps (v : Nat) (x : Option Voice) (s : State) : Keeps s (setVoice v x s) := by
  simp only [setVoice]
  simp +contextual

@[simp] theorem mapZone_keeps (n : Nat) (f : Zone → Zone) (s : State) : Keeps s (mapZone n f s) := by simp

@[simp] theorem endVoice_keeps (v reason : Nat) (s : State) : Keeps s (endVoice v reason s) := by
  simp only [endVoice]
  (repeat' split) <;> simp +contextual

@[simp] theorem deniedStart_keeps (number : Nat) (s : State) : Keeps s (deniedStart number s) := by
  simp only [deniedStart]
  simp +contextual

@[simp] theorem takeVoice_keeps (v : Nat) (m : Msg) (zones : List Nat) (s : State) : Keeps s (takeVoice v m zones s) := by
  simp only [takeVoice]
  simp +contextual

@[simp] theorem toFront_keeps (number : Nat) (s : State) : Keeps s (toFront number s) := by
  simp only [toFront]
  simp +contextual

@[simp] theorem failMessage_keeps (number : Nat) (s : State) : Keeps s (failMessage number s) := by
  simp only [failMessage]
  simp +contextual

@[simp] theorem flashReadFault_keeps (readOk : Bool) (s : State) : Keeps s (flashReadFault readOk s) := by
  simp only [flashReadFault]
  (repeat' split) <;> simp +contextual

@[simp] theorem storeFrame_keeps (m : Msg) (f : CacheFrame × Nat) (s : State) : Keeps s (storeFrame m f s) := by
  simp only [storeFrame]
  simp +contextual

@[simp] theorem dropCache_keeps (number : Nat) (s : State) : Keeps s (dropCache number s) := by
  simp only [dropCache]
  simp +contextual

@[simp] theorem pinMessage_keeps (m : Msg) (secs : Nat) (s : State) : Keeps s (pinMessage m secs s) := by
  refine .trans (t := dropCache m.number s) (dropCache_keeps ..) (.trans ?_ (mapMsg_keeps ..))
  split
  · exact foldl_keeps_of (fun s f => storeFrame_keeps m f s) _ _
  · exact .refl _

@[simp] theorem pinInOrder_keeps (l : List (Msg × Nat)) (s : State) : Keeps s (pinInOrder l s) := by
  induction l generalizing s with
  | nil => exact .refl s
  | cons a l ih => exact .ite (ih s) (.ite ((pinMessage_keeps ..).trans (ih _)) (.refl s))

@[simp] theorem fillCache_keeps (s : State) : Keeps s (fillCache s) := by
  simp only [fillCache]
  simp +contextual

@[simp] theorem removeLibrary_keeps (lib : Nat) (s : State) : Keeps s (removeLibrary lib s) := by
  simp [removeLibrary]

@[simp] theorem activateLibrary_keeps (lib : Nat) (ms : List Msg) (s : State) : Keeps s (activateLibrary lib ms s) := by
  simp only [activateLibrary]
  simp +contextual

@[simp] theorem rejectLibrary_keeps (lib reason : Nat) (s : State) : Keeps s (rejectLibrary lib reason s) := by
  simp only [rejectLibrary]
  simp +contextual

@[simp] theorem frameFailed_keeps (v : Nat) (x : Voice) (len : Nat) (cache : Bool) (s : State) :
    Keeps s (frameFailed v x len cache s) := by
  simp only [frameFailed]
  (repeat' split) <;> simp +contextual

@[simp] theorem frameDecoded_keeps (v : Nat) (x : Voice) (len : Nat) (ys : List Int) (s : State) :
    Keeps s (frameDecoded v x len ys s) := by
  simp only [frameDecoded]
  (repeat' split) <;> simp +contextual

@[simp] theorem frameArrives_keeps (v : Nat) (x : Voice) (cache : Bool) (bs : List Byte) (s : State) :
    Keeps s (frameArrives v x cache bs s) := by
  simp only [frameArrives]
  (repeat' split) <;> simp +contextual

@[simp] theorem fetchFlash_keeps (v : Nat) (x : Voice) (readOk : Bool) (s : State) : Keeps s (fetchFlash v x readOk s) := by
  simp only [fetchFlash]
  (repeat' split) <;> simp +contextual

@[simp] theorem fetchFrame_keeps (v : Nat) (readOk : Bool) (s : State) : Keeps s (fetchFrame v readOk s) := by
  unfold fetchFrame
  split
  · exact .refl s
  · refine .ite (.refl s) ?_
    split
    · exact fetchFlash_keeps ..
    · refine .ite (.ite ?_ ?_) ?_
      · exact (raiseFault_keeps ..).trans (fetchFlash_keeps ..)
      · exact ((raiseFault_keeps ..).trans (flashReadFault_keeps ..)).trans (frameFailed_keeps ..)
      · exact .trans (.ite (raiseFault_keeps ..) (.refl s)) (frameArrives_keeps ..)

@[simp] theorem runPlay_keeps (c : Command) (s : State) : Keeps s (runPlay c s).2 := by
  simp only [runPlay]
  (repeat' split) <;> simp +contextual

@[simp] theorem runStop_keeps (c : Command) (s : State) : Keeps s (runStop c s).2 := by
  simp only [runStop]
  (repeat' split) <;> simp +contextual

@[simp] theorem pinCompletes_keeps (number secs : Nat) (start : Tick) (ok : Bool) (s : State) :
    Keeps s (pinCompletes number secs start ok s) := by
  simp only [pinCompletes]
  (repeat' split) <;> simp +contextual

@[simp] theorem loadEnds_keeps (l : LibLoad) (ok : Bool) (s : State) : Keeps s (loadEnds l ok s) := by
  simp only [loadEnds]
  (repeat' split) <;> simp +contextual

@[simp] theorem msgCompletes_keeps (ok : Bool) (s : State) : Keeps s (msgCompletes ok s) := by
  simp only [msgCompletes]
  (repeat' split) <;> simp +contextual

/-! ## Zones -/

@[simp] theorem postLost_keeps (s : State) : Keeps s (postLost s) := by
  refine foldl_keeps_of (fun s z => .ite ?_ (.refl s)) _ _
  simp +contextual

@[simp] theorem runEvents_keeps (ws : List Word) (os : List Occ) (z : Zone) (s : State) : Keeps s (runEvents ws os z s).2 := by
  induction os generalizing z s with
  | nil => exact .refl s
  | cons o os ih =>
    simp only [runEvents]
    split
    · exact (post_keeps ..).trans (ih _ _)
    · exact ih _ _

@[simp] theorem runZone_keeps (s : State) (z : Zone) : Keeps s (runZone s z) := by
  exact (runEvents_keeps (machineOf z s) _ _ s).trans (mapZone_keeps ..)

@[simp] theorem runZones_keeps (s : State) : Keeps s (runZones s) := by
  simp only [runZones]
  (repeat' split) <;> simp +contextual

@[simp] theorem leaveVoice_keeps (n : Nat) (s : State) : Keeps s (leaveVoice n s) := by
  simp only [leaveVoice]
  (repeat' split) <;> simp +contextual

@[simp] theorem postDenied_keeps (number : Nat) (ns : List Nat) (s : State) : Keeps s (postDenied number ns s) := by
  refine foldl_keeps_of (fun s z => .ite ?_ (.refl s)) _ _
  simp +contextual

@[simp] theorem startMessage_keeps (number : Nat) (ns : List Nat) (s : State) : Keeps s (startMessage number ns s) := by
  simp only [startMessage]
  (repeat' split) <;> simp +contextual

@[simp] theorem startAll_keeps (k : Nat) (l : List (Nat × Nat)) (s : State) : Keeps s (startAll k l s) := by
  induction k generalizing l s with
  | zero => exact .refl s
  | succ k ih =>
    cases l with
    | nil => exact .refl s
    | cons a l => exact (startMessage_keeps ..).trans (ih _ _)

@[simp] theorem applyActs_keeps (s : State) : Keeps s (applyActs s) := by
  simp only [applyActs]
  refine .trans ?_ (startAll_keeps ..)
  simp +contextual

@[simp] theorem heartbeatReturn_keeps (s : State) : Keeps s (heartbeatReturn s) := by
  simp only [heartbeatReturn]
  (repeat' split) <;> simp +contextual

@[simp] theorem syncZones_keeps (old : List Table) (keepAny : Bool) (s : State) : Keeps s (syncZones old keepAny s) := by
  simp only [syncZones]
  (repeat' split) <;> simp +contextual

@[simp] theorem runTrigger_keeps (c : Command) (s : State) : Keeps s (runTrigger c s).2 := by simp

@[simp] theorem runRelease_keeps (c : Command) (s : State) : Keeps s (runRelease c s).2 := by simp

@[simp] theorem runMute_keeps (c : Command) (s : State) : Keeps s (runMute c s).2 := by simp

/-! ## Chain -/

@[simp] theorem readStored_keeps (l : Delay) (i : Nat) (first : Bool) (s : State) : Keeps s (readStored l i first s).2 := by
  simp only [readStored]
  (repeat' split) <;> simp +contextual

@[simp] theorem readDelay_keeps (l : Delay) (newest delay : Nat) (first : Bool) (s : State) :
    Keeps s (readDelay l newest delay first s).2 := by
  simp only [readDelay]
  (repeat' split) <;> simp +contextual

@[simp] theorem storeLine_keeps (l : Delay) (s : State) : Keeps s (storeLine l s).2 := by
  simp only [storeLine]
  (repeat' split) <;> simp +contextual

@[simp] theorem delaySample_keeps (l : Delay) (n : Nat) (x : Int) (s : State) : Keeps s (delaySample l n x s).2.2 := by
  simp only [delaySample]
  refine .trans ?_ (storeLine_keeps ..)
  split
  · exact readDelay_keeps ..
  · exact (readDelay_keeps ..).trans (readDelay_keeps ..)

@[simp] theorem delaySamples_keeps (l : Delay) (n : Nat) (s : State) (xs : List Int) : Keeps s (delaySamples l n s xs).2.2 := by
  induction xs generalizing l n s with
  | nil => exact .refl s
  | cons x xs ih => exact (delaySample_keeps l n x s).trans (ih _ _ _)

@[simp] theorem destBlock_keeps (srcs : List (Nat × List Int)) (n variant : Nat) (s : State) :
    Keeps s (destBlock srcs n variant s).2 := by
  simp only [destBlock]
  split
  · exact setDest_keeps ..
  · refine .trans ?_ (setDest_keeps ..)
    split
    · exact delaySamples_keeps ..
    · exact .refl s

@[simp] theorem processBlock_keeps (srcs : List (Nat × List Int)) (variants : List (Nat × Nat)) (s : State) :
    Keeps s (processBlock srcs variants s) := by
  have blocks := foldl_snd_keeps_of (f := fun (acc : List (Nat × List Int) × State) n =>
    (acc.1 ++ [(n, (destBlock srcs n (lookupD variants n 0) acc.2).1)], (destBlock srcs n (lookupD variants n 0) acc.2).2))
    (fun acc n => destBlock_keeps ..) (servedDests s) ([], s)
  exact .trans blocks (by simp [processBlock])

/-! ## Switch -/

@[simp] theorem countTt_keeps (per : Bool) (f : Nat → Nat) (k : Nat) (s : State) : Keeps s (countTt per f k s) := by
  simp only [countTt]
  (repeat' split) <;> simp +contextual

@[simp] theorem ttTake_keeps (cls : CellClass) (ep : BitVec 4) (dest : BitVec 18) (s : State) :
    Keeps s (ttTake cls ep dest s) := by
  exact foldl_keeps_of (fun s k => .ite (countTt_keeps ..) (.refl s)) _ _

@[simp] theorem ttDrop_keeps (per : Bool) (k : Nat) (s : State) : Keeps s (ttDrop per k s) := by
  simp only [ttDrop]
  (repeat' split) <;> simp +contextual

@[simp] theorem writeCells_keeps (pkt : IngressPacket) (s : State) : Keeps s (writeCells pkt s) := by
  simp only [writeCells]
  (repeat' split) <;> simp +contextual

theorem ingress_keeps {deliver : IngressPacket → State → State} (hd : ∀ p s, Keeps s (deliver p s)) (pkt : IngressPacket) (s : State) :
    Keeps s (ingress deliver pkt s) := by
  simp only [ingress]
  refine .ite (countStream_keeps ..) (.ite ?_ (.ite (countStream_keeps ..) (.ite (emit_keeps ..) (by simp))))
  refine .trans (.trans (.ite ?_ (.refl s)) (writeCells_keeps ..)) (hd _ _)
  exact foldl_keeps_of (fun s e => makeRoom_keeps ..) _ s

theorem enter_keeps {deliver : IngressPacket → State → State} (hd : ∀ p s, Keeps s (deliver p s)) (pkt : IngressPacket) (s : State) :
    Keeps s (enter deliver pkt s) :=
  .ite (by simp) (ingress_keeps hd pkt s)

@[simp] theorem retryWaiting_keeps (s : State) : Keeps s (retryWaiting s) := by
  refine .trans (by simp) (foldl_keeps_of (fun s pkt => enter_keeps (fun _ s => .refl s) pkt s) _ _)

theorem writePort_keeps {deliver : IngressPacket → State → State} (hd : ∀ p s, Keeps s (deliver p s)) (n : Nat)
    (l : List IngressPacket) (s : State) : Keeps s (writePort deliver n l s) := by
  induction n generalizing l s with
  | zero => exact .refl s
  | succ n ih =>
    simp only [writePort]
    split
    · exact .trans (.trans (by simp) (enter_keeps hd _ _)) (ih _ _)
    · exact .refl s

@[simp] theorem egressBytes_keeps (c : Cell) (s : State) : Keeps s (egressBytes c s).2 := by
  simp only [egressBytes]
  (repeat' split) <;> simp +contextual

@[simp] theorem raiseTimes_keeps (src : BitVec 12) (n : Nat) (s : State) : Keeps s (raiseTimes src n s) := by
  induction n generalizing s with
  | zero => exact .refl s
  | succ n ih => exact (raiseFault_keeps src s).trans (ih _)

@[simp] theorem spoilCell_keeps (i : Nat) (c : Cell) (s : State) : Keeps s (spoilCell i c s) := by
  simp only [spoilCell]
  simp +contextual

@[simp] theorem ttLeave_keeps (e : Nat) (c : Cell) (s : State) : Keeps s (ttLeave e c s) := by
  simp only [ttLeave]
  (repeat' split) <;> simp +contextual

@[simp] theorem readCell_keeps (cls e : Nat) (s : State) : Keeps s (readCell cls e s) := by
  simp only [readCell]
  split
  · exact .refl s
  · refine .trans (t := { s with sw := { s.sw with rr := listSet s.sw.rr cls e } }) (by simp) ?_
    split
    · exact setQueue_keeps ..
    · refine .ite ?_ ?_
      · refine .trans (.trans ?_ (ttLeave_keeps ..)) (.ite (emit_keeps ..) (.refl _))
        exact .trans (.trans (.ite (.refl _) (spoilCell_keeps ..)) (setQueue_keeps ..)) (releaseCells_keeps ..)
      · refine .trans (.trans (.trans ?_ (setQueue_keeps ..)) (releaseCell_keeps ..)) (ttLeave_keeps ..)
        exact (raiseTimes_keeps ..).trans ((egressBytes_keeps ..).trans (emit_keeps ..))

@[simp] theorem settleRefs_keeps (s : State) : Keeps s (settleRefs s) := by
  simp only [settleRefs]
  simp +contextual

theorem setSw_keeps {s t : State} (h : Keeps s t) {x : Switch} (hq : x.queues.length = t.sw.queues.length)
    (hl : x.links.length = t.sw.links.length) : Keeps s { t with sw := x } := by
  refine h.trans ?_
  simp [hq, hl]

@[simp] theorem audit_keeps (s : State) : Keeps s (audit s) := by
  simp only [audit]
  have settled (n : Nat) (l : List (Nat × Bool)) (t : Tick) : Keeps s (settleRefs { raiseTimes 0o3022 n s with
      sw := { (raiseTimes 0o3022 n s).sw with leaked := l, twice := [], lastAudit := t } }) :=
    (setSw_keeps (raiseTimes_keeps 0o3022 n s) rfl rfl).trans (settleRefs_keeps _)
  exact .ite (((settled ..).trans (raiseFault_keeps ..)).trans (post_keeps ..)) (settled ..)

@[simp] theorem setLink_keeps (k : Nat) (l : LinkCtl) (s : State) : Keeps s (setLink k l s) := by
  simp only [setLink]
  simp +contextual

@[simp] theorem endHold_keeps (k outcome iso : Nat) (s : State) : Keeps s (endHold k outcome iso s) := by
  simp only [endHold]
  simp +contextual

@[simp] theorem flushLink_keeps (cut : Bool) (k : Nat) (s : State) : Keeps s (flushLink cut k s) := by
  simp only [flushLink]
  (repeat' split) <;> simp +contextual

@[simp] theorem setLinkState_keeps (k : Nat) (x : LinkState) (s : State) : Keeps s (setLinkState k x s) := by
  simp only [setLinkState]
  (repeat' split) <;> simp +contextual

@[simp] theorem linkDown_keeps (k : Nat) (dst : LinkState) (s : State) : Keeps s (linkDown k dst s) := by
  simp only [linkDown]
  (repeat' split) <;> simp +contextual

@[simp] theorem linkReturn_keeps (k : Nat) (s : State) : Keeps s (linkReturn k s) := by
  simp only [linkReturn]
  (repeat' split) <;> simp +contextual

@[simp] theorem stashUncorrectable_keeps (g : Nat) (s : State) : Keeps s (stashUncorrectable g s) := by
  simp only [stashUncorrectable]
  (repeat' split) <;> simp +contextual

@[simp] theorem scrubStash_keeps (s : State) : Keeps s (scrubStash s) := by
  simp only [scrubStash]
  (repeat' split) <;> simp +contextual

@[simp] theorem scrubCell_keeps (s : State) : Keeps s (scrubCell s) := by
  simp only [scrubCell]
  (repeat' split) <;> simp +contextual

/-! ## Trees -/

@[simp] theorem mapPort_keeps (k : Nat) (f : DownPortState → DownPortState) (s : State) : Keeps s (mapPort k f s) := by
  simp only [mapPort]
  simp +contextual

@[simp] theorem mapSide_keeps (usb3 : Bool) (k : Nat) (f : Side → Side) (s : State) : Keeps s (mapSide usb3 k f s) := by
  simp only [mapSide]
  (repeat' split) <;> simp +contextual

@[simp] theorem mapStreams_keeps (p : Stream → Bool) (f : Stream → Stream) (s : State) : Keeps s (mapStreams p f s) := by
  simp only [mapStreams]
  simp +contextual

@[simp] theorem mapDevs_keeps (p : OwnedDev → Bool) (f : OwnedDev → OwnedDev) (s : State) : Keeps s (mapDevs p f s) := by
  simp only [mapDevs]
  simp +contextual

@[simp] theorem setCtx_keeps (c : Nat) (x : Option Ctx) (s : State) : Keeps s (setCtx c x s) := by
  simp only [setCtx]
  simp +contextual

@[simp] theorem releaseCtx_keeps (c : Nat) (s : State) : Keeps s (releaseCtx c s) := by
  simp only [releaseCtx]
  (repeat' split) <;> simp +contextual

theorem setOwn_keeps {s t : State} (h : Keeps s t) {x : Owned} (hc : x.ctxs.length = t.own.ctxs.length)
    (ht : x.tdm.length = t.own.tdm.length) : Keeps s { t with own := x } := by
  refine h.trans ?_
  simp [hc, ht]

@[simp] theorem stopStreams_keeps (p : Stream → Bool) (s : State) : Keeps s (stopStreams p s) := by
  simp only [stopStreams]
  refine setOwn_keeps (foldl_keeps_of (fun s x => ?_) _ s) rfl rfl
  split
  · exact releaseCtx_keeps ..
  · exact .refl s

@[simp] theorem releaseKeys_keeps (addr : Nat) (s : State) : Keeps s (releaseKeys addr s) := by
  simp only [releaseKeys]
  simp +contextual

@[simp] theorem linkOf_keeps (k : Nat) (super : Bool) (x : LinkState) (s : State) : Keeps s (linkOf k super x s) := by
  simp only [linkOf]
  (repeat' split) <;> simp +contextual

@[simp] theorem flushPort_keeps (k : Nat) (s : State) : Keeps s (flushPort k s) := by
  simp only [flushPort]
  (repeat' split) <;> simp +contextual

@[simp] theorem settleReserved_keeps (k : Nat) (s : State) : Keeps s (settleReserved k s) := by
  simp only [settleReserved]
  simp +contextual

@[simp] theorem forgetDevice_keeps (d : OwnedDev) (s : State) : Keeps s (forgetDevice d s) := by
  simp only [forgetDevice]
  simp +contextual

@[simp] theorem detachDevice_keeps (fault : Bool) (d : OwnedDev) (s : State) : Keeps s (detachDevice fault d s) := by
  simp only [detachDevice]
  (repeat' split) <;> simp +contextual

@[simp] theorem clearFailures_keeps (k hubPort : Nat) (s : State) : Keeps s (clearFailures k hubPort s) := by
  simp only [clearFailures]
  (repeat' split) <;> simp +contextual

@[simp] theorem detachTree_keeps (k hubPort : Nat) (fault : Bool) (s : State) : Keeps s (detachTree k hubPort fault s) := by
  simp only [detachTree]
  have detached : Keeps s (clearFailures k hubPort ((lostDevices k hubPort s).foldl (fun s d => detachDevice fault d s) s)) :=
    (foldl_keeps_of (fun s d => detachDevice_keeps fault d s) _ s).trans (clearFailures_keeps ..)
  exact .ite (detached.trans (flushPort_keeps ..)) detached

@[simp] theorem forgetTree_keeps (k hubPort : Nat) (s : State) : Keeps s (forgetTree k hubPort s) := by
  simp only [forgetTree]
  simp +contextual

/-! ## Flex -/

@[simp] theorem mapFlex_keeps (n : Nat) (f : Flex → Flex) (s : State) : Keeps s (mapFlex n f s) := by
  simp only [mapFlex]
  simp +contextual

@[simp] theorem settleCc_keeps (n : Nat) (s : State) : Keeps s (settleCc n s) := by
  simp only [settleCc]
  simp +contextual

@[simp] theorem sendCaps_keeps (n reason : Nat) (answered : Bool) (s : State) : Keeps s (sendCaps n reason answered s) := by
  simp only [sendCaps]
  simp +contextual

@[simp] theorem pdDone_keeps (n status : Nat) (s : State) : Keeps s (pdDone n status s) := by
  simp only [pdDone]
  (repeat' split) <;> simp +contextual

@[simp] theorem pdDoneIf_keeps (n code status : Nat) (s : State) : Keeps s (pdDoneIf n code status s) := by
  simp only [pdDoneIf]
  (repeat' split) <;> simp +contextual

@[simp] theorem pdGone_keeps (n : Nat) (s : State) : Keeps s (pdGone n s) := by
  simp only [pdGone]
  (repeat' split) <;> simp +contextual

@[simp] theorem flexOff_keeps (n : Nat) (s : State) : Keeps s (flexOff n s) := by
  simp only [flexOff]
  simp +contextual

@[simp] theorem postDetach_keeps (n power energy : Nat) (s : State) : Keeps s (postDetach n power energy s) := by
  simp only [postDetach]
  simp +contextual

@[simp] theorem sourceDetach_keeps (n : Nat) (s : State) : Keeps s (sourceDetach n s) := by
  simp only [sourceDetach]
  simp +contextual

@[simp] theorem hardReset_keeps (n : Nat) (sent : Bool) (s : State) : Keeps s (hardReset n sent s) := by
  simp only [hardReset]
  (repeat' split) <;> simp +contextual

@[simp] theorem trip_keeps (n cause : Nat) (s : State) : Keeps s (trip n cause s) := by
  simp only [trip]
  (repeat' split) <;> simp +contextual

@[simp] theorem rearm_keeps (n state : Nat) (s : State) : Keeps s (rearm n state s) := by
  simp only [rearm]
  simp +contextual

@[simp] theorem endLatch_keeps (n : Nat) (s : State) : Keeps s (endLatch n s) := by
  simp only [endLatch]
  (repeat' split) <;> simp +contextual

/-! ## EFuse -/

@[simp] theorem finishRemoval_keeps (n : Nat) (s : State) : Keeps s (finishRemoval n s) := by
  simp only [finishRemoval]
  (repeat' split) <;> simp +contextual

@[simp] theorem stepHardReset_keeps (n : Nat) (s : State) : Keeps s (stepHardReset n s) := by
  simp only [stepHardReset]
  (repeat' split) <;> simp +contextual

@[simp] theorem stepErrorRecovery_keeps (n : Nat) (s : State) : Keeps s (stepErrorRecovery n s) := by
  simp only [stepErrorRecovery]
  (repeat' split) <;> simp +contextual

@[simp] theorem enterFallback_keeps (n : Nat) (s : State) : Keeps s (enterFallback n s) := by
  simp only [enterFallback]
  simp +contextual

@[simp] theorem portSet_keeps (s : State) (n : Nat) : Keeps s (portSet s n) := by
  simp only [portSet]
  (repeat' split) <;> simp +contextual

@[simp] theorem checkVhi_keeps (s : State) : Keeps s (checkVhi s) := by
  simp only [checkVhi]
  (repeat' split) <;> simp +contextual

@[simp] theorem sampleSet_keeps (a : AdcSet) (s : State) : Keeps s (sampleSet a s) := by
  simp only [sampleSet]
  refine .trans ?_ (foldl_keeps_of (fun s n => portSet_keeps s n) _ _)
  refine .trans ?_ (.ite (checkVhi_keeps _) (.refl _))
  refine .trans ?_ (foldl_keeps_of (f := fun s n => mapFlex n (fun f =>
    { f with iA := a.iA.getD n 0, iB := a.iB.getD n 0, vbus := a.vbus.getD n 0 }) s) (fun s n => mapFlex_keeps ..) _ _)
  simp

@[simp] theorem alertPort_keeps (s : State) (n : Nat) : Keeps s (alertPort s n) := by
  simp only [alertPort]
  (repeat' split) <;> simp +contextual

@[simp] theorem setPfail_keeps (on : Bool) (s : State) : Keeps s (setPfail on s) := by
  simp only [setPfail]
  (repeat' split) <;> simp +contextual

/-! ## Pd -/

@[simp] theorem postAttach_keeps (n role : Nat) (cc2 : Bool) (s : State) : Keeps s (postAttach n role cc2 s) := by
  simp only [postAttach]
  simp +contextual

@[simp] theorem hear_keeps (n : Nat) (rev2 : Bool) (s : State) : Keeps s (hear n rev2 s) := by
  simp only [hear]
  simp +contextual

@[simp] theorem takeRequest_keeps (n : Nat) (r : PdRequest) (s : State) : KeepsLive s (takeRequest n r s) := by
  simp only [takeRequest]
  (repeat' split) <;> simp +contextual

@[simp] theorem startDeferred_keeps (n : Nat) (s : State) : Keeps s (startDeferred n s) := by
  simp only [startDeferred]
  (repeat' split) <;> simp +contextual

@[simp] theorem sinkLeaves_keeps (n : Nat) (s : State) : Keeps s (sinkLeaves n s) := by
  simp only [sinkLeaves]
  simp +contextual

@[simp] theorem postVconn_keeps (n : Nat) (merged oc : Bool) (s : State) : Keeps s (postVconn n merged oc s) := by
  simp only [postVconn]
  simp +contextual

@[simp] theorem turnVconn_keeps (n : Nat) (psRdy : Bool) (s : State) : Keeps s (turnVconn n psRdy s).1 := by
  simp only [turnVconn]
  (repeat' split) <;> simp +contextual

@[simp] theorem partnerSwap_keeps (n : Nat) (psRdy : Bool) (s : State) : Keeps s (partnerSwap n psRdy s) := by
  simp only [partnerSwap]
  (repeat' split) <;> simp +contextual

@[simp] theorem ownSwap_keeps (n : Nat) (answer : Answer) (psRdy : Bool) (s : State) : Keeps s (ownSwap n answer psRdy s) := by
  simp only [ownSwap]
  (repeat' split) <;> simp +contextual

@[simp] theorem sourceMessage_keeps (n : Nat) (m : PdMsg) (s : State) : Keeps s (sourceMessage n m s) := by
  simp only [sourceMessage]
  (repeat' split) <;> simp +contextual

@[simp] theorem sinkMessage_keeps (n : Nat) (m : PdMsg) (s : State) : Keeps s (sinkMessage n m s) := by
  simp only [sinkMessage]
  (repeat' split) <;> simp +contextual

@[simp] theorem postAlt_keeps (n state : Nat) (s : State) : Keeps s (postAlt n state s) := by
  simp only [postAlt]
  simp +contextual

@[simp] theorem startPd_keeps (n code : Nat) (s : State) : Keeps s (startPd n code s) := by
  simp only [startPd]
  simp +contextual

/-! ## Face -/

@[simp] theorem cutPower_keeps (k : Nat) (s : State) : Keeps s (cutPower k s) := by
  simp only [cutPower]
  (repeat' split) <;> simp +contextual

@[simp] theorem restorePower_keeps (k : Nat) (s : State) : Keeps s (restorePower k s) := by
  simp only [restorePower]
  (repeat' split) <;> simp +contextual

@[simp] theorem endReset_keeps (k : Nat) (place : Option Nat) (s : State) : Keeps s (endReset k place s) := by
  simp only [endReset]
  (repeat' split) <;> simp +contextual

@[simp] theorem disown_keeps (s : State) (k : Nat) : Keeps s (disown s k) := by
  simp only [disown]
  (repeat' split) <;> simp +contextual

@[simp] theorem followRole_keeps (old : List Table) (s : State) (n : Nat) : Keeps s (followRole old s n) := by
  simp only [followRole]
  (repeat' split) <;> simp +contextual

@[simp] theorem endOwnerChange_keeps (k : Nat) (s : State) : Keeps s (endOwnerChange k s) := by
  simp only [endOwnerChange]
  (repeat' split) <;> simp +contextual

@[simp] theorem portOff_keeps (s : State) (k : Nat) : Keeps s (portOff s k) := by
  simp only [portOff]
  (repeat' split) <;> simp +contextual

@[simp] theorem hubDefaults_keeps (s : State) : Keeps s (hubDefaults s) := by
  simp only [hubDefaults]
  simp +contextual

@[simp] theorem flushUpstream_keeps (s : State) : Keeps s (flushUpstream s) := by
  simp only [flushUpstream]
  simp +contextual

@[simp] theorem busReset_keeps (s : State) : Keeps s (busReset s) := by
  simp only [busReset]
  refine .trans ?_ (setGuard_keeps ..)
  refine .trans ?_ (foldl_keeps_of (fun s n => portOff_keeps s n) _ _)
  refine .trans (.trans ?_ (flushUpstream_keeps _)) ((hubDefaults_keeps _).trans (cutUsbMailbox_keeps _))
  simp

@[simp] theorem closeUsbSession_keeps (s : State) : Keeps s (closeUsbSession s) := by
  simp only [closeUsbSession]
  (repeat' split) <;> simp +contextual

@[simp] theorem upstreamOff_keeps (s : State) : Keeps s (upstreamOff s) := by
  simp only [upstreamOff]
  simp +contextual

@[simp] theorem presentFace_keeps (f : Face) (superSpeed highSpeed : Bool) (s : State) :
    Keeps s (presentFace f superSpeed highSpeed s) := by
  simp only [presentFace]
  (repeat' split) <;> simp +contextual

@[simp] theorem postFace_keeps (old new : Option Face) (reason : Nat) (s : State) : Keeps s (postFace old new reason s) := by
  simp only [postFace]
  (repeat' split) <;> simp +contextual

@[simp] theorem leaveFace_keeps (s : State) : Keeps s (leaveFace s) := by
  simp only [leaveFace]
  simp +contextual

@[simp] theorem endSwitch_keeps (status : Nat) (s : State) : Keeps s (endSwitch status s) := by
  simp only [endSwitch]
  (repeat' split) <;> simp +contextual

@[simp] theorem loseFace_keeps (s : State) : Keeps s (loseFace s) := by
  simp only [loseFace]
  (repeat' split) <;> simp +contextual

@[simp] theorem beginSwitch_keeps (s : State) : Keeps s (beginSwitch s) := by
  simp only [beginSwitch]
  (repeat' split) <;> simp +contextual

@[simp] theorem switchFace_keeps (superSpeed highSpeed : Bool) (s : State) : Keeps s (switchFace superSpeed highSpeed s) := by
  simp only [switchFace]
  (repeat' split) <;> simp +contextual

@[simp] theorem wakeFace_keeps (s : State) : Keeps s (wakeFace s) := by
  simp only [wakeFace]
  (repeat' split) <;> simp +contextual

@[simp] theorem settleSelect_keeps (s : State) : Keeps s (settleSelect s) := by
  simp only [settleSelect]
  (repeat' split) <;> simp +contextual

/-! ## HubPorts -/

theorem onPort_keeps {f : Nat → State → State} (hf : ∀ k s, Keeps s (f k s)) (usb3 : Bool) (n : Nat) (s : State) :
    Keeps s (onPort usb3 n f s) :=
  .ite (.refl s) (.ite (emit_keeps _ s) (hf _ s))

@[simp] theorem hostPowerOff_keeps (usb3 : Bool) (k : Nat) (s : State) : Keeps s (hostPowerOff usb3 k s) := by
  simp only [hostPowerOff]
  (repeat' split) <;> simp +contextual

@[simp] theorem hostPowerOn_keeps (usb3 : Bool) (k : Nat) (s : State) : Keeps s (hostPowerOn usb3 k s) := by
  simp only [hostPowerOn]
  (repeat' split) <;> simp +contextual

@[simp] theorem featureRequest_keeps (usb3 set : Bool) (f : PortFeature) (value k : Nat) (s : State) :
    Keeps s (featureRequest usb3 set f value k s) := by
  simp only [featureRequest]
  (repeat' split) <;> simp +contextual

@[simp] theorem resumeFace_keeps (collides : Bool) (s : State) : Keeps s (resumeFace collides s) := by
  simp only [resumeFace]
  (repeat' split) <;> simp +contextual

@[simp] theorem connectChange_keeps (k : Nat) (connected : Bool) (speed : Speed) (s : State) :
    Keeps s (connectChange k connected speed s) := by
  simp only [connectChange]
  (repeat' split) <;> simp +contextual

@[simp] theorem hsOverCurrent_keeps (k : Nat) (s : State) : Keeps s (hsOverCurrent k s) := by
  simp only [hsOverCurrent]
  (repeat' split) <;> simp +contextual

@[simp] theorem forceOff_keeps (k : Nat) (s : State) : Keeps s (forceOff k s) := by
  simp only [forceOff]
  (repeat' split) <;> simp +contextual

@[simp] theorem allowPower_keeps (k : Nat) (s : State) : Keeps s (allowPower k s) := by
  simp only [allowPower]
  simp +contextual

theorem portPower_keeps {run : Command → Nat → State → State} (hrun : ∀ c k s, Keeps s (run c k s)) (v : Command → Bool) (s : State) :
    KeepsLive s (portPower v run s) :=
  immediateCommand_keeps (fun c s => hrun c _ s) _ _ _ _ s

/-! ## Function -/

@[simp] theorem playback_keeps (bytes : List Byte) (s : State) : Keeps s (playback bytes s) := by
  simp only [playback]
  (repeat' split) <;> simp +contextual

/-! ## Owned -/

@[simp] theorem endTree_keeps (k : Nat) (s : State) : Keeps s (endTree k s) := by
  simp only [endTree]
  (repeat' split) <;> simp +contextual

@[simp] theorem endPlace_keeps (k hubPort : Nat) (s : State) : Keeps s (endPlace k hubPort s) := by
  simp only [endPlace]
  (repeat' split) <;> simp +contextual

@[simp] theorem takeDevice_keeps (c : Decision) (s : State) : Keeps s (takeDevice c s) := by
  simp only [takeDevice]
  refine .trans (t := settleReserved _ _) ?_ (.ite (.trans (post_keeps ..) (foldl_keeps_of (fun s _ => post_keeps ..) _ _)) (post_keeps ..))
  refine .trans (setOwn_keeps (foldl_keeps_of (fun s x => ?_) _ s) rfl rfl) (settleReserved_keeps ..)
  split
  · exact setCtx_keeps ..
  · exact .refl s

@[simp] theorem attemptReset_keeps (k hubPort : Nat) (speed : Speed) (s : State) : Keeps s (attemptReset k hubPort speed s) := by
  simp only [attemptReset]
  (repeat' split) <;> simp +contextual

@[simp] theorem enumerate_keeps (k hubPort : Nat) (d : UsbDevice) (s : State) : Keeps s (enumerate k hubPort d s) := by
  simp only [enumerate]
  (repeat' split) <;> simp +contextual

@[simp] theorem enumFails_keeps (k hubPort : Nat) (speed : Speed) (ids : Option (BitVec 16 × BitVec 16)) (s : State) :
    Keeps s (enumFails k hubPort speed ids s) := by
  simp only [enumFails]
  (repeat' split) <;> simp +contextual

@[simp] theorem detachPlace_keeps (k hubPort : Nat) (s : State) : Keeps s (detachPlace k hubPort s) := by
  simp only [detachPlace]
  (repeat' split) <;> simp +contextual

@[simp] theorem keyChange_keeps (d : OwnedDev) (now : List (Nat × Nat × Nat)) (s : State) (b : KeyBinding) :
    Keeps s (keyChange d now s b) := by
  simp only [keyChange]
  (repeat' split) <;> simp +contextual

@[simp] theorem hubPoll_keeps (k : Nat) (changed connected : BitVec 16) (s : State) :
    Keeps s (hubPoll k changed connected s) := by
  simp only [hubPoll]
  have polled (f : OwnedDev → Bool) (g : OwnedDev → OwnedDev) (p : State → Nat → Bool) (l : List Nat) :
      Keeps s (l.foldl (fun s i => if p s i then detachPlace k i s else s) (mapDevs f g s)) :=
    (mapDevs_keeps ..).trans (foldl_keeps_of (fun s i => .ite (detachPlace_keeps ..) (.refl s)) _ _)
  exact .ite ((polled ..).trans (endTree_keeps ..)) (polled ..)

@[simp] theorem wakeDevice_keeps (s : State) (d : OwnedDev) : Keeps s (wakeDevice s d) := by
  simp only [wakeDevice]
  (repeat' split) <;> simp +contextual

@[simp] theorem renewPlace_keeps (k hubPort : Nat) (s : State) : Keeps s (renewPlace k hubPort s) := by
  simp only [renewPlace]
  (repeat' split) <;> simp +contextual

@[simp] theorem settleOwner_keeps (s : State) : Keeps s (settleOwner s) := by
  simp only [settleOwner]
  (repeat' split) <;> simp +contextual

@[simp] theorem beginOwned_keeps (k : Nat) (s : State) : Keeps s (beginOwned k s) := by
  simp only [beginOwned]
  (repeat' split) <;> simp +contextual

@[simp] theorem refuseOwned_keeps (k : Nat) (s : State) : Keeps s (refuseOwned k s) := by
  simp only [refuseOwned]
  (repeat' split) <;> simp +contextual

@[simp] theorem driveReset_keeps (k : Nat) (s : State) : Keeps s (driveReset k s) := by
  simp only [driveReset]
  (repeat' split) <;> simp +contextual

@[simp] theorem beginPass_keeps (k : Nat) (s : State) : Keeps s (beginPass k s) := by
  simp only [beginPass]
  (repeat' split) <;> simp +contextual

@[simp] theorem showSide_keeps (usb3 : Bool) (k : Nat) (s : State) : Keeps s (showSide usb3 k s) := by
  simp only [showSide]
  (repeat' split) <;> simp +contextual

@[simp] theorem finishPass_keeps (k : Nat) (s : State) : Keeps s (finishPass k s) := by
  simp only [finishPass]
  simp +contextual

/-! ## Tags -/

@[simp] theorem streamPacket_keeps (x : Stream) (start : Nat) (frames : List (List (BitVec 24))) (s : State) :
    Keeps s (streamPacket x start frames s) := by
  simp only [streamPacket]
  split
  · exact (countStream_keeps ..).trans ((setCtx_keeps ..).trans (mapStreams_keeps ..))
  · exact (countStream_keeps ..).trans (mapStreams_keeps ..)

@[simp] theorem dspTakes_keeps (pkt : IngressPacket) (s : State) : Keeps s (dspTakes pkt s) := by
  refine .ite (.refl s) (.ite (by simp) ?_)
  split
  · exact streamPacket_keeps ..
  · exact .refl s

@[simp] theorem takeOwned_keeps (t : Nat) (s : State) : Keeps s (takeOwned t s).2 := by
  simp only [takeOwned]
  refine .trans (t := { s with own := { s.own with ending := [] } }) (by simp) (foldl_snd_keeps_of (p := ([], _)) (fun p x => ?_) _)
  split
  · exact .refl _
  · exact (mapStreams_keeps ..).trans (countStream_keeps ..)

@[simp] theorem sendPackets_keeps (k : Nat) (x : Stream) (s : State) : Keeps s (sendPackets k x s).2 := by
  induction k generalizing x s with
  | zero => exact .refl s
  | succ k ih =>
    simp only [sendPackets]
    split
    · exact .refl s
    · exact (ingress_keeps (fun p s => dspTakes_keeps p s) _ s).trans (ih _ _)

@[simp] theorem feedOwned_keeps (t : Nat) (out : List (Nat × List Int)) (s : State) : Keeps s (feedOwned t out s) := by
  simp only [feedOwned]
  refine foldl_keeps_of (fun s x => .ite ?_ (.refl s)) _ s
  exact (sendPackets_keeps ..).trans (mapStreams_keeps ..)

@[simp] theorem startStreams_keeps (s : State) : Keeps s (startStreams s) := by
  simp only [startStreams]
  simp +contextual

@[simp] theorem tickPasses_keeps (s : State) : Keeps s (tickPasses s) := by
  simp only [tickPasses]
  (repeat' split) <;> simp +contextual

@[simp] theorem takeTdm_keeps (t port : Nat) (s : State) : Keeps s (takeTdm t port s).2 := by
  simp only [takeTdm]
  (repeat' split) <;> simp +contextual

@[simp] theorem tagFaults_keeps (base : Nat) (counter crc fail : Bool) (s : State) :
    Keeps s (tagFaults base counter crc fail s) := by
  simp only [tagFaults]
  exact .trans (.trans (.ite (raiseFault_keeps ..) (.refl s)) (.ite (raiseFault_keeps ..) (.refl _)))
    (.ite (raiseFault_keeps ..) (.refl _))

@[simp] theorem reportCtx_keeps (port loc first : Nat) (x : Ctx) (s : State) : Keeps s (reportCtx port loc first x s).2 := by
  simp only [reportCtx]
  (repeat' split) <;> simp +contextual

@[simp] theorem tagBoundary_keeps (s : State) : Keeps s (tagBoundary s) := by
  simp only [tagBoundary]
  refine .trans (.trans (.trans (.trans (by simp) (tagFaults_keeps ..)) (foldl_keeps_of (fun s p => tagFaults_keeps ..) _ _))
    (foldl_keeps_of (fun s c => ?_) _ _)) (foldl_keeps_of (fun s p => ?_) _ _)
  · split
    · exact .refl s
    · exact (reportCtx_keeps ..).trans (setCtx_keeps ..)
  · exact setOwn_keeps (reportCtx_keeps ..) rfl (by simp)

/-! ## Governor -/

@[simp] theorem takeSensors_keeps (inp : BlockInputs) (s : State) : Keeps s (takeSensors inp s) := by
  simp only [takeSensors]
  (repeat' split) <;> simp +contextual

@[simp] theorem postGovernor_keeps (s : State) : Keeps s (postGovernor s) := by
  simp only [postGovernor]
  (repeat' split) <;> simp +contextual

@[simp] theorem postVariant_keeps (s : State) (x : Nat × Nat) : Keeps s (postVariant s x) := by
  simp only [postVariant]
  (repeat' split) <;> simp +contextual

@[simp] theorem setAllocations_keeps (d : Decided) (s : State) : Keeps s (setAllocations d s) := by
  simp only [setAllocations]
  simp +contextual

@[simp] theorem governor_keeps (inp : BlockInputs) (s : State) : Keeps s (governor inp s).2.2 := by
  simp only [governor]
  simp +contextual

@[simp] theorem runSteps_keeps (vs : List Nat) (rs : List VoutResult) (s : State) : Keeps s (runSteps vs rs s).2 := by
  induction vs generalizing rs s with
  | nil => exact .refl s
  | cons v vs ih =>
    cases rs with
    | nil => exact .refl s
    | cons r rs =>
      simp only [runSteps]
      have sent : Keeps s (if 1 ≤ r.failures then emit (voutCommand v (emit (voutCommand v s) s)) (emit (voutCommand v s) s)
          else emit (voutCommand v s) s) :=
        .ite ((emit_keeps ..).trans (emit_keeps ..)) (emit_keeps ..)
      split
      · exact sent.trans (raiseFault_keeps ..)
      · split
        · exact sent.trans (raiseFault_keeps ..)
        · exact (sent.trans (by simp)).trans (ih _ _)

@[simp] theorem levelChange_keeps (results : List VoutResult) (s : State) : Keeps s (levelChange results s) := by
  simp only [levelChange]
  split
  · exact .trans (t := { s with pwr := { s.pwr with pl := s.pwr.target } }) (by simp) (runSteps_keeps ..)
  · exact runSteps_keeps ..

/-! ## Power -/

theorem pwrEnter_keeps {run : Command → State → State} (hrun : ∀ c s, Keeps s (run c s)) (v : Command → Bool) (s : State) :
    KeepsLive s (pwrEnter v run s) :=
  longCommand_keeps hrun _ _ _ _ s

@[simp] theorem settleRequest_keeps (s : State) : Keeps s (settleRequest s) := by
  simp only [settleRequest]
  (repeat' split) <;> simp +contextual

@[simp] theorem stopVoices_keeps (s : State) : Keeps s (stopVoices s) := by
  simp [stopVoices]

@[simp] theorem suspendTrees_keeps (s : State) : Keeps s (suspendTrees s) := by
  simp only [suspendTrees]
  simp +contextual

@[simp] theorem quiesce_keeps (s : State) : Keeps s (quiesce s) := by
  simp only [quiesce]
  simp +contextual

@[simp] theorem postWake_keeps (faulty abandoned : Bool) (left : PowerState) (secs : Nat) (s : State) :
    Keeps s (postWake faulty abandoned left secs s) := by
  simp only [postWake]
  simp +contextual

@[simp] theorem abandonEntry_keeps (s : State) : Keeps s (abandonEntry s) := by
  simp only [abandonEntry]
  simp +contextual

@[simp] theorem loseBanks_keeps (mask : BitVec 8) (s : State) : Keeps s (loseBanks mask s) := by
  refine foldl_keeps_of (fun s k => .ite ?_ (.refl s)) _ s
  exact stashClear_keeps _ _ s

@[simp] theorem stopClocks_keeps (s : State) : Keeps s (stopClocks s) := by
  simp only [stopClocks]
  simp +contextual

@[simp] theorem dropLink_keeps (s : State) : Keeps s (dropLink s) := by
  simp only [dropLink]
  simp +contextual

@[simp] theorem finishSleep_keeps (s : State) : Keeps s (finishSleep s) := by
  simp only [finishSleep]
  simp +contextual

@[simp] theorem enterHibernate_keeps (s : State) : Keeps s (enterHibernate s) := by
  have unpowered (t : State) (z : Zones) (r : Rails) : Keeps t { t with
      ports := t.ports.map (fun p => { p with powered := false, attached := false })
      flex := t.flex.map (fun f => { f with disch := false, dischSets := 0 }), zon := z, rails := r } := by simp
  have stopped (t : State) (c : Clock) (p : Power) : Keeps t (syncOff { t with
      clk := c, mem := { t.mem with bankOn := 0, stash := [], stashErr := [] }, pwr := p }) := by simp [Memory.wf_nil]
  simp only [enterHibernate]
  refine .trans (.trans (.trans ?_ (unpowered _ _ _)) (stopClocks_keeps _)) (stopped _ _ _)
  refine .trans ((quiesce_keeps s).trans (upstreamOff_keeps _)) (foldl_keeps_of (fun s n => ?_) _ _)
  exact .ite ((pdGone_keeps ..).trans (mapFlex_keeps ..)) (pdGone_keeps ..)

@[simp] theorem settleHibernate_keeps (s : State) : Keeps s (settleHibernate s) := by
  simp only [settleHibernate]
  (repeat' split) <;> simp +contextual

@[simp] theorem aonFault_keeps (source : BitVec 12) (s : State) : Keeps s (aonFault source s) := by
  simp only [aonFault]
  (repeat' split) <;> simp +contextual

@[simp] theorem clearBankExtents_keeps (mask : BitVec 8) (s : State) : Keeps s (clearBankExtents mask s) := by
  refine foldl_keeps_of (fun s d => ?_) _ s
  split
  · exact clearExtents_keeps ..
  · exact .refl s

@[simp] theorem loseBank7_keeps (s : State) : Keeps s (loseBank7 s) := by
  simp only [loseBank7]
  simp +contextual

@[simp] theorem checkRetention_keeps (lost : BitVec 8) (s : State) : Keeps s (checkRetention lost s) := by
  simp only [checkRetention]
  refine .trans (.trans (.trans (.trans (.trans (loseBanks_keeps ..) (foldl_keeps_of (fun s k => .ite (raiseFault_keeps ..) (.refl s)) _ _))
    (clearBankExtents_keeps ..)) (.ite (loseBank7_keeps _) (.refl _))) (.ite ?_ (.refl _))) (post_keeps ..)
  simp

theorem slept_keeps (periods : Nat) (s : State) : Kept s (tickReturns (asleepTime periods s)) :=
  .op (tickReturns_keeps _) (.op (asleepTime_keeps ..) (.refl s))

theorem on_keeps (t : State) (c : Clock) (p : Power) : Keeps t { t with clk := c, pwr := p, mem := { t.mem with bankOn := 0xFF } } := by simp

theorem wokeAt_keeps (t : State) : Keeps t { t with own := { t.own with wokeAt := some t.clk.tick } } := by simp

theorem resumePorts_keeps (s : State) (k : Nat) :
    Keeps s (if (portOf k s).owned && (portOf k s).attached then emit (.portResume (k + 1)) s else s) :=
  .ite (emit_keeps ..) (.refl s)

@[simp] theorem wakeFromSleep_keeps (periods : Nat) (lost : BitVec 8) (s : State) : Keeps s (wakeFromSleep periods lost s) := by
  have slept := slept_keeps periods s
  refine Kept.keeps ?_
  unfold wakeFromSleep
  generalize tickReturns (asleepTime periods s) = t at slept ⊢
  generalize List.range 10 = l
  have awake (t : State) : Kept t (wakeFace (keepReenter { t with pwr := { t.pwr with waking := false } })) :=
    .op (wakeFace_keeps _) (.op (keepReenter_keeps _) (.write (.refl t)))
  refine .op (groupDone_keeps ..) (.op (postWake_keeps ..) (.write ?_))
  refine .op (awake _).keeps ?_
  refine .op (wokeAt_keeps _) (.foldl resumePorts_keeps (.write ?_))
  refine .op (checkRetention_keeps ..) ?_
  exact .op (clearChains_keeps _) (.op (syncOff_keeps _) (.op (trimBanks_keeps _) (.op (on_keeps t _ _) slept)))

/-! ## Pavane -/

@[simp] theorem keepAlarm_keeps (s : State) : Keeps s (keepAlarm s) := by
  simp only [keepAlarm]
  (repeat' split) <;> simp +contextual

@[simp] theorem observe_keeps (r : PavRun) (s : State) : Keeps s (observe r s) := by
  simp only [observe]
  (repeat' split) <;> simp +contextual

@[simp] theorem startRun_keeps (mask : Nat) (byCommand : Bool) (cur : PavResult) (s : State) :
    Keeps s (startRun mask byCommand cur s) := by
  simp only [startRun]
  simp +contextual

@[simp] theorem attempt_keeps (s : State) : Keeps s (attempt s) := by
  simp only [attempt]
  (repeat' split) <;> simp +contextual

@[simp] theorem raiseFail_keeps (k : Nat) (s : State) (src : BitVec 12) : Keeps s (raiseFail k s src) := by
  simp only [raiseFail]
  (repeat' split) <;> simp +contextual

@[simp] theorem postReplan_keeps (l : Nat) (s : State) : Keeps s (postReplan l s) := by
  simp only [postReplan]
  simp +contextual

theorem setMargin_keeps (l m : Nat) (s : State) : Keeps s (setMargin l m s) := by simp

@[simp] theorem raiseOffset_keeps (l old m : Nat) (s : State) : Keeps s (raiseOffset l old m s) := by
  simp only [raiseOffset]
  simp +contextual

@[simp] theorem retirePl0_keeps (s : State) : Keeps s (retirePl0 s) := by
  simp only [retirePl0]
  simp +contextual

theorem replan_keeps (l : Nat) (ms : List Nat) (s t : State) (b : Bool) (h : replan l ms s = some (t, b)) : Keeps s t := by
  induction ms generalizing s with
  | nil => cases h
  | cons m ms ih =>
    have set := setMargin_keeps l m s
    simp only [replan] at h
    split at h
    · split at h
      · split at h
        · cases h
        · exact (set.trans (raiseOffset_keeps ..)).trans (ih _ h)
      · split at h
        · cases h
          exact set.trans (retirePl0_keeps _)
        · cases h
          exact set
    · cases h
      exact set

theorem measureLevel_keeps (l : Nat) (rep : StepReport) (s t : State) (b : Bool) (h : measureLevel l rep s = some (t, b)) : Keeps s t := by
  simp only [measureLevel] at h
  split at h
  · exact .trans (by simp) (replan_keeps _ _ _ _ _ h)
  · cases h
    simp

theorem burnOffsets_keeps (s : State) : Keeps s (burnOffsets s) := by simp

@[simp] theorem stepDone_keeps (r : PavRun) (s : State) : Keeps s (stepDone r s) := by
  simp only [stepDone]
  (repeat' split) <;> simp +contextual

@[simp] theorem ageingStep_keeps (r : PavRun) (rep : StepReport) (s : State) : Keeps s (ageingStep r rep s) := by
  simp only [ageingStep]
  split
  · exact .refl s
  · rename_i t bad h
    have measured := measureLevel_keeps _ _ _ _ _ h
    have failed (l : List (BitVec 12)) (r' : PavRun) : Keeps s (if bad = true then raiseFault 0o5017 (l.foldl (raiseFail 10) t) else l.foldl (raiseFail 10) t) := by
      have reported := measured.trans (foldl_keeps_of (fun s a => raiseFail_keeps 10 s a) l t)
      exact .ite (reported.trans (raiseFault_keeps ..)) reported
    exact .ite (((failed _ r).trans (burnOffsets_keeps _)).trans (stepDone_keeps ..)) (failed _ r)

@[simp] theorem otherStep_keeps (k : Nat) (r : PavRun) (rep : StepReport) (s : State) : Keeps s (otherStep k r rep s) := by
  refine .ite (stepDone_keeps ..) (.ite (stepDone_keeps ..) ?_)
  refine .trans ?_ (stepDone_keeps ..)
  exact (foldl_keeps_of (fun s n => failMessage_keeps n s) _ s).trans (foldl_keeps_of (fun s n => raiseFail_keeps ..) _ _)

/-! ## Cfg -/

@[simp] theorem takeChanges_keeps (cs : List Change) (s : State) : Keeps s (takeChanges cs s) := by
  simp only [takeChanges]
  refine (fun h => .ite h h) ?_
  refine .trans ?_ (.ite (foldl_keeps_of (fun s n => followRole_keeps ..) _ _) (.refl _))
  refine .trans ?_ (.ite (by simp) (.refl _))
  refine .trans ?_ (.ite (syncZones_keeps ..) (.refl _))
  exact .trans (by simp) (.ite (applyRouteTable_keeps ..) (.refl _))

@[simp] theorem runCfgWrite_keeps (c : Command) (s : State) : Keeps s (runCfgWrite c s).2 := by
  simp only [runCfgWrite]
  simp +contextual

@[simp] theorem runCfgDiscard_keeps (s : State) : Keeps s (runCfgDiscard s).2 := by
  simp only [runCfgDiscard]
  simp +contextual

@[simp] theorem writeOverlayRegion_keeps (bs : List Byte) (s : State) : Keeps s (writeOverlayRegion bs s) := by
  simp only [writeOverlayRegion]
  simp +contextual

@[simp] theorem commitDone_keeps (op : CommitOp) (s : State) : Keeps s (commitDone op s) := by
  refine Kept.keeps ?_
  unfold commitDone
  cases regionOf 3 op.copy s with
  | none => exact .refl s
  | some e =>
    refine .op (groupDone_keeps ..) (.write (.op (takeChanges_keeps ..) ?_))
    exact .op (writeOverlayRegion_keeps ..) (.op (flashWrite_keeps ..) (.op (flashErase_keeps ..) (.refl s)))

@[simp] theorem rejectImage_keeps (slot reason : Nat) (s : State) : Keeps s (rejectImage slot reason s) := by
  simp only [rejectImage]
  (repeat' split) <;> simp +contextual

@[simp] theorem checkSlots_keeps (readA readB : Bool) (ks : List Nat) (s : State) : Keeps s (checkSlots readA readB ks s).2 := by
  induction ks generalizing s with
  | nil => exact .refl s
  | cons k ks ih =>
    cases h : checkSlot k (if k = 0 then readA else readB) s with
    | inl r =>
      rw [checkSlots_fails ks h]
      exact (rejectImage_keeps k r s).trans (ih _)
    | inr i =>
      rw [checkSlots_passes ks h]
      exact ih s

@[simp] theorem ctiEnds_keeps (w : SlotWrite) (ok : Bool) (s : State) : Keeps s (ctiEnds w ok s) := by
  unfold ctiEnds
  split
  · exact (rejectImage_keeps ..).trans (groupDone_keeps ..)
  · exact .trans (by simp) (groupDone_keeps ..)

@[simp] theorem fwEnds_keeps (w : FwWrite) (ok : Bool) (s : State) : Keeps s (fwEnds w ok s) := by
  simp only [fwEnds]
  (repeat' split) <;> simp +contextual

@[simp] theorem cfgCompletes_keeps (ok : Bool) (s : State) : Keeps s (cfgCompletes ok s) := by
  simp only [cfgCompletes]
  (repeat' split) <;> simp +contextual

/-! ## Security -/

@[simp] theorem postSession_keeps (b : Box) (scope opened : Bool) (reason : Nat) (s : State) :
    Keeps s (postSession b scope opened reason s) := by
  simp only [postSession]
  simp +contextual

@[simp] theorem closeSession_keeps (b : Box) (reason : Nat) (s : State) : Keeps s (closeSession b reason s) := by
  simp only [closeSession]
  (repeat' split) <;> simp +contextual

@[simp] theorem openSession_keeps (c : Command) (s : State) : Keeps s (openSession c s).2 := by
  simp only [openSession]
  simp +contextual

@[simp] theorem secOpen_keeps (s : State) : KeepsLive s (secOpen s) := by
  simp only [secOpen]
  (repeat' split) <;> simp +contextual

theorem provision_keeps (v : Command → Bool) (op : Command → State → SecOp) (s : State) : KeepsLive s (provision v op s) :=
  longCommand_keeps (fun c s => by simp) _ _ _ _ s

@[simp] theorem secCompletes_keeps (ok : Bool) (s : State) : Keeps s (secCompletes ok s) := by
  simp only [secCompletes]
  (repeat' split) <;> simp +contextual

@[simp] theorem alarmA1_keeps (s : State) : Keeps s (alarmA1 s) := by
  simp only [alarmA1]
  simp +contextual

@[simp] theorem burnEpoch_keeps (s : State) : Keeps s (burnEpoch s) := by
  refine Kept.keeps ?_
  unfold burnEpoch
  refine .ite ?_ (.write (.refl s))
  generalize [0, 1] = l
  refine .write (.foldl (fun s k => ?_) (.refl s))
  split
  · exact flashErase_keeps _ _ s
  · exact .refl s

@[simp] theorem alarmA2_keeps (s : State) : Keeps s (alarmA2 s) := by
  simp only [alarmA2]
  (repeat' split) <;> simp +contextual

@[simp] theorem takeAction_keeps (a : Nat) (s : State) : Keeps s (takeAction a s) := by
  simp only [takeAction]
  (repeat' split) <;> simp +contextual

@[simp] theorem assertTamper_keeps (cause : Nat) (s : State) : Keeps s (assertTamper cause s) := by
  simp only [assertTamper]
  (repeat' split) <;> simp +contextual

/-! ## Boot -/

@[simp] theorem runBootRom_keeps (s : State) : Keeps s (runBootRom s) := by
  simp only [runBootRom]
  (repeat' split) <;> simp +contextual

@[simp] theorem timeToLock_keeps (periods : Nat) (s : State) : Keeps s (timeToLock periods s) := by
  simp only [timeToLock]
  (repeat' split) <;> simp +contextual

@[simp] theorem finishStart_keeps (outcome : Nat) (s : State) : Keeps s (finishStart outcome s) := by
  simp only [finishStart]
  (repeat' split) <;> simp +contextual

@[simp] theorem runUnconfigured_keeps (s : State) : Keeps s (runUnconfigured s) := by
  refine Kept.keeps ?_
  have unowned := Kept.foldl (l := List.range 10) (f := fun s k => cutPower k (disown s k))
    (fun t k => (disown_keeps t k).trans (cutPower_keeps k _)) (.refl s)
  unfold runUnconfigured
  generalize (List.range 10).foldl (fun s k => cutPower k (disown s k)) s = t at unowned ⊢
  exact .op (finishStart_keeps ..) (.write (.write unowned))

@[simp] theorem discardLoads_keeps (s : State) : Keeps s (discardLoads s) := by
  simp only [discardLoads]
  (repeat' split) <;> simp +contextual

@[simp] theorem startFirmware_keeps (s : State) : Keeps s (startFirmware s) := by
  simp only [startFirmware]
  (repeat' split) <;> simp +contextual

@[simp] theorem chooseCti_keeps (readA readB : Bool) (s : State) : Keeps s (chooseCti readA readB s) := by
  have checked := checkSlots_keeps readA readB [0, 1] s
  refine Kept.keeps ?_
  unfold chooseCti
  generalize checkSlots readA readB [0, 1] s = p at checked ⊢
  obtain ⟨is, t⟩ := p
  cases (if s.boot.warmBusy then keptImage s else none) with
  | some img => exact .write (.refl s)
  | none =>
    dsimp only at checked ⊢
    cases newestImage is with
    | some img => exact .write (.write (.op checked (.refl s)))
    | none =>
      have unconfigured (b : Boot) : Kept s (runUnconfigured { t with boot := b }) :=
        .op (runUnconfigured_keeps _) (.write (.op checked (.refl s)))
      exact unconfigured _

@[simp] theorem takeOverlay_keeps (a : Activation) (img : Image) (s : State) : Keeps s (takeOverlay a img s).2 := by
  simp only [takeOverlay]
  split
  · exact .refl s
  · exact .trans (.trans (foldl_keeps_of (fun s _ => raiseFault_keeps ..) _ s) (loaderWrite_keeps ..)) (loaderWrite_keeps ..)

@[simp] theorem settleCommit_keeps (same : Bool) (s : State) : Keeps s (settleCommit same s) := by
  simp only [settleCommit]
  (repeat' split) <;> simp +contextual

@[simp] theorem takeImage_keeps (a : Activation) (img : Image) (s : State) : Keeps s (takeImage a img s) := by
  simp only [takeImage]
  (repeat' split) <;> simp +contextual

@[simp] theorem activateZones_keeps (a : Activation) (old : List Table) (s : State) : Keeps s (activateZones a old s) := by
  refine Kept.keeps ?_
  have left (s : State) (z : Zone) : Keeps s (leaveVoice z.num s) := leaveVoice_keeps ..
  have kept (z w : Zones) : Kept s { syncZones old true { s with zon := z } with zon := w } :=
    .write (.op (syncZones_keeps ..) (.write (.refl s)))
  have first (z : Zones) : Kept s (syncZones old false { s with zon := z }) := .op (syncZones_keeps ..) (.write (.refl s))
  have init (l : List Zone) (z w : Zones) : Kept s (syncZones [] false
      { l.foldl (fun s z => leaveVoice z.num s) { s with zon := z } with zon := w }) :=
    .op (syncZones_keeps ..) (.write (.foldl left (.write (.refl s))))
  unfold activateZones
  cases a with
  | kept => exact .ite (kept _ _) (init ..)
  | load => exact first _
  | reload => exact first _
  | cold => exact init ..
  | warmLoad => exact init ..

@[simp] theorem clearDest_keeps (s : State) (d0 : Dest) : Keeps s (clearDest s d0) := by
  simp only [clearDest]
  (repeat' split) <;> simp +contextual

@[simp] theorem activateAudio_keeps (a : Activation) (old : List Table) (s : State) : Keeps s (activateAudio a old s) := by
  exact .ite (.refl s) (.trans (foldl_keeps_of (fun s d => clearDest_keeps ..) _ s) (foldl_keeps_of (fun s e => applyEntry_keeps ..) _ _))

@[simp] theorem activateTdm_keeps (a : Activation) (old : List Table) (s : State) : Keeps s (activateTdm a old s) := by
  simp only [activateTdm]
  exact foldl_keeps_of (fun s p => .ite (by simp) (.ite (by simp) (.refl s))) _ s

@[simp] theorem activateOwner_keeps (first : Bool) (old : List Table) (s : State) (k : Nat) :
    Keeps s (activateOwner first old s k) := by
  simp only [activateOwner]
  (repeat' split) <;> simp +contextual

@[simp] theorem activatePort_keeps (old : List Table) (s : State) (k : Nat) : Keeps s (activatePort old s k) := by
  simp only [activatePort]
  (repeat' split) <;> simp +contextual

@[simp] theorem softReset_keeps (s : State) (n : Nat) : Keeps s (softReset s n) := by
  simp only [softReset]
  (repeat' split) <;> simp +contextual

@[simp] theorem warmTrees_keeps (s : State) : Keeps s (warmTrees s) := by
  simp only [warmTrees]
  exact .ite (.refl s) (.trans (by simp) (foldl_keeps_of (fun s k => .ite (renewPlace_keeps ..) (.refl s)) _ _))

@[simp] theorem activatePorts_keeps (a : Activation) (first : Bool) (own old : List Table) (s : State) :
    Keeps s (activatePorts a first own old s) := by
  simp only [activatePorts]
  have ports : Keeps s ((List.range 10).foldl (activatePort (if first then [] else old)) ((List.range 10).foldl (activateOwner first own) s)) :=
    (foldl_keeps_of (fun s k => activateOwner_keeps ..) _ s).trans (foldl_keeps_of (fun s k => activatePort_keeps ..) _ _)
  exact .ite ((ports.trans (foldl_keeps_of (fun s n => softReset_keeps ..) _ _)).trans (warmTrees_keeps _)) ports

@[simp] theorem reportActivation_keeps (a : Activation) (s : State) : Keeps s (reportActivation a s) := by
  simp only [reportActivation]
  (repeat' split) <;> simp +contextual

@[simp] theorem recheckWaiting_keeps (s : State) : KeepsLive s (recheckWaiting s) := by
  simp only [recheckWaiting]
  split
  · exact (Keeps.refl s).live
  · split
    · exact (Keeps.refl s).live
    · exact .trans (by simp) (answer_keeps ..)

@[simp] theorem activate_keeps (img : Image) (s : State) : KeepsLive s (activate img s) := by
  unfold activate
  refine (Kept.keeps ?_).live.trans (recheckWaiting_keeps _)
  refine .op (reportActivation_keeps ..) (.op (syncOff_keeps _) (.op (trimBanks_keeps _) (.write ?_)))
  refine .op (concludeStart_keeps ..) (.op (activatePorts_keeps ..) ?_)
  refine .op (activateReturn_keeps ..) (.op (activateTdm_keeps ..) (.op (assignPairs_keeps _) (.op (activateAudio_keeps ..) ?_)))
  refine .op (loadOutputs_keeps _) (.op (activateZones_keeps ..) ?_)
  exact .op (loadSeverity_keeps _) (.write (.op (takeImage_keeps ..) (.refl s)))

/-! ## Block -/

theorem boundaryEffect_keeps (c : Command) (s t : State) (rs : List Word) (h : boundaryEffect c s = some (rs, t)) : Keeps s t := by
  have pair {p : List Word × State} (hp : some p = some (rs, t)) (hk : Keeps s p.2) : Keeps s t := by
    cases hp
    exact hk
  unfold boundaryEffect at h
  split at h
  · exact pair h (runCfgWrite_keeps c s)
  · exact pair h (runCfgDiscard_keeps s)
  · exact pair h (runRouteSet_keeps c s)
  · exact pair h (runRouteClear_keeps c s)
  · exact pair h (runTrigger_keeps c s)
  · exact pair h (runRelease_keeps c s)
  · exact pair h (runMute_keeps c s)
  · exact pair h (runSetEq_keeps c s)
  · exact pair h (runSetDelay_keeps c s)
  · exact pair h (runSetDynamics_keeps c s)
  · exact pair h (runDelayFormat_keeps c s)
  · exact pair h (runPlay_keeps c s)
  · exact pair h (runStop_keeps c s)
  · cases h

@[simp] theorem runWaiting_keeps (s : State) : KeepsLive s (runWaiting s) := by
  unfold runWaiting
  cases s.mbx.waits with
  | none => exact (Keeps.refl s).live
  | some c =>
    have taken : Keeps s { s with mbx := { s.mbx with waits := none } } := by simp
    dsimp only
    split
    · exact taken.live.trans (releaseAtBoundary_keeps ..)
    · split
      · rename_i h
        exact (taken.trans (boundaryEffect_keeps _ _ _ _ h)).live.trans (answer_keeps ..)
      · exact taken.live

@[simp] theorem zoneWork_keeps (inp : BlockInputs) (s : State) : Keeps s (zoneWork inp s) := by
  simp only [zoneWork]
  simp +contextual

@[simp] theorem playSources_keeps (s : State) : Keeps s (playSources s).2 := by
  simp only [playSources]
  (repeat' split) <;> simp +contextual

@[simp] theorem voiceSources_keeps (muted : List Nat) (s : State) : Keeps s (voiceSources muted s).2 := by
  simp only [voiceSources]
  refine foldl_snd_keeps_of (p := ([], s)) (fun p v => ?_) _
  split
  · exact .refl _
  · split
    · exact .refl _
    · exact (setVoice_keeps ..).trans (countStream_keeps ..)

@[simp] theorem gatherSources_keeps (muted : List Nat) (s : State) : Keeps s (gatherSources muted s).2 := by
  refine Kept.keeps ?_
  simp only [gatherSources]
  exact .op (voiceSources_keeps ..) (.op (takeOwned_keeps ..) (.op (takeTdm_keeps ..) (.op (takeTdm_keeps ..)
    (.op (playSources_keeps _) (.refl s)))))

@[simp] theorem deadlineCheck_keeps (missed : List Nat) (s : State) : Keeps s (deadlineCheck missed s) := by
  simp only [deadlineCheck]
  simp +contextual

@[simp] theorem feedCapture_keeps (s : State) : Keeps s (feedCapture s) := by
  simp only [feedCapture]
  (repeat' split) <;> simp +contextual

@[simp] theorem feedTdm_keeps (s : State) : Keeps s (feedTdm s) := by
  unfold feedTdm
  refine foldl_keeps_of (fun s p => ?_) _ s
  split
  · exact .refl s
  · have crossed := crossIso_keeps 12 (BitVec.ofNat 18 (2 ^ (13 + p))) tdmBlockCells (tdmStream p 1 s) s
    generalize crossIso 12 (BitVec.ofNat 18 (2 ^ (13 + p))) tdmBlockCells (tdmStream p 1 s) s = q at crossed ⊢
    exact setOwn_keeps crossed rfl (listModify_length ..)

@[simp] theorem pairFaults_keeps (m : BitVec 4) (s : State) : Keeps s (pairFaults m s) := by
  refine foldl_keeps_of (fun s k => .ite (raiseFault_keeps ..) (.refl s)) _ s

@[simp] theorem settleRp_keeps (s : State) : Keeps s (settleRp s) := by
  simp only [settleRp]
  simp +contextual

@[simp] theorem audioWork_keeps (inp : BlockInputs) (s : State) : Keeps s (audioWork inp s) := by
  refine Kept.keeps ?_
  simp only [audioWork]
  refine .op (feedOwned_keeps ..) (.op (feedTdm_keeps _) (.op (feedCapture_keeps _) ?_))
  refine .op (pairFaults_keeps ..) (.op (processBlock_keeps ..) (.op (deadlineCheck_keeps ..) (.write ?_)))
  exact .op (gatherSources_keeps ..) (.op (startStreams_keeps _) (.op (settleRp_keeps _) (.op (governor_keeps ..) (.refl s))))

@[simp] theorem takeSnapshot_keeps (inp : BlockInputs) (s : State) : Keeps s (takeSnapshot inp s) := by
  simp only [takeSnapshot]
  simp +contextual

@[simp] theorem takeUpset_keeps (s : State) (u : Upset) : Keeps s (takeUpset s u) := by
  simp only [takeUpset]
  (repeat' split) <;> simp +contextual

@[simp] theorem afterWake_keeps (s : State) : Keeps s (afterWake s) := by
  simp only [afterWake]
  (repeat' split) <;> simp +contextual

@[simp] theorem settleCommands_keeps (s : State) : Keeps s (settleCommands s) := by
  simp only [settleCommands]
  (repeat' split) <;> simp +contextual

@[simp] theorem readOverCurrent_keeps (low : BitVec 6) (s : State) : Keeps s (readOverCurrent low s) := by
  simp only [readOverCurrent]
  simp +contextual

@[simp] theorem boundaryEnd_keeps (inp : BlockInputs) (s : State) : Keeps s (boundaryEnd inp s) := by
  refine Kept.keeps ?_
  simp only [boundaryEnd]
  refine (fun h => .ite (.write h) h) ?_
  refine .op (kickWatchdog_keeps ..) (.op (sweepTrips_keeps _) (.foldl (fun s u => takeUpset_keeps s u) ?_))
  refine .op (releaseLines_keeps ..) (.op (keepRecord_keeps _) (.op (takeSnapshot_keeps ..) ?_))
  refine .op (readOverCurrent_keeps ..) (.op (checkFaces_keeps _) ?_)
  refine .op (keepAlarm_keeps _) (.op (settleCommands_keeps _) (.op (tagBoundary_keeps _) ?_))
  exact .op (postLost_keeps _) (.op (postCounts_keeps _) (.refl s))

@[simp] theorem boundary_keeps (inp : BlockInputs) (s : State) : KeepsLive s (boundary inp s) := by
  unfold boundary
  extract_lets s₁ s₂ s₃
  have h₁ : KeepsLive s s₁ :=
    (((afterWake_keeps s).trans (announceSafe_keeps _)).live.trans (runWaiting_keeps _)).trans (Kept.write (.refl _)).keeps.live
  refine h₁.trans (Kept.keeps ?_).live
  refine .op (settleHibernate_keeps _) (.write (.op (boundaryEnd_keeps ..) ?_))
  exact .ite (.refl s₁) (.op (audioWork_keeps ..) (.op (zoneWork_keeps ..) (.refl s₁)))

@[simp] theorem startBlock_keeps (inp : BlockInputs) (s : State) : Keeps s (startBlock inp s) := by
  refine Kept.keeps ?_
  simp only [startBlock]
  refine .write (.op (kickWatchdog_keeps ..) (.op (sweepTrips_keeps _) (.foldl (fun s u => takeUpset_keeps s u) ?_)))
  exact .op (releaseLines_keeps ..) (.op (takeSnapshot_keeps ..) (.op (readOverCurrent_keeps ..) (.refl s)))

/-! ## The commands -/

/-- What every next state of a result keeps. -/
structure NextKeeps (s : State) (r : Result) : Prop where
  next : ∀ t, r = .next t → KeepsLive s t

theorem effect_keeps {f : State → State} (hf : ∀ s, KeepsLive s (f s)) {s : State} : NextKeeps s (effect f s) := by
  refine ⟨fun t h => ?_⟩
  cases h
  exact .trans (s := s) (t := fresh s) (by simp [fresh]) (hf _)

theorem fault_keeps (s : State) (e : Fault) : NextKeeps s (.fault e) := by
  refine ⟨fun t h => ?_⟩
  cases h

theorem execRootPllLock_keeps (s : State) : NextKeeps s (execRootPllLock s) := by
  refine effect_keeps (fun s => ?_)
  dsimp only
  (repeat' split) <;> simp +contextual

theorem execBootRomStart_keeps (readA readB : Bool) (s : State) : NextKeeps s (execBootRomStart readA readB s) := by
  refine effect_keeps (fun s => ?_)
  (repeat' split) <;> simp +contextual

theorem execFirmwareStart_keeps (readA readB : Bool) (s : State) : NextKeeps s (execFirmwareStart readA readB s) := by
  refine effect_keeps (fun s => ?_)
  (repeat' split) <;> simp +contextual

theorem execCtiActivation_keeps (s : State) : NextKeeps s (execCtiActivation s) := by
  refine effect_keeps (fun s => ?_)
  split
  · split
    · exact activate_keeps ..
    · exact (Keeps.refl s).live
  · exact (Keeps.refl s).live

theorem execCtiReload_keeps (readA readB : Bool) (s : State) : NextKeeps s (execCtiReload readA readB s) := by
  refine effect_keeps (fun s => ?_)
  dsimp only
  (repeat' split) <;> simp +contextual

theorem execWatchdogKickMissed_keeps (s : State) : NextKeeps s (execWatchdogKickMissed s) := by
  refine effect_keeps (fun s => ?_)
  (repeat' split) <;> simp +contextual

theorem execWatchdogReset_keeps (s : State) : NextKeeps s (execWatchdogReset s) := by
  refine effect_keeps (fun s => ?_)
  (repeat' split) <;> simp +contextual

theorem execFirstWatchdogKick_keeps (s : State) : NextKeeps s (execFirstWatchdogKick s) := by
  refine effect_keeps (fun s => ?_)
  dsimp only
  (repeat' split) <;> simp +contextual

theorem execLoaderData_keeps (s : State) : NextKeeps s (execLoaderData s) := by
  refine effect_keeps (fun s => ?_)
  dsimp only
  (repeat' split) <;> simp +contextual

theorem execLoaderRun_keeps (s : State) : NextKeeps s (execLoaderRun s) := by
  refine effect_keeps (fun s => ?_)
  dsimp only
  (repeat' split) <;> simp +contextual

theorem execDirectoryRebuilt_keeps (s : State) : NextKeeps s (execDirectoryRebuilt s) := by
  refine effect_keeps (fun s => ?_)
  dsimp only
  (repeat' split) <;> simp +contextual

theorem execBlockBoundary_keeps (inp : BlockInputs) (s : State) : NextKeeps s (execBlockBoundary inp s) := by
  refine effect_keeps (fun s => ?_)
  (repeat' split) <;> simp +contextual

theorem execAmbientUpdate_keeps (s : State) : NextKeeps s (execAmbientUpdate s) := by
  exact effect_keeps (fun s => by simp)

theorem execHeartbeatLoss_keeps (s : State) : NextKeeps s (execHeartbeatLoss s) := by
  refine effect_keeps (fun s => ?_)
  dsimp only
  (repeat' split) <;> simp +contextual

theorem execMicroframeStart_keeps (s : State) : NextKeeps s (execMicroframeStart s) := by
  refine effect_keeps (fun s => ?_)
  (repeat' split) <;> simp +contextual

theorem execTdmFrameOut_keeps (s : State) : NextKeeps s (execTdmFrameOut s) := by
  refine effect_keeps (fun s => ?_)
  dsimp only
  (repeat' split) <;> simp +contextual

theorem execTdmFrameIn_keeps (port : Fin 2) (slots : List Word) (trailer : BitVec 12) (s : State) : NextKeeps s (execTdmFrameIn port slots trailer s) := by
  unfold execTdmFrameIn
  split
  · refine effect_keeps (fun s => Keeps.live (.ite ?_ (.refl s)))
    exact setOwn_keeps (.refl s) rfl (listModify_length ..)
  · exact fault_keeps s _

theorem execClockMonitorFault_keeps (check : Fin 5) (s : State) : NextKeeps s (execClockMonitorFault check s) := by
  refine effect_keeps (fun s => ?_)
  dsimp only
  (repeat' split) <;> simp +contextual

theorem execReferenceRestored_keeps (s : State) : NextKeeps s (execReferenceRestored s) := by
  refine effect_keeps (fun s => ?_)
  (repeat' split) <;> simp +contextual

theorem execRcRetrim_keeps (s : State) : NextKeeps s (execRcRetrim s) := by
  refine effect_keeps (fun s => ?_)
  (repeat' split) <;> simp +contextual

theorem execPatrolScrub_keeps (s : State) : NextKeeps s (execPatrolScrub s) := by
  exact effect_keeps (fun s => ((scrubStash_keeps s).trans (scrubCell_keeps _)).live)

theorem execScrubPassLate_keeps (m : ScrubMem) (s : State) : NextKeeps s (execScrubPassLate m s) := by
  refine effect_keeps (fun s => ?_)
  dsimp only
  (repeat' split) <;> simp +contextual

theorem execFreeListAudit_keeps (s : State) : NextKeeps s (execFreeListAudit s) := by
  refine effect_keeps (fun s => ?_)
  (repeat' split) <;> simp +contextual

theorem execCellIngress_keeps (pkts : List IngressPacket) (s : State) : NextKeeps s (execCellIngress pkts s) := by
  unfold execCellIngress
  split
  · exact effect_keeps (fun s => (writePort_keeps (fun p s => dspTakes_keeps p s) ..).live)
  · exact fault_keeps s _

theorem execCellEgress_keeps (ready : BitVec 18) (s : State) : NextKeeps s (execCellEgress ready s) := by
  refine effect_keeps (fun s => Keeps.live ?_)
  split
  · exact (readCell_keeps ..).trans (retryWaiting_keeps _)
  · exact .refl s

theorem execQueueFlush_keeps (dest : Fin 18) (s : State) : NextKeeps s (execQueueFlush dest s) := by
  exact effect_keeps (fun s => ((flush_keeps ..).trans (retryWaiting_keeps _)).live)

theorem execLinkDown_keeps (k : Fin 5) (dst : LinkState) (s : State) : NextKeeps s (execLinkDown k dst s) := by
  exact effect_keeps (fun s => Keeps.live (linkDown_keeps ..))

theorem execLinkHoldReturn_keeps (k : Fin 5) (s : State) : NextKeeps s (execLinkHoldReturn k s) := by
  refine effect_keeps (fun s => Keeps.live ?_)
  split
  · exact .ite (linkReturn_keeps ..) (.refl s)
  · exact .refl s

theorem execLinkHoldExpired_keeps (k : Fin 5) (s : State) : NextKeeps s (execLinkHoldExpired k s) := by
  refine effect_keeps (fun s => ?_)
  dsimp only
  (repeat' split) <;> simp +contextual

theorem execMspiFrameError_keeps (m : List Bool) (s : State) : NextKeeps s (execMspiFrameError m s) := by
  unfold execMspiFrameError
  split
  · exact fault_keeps s _
  · exact effect_keeps (fun s => (frameError_keeps ..).live)

theorem execRegisterWrite_keeps (p : Path) (a : BitVec 13) (d : Word) (s : State) : NextKeeps s (execRegisterWrite p a d s) := by
  exact effect_keeps (fun s => Keeps.live (pathWrite_keeps ..))

theorem execAonPostedWrite_keeps (s : State) : NextKeeps s (execAonPostedWrite s) := by
  exact effect_keeps (fun s => Keeps.live (applyOldest_keeps ..))

theorem execShadowLatchRead_keeps (p : Path) (a : BitVec 13) (s : State) : NextKeeps s (execShadowLatchRead p a s) := by
  exact effect_keeps (fun s => Keeps.live (pathRead_keeps ..))

theorem execUnlock_keeps (p : Path) (d : Word) (s : State) : NextKeeps s (execUnlock p d s) := by
  exact effect_keeps (fun s => Keeps.live (pathWrite_keeps ..))

theorem execGuardUnlockExpiry_keeps (p : Path) (s : State) : NextKeeps s (execGuardUnlockExpiry p s) := by
  refine effect_keeps (fun s => ?_)
  (repeat' split) <;> simp +contextual

theorem execGuardedWrite_keeps (p : Path) (a : BitVec 13) (d : Word) (s : State) : NextKeeps s (execGuardedWrite p a d s) := by
  unfold execGuardedWrite
  split
  · exact effect_keeps (fun s => (pathWrite_keeps ..).live)
  · exact fault_keeps s _

theorem execFaultAcknowledge_keeps (p : Path) (c : Fin 6) (w : AckWrite) (s : State) : NextKeeps s (execFaultAcknowledge p c w s) := by
  exact effect_keeps (fun s => ((pathWrite_keeps ..).trans (latchFaults_keeps ..)).live)

theorem execMbxInData_keeps (p : Path) (d : Word) (s : State) : NextKeeps s (execMbxInData p d s) := by
  exact effect_keeps (fun s => Keeps.live (pathWrite_keeps ..))

theorem execMbxInLast_keeps (p : Path) (d : Word) (s : State) : NextKeeps s (execMbxInLast p d s) := by
  exact effect_keeps (fun s => Keeps.live (pathWrite_keeps ..))

theorem execMbxInFlush_keeps (p : Path) (d : Word) (s : State) : NextKeeps s (execMbxInFlush p d s) := by
  exact effect_keeps (fun s => Keeps.live (pathWrite_keeps ..))

theorem execMbxOutData_keeps (p : Path) (s : State) : NextKeeps s (execMbxOutData p s) := by
  exact effect_keeps (fun s => Keeps.live (pathRead_keeps ..))

theorem execRegisterVendorRead_keeps (u : Setup) (again : Bool) (s : State) : NextKeeps s (execRegisterVendorRead u again s) := by
  exact effect_keeps (fun s => Keeps.live (vendorRead_keeps ..))

theorem execRegisterVendorWrite_keeps (u : Setup) (d : BitVec 24) (completes : Bool) (s : State) : NextKeeps s (execRegisterVendorWrite u d completes s) := by
  exact effect_keeps (fun s => Keeps.live (vendorWrite_keeps ..))

theorem execBulkOutPacket_keeps (bytes : List Byte) (s : State) : NextKeeps s (execBulkOutPacket bytes s) := by
  unfold execBulkOutPacket
  split
  · exact effect_keeps (fun s => (bulkOut_keeps ..).live)
  · exact fault_keeps s _

theorem execBulkInToken_keeps (event : Bool) (s : State) : NextKeeps s (execBulkInToken event s) := by
  exact effect_keeps (fun s => Keeps.live (bulkIn_keeps ..))

theorem execPacketComplete_keeps (b : Box) (k : Fin 4) (d : Word) (s : State) : NextKeeps s (execPacketComplete b k d s) := by
  refine effect_keeps (fun s => ?_)
  dsimp only
  (repeat' split) <;> simp +contextual

theorem execEventsLost_keeps (w0 : Word) (params : List Word) (s : State) : NextKeeps s (execEventsLost w0 params s) := by
  refine effect_keeps (fun s => ?_)
  (repeat' split) <;> simp +contextual

theorem execSessionCounterExhausted_keeps (b : Box) (s : State) : NextKeeps s (execSessionCounterExhausted b s) := by
  refine effect_keeps (fun s => Keeps.live ?_)
  split
  · exact .ite (closeSession_keeps ..) (.refl s)
  · exact .refl s

theorem execSysInfo_keeps (s : State) : NextKeeps s (execSysInfo s) := by
  exact effect_keeps (fun s => immediateCommand_keeps (fun c s => readOtp_keeps s) ..)

theorem execSysStatus_keeps (s : State) : NextKeeps s (execSysStatus s) := by
  exact effect_keeps (fun s => immediateCommand_keeps (fun c s => by simp) ..)

theorem execSysHeartbeat_keeps (s : State) : NextKeeps s (execSysHeartbeat s) := by
  exact effect_keeps (fun s => immediateCommand_keeps (fun c s => by simp) ..)

theorem execSysReset_keeps (s : State) : NextKeeps s (execSysReset s) := by
  exact effect_keeps (fun s => longCommand_keeps (fun c s => by simp) ..)

theorem execSysTimeSet_keeps (s : State) : NextKeeps s (execSysTimeSet s) := by
  exact effect_keeps (fun s => immediateCommand_keeps
    (fun c s => ((postAon_keeps ..).trans (postAon_keeps ..)).trans (postAon_keeps ..)) ..)

theorem execSysUpstreamSelect_keeps (s : State) : NextKeeps s (execSysUpstreamSelect s) := by
  exact effect_keeps (fun s => longCommand_keeps (fun c s => by simp) ..)

theorem execCfgRead_keeps (s : State) : NextKeeps s (execCfgRead s) := by
  exact effect_keeps (fun s => immediateCommand_keeps (fun c s => by simp) ..)

theorem execCfgWrite_keeps (s : State) : NextKeeps s (execCfgWrite s) := by
  exact effect_keeps (fun s => boundaryCommand_keeps ..)

theorem execCfgCommit_keeps (s : State) : NextKeeps s (execCfgCommit s) := by
  exact effect_keeps (fun s => longCommand_keeps (fun c s => by simp) ..)

theorem execCfgCommitDone_keeps (s : State) : NextKeeps s (execCfgCommitDone s) := by
  refine effect_keeps (fun s => Keeps.live ?_)
  split
  · exact .ite (commitDone_keeps ..) (.refl s)
  · exact .refl s

theorem execCfgCommitTimeout_keeps (s : State) : NextKeeps s (execCfgCommitTimeout s) := by
  refine effect_keeps (fun s => ?_)
  dsimp only
  (repeat' split) <;> simp +contextual

theorem execCfgDiscard_keeps (s : State) : NextKeeps s (execCfgDiscard s) := by
  exact effect_keeps (fun s => boundaryCommand_keeps ..)

theorem execCfgLoad_keeps (readA readB : Bool) (s : State) : NextKeeps s (execCfgLoad readA readB s) := by
  refine effect_keeps (fun s => longCommand_keeps (fun c s => Kept.keeps ?_) ..)
  have checked : Kept s (checkSlots readA readB (loadSlots (c.p 1) s) s).2 := .op (checkSlots_keeps ..) (.refl s)
  dsimp only
  split
  · exact .write checked
  · exact .op (groupDone_keeps ..) checked

theorem execCfgFlashWriteBegin_keeps (s : State) : NextKeeps s (execCfgFlashWriteBegin s) := by
  exact effect_keeps (fun s => longCommand_keeps (fun c s => by simp) ..)

theorem execCfgFlashWriteData_keeps (s : State) : NextKeeps s (execCfgFlashWriteData s) := by
  exact effect_keeps (fun s => longCommand_keeps (fun c s => by simp) ..)

theorem execCfgFlashWriteEnd_keeps (s : State) : NextKeeps s (execCfgFlashWriteEnd s) := by
  exact effect_keeps (fun s => longCommand_keeps (fun c s => by simp) ..)

theorem execCfgFirmwareWriteBegin_keeps (s : State) : NextKeeps s (execCfgFirmwareWriteBegin s) := by
  exact effect_keeps (fun s => longCommand_keeps (fun c s => by simp) ..)

theorem execCfgFirmwareWriteData_keeps (s : State) : NextKeeps s (execCfgFirmwareWriteData s) := by
  exact effect_keeps (fun s => longCommand_keeps (fun c s => by simp) ..)

theorem execCfgFirmwareWriteEnd_keeps (s : State) : NextKeeps s (execCfgFirmwareWriteEnd s) := by
  exact effect_keeps (fun s => longCommand_keeps (fun c s => by simp) ..)

theorem execCfgFirmwareWriteAbort_keeps (s : State) : NextKeeps s (execCfgFirmwareWriteAbort s) := by
  exact effect_keeps (fun s => longCommand_keeps (fun c s => by simp) ..)

theorem execPortStatus_keeps (s : State) : NextKeeps s (execPortStatus s) := by
  exact effect_keeps (fun s => immediateCommand_keeps (fun c s => by simp) ..)

theorem execPortSetOwner_keeps (s : State) : NextKeeps s (execPortSetOwner s) := by
  refine effect_keeps (fun s => longCommand_keeps (fun c s => Kept.keeps ?_) ..)
  have noted (t : State) (o : Option Nat) (b : Bool) : Keeps t { t with own := { t.own with ownerCmd := o, ownerSame := b } } := by simp
  have recorded (b : Bool) (cs : Option (List Change)) (t : State) : Keeps t (persist b cs t) := by simp
  refine .ite ?_ (.op (mapPort_keeps ..) ?_) <;> exact .op (recorded ..) (.op (noted s _ _) (.refl s))

theorem execOwnershipToOwned_keeps (p : DownPort) (s : State) : NextKeeps s (execOwnershipToOwned p s) := by
  refine effect_keeps (fun s => ?_)
  dsimp only
  (repeat' split) <;> simp +contextual

theorem execOwnershipToPassThrough_keeps (p : DownPort) (s : State) : NextKeeps s (execOwnershipToPassThrough p s) := by
  refine effect_keeps (fun s => ?_)
  dsimp only
  (repeat' split) <;> simp +contextual

theorem execOwnerChangeTimeout_keeps (s : State) : NextKeeps s (execOwnerChangeTimeout s) := by
  refine effect_keeps (fun s => ?_)
  dsimp only
  (repeat' split) <;> simp +contextual

theorem execPortDevices_keeps (s : State) : NextKeeps s (execPortDevices s) := by
  exact effect_keeps (fun s => immediateCommand_keeps (fun c s => by simp) ..)

theorem execPortResetDevice_keeps (s : State) : NextKeeps s (execPortResetDevice s) := by
  refine effect_keeps (fun s => longCommand_keeps (fun c s => Kept.keeps ?_) ..)
  have noted (t : State) (r : Option (Nat × Option Nat)) : Keeps t { t with own := { t.own with resetCmd := r } } := by simp
  refine .ite ?_ (.op (endTree_keeps ..) ?_) <;> exact .op (renewPlace_keeps ..) (.op (noted s _) (.refl s))

theorem execPortPowerAllow_keeps (s : State) : NextKeeps s (execPortPowerAllow s) := by
  exact effect_keeps (fun s => portPower_keeps (fun _ k s => allowPower_keeps k s) ..)

theorem execPortPowerForceOff_keeps (s : State) : NextKeeps s (execPortPowerForceOff s) := by
  exact effect_keeps (fun s => portPower_keeps (fun _ k s => (forceOff_keeps k s).trans (mapPort_keeps ..)) ..)

theorem execPortPowerCycle_keeps (s : State) : NextKeeps s (execPortPowerCycle s) := by
  refine effect_keeps (fun s => portPower_keeps (fun c k s => ?_) ..)
  have off (f : DownPortState → DownPortState) := (forceOff_keeps k s).trans (mapPort_keeps k f _)
  exact .ite ((off _).trans (endLatch_keeps ..)) (off _)

theorem execPortPowerCycleEnd_keeps (p : DownPort) (s : State) : NextKeeps s (execPortPowerCycleEnd p s) := by
  refine effect_keeps (fun s => Keeps.live ?_)
  split
  · exact .ite (allowPower_keeps ..) (.refl s)
  · exact .refl s

theorem execPortLinkMode_keeps (s : State) : NextKeeps s (execPortLinkMode s) := by
  exact effect_keeps (fun s => immediateCommand_keeps (fun c s => by simp) ..)

theorem execRouteSet_keeps (s : State) : NextKeeps s (execRouteSet s) := by
  exact effect_keeps (fun s => boundaryCommand_keeps ..)

theorem execRouteGet_keeps (s : State) : NextKeeps s (execRouteGet s) := by
  exact effect_keeps (fun s => immediateCommand_keeps (fun c s => by simp) ..)

theorem execRouteClear_keeps (s : State) : NextKeeps s (execRouteClear s) := by
  exact effect_keeps (fun s => boundaryCommand_keeps ..)

theorem execZoneTrigger_keeps (s : State) : NextKeeps s (execZoneTrigger s) := by
  exact effect_keeps (fun s => boundaryCommand_keeps ..)

theorem execZoneRelease_keeps (s : State) : NextKeeps s (execZoneRelease s) := by
  exact effect_keeps (fun s => boundaryCommand_keeps ..)

theorem execZoneStatus_keeps (s : State) : NextKeeps s (execZoneStatus s) := by
  exact effect_keeps (fun s => immediateCommand_keeps (fun c s => by simp) ..)

theorem execZoneMute_keeps (s : State) : NextKeeps s (execZoneMute s) := by
  exact effect_keeps (fun s => boundaryCommand_keeps ..)

theorem execProcSetEqDesign_keeps (s : State) : NextKeeps s (execProcSetEqDesign s) := by
  exact effect_keeps (fun s => boundaryCommand_keeps ..)

theorem execProcSetEqBypass_keeps (s : State) : NextKeeps s (execProcSetEqBypass s) := by
  exact effect_keeps (fun s => boundaryCommand_keeps ..)

theorem execProcSetEqRaw_keeps (s : State) : NextKeeps s (execProcSetEqRaw s) := by
  exact effect_keeps (fun s => boundaryCommand_keeps ..)

theorem execProcSetDelay_keeps (s : State) : NextKeeps s (execProcSetDelay s) := by
  exact effect_keeps (fun s => boundaryCommand_keeps ..)

theorem execProcDelayFormat_keeps (s : State) : NextKeeps s (execProcDelayFormat s) := by
  exact effect_keeps (fun s => boundaryCommand_keeps ..)

theorem execProcSetDynamics_keeps (s : State) : NextKeeps s (execProcSetDynamics s) := by
  exact effect_keeps (fun s => boundaryCommand_keeps ..)

theorem execProcMeter_keeps (s : State) : NextKeeps s (execProcMeter s) := by
  exact effect_keeps (fun s => immediateCommand_keeps (fun c s => by simp) ..)

theorem execMsgList_keeps (s : State) : NextKeeps s (execMsgList s) := by
  exact effect_keeps (fun s => immediateCommand_keeps (fun c s => by simp) ..)

theorem execMsgPlay_keeps (s : State) : NextKeeps s (execMsgPlay s) := by
  exact effect_keeps (fun s => boundaryCommand_keeps ..)

theorem execMsgStop_keeps (s : State) : NextKeeps s (execMsgStop s) := by
  exact effect_keeps (fun s => boundaryCommand_keeps ..)

theorem execMsgPin_keeps (s : State) : NextKeeps s (execMsgPin s) := by
  exact effect_keeps (fun s => longCommand_keeps (fun c s => by simp) ..)

theorem execMsgPinTimeout_keeps (s : State) : NextKeeps s (execMsgPinTimeout s) := by
  refine effect_keeps (fun s => ?_)
  dsimp only
  (repeat' split) <;> simp +contextual

theorem execMsgLoadBegin_keeps (s : State) : NextKeeps s (execMsgLoadBegin s) := by
  exact effect_keeps (fun s => longCommand_keeps (fun c s => by simp) ..)

theorem execMsgLoadData_keeps (s : State) : NextKeeps s (execMsgLoadData s) := by
  exact effect_keeps (fun s => longCommand_keeps (fun c s => by simp) ..)

theorem execMsgLoadEnd_keeps (s : State) : NextKeeps s (execMsgLoadEnd s) := by
  exact effect_keeps (fun s => longCommand_keeps (fun c s => by simp) ..)

theorem execMsgLoadDelete_keeps (s : State) : NextKeeps s (execMsgLoadDelete s) := by
  exact effect_keeps (fun s => longCommand_keeps (fun c s => by simp) ..)

theorem execMsgLoadAbort_keeps (s : State) : NextKeeps s (execMsgLoadAbort s) := by
  exact effect_keeps (fun s => longCommand_keeps (fun c s => by simp) ..)

theorem execLibraryVerification_keeps (index : Fin 16) (readOk : Bool) (s : State) : NextKeeps s (execLibraryVerification index readOk s) := by
  refine effect_keeps (fun s => ?_)
  dsimp only
  (repeat' split) <;> simp +contextual

theorem execMessageVerification_keeps (number : BitVec 13) (readOk : Bool) (s : State) : NextKeeps s (execMessageVerification number readOk s) := by
  refine effect_keeps (fun s => ?_)
  dsimp only
  (repeat' split) <;> simp +contextual

theorem execVoiceStart_keeps (v : Fin 16) (s : State) : NextKeeps s (execVoiceStart v s) := by
  refine effect_keeps (fun s => ?_)
  dsimp only
  (repeat' split) <;> simp +contextual

theorem execVoiceStartTimeout_keeps (v : Fin 16) (s : State) : NextKeeps s (execVoiceStartTimeout v s) := by
  refine effect_keeps (fun s => Keeps.live ?_)
  split
  · exact .ite (endVoice_keeps ..) (.refl s)
  · exact .refl s

theorem execMarlFrameFetch_keeps (v : Fin 16) (readOk : Bool) (s : State) : NextKeeps s (execMarlFrameFetch v readOk s) := by
  exact effect_keeps (fun s => Keeps.live (fetchFrame_keeps ..))

theorem execVoiceEnded_keeps (v : Fin 16) (s : State) : NextKeeps s (execVoiceEnded v s) := by
  refine effect_keeps (fun s => Keeps.live ?_)
  split
  · split
    · exact .ite (endVoice_keeps ..) (.refl s)
    · exact .refl s
  · exact .refl s

theorem execPwrStatus_keeps (s : State) : NextKeeps s (execPwrStatus s) := by
  exact effect_keeps (fun s => immediateCommand_keeps (fun c s => by simp) ..)

theorem execPwrEnterRun_keeps (s : State) : NextKeeps s (execPwrEnterRun s) := by
  exact effect_keeps (fun s => pwrEnter_keeps (fun c s => by simp) ..)

theorem execPwrEnterDoze_keeps (s : State) : NextKeeps s (execPwrEnterDoze s) := by
  exact effect_keeps (fun s => pwrEnter_keeps (fun c s => by simp) ..)

theorem execPwrEnterSleep_keeps (s : State) : NextKeeps s (execPwrEnterSleep s) := by
  exact effect_keeps (fun s => pwrEnter_keeps (fun c s => by simp) ..)

theorem execSleepWaitTimeout_keeps (s : State) : NextKeeps s (execSleepWaitTimeout s) := by
  refine effect_keeps (fun s => ?_)
  dsimp only
  (repeat' split) <;> simp +contextual

theorem execSleepEntry_keeps (s : State) : NextKeeps s (execSleepEntry s) := by
  refine effect_keeps (fun s => ?_)
  (repeat' split) <;> simp +contextual

theorem execPwrEnterHibernate_keeps (s : State) : NextKeeps s (execPwrEnterHibernate s) := by
  refine effect_keeps (fun s => pwrEnter_keeps (fun c s => Kept.keeps ?_) ..)
  exact .ite (.write (.write (.refl s))) (.op (enterHibernate_keeps _) (.write (.refl s)))

theorem execPwrSetRetain_keeps (s : State) : NextKeeps s (execPwrSetRetain s) := by
  exact effect_keeps (fun s => immediateCommand_keeps (fun c s => by simp) ..)

theorem execWakeSource_keeps (source : After (Fin 8)) (s : State) : NextKeeps s (execWakeSource source s) := by
  refine effect_keeps (fun s => ?_)
  dsimp only
  (repeat' split) <;> simp +contextual

theorem execWakeFromSleep_keeps (periods : Nat) (lost : BitVec 8) (s : State) : NextKeeps s (execWakeFromSleep periods lost s) := by
  refine effect_keeps (fun s => ?_)
  (repeat' split) <;> simp +contextual

theorem execFaultWake_keeps (source : After (BitVec 12)) (s : State) : NextKeeps s (execFaultWake source s) := by
  refine effect_keeps (fun s => ?_)
  (repeat' split) <;> simp +contextual

theorem execReenterAfterPavane_keeps (s : State) : NextKeeps s (execReenterAfterPavane s) := by
  refine effect_keeps (fun s => ?_)
  dsimp only
  (repeat' split) <;> simp +contextual

theorem execStashBankPowerUp_keeps (bank : Fin 8) (s : State) : NextKeeps s (execStashBankPowerUp bank s) := by
  refine effect_keeps (fun s => ?_)
  (repeat' split) <;> simp +contextual

theorem execLevelChange_keeps (results : List VoutResult) (s : State) : NextKeeps s (execLevelChange results s) := by
  refine effect_keeps (fun s => ?_)
  (repeat' split) <;> simp +contextual

theorem execPmbAlert_keeps (s : State) : NextKeeps s (execPmbAlert s) := by
  exact effect_keeps (fun s => Keeps.live (raiseFault_keeps ..))

theorem execSupplyOutOfRange_keeps (s : State) : NextKeeps s (execSupplyOutOfRange s) := by
  exact effect_keeps (fun s => Keeps.live (raiseFault_keeps ..))

theorem execFaultLatch_keeps (fs : List (BitVec 12 × Bool)) (s : State) : NextKeeps s (execFaultLatch fs s) := by
  exact effect_keeps (fun s => Keeps.live (latchFaults_keeps ..))

theorem execAutoAckExpiry_keeps (src : BitVec 12) (s : State) : NextKeeps s (execAutoAckExpiry src s) := by
  refine effect_keeps (fun s => ?_)
  (repeat' split) <;> simp +contextual

theorem execQuietPeriodExpiry_keeps (s : State) : NextKeeps s (execQuietPeriodExpiry s) := by
  refine effect_keeps (fun s => ?_)
  (repeat' split) <;> simp +contextual

theorem execCollectorSelfFault_keeps (s : State) : NextKeeps s (execCollectorSelfFault s) := by
  exact effect_keeps (fun s => Keeps.live (raiseFault_keeps ..))

theorem execSafeStatus_keeps (s : State) : NextKeeps s (execSafeStatus s) := by
  exact effect_keeps (fun s => immediateCommand_keeps (fun c s => by simp) ..)

theorem execSafeEnter_keeps (s : State) : NextKeeps s (execSafeEnter s) := by
  exact effect_keeps (fun s => immediateCommand_keeps (fun c s => safeEnter_keeps ..) ..)

theorem execSafeRelease_keeps (s : State) : NextKeeps s (execSafeRelease s) := by
  exact effect_keeps (fun s => boundaryCommand_keeps ..)

theorem execSafeSetQuiet_keeps (s : State) : NextKeeps s (execSafeSetQuiet s) := by
  exact effect_keeps (fun s => immediateCommand_keeps (fun c s => by simp) ..)

theorem execLogHistory_keeps (s : State) : NextKeeps s (execLogHistory s) := by
  exact effect_keeps (fun s => immediateCommand_keeps (fun c s => by simp) ..)

theorem execLogRead_keeps (s : State) : NextKeeps s (execLogRead s) := by
  exact effect_keeps (fun s => immediateCommand_keeps (fun c s => by simp) ..)

theorem execPavaneAttempt_keeps (s : State) : NextKeeps s (execPavaneAttempt s) := by
  refine effect_keeps (fun s => ?_)
  (repeat' split) <;> simp +contextual

theorem execPavaneStep_keeps (rep : StepReport) (s : State) : NextKeeps s (execPavaneStep rep s) := by
  refine effect_keeps (fun s => Keeps.live ?_)
  split
  · exact .refl s
  · refine .ite ?_ (.refl s)
    split
    · simp
    · exact .ite (ageingStep_keeps ..) (otherStep_keeps ..)

theorem execPavaneAbort_keeps (reason : Fin 6) (s : State) : NextKeeps s (execPavaneAbort reason s) := by
  refine effect_keeps (fun s => ?_)
  dsimp only
  (repeat' split) <;> simp +contextual

theorem execTestDone_keeps (s : State) : NextKeeps s (execTestDone s) := by
  refine effect_keeps (fun s => ?_)
  dsimp only
  (repeat' split) <;> simp +contextual

theorem execTestOverdue_keeps (s : State) : NextKeeps s (execTestOverdue s) := by
  refine effect_keeps (fun s => ?_)
  dsimp only
  (repeat' split) <;> simp +contextual

theorem execTestRun_keeps (s : State) : NextKeeps s (execTestRun s) := by
  exact effect_keeps (fun s => longCommand_keeps (fun c s => by simp) ..)

theorem execTestAbort_keeps (s : State) : NextKeeps s (execTestAbort s) := by
  exact effect_keeps (fun s => immediateCommand_keeps (fun c s => by simp) ..)

theorem execTestResult_keeps (s : State) : NextKeeps s (execTestResult s) := by
  exact effect_keeps (fun s => immediateCommand_keeps (fun c s => by simp) ..)

theorem execTestAgeing_keeps (s : State) : NextKeeps s (execTestAgeing s) := by
  exact effect_keeps (fun s => immediateCommand_keeps (fun c s => by simp) ..)

theorem execAntirollBurn_keeps (s : State) : NextKeeps s (execAntirollBurn s) := by
  refine effect_keeps (fun s => ?_)
  dsimp only
  (repeat' split) <;> simp +contextual

theorem execSecOpen_keeps (s : State) : NextKeeps s (execSecOpen s) := by
  exact effect_keeps secOpen_keeps

theorem execSecClose_keeps (s : State) : NextKeeps s (execSecClose s) := by
  exact effect_keeps (fun s => immediateCommand_keeps (fun c s => by simp) ..)

theorem execSecProvisionHak_keeps (s : State) : NextKeeps s (execSecProvisionHak s) := by
  exact effect_keeps (fun s => provision_keeps ..)

theorem execSecProvisionTamperActions_keeps (s : State) : NextKeeps s (execSecProvisionTamperActions s) := by
  exact effect_keeps (fun s => provision_keeps ..)

theorem execSecProvisionAuthLimit_keeps (s : State) : NextKeeps s (execSecProvisionAuthLimit s) := by
  exact effect_keeps (fun s => provision_keeps ..)

theorem execSecProvisionIntHash_keeps (s : State) : NextKeeps s (execSecProvisionIntHash s) := by
  exact effect_keeps (fun s => provision_keeps ..)

theorem execSecProvisionCsigReq_keeps (s : State) : NextKeeps s (execSecProvisionCsigReq s) := by
  exact effect_keeps (fun s => provision_keeps ..)

theorem execSecTamperClear_keeps (pins : BitVec 2) (s : State) : NextKeeps s (execSecTamperClear pins s) := by
  exact effect_keeps (fun s => immediateCommand_keeps (fun c s => by simp) ..)

theorem execSecDebugChallenge_keeps (s : State) : NextKeeps s (execSecDebugChallenge s) := by
  exact effect_keeps (fun s => immediateCommand_keeps (fun c s => by simp) ..)

theorem execDbgResp_keeps (pubkey sig : List Byte) (s : State) : NextKeeps s (execDbgResp pubkey sig s) := by
  refine effect_keeps (fun s => ?_)
  dsimp only
  (repeat' split) <;> simp +contextual

theorem execDebugChallengeTimeout_keeps (s : State) : NextKeeps s (execDebugChallengeTimeout s) := by
  refine effect_keeps (fun s => Keeps.live ?_)
  split
  · exact .ite (by simp) (.refl s)
  · exact .refl s

theorem execTamper_keeps (cause : After (Fin 4)) (s : State) : NextKeeps s (execTamper cause s) := by
  refine effect_keeps (fun s => ?_)
  dsimp only
  (repeat' split) <;> simp +contextual

theorem execVaultFault_keeps (authentication : Bool) (s : State) : NextKeeps s (execVaultFault authentication s) := by
  refine effect_keeps (fun s => ?_)
  dsimp only
  (repeat' split) <;> simp +contextual

theorem execPdStatus_keeps (s : State) : NextKeeps s (execPdStatus s) := by
  exact effect_keeps (fun s => immediateCommand_keeps (fun c s => by simp) ..)

theorem execPdSetLimit_keeps (s : State) : NextKeeps s (execPdSetLimit s) := by
  exact effect_keeps (fun s => immediateCommand_keeps (fun c s => by simp) ..)

theorem execPdVconnSwap_keeps (s : State) : NextKeeps s (execPdVconnSwap s) := by
  refine effect_keeps (fun s => longCommand_keeps (fun c s => ?_) ..)
  have started := startPd_keeps (pdPort c) 3 s
  have noted (f : Flex → Flex) := started.trans (mapFlex_keeps (pdPort c) f _)
  exact .ite (started.trans (pdDone_keeps ..)) (.ite (noted _) ((noted _).trans (emit_keeps ..)))

theorem execPdAltModeEnter_keeps (s : State) : NextKeeps s (execPdAltModeEnter s) := by
  refine effect_keeps (fun s => longCommand_keeps (fun c s => ?_) ..)
  have started := startPd_keeps (pdPort c) 4 s
  exact .ite (started.trans (pdDone_keeps ..)) (started.trans (mapFlex_keeps ..))

theorem execPdAltModeExit_keeps (s : State) : NextKeeps s (execPdAltModeExit s) := by
  refine effect_keeps (fun s => longCommand_keeps (fun c s => ?_) ..)
  have started := startPd_keeps (pdPort c) 4 s
  have left (t : State) := mapFlex_keeps (pdPort c) Flex.endMode t
  have told (o : Out) := (started.trans (emit_keeps o _)).trans (left _)
  exact .ite (((told _).trans (postAlt_keeps ..)).trans (pdDone_keeps ..)) ((started.trans (left _)).trans (pdDone_keeps ..))

theorem execPdHardReset_keeps (s : State) : NextKeeps s (execPdHardReset s) := by
  exact effect_keeps (fun s => longCommand_keeps (fun c s => by simp) ..)

theorem execCcAttach_keeps (n : FlexPort) (cc2 ra pd : Bool) (s : State) : NextKeeps s (execCcAttach n cc2 ra pd s) := by
  refine effect_keeps (fun s => ?_)
  dsimp only
  (repeat' split) <;> simp +contextual

theorem execDrpToggle_keeps (n : FlexPort) (s : State) : NextKeeps s (execDrpToggle n s) := by
  refine effect_keeps (fun s => ?_)
  (repeat' split) <;> simp +contextual

theorem execSinkAttach_keeps (n : FlexPort) (cc2 pd : Bool) (s : State) : NextKeeps s (execSinkAttach n cc2 pd s) := by
  refine effect_keeps (fun s => ?_)
  dsimp only
  (repeat' split) <;> simp +contextual

theorem execAccessoryRefused_keeps (n : FlexPort) (s : State) : NextKeeps s (execAccessoryRefused n s) := by
  refine effect_keeps (fun s => ?_)
  dsimp only
  (repeat' split) <;> simp +contextual

theorem execCcDetach_keeps (n : FlexPort) (s : State) : NextKeeps s (execCcDetach n s) := by
  refine effect_keeps (fun s => ?_)
  dsimp only
  (repeat' split) <;> simp +contextual

theorem execSinkDetach_keeps (n : FlexPort) (s : State) : NextKeeps s (execSinkDetach n s) := by
  refine effect_keeps (fun s => ?_)
  dsimp only
  (repeat' split) <;> simp +contextual

theorem execSourceCapabilitiesRepeat_keeps (n : FlexPort) (goodCrc : Bool) (s : State) : NextKeeps s (execSourceCapabilitiesRepeat n goodCrc s) := by
  refine effect_keeps (fun s => ?_)
  dsimp only
  (repeat' split) <;> simp +contextual

theorem execPdRequest_keeps (n : FlexPort) (r : PdRequest) (s : State) : NextKeeps s (execPdRequest n r s) := by
  refine effect_keeps (fun s => ?_)
  dsimp only
  (repeat' split) <;> simp +contextual

theorem execPdContract_keeps (n : FlexPort) (s : State) : NextKeeps s (execPdContract n s) := by
  refine effect_keeps (fun s => ?_)
  dsimp only
  (repeat' split) <;> simp +contextual

theorem execVoltageTransition_keeps (n : FlexPort) (s : State) : NextKeeps s (execVoltageTransition n s) := by
  refine effect_keeps (fun s => ?_)
  dsimp only
  (repeat' split) <;> simp +contextual

theorem execRemovalDuringTransition_keeps (n : FlexPort) (s : State) : NextKeeps s (execRemovalDuringTransition n s) := by
  refine effect_keeps (fun s => ?_)
  dsimp only
  (repeat' split) <;> simp +contextual

theorem execBudgetRenegotiation_keeps (n : FlexPort) (s : State) : NextKeeps s (execBudgetRenegotiation n s) := by
  refine effect_keeps (fun s => ?_)
  (repeat' split) <;> simp +contextual

theorem execSenderResponseTimeout_keeps (n : FlexPort) (s : State) : NextKeeps s (execSenderResponseTimeout n s) := by
  refine effect_keeps (fun s => ?_)
  dsimp only
  (repeat' split) <;> simp +contextual

theorem execHardResetReceived_keeps (n : FlexPort) (s : State) : NextKeeps s (execHardResetReceived n s) := by
  refine effect_keeps (fun s => ?_)
  (repeat' split) <;> simp +contextual

theorem execErrorRecovery_keeps (n : FlexPort) (s : State) : NextKeeps s (execErrorRecovery n s) := by
  refine effect_keeps (fun s => ?_)
  dsimp only
  (repeat' split) <;> simp +contextual

theorem execVconnSwap_keeps (n : FlexPort) (own : Bool) (answer : Answer) (psRdy : Bool) (s : State) : NextKeeps s (execVconnSwap n own answer psRdy s) := by
  refine effect_keeps (fun s => ?_)
  dsimp only
  (repeat' split) <;> simp +contextual

theorem execVconnOverCurrent_keeps (n : FlexPort) (s : State) : NextKeeps s (execVconnOverCurrent n s) := by
  refine effect_keeps (fun s => ?_)
  dsimp only
  (repeat' split) <;> simp +contextual

theorem execGetStatus_keeps (n : FlexPort) (s : State) : NextKeeps s (execGetStatus n s) := by
  refine effect_keeps (fun s => ?_)
  dsimp only
  (repeat' split) <;> simp +contextual

theorem execPdMessage_keeps (n : FlexPort) (rev2 : Bool) (m : PdMsg) (s : State) : NextKeeps s (execPdMessage n rev2 m s) := by
  refine effect_keeps (fun s => ?_)
  dsimp only
  (repeat' split) <;> simp +contextual

theorem execDiscoverIdentity_keeps (svid : BitVec 16) (command : BitVec 5) (s : State) : NextKeeps s (execDiscoverIdentity svid command s) := by
  refine effect_keeps (fun s => Keeps.live ?_)
  split
  · exact .ite (.ite (emit_keeps ..) (emit_keeps ..)) (.refl s)
  · exact .refl s

theorem execAltModeLoopStart_keeps (n : FlexPort) (a : AltAnswers) (s : State) : NextKeeps s (execAltModeLoopStart n a s) := by
  refine effect_keeps (fun s => ?_)
  dsimp only
  (repeat' split) <;> simp +contextual

theorem execFaultReturnAsserted_keeps (n : FlexPort) (attention : Bool) (s : State) : NextKeeps s (execFaultReturnAsserted n attention s) := by
  refine effect_keeps (fun s => ?_)
  dsimp only
  (repeat' split) <;> simp +contextual

theorem execFaultReturnReleased_keeps (n : FlexPort) (attention : Bool) (s : State) : NextKeeps s (execFaultReturnReleased n attention s) := by
  refine effect_keeps (fun s => ?_)
  dsimp only
  (repeat' split) <;> simp +contextual

theorem execAdcSampleSet_keeps (a : AdcSet) (s : State) : NextKeeps s (execAdcSampleSet a s) := by
  unfold execAdcSampleSet
  split
  · exact effect_keeps (fun s => Keeps.live (.ite (.refl s) (sampleSet_keeps ..)))
  · exact fault_keeps s _

theorem execShortTrip_keeps (n : FlexPort) (current : Nat) (s : State) : NextKeeps s (execShortTrip n current s) := by
  refine effect_keeps (fun s => ?_)
  dsimp only
  (repeat' split) <;> simp +contextual

theorem execBackoffExpiry_keeps (n : FlexPort) (s : State) : NextKeeps s (execBackoffExpiry n s) := by
  refine effect_keeps (fun s => Keeps.live ?_)
  split
  · exact .ite (rearm_keeps ..) (.refl s)
  · exact .refl s

theorem execLatchProbe_keeps (n : FlexPort) (rd : Bool) (s : State) : NextKeeps s (execLatchProbe n rd s) := by
  refine effect_keeps (fun s => ?_)
  dsimp only
  (repeat' split) <;> simp +contextual

theorem execConsecClear_keeps (n : FlexPort) (s : State) : NextKeeps s (execConsecClear n s) := by
  refine effect_keeps (fun s => Keeps.live ?_)
  split
  · exact .ite (mapFlex_keeps ..) (.refl s)
  · exact .refl s

theorem execPfailWarnAssert_keeps (vin : BitVec 12) (s : State) : NextKeeps s (execPfailWarnAssert vin s) := by
  refine effect_keeps (fun s => ?_)
  (repeat' split) <;> simp +contextual

theorem execPfailWarnRelease_keeps (s : State) : NextKeeps s (execPfailWarnRelease s) := by
  refine effect_keeps (fun s => ?_)
  (repeat' split) <;> simp +contextual

theorem execUpstreamConnect_keeps (mv : Nat) (superSpeed highSpeed : Bool) (s : State) : NextKeeps s (execUpstreamConnect mv superSpeed highSpeed s) := by
  refine effect_keeps (fun s => ?_)
  dsimp only
  (repeat' split) <;> simp +contextual

theorem execUpstreamVbusLoss_keeps (s : State) : NextKeeps s (execUpstreamVbusLoss s) := by
  refine effect_keeps (fun s => ?_)
  dsimp only
  (repeat' split) <;> simp +contextual

theorem execFunctionHubMove_keeps (dst : LinkState) (s : State) : NextKeeps s (execFunctionHubMove dst s) := by
  refine effect_keeps (fun s => ?_)
  (repeat' split) <;> simp +contextual

theorem execUpstreamBusReset_keeps (s : State) : NextKeeps s (execUpstreamBusReset s) := by
  refine effect_keeps (fun s => ?_)
  (repeat' split) <;> simp +contextual

theorem execGetPortStatus_keeps (usb3 : Bool) (n : Fin 12) (s : State) : NextKeeps s (execGetPortStatus usb3 n s) := by
  exact effect_keeps (fun s => (onPort_keeps (fun k s => emit_keeps ..) ..).live)

theorem execClearPortPower_keeps (usb3 : Bool) (n : Fin 12) (s : State) : NextKeeps s (execClearPortPower usb3 n s) := by
  exact effect_keeps (fun s => (onPort_keeps (fun k s => (hostPowerOff_keeps ..).trans (emit_keeps ..)) ..).live)

theorem execSetPortPower_keeps (usb3 : Bool) (n : Fin 12) (s : State) : NextKeeps s (execSetPortPower usb3 n s) := by
  exact effect_keeps (fun s => (onPort_keeps (fun k s => (hostPowerOn_keeps ..).trans (emit_keeps ..)) ..).live)

theorem execHubFeatureRequest_keeps (usb3 : Bool) (n : Fin 12) (set : Bool) (f : PortFeature) (value : Byte) (s : State) : NextKeeps s (execHubFeatureRequest usb3 n set f value s) := by
  exact effect_keeps (fun s => (onPort_keeps (fun k s => (featureRequest_keeps ..).trans (emit_keeps ..)) ..).live)

theorem execTtRequest_keeps (p : DownPort) (r : TtRequest) (s : State) : NextKeeps s (execTtRequest p r s) := by
  refine effect_keeps (fun s => Keeps.live (.ite (.refl s) ?_))
  have each (p : Nat → Bool) (f : Nat → State → State) (hf : ∀ k s, Keeps s (f k s)) :
      Keeps s (emit (.handshake .ack) ((List.range 10).foldl (fun s k => if p k then f k s else s) s)) :=
    (foldl_keeps_of (fun s k => .ite (hf k s) (.refl s)) _ s).trans (emit_keeps ..)
  cases r with
  | getState => exact emit_keeps ..
  | clearBuffer => exact each _ _ (fun k s => ttDrop_keeps ..)
  | reset => exact each _ _ (fun k s => ((ttDrop_keeps ..).trans (ttDrop_keeps ..)).trans (mapPort_keeps ..))
  | stop => exact each _ _ (fun k s => mapPort_keeps ..)

theorem execSetInterface_keeps (iface alt : Fin 5) (s : State) : NextKeeps s (execSetInterface iface alt s) := by
  exact effect_keeps (fun s => Keeps.live (.ite (.refl s) (.ite (by simp) (emit_keeps ..))))

theorem execPlaybackPacket_keeps (bytes : List Byte) (s : State) : NextKeeps s (execPlaybackPacket bytes s) := by
  exact effect_keeps (fun s => Keeps.live (playback_keeps ..))

theorem execCaptureInToken_keeps (s : State) : NextKeeps s (execCaptureInToken s) := by
  refine effect_keeps (fun s => ?_)
  dsimp only
  (repeat' split) <;> simp +contextual

theorem execFeedbackRefresh_keeps (cycles : Nat) (missed : Bool) (s : State) : NextKeeps s (execFeedbackRefresh cycles missed s) := by
  refine effect_keeps (fun s => ?_)
  dsimp only
  (repeat' split) <;> simp +contextual

theorem execLpmTransaction_keeps (s : State) : NextKeeps s (execLpmTransaction s) := by
  refine effect_keeps (fun s => ?_)
  (repeat' split) <;> simp +contextual

theorem execUpstreamSuspend_keeps (s : State) : NextKeeps s (execUpstreamSuspend s) := by
  refine effect_keeps (fun s => ?_)
  (repeat' split) <;> simp +contextual

theorem execHostResume_keeps (collides : Bool) (s : State) : NextKeeps s (execHostResume collides s) := by
  refine effect_keeps (fun s => ?_)
  (repeat' split) <;> simp +contextual

theorem execRemoteWake_keeps (x : PortSide) (e : WakeEvent) (s : State) : NextKeeps s (execRemoteWake x e s) := by
  exact effect_keeps (fun s => Keeps.live (.ite (by simp) (.refl s)))

theorem execHsOverCurrent_keeps (p : HsPort) (s : State) : NextKeeps s (execHsOverCurrent p s) := by
  refine effect_keeps (fun s => ?_)
  dsimp only
  (repeat' split) <;> simp +contextual

theorem execOwnedPortRepower_keeps (p : HsPort) (s : State) : NextKeeps s (execOwnedPortRepower p s) := by
  refine effect_keeps (fun s => ?_)
  dsimp only
  (repeat' split) <;> simp +contextual

theorem execEnumeration_keeps (p : DownPort) (h : HubPort) (d : UsbDevice) (s : State) : NextKeeps s (execEnumeration p h d s) := by
  refine effect_keeps (fun s => ?_)
  (repeat' split) <;> simp +contextual

theorem execControlTransferFailure_keeps (p : DownPort) (h : HubPort) (speed : Speed) (_how : XferEnd)
    (ids : Option (BitVec 16 × BitVec 16)) (s : State) : NextKeeps s (execControlTransferFailure p h speed _how ids s) := by
  refine effect_keeps (fun s => ?_)
  (repeat' split) <;> simp +contextual

theorem execDeviceDetach_keeps (p : DownPort) (h : HubPort) (s : State) : NextKeeps s (execDeviceDetach p h s) := by
  refine effect_keeps (fun s => ?_)
  (repeat' split) <;> simp +contextual

theorem execHidReport_keeps (p : DownPort) (addr : BitVec 7) (r : HidReport) (s : State) : NextKeeps s (execHidReport p addr r s) := by
  refine effect_keeps (fun s => ?_)
  dsimp only
  (repeat' split) <;> simp +contextual

theorem execHubStatusPoll_keeps (p : DownPort) (changed connected : BitVec 16) (s : State) : NextKeeps s (execHubStatusPoll p changed connected s) := by
  refine effect_keeps (fun s => ?_)
  (repeat' split) <;> simp +contextual

theorem execOwnedStreamPacket_keeps (p : DownPort) (addr : BitVec 7) (iface : Nat) (frames : List (List (BitVec 24))) (s : State) : NextKeeps s (execOwnedStreamPacket p addr iface frames s) := by
  refine effect_keeps (fun s => ?_)
  dsimp only
  (repeat' split) <;> simp +contextual

theorem execOwnedTreeResume_keeps (p : DownPort) (h : HubPort) (same : Bool) (s : State) : NextKeeps s (execOwnedTreeResume p h same s) := by
  refine effect_keeps (fun s => ?_)
  dsimp only
  (repeat' split) <;> simp +contextual

theorem execHostAbsent_keeps (f : Face) (absent : Bool) (s : State) : NextKeeps s (execHostAbsent f absent s) := by
  refine effect_keeps (fun s => ?_)
  dsimp only
  (repeat' split) <;> simp +contextual

theorem execFaceLoss_keeps (s : State) : NextKeeps s (execFaceLoss s) := by
  refine effect_keeps (fun s => ?_)
  (repeat' split) <;> simp +contextual

theorem execFaceAvailable_keeps (f : Face) (ok : Bool) (s : State) : NextKeeps s (execFaceAvailable f ok s) := by
  refine effect_keeps (fun s => ?_)
  (repeat' split) <;> simp +contextual

theorem execSwitchOver_keeps (superSpeed highSpeed : Bool) (s : State) : NextKeeps s (execSwitchOver superSpeed highSpeed s) := by
  refine effect_keeps (fun s => Keeps.live ?_)
  split
  · exact .ite (.refl s) (.ite (switchFace_keeps ..) (.refl s))
  · exact .refl s

theorem execAutoReturn_keeps (s : State) : NextKeeps s (execAutoReturn s) := by
  refine effect_keeps (fun s => ?_)
  dsimp only
  (repeat' split) <;> simp +contextual

theorem execPassThroughConnectChange_keeps (p : DownPort) (connected : Bool) (speed : Speed) (s : State) : NextKeeps s (execPassThroughConnectChange p connected speed s) := by
  exact effect_keeps (fun s => Keeps.live (connectChange_keeps ..))

theorem execStandardDeviceRequest_keeps (t : UsbTarget) (u : Setup) (s : State) : NextKeeps s (execStandardDeviceRequest t u s) := by
  have requested (s : State) : Keeps s (controlRequest t u s) := by simp
  refine effect_keeps (fun s => Keeps.live ?_)
  cases t with
  | hub2 => exact .ite (requested s) (.refl s)
  | hub3 => exact .ite (requested s) (.refl s)
  | function => exact .ite (overCore_keeps requested ..) (.refl s)

theorem execFlashOperationComplete_keeps (group : FlashGroup) (ok : Bool) (s : State) : NextKeeps s (execFlashOperationComplete group ok s) := by
  refine effect_keeps (fun s => Keeps.live ?_)
  cases group with
  | cfg => exact cfgCompletes_keeps ok s
  | msg => exact msgCompletes_keeps ok s
  | sec => exact secCompletes_keeps ok s

theorem execBadCmdPacket_keeps (s : State) : NextKeeps s (execBadCmdPacket s) := by
  exact effect_keeps badPacket_keeps

/-- What every command leaves: the queue, the canonical form of the memories, the numbers and depths of `Shape`. -/
structure Preserves (s t : State) : Prop where
  pending : t.pending = s.pending
  memory : MemoryCanonical s → MemoryCanonical t
  shape : Shape s → Shape t

theorem Preserves.trans {s t u : State} (h : Preserves s t) (h' : Preserves t u) : Preserves s u :=
  ⟨h'.pending.trans h.pending, fun m => h'.memory (h.memory m), fun m => h'.shape (h.shape m)⟩

theorem KeepsLive.preserves {s t : State} (h : KeepsLive s t) : Preserves s t := by
  obtain ⟨⟨hp, hports, hflex, hq, hl, hu, hs, hc, ht⟩, ⟨hdu, hds⟩, hv, hw, hh, hstash, hflash⟩ := h
  refine ⟨hp, fun ⟨m, m'⟩ => ⟨hstash m, hflash m'⟩, ?_⟩
  rintro ⟨sports, sflex, sq, sl, sv, su, ss, sc, st, sp, sdu, sds, shist⟩
  exact ⟨hports.trans sports, hflex.trans sflex, hq.trans sq, hl.trans sl, hv sv, hu.trans su, hs.trans ss, hc.trans sc, ht.trans st,
    hw sp, hdu sdu, hds sds, hh shist⟩

theorem Keeps.preserves {s t : State} (h : Keeps s t) : Preserves s t := h.live.preserves

theorem Preserves.ite {c : Prop} [Decidable c] {s t u : State} (h : Preserves s t) (h' : Preserves s u) :
    Preserves s (if c then t else u) := by
  split
  · exact h
  · exact h'

theorem wf_filter {d : Byte} {m : Memory} (p : Host.Cell → Bool) (h : Memory.wf d m = true) :
    Memory.wf d (m.filter p) = true := by
  simp only [Memory.wf, Bool.and_eq_true, List.all_eq_true] at h ⊢
  exact ⟨Memory.above_filter p h.1, fun c hc => h.2 c (List.mem_of_mem_filter hc)⟩

/-! ## The resets, which build the state anew -/

theorem outsideKept_preserves (straps : Straps) (s : State) : Preserves s (outsideKept straps s) where
  pending := rfl
  memory h := ⟨rfl, h.2⟩
  shape _ := reset_shape

theorem resetByPin_preserves (periods : Nat) (straps : Straps) (s : State) : Preserves s (resetByPin periods straps s) := by
  have counted := (aonTime_keeps periods s).preserves
  refine counted.trans ⟨rfl, fun h => ⟨rfl, h.2⟩, fun h => ?_⟩
  obtain ⟨-, -, -, -, -, -, -, -, -, -, -, -, hhist⟩ := h
  obtain ⟨rports, rflex, rq, rl, rv, ru, rs, rc, rt, -, rdu, rds, -⟩ := reset_shape
  exact ⟨rports, rflex, rq, rl, rv, ru, rs, rc, rt, Nat.zero_le 8, rdu, rds, hhist⟩

theorem wakeFromHibernate_preserves (periods : Nat) (s : State) : Preserves s (wakeFromHibernate periods s) := by
  have slept := (asleepTime_keeps periods s).preserves
  refine slept.trans ⟨rfl, fun h => ⟨rfl, h.2⟩, fun h => ?_⟩
  obtain ⟨-, hflex, -, -, -, -, -, -, -, -, -, -, hhist⟩ := h
  obtain ⟨rports, -, rq, rl, rv, ru, rs, rc, rt, -, rdu, rds, -⟩ := reset_shape
  exact ⟨rports, (List.length_map _).trans hflex, rq, rl, rv, ru, rs, rc, rt, Nat.zero_le 8, rdu, rds, hhist⟩

/-- The contexts of the owned streams are built anew, 64 of them, and both TDM ports. -/
theorem renewedOwned_preserves (s : State) (devs : List OwnedDev) (streams : List Stream) (g : Nat → Option Ctx) (ok : Bool) :
    Preserves s { s with own := ({ devs := devs, streams := streams, ctxs := (List.range 64).map g, cacheOk := ok } : Owned) } := by
  refine ⟨rfl, id, ?_⟩
  rintro ⟨hports, hflex, hq, hl, hv, hu, hs, -, -, hrest⟩
  exact ⟨hports, hflex, hq, hl, hv, hu, hs, by simp, rfl, hrest⟩

theorem warmOwned_preserves (s : State) : Preserves s (warmOwned s) := by
  unfold warmOwned
  refine (Keeps.preserves (foldl_keeps_of (fun s k => ?_) _ s)).trans (renewedOwned_preserves ..)
  refine Kept.keeps (.ite ?_ (.op (emit_keeps ..) ?_)) <;>
  exact .ite (.op (emit_keeps ..) (.ite (.op (forgetTree_keeps ..) (.refl s))
      (.op (showSide_keeps ..) (.op (showSide_keeps ..) (.op (forgetTree_keeps ..) (.refl s))))))
    (.ite (.op (forgetTree_keeps ..) (.refl s))
      (.op (showSide_keeps ..) (.op (showSide_keeps ..) (.op (forgetTree_keeps ..) (.refl s)))))

theorem warmMessages_voices (s : State) : (warmMessages s).voices.length = 16 := by
  unfold warmMessages
  split <;> rfl

theorem warmState_preserves (s : State) : Preserves s (warmState s) := by
  have drained := drainPosted_keeps s
  have owned := warmOwned_preserves (drainPosted s)
  refine drained.preserves.trans ⟨owned.pending, fun h => ?_, fun shape => ?_⟩
  · obtain ⟨hstash, hflash⟩ := owned.memory h
    exact ⟨wf_filter _ hstash, hflash⟩
  · obtain ⟨hports, hflex, -, hl, -, -, -, hc, ht, -⟩ := owned.shape shape
    obtain ⟨-, -, -, -, -, -, -, -, -, -, -, -, hhist⟩ := shape
    obtain ⟨-, -, rq, -, -, ru, rs, -, -, -, rdu, rds, -⟩ := reset_shape
    exact ⟨(List.length_map _).trans hports, (List.length_map _).trans hflex, rq, (List.length_map _).trans hl,
      warmMessages_voices _, ru, rs, hc, ht, Nat.zero_le 8, rdu, rds, hhist⟩

/-- What every next state of a result has from the state before. -/
structure NextPreserves (s : State) (r : Result) : Prop where
  next : ∀ t, r = .next t → Preserves s t

theorem NextKeeps.preserves {s : State} {r : Result} (h : NextKeeps s r) : NextPreserves s r := ⟨fun t e => (h.next t e).preserves⟩

theorem effect_preserves {f : State → State} (hf : ∀ s, Preserves s (f s)) {s : State} : NextPreserves s (effect f s) := by
  refine ⟨fun t h => ?_⟩
  cases h
  exact .trans (t := fresh s) ⟨rfl, fun h => h, fun h => h⟩ (hf _)

theorem execPowerOnReset_preserves (vdd33 vddCore dipNs : Nat) (straps : Straps) (s : State) :
    NextPreserves s (execPowerOnReset vdd33 vddCore dipNs straps s) :=
  effect_preserves (fun s => .ite (outsideKept_preserves straps s) (Keeps.refl s).preserves)

theorem execResetN_preserves (width : After Nat) (straps : Straps) (s : State) : NextPreserves s (execResetN width straps s) := by
  refine effect_preserves (fun s => .ite (Keeps.refl s).preserves (.ite (resetByPin_preserves ..) ?_))
  have drawn := (drawBits_keeps 1 s).preserves
  exact .ite (drawn.trans (resetByPin_preserves ..)) drawn

theorem execWarmChipReset_preserves (s : State) : NextPreserves s (execWarmChipReset s) :=
  effect_preserves (fun s => .ite (.ite (warmState_preserves s) ((warmState_preserves s).trans (runBootRom_keeps _).preserves))
    (Keeps.refl s).preserves)

theorem execWakeFromHibernate_preserves (periods : Nat) (s : State) : NextPreserves s (execWakeFromHibernate periods s) :=
  effect_preserves (fun s => .ite (wakeFromHibernate_preserves periods s) (Keeps.refl s).preserves)

/-! ## Every command and every step -/

/-- Every command leaves the queue, the memories' canonical form and the shape. -/
theorem exec_preserves (i : Instr) (s : State) : NextPreserves s (exec i s) := by
  cases i with
  | powerOnReset vdd33 vddCore dipNs straps => exact execPowerOnReset_preserves vdd33 vddCore dipNs straps s
  | resetN width straps => exact execResetN_preserves width straps s
  | rootPllLock => exact (execRootPllLock_keeps s).preserves
  | bootRomStart readA readB => exact (execBootRomStart_keeps readA readB s).preserves
  | firmwareStart readA readB => exact (execFirmwareStart_keeps readA readB s).preserves
  | ctiActivation => exact (execCtiActivation_keeps s).preserves
  | ctiReload readA readB => exact (execCtiReload_keeps readA readB s).preserves
  | warmChipReset => exact execWarmChipReset_preserves s
  | watchdogKickMissed => exact (execWatchdogKickMissed_keeps s).preserves
  | watchdogReset => exact (execWatchdogReset_keeps s).preserves
  | firstWatchdogKick => exact (execFirstWatchdogKick_keeps s).preserves
  | loaderData => exact (execLoaderData_keeps s).preserves
  | loaderRun => exact (execLoaderRun_keeps s).preserves
  | directoryRebuilt => exact (execDirectoryRebuilt_keeps s).preserves
  | blockBoundary inp => exact (execBlockBoundary_keeps inp s).preserves
  | ambientUpdate => exact (execAmbientUpdate_keeps s).preserves
  | heartbeatLoss => exact (execHeartbeatLoss_keeps s).preserves
  | microframeStart => exact (execMicroframeStart_keeps s).preserves
  | tdmFrameOut => exact (execTdmFrameOut_keeps s).preserves
  | tdmFrameIn port slots trailer => exact (execTdmFrameIn_keeps port slots trailer s).preserves
  | clockMonitorFault check => exact (execClockMonitorFault_keeps check s).preserves
  | referenceRestored => exact (execReferenceRestored_keeps s).preserves
  | rcRetrim => exact (execRcRetrim_keeps s).preserves
  | patrolScrub => exact (execPatrolScrub_keeps s).preserves
  | scrubPassLate mem => exact (execScrubPassLate_keeps mem s).preserves
  | freeListAudit => exact (execFreeListAudit_keeps s).preserves
  | cellIngress pkts => exact (execCellIngress_keeps pkts s).preserves
  | cellEgress ready => exact (execCellEgress_keeps ready s).preserves
  | queueFlush dest => exact (execQueueFlush_keeps dest s).preserves
  | linkDown link dst => exact (execLinkDown_keeps link dst s).preserves
  | linkHoldReturn link => exact (execLinkHoldReturn_keeps link s).preserves
  | linkHoldExpired link => exact (execLinkHoldExpired_keeps link s).preserves
  | mspiFrameError mosi => exact (execMspiFrameError_keeps mosi s).preserves
  | registerWrite path addr data => exact (execRegisterWrite_keeps path addr data s).preserves
  | aonPostedWrite => exact (execAonPostedWrite_keeps s).preserves
  | shadowLatchRead path addr => exact (execShadowLatchRead_keeps path addr s).preserves
  | unlock path data => exact (execUnlock_keeps path data s).preserves
  | guardUnlockExpiry path => exact (execGuardUnlockExpiry_keeps path s).preserves
  | guardedWrite path addr data => exact (execGuardedWrite_keeps path addr data s).preserves
  | faultAcknowledge path cluster write => exact (execFaultAcknowledge_keeps path cluster write s).preserves
  | mbxInData path data => exact (execMbxInData_keeps path data s).preserves
  | mbxInLast path data => exact (execMbxInLast_keeps path data s).preserves
  | mbxInFlush path data => exact (execMbxInFlush_keeps path data s).preserves
  | mbxOutData path => exact (execMbxOutData_keeps path s).preserves
  | registerVendorRead setup again => exact (execRegisterVendorRead_keeps setup again s).preserves
  | registerVendorWrite setup data completes => exact (execRegisterVendorWrite_keeps setup data completes s).preserves
  | bulkOutPacket bytes => exact (execBulkOutPacket_keeps bytes s).preserves
  | bulkInToken event => exact (execBulkInToken_keeps event s).preserves
  | packetComplete box sub data => exact (execPacketComplete_keeps box sub data s).preserves
  | eventsLost word0 params => exact (execEventsLost_keeps word0 params s).preserves
  | sessionCounterExhausted box => exact (execSessionCounterExhausted_keeps box s).preserves
  | sysInfo => exact (execSysInfo_keeps s).preserves
  | sysStatus => exact (execSysStatus_keeps s).preserves
  | sysHeartbeat => exact (execSysHeartbeat_keeps s).preserves
  | sysReset => exact (execSysReset_keeps s).preserves
  | sysTimeSet => exact (execSysTimeSet_keeps s).preserves
  | sysUpstreamSelect => exact (execSysUpstreamSelect_keeps s).preserves
  | cfgRead => exact (execCfgRead_keeps s).preserves
  | cfgWrite => exact (execCfgWrite_keeps s).preserves
  | cfgCommit => exact (execCfgCommit_keeps s).preserves
  | cfgCommitDone => exact (execCfgCommitDone_keeps s).preserves
  | cfgCommitTimeout => exact (execCfgCommitTimeout_keeps s).preserves
  | cfgDiscard => exact (execCfgDiscard_keeps s).preserves
  | cfgLoad readA readB => exact (execCfgLoad_keeps readA readB s).preserves
  | cfgFlashWriteBegin => exact (execCfgFlashWriteBegin_keeps s).preserves
  | cfgFlashWriteData => exact (execCfgFlashWriteData_keeps s).preserves
  | cfgFlashWriteEnd => exact (execCfgFlashWriteEnd_keeps s).preserves
  | cfgFirmwareWriteBegin => exact (execCfgFirmwareWriteBegin_keeps s).preserves
  | cfgFirmwareWriteData => exact (execCfgFirmwareWriteData_keeps s).preserves
  | cfgFirmwareWriteEnd => exact (execCfgFirmwareWriteEnd_keeps s).preserves
  | cfgFirmwareWriteAbort => exact (execCfgFirmwareWriteAbort_keeps s).preserves
  | portStatus => exact (execPortStatus_keeps s).preserves
  | portSetOwner => exact (execPortSetOwner_keeps s).preserves
  | ownershipToOwned port => exact (execOwnershipToOwned_keeps port s).preserves
  | ownershipToPassThrough port => exact (execOwnershipToPassThrough_keeps port s).preserves
  | ownerChangeTimeout => exact (execOwnerChangeTimeout_keeps s).preserves
  | portDevices => exact (execPortDevices_keeps s).preserves
  | portResetDevice => exact (execPortResetDevice_keeps s).preserves
  | portPowerAllow => exact (execPortPowerAllow_keeps s).preserves
  | portPowerForceOff => exact (execPortPowerForceOff_keeps s).preserves
  | portPowerCycle => exact (execPortPowerCycle_keeps s).preserves
  | portPowerCycleEnd port => exact (execPortPowerCycleEnd_keeps port s).preserves
  | portLinkMode => exact (execPortLinkMode_keeps s).preserves
  | routeSet => exact (execRouteSet_keeps s).preserves
  | routeGet => exact (execRouteGet_keeps s).preserves
  | routeClear => exact (execRouteClear_keeps s).preserves
  | zoneTrigger => exact (execZoneTrigger_keeps s).preserves
  | zoneRelease => exact (execZoneRelease_keeps s).preserves
  | zoneStatus => exact (execZoneStatus_keeps s).preserves
  | zoneMute => exact (execZoneMute_keeps s).preserves
  | procSetEqDesign => exact (execProcSetEqDesign_keeps s).preserves
  | procSetEqBypass => exact (execProcSetEqBypass_keeps s).preserves
  | procSetEqRaw => exact (execProcSetEqRaw_keeps s).preserves
  | procSetDelay => exact (execProcSetDelay_keeps s).preserves
  | procDelayFormat => exact (execProcDelayFormat_keeps s).preserves
  | procSetDynamics => exact (execProcSetDynamics_keeps s).preserves
  | procMeter => exact (execProcMeter_keeps s).preserves
  | msgList => exact (execMsgList_keeps s).preserves
  | msgPlay => exact (execMsgPlay_keeps s).preserves
  | msgStop => exact (execMsgStop_keeps s).preserves
  | msgPin => exact (execMsgPin_keeps s).preserves
  | msgPinTimeout => exact (execMsgPinTimeout_keeps s).preserves
  | msgLoadBegin => exact (execMsgLoadBegin_keeps s).preserves
  | msgLoadData => exact (execMsgLoadData_keeps s).preserves
  | msgLoadEnd => exact (execMsgLoadEnd_keeps s).preserves
  | msgLoadDelete => exact (execMsgLoadDelete_keeps s).preserves
  | msgLoadAbort => exact (execMsgLoadAbort_keeps s).preserves
  | libraryVerification index readOk => exact (execLibraryVerification_keeps index readOk s).preserves
  | messageVerification number readOk => exact (execMessageVerification_keeps number readOk s).preserves
  | voiceStart voice => exact (execVoiceStart_keeps voice s).preserves
  | voiceStartTimeout voice => exact (execVoiceStartTimeout_keeps voice s).preserves
  | marlFrameFetch voice readOk => exact (execMarlFrameFetch_keeps voice readOk s).preserves
  | voiceEnded voice => exact (execVoiceEnded_keeps voice s).preserves
  | pwrStatus => exact (execPwrStatus_keeps s).preserves
  | pwrEnterRun => exact (execPwrEnterRun_keeps s).preserves
  | pwrEnterDoze => exact (execPwrEnterDoze_keeps s).preserves
  | pwrEnterSleep => exact (execPwrEnterSleep_keeps s).preserves
  | sleepWaitTimeout => exact (execSleepWaitTimeout_keeps s).preserves
  | sleepEntry => exact (execSleepEntry_keeps s).preserves
  | pwrEnterHibernate => exact (execPwrEnterHibernate_keeps s).preserves
  | pwrSetRetain => exact (execPwrSetRetain_keeps s).preserves
  | wakeSource source => exact (execWakeSource_keeps source s).preserves
  | wakeFromSleep periods lostBanks => exact (execWakeFromSleep_keeps periods lostBanks s).preserves
  | wakeFromHibernate periods => exact execWakeFromHibernate_preserves periods s
  | faultWake source => exact (execFaultWake_keeps source s).preserves
  | reenterAfterPavane => exact (execReenterAfterPavane_keeps s).preserves
  | stashBankPowerUp bank => exact (execStashBankPowerUp_keeps bank s).preserves
  | levelChange results => exact (execLevelChange_keeps results s).preserves
  | pmbAlert => exact (execPmbAlert_keeps s).preserves
  | supplyOutOfRange => exact (execSupplyOutOfRange_keeps s).preserves
  | faultLatch faults => exact (execFaultLatch_keeps faults s).preserves
  | autoAckExpiry source => exact (execAutoAckExpiry_keeps source s).preserves
  | quietPeriodExpiry => exact (execQuietPeriodExpiry_keeps s).preserves
  | collectorSelfFault => exact (execCollectorSelfFault_keeps s).preserves
  | safeStatus => exact (execSafeStatus_keeps s).preserves
  | safeEnter => exact (execSafeEnter_keeps s).preserves
  | safeRelease => exact (execSafeRelease_keeps s).preserves
  | safeSetQuiet => exact (execSafeSetQuiet_keeps s).preserves
  | logHistory => exact (execLogHistory_keeps s).preserves
  | logRead => exact (execLogRead_keeps s).preserves
  | pavaneAttempt => exact (execPavaneAttempt_keeps s).preserves
  | pavaneStep report => exact (execPavaneStep_keeps report s).preserves
  | pavaneAbort reason => exact (execPavaneAbort_keeps reason s).preserves
  | testDone => exact (execTestDone_keeps s).preserves
  | testOverdue => exact (execTestOverdue_keeps s).preserves
  | testRun => exact (execTestRun_keeps s).preserves
  | testAbort => exact (execTestAbort_keeps s).preserves
  | testResult => exact (execTestResult_keeps s).preserves
  | testAgeing => exact (execTestAgeing_keeps s).preserves
  | antirollBurn => exact (execAntirollBurn_keeps s).preserves
  | secOpen => exact (execSecOpen_keeps s).preserves
  | secClose => exact (execSecClose_keeps s).preserves
  | secProvisionHak => exact (execSecProvisionHak_keeps s).preserves
  | secProvisionTamperActions => exact (execSecProvisionTamperActions_keeps s).preserves
  | secProvisionAuthLimit => exact (execSecProvisionAuthLimit_keeps s).preserves
  | secProvisionIntHash => exact (execSecProvisionIntHash_keeps s).preserves
  | secProvisionCsigReq => exact (execSecProvisionCsigReq_keeps s).preserves
  | secTamperClear pins => exact (execSecTamperClear_keeps pins s).preserves
  | secDebugChallenge => exact (execSecDebugChallenge_keeps s).preserves
  | dbgResp pubkey sig => exact (execDbgResp_keeps pubkey sig s).preserves
  | debugChallengeTimeout => exact (execDebugChallengeTimeout_keeps s).preserves
  | tamper cause => exact (execTamper_keeps cause s).preserves
  | vaultFault authentication => exact (execVaultFault_keeps authentication s).preserves
  | pdStatus => exact (execPdStatus_keeps s).preserves
  | pdSetLimit => exact (execPdSetLimit_keeps s).preserves
  | pdVconnSwap => exact (execPdVconnSwap_keeps s).preserves
  | pdAltModeEnter => exact (execPdAltModeEnter_keeps s).preserves
  | pdAltModeExit => exact (execPdAltModeExit_keeps s).preserves
  | pdHardReset => exact (execPdHardReset_keeps s).preserves
  | ccAttach port cc2 ra pd => exact (execCcAttach_keeps port cc2 ra pd s).preserves
  | drpToggle port => exact (execDrpToggle_keeps port s).preserves
  | sinkAttach port cc2 pd => exact (execSinkAttach_keeps port cc2 pd s).preserves
  | accessoryRefused port => exact (execAccessoryRefused_keeps port s).preserves
  | ccDetach port => exact (execCcDetach_keeps port s).preserves
  | sinkDetach port => exact (execSinkDetach_keeps port s).preserves
  | sourceCapabilitiesRepeat port goodCrc => exact (execSourceCapabilitiesRepeat_keeps port goodCrc s).preserves
  | pdRequest port req => exact (execPdRequest_keeps port req s).preserves
  | pdContract port => exact (execPdContract_keeps port s).preserves
  | voltageTransition port => exact (execVoltageTransition_keeps port s).preserves
  | removalDuringTransition port => exact (execRemovalDuringTransition_keeps port s).preserves
  | budgetRenegotiation port => exact (execBudgetRenegotiation_keeps port s).preserves
  | senderResponseTimeout port => exact (execSenderResponseTimeout_keeps port s).preserves
  | hardResetReceived port => exact (execHardResetReceived_keeps port s).preserves
  | errorRecovery port => exact (execErrorRecovery_keeps port s).preserves
  | vconnSwap port own answer psRdy => exact (execVconnSwap_keeps port own answer psRdy s).preserves
  | vconnOverCurrent port => exact (execVconnOverCurrent_keeps port s).preserves
  | getStatus port => exact (execGetStatus_keeps port s).preserves
  | pdMessage port rev2 msg => exact (execPdMessage_keeps port rev2 msg s).preserves
  | discoverIdentity svid command => exact (execDiscoverIdentity_keeps svid command s).preserves
  | altModeLoopStart port answers => exact (execAltModeLoopStart_keeps port answers s).preserves
  | faultReturnAsserted port attention => exact (execFaultReturnAsserted_keeps port attention s).preserves
  | faultReturnReleased port attention => exact (execFaultReturnReleased_keeps port attention s).preserves
  | adcSampleSet adc => exact (execAdcSampleSet_keeps adc s).preserves
  | shortTrip port current => exact (execShortTrip_keeps port current s).preserves
  | backoffExpiry port => exact (execBackoffExpiry_keeps port s).preserves
  | latchProbe port rd => exact (execLatchProbe_keeps port rd s).preserves
  | consecClear port => exact (execConsecClear_keeps port s).preserves
  | pfailWarnAssert vin => exact (execPfailWarnAssert_keeps vin s).preserves
  | pfailWarnRelease => exact (execPfailWarnRelease_keeps s).preserves
  | upstreamConnect detMv superSpeed highSpeed => exact (execUpstreamConnect_keeps detMv superSpeed highSpeed s).preserves
  | upstreamVbusLoss => exact (execUpstreamVbusLoss_keeps s).preserves
  | functionHubMove dst => exact (execFunctionHubMove_keeps dst s).preserves
  | upstreamBusReset => exact (execUpstreamBusReset_keeps s).preserves
  | getPortStatus usb3 port => exact (execGetPortStatus_keeps usb3 port s).preserves
  | clearPortPower usb3 port => exact (execClearPortPower_keeps usb3 port s).preserves
  | setPortPower usb3 port => exact (execSetPortPower_keeps usb3 port s).preserves
  | hubFeatureRequest usb3 port set feature value => exact (execHubFeatureRequest_keeps usb3 port set feature value s).preserves
  | ttRequest port request => exact (execTtRequest_keeps port request s).preserves
  | setInterface iface alt => exact (execSetInterface_keeps iface alt s).preserves
  | playbackPacket bytes => exact (execPlaybackPacket_keeps bytes s).preserves
  | captureInToken => exact (execCaptureInToken_keeps s).preserves
  | feedbackRefresh cycles missed => exact (execFeedbackRefresh_keeps cycles missed s).preserves
  | lpmTransaction => exact (execLpmTransaction_keeps s).preserves
  | upstreamSuspend => exact (execUpstreamSuspend_keeps s).preserves
  | hostResume collides => exact (execHostResume_keeps collides s).preserves
  | remoteWake side event => exact (execRemoteWake_keeps side event s).preserves
  | hsOverCurrent port => exact (execHsOverCurrent_keeps port s).preserves
  | ownedPortRepower port => exact (execOwnedPortRepower_keeps port s).preserves
  | enumeration port hubPort dev => exact (execEnumeration_keeps port hubPort dev s).preserves
  | controlTransferFailure port hubPort speed how ids => exact (execControlTransferFailure_keeps port hubPort speed how ids s).preserves
  | deviceDetach port hubPort => exact (execDeviceDetach_keeps port hubPort s).preserves
  | hidReport port addr report => exact (execHidReport_keeps port addr report s).preserves
  | hubStatusPoll port changed connected => exact (execHubStatusPoll_keeps port changed connected s).preserves
  | ownedStreamPacket port addr iface frames => exact (execOwnedStreamPacket_keeps port addr iface frames s).preserves
  | ownedTreeResume port hubPort same => exact (execOwnedTreeResume_keeps port hubPort same s).preserves
  | hostAbsent face absent => exact (execHostAbsent_keeps face absent s).preserves
  | faceLoss => exact (execFaceLoss_keeps s).preserves
  | faceAvailable face ok => exact (execFaceAvailable_keeps face ok s).preserves
  | switchOver superSpeed highSpeed => exact (execSwitchOver_keeps superSpeed highSpeed s).preserves
  | autoReturn => exact (execAutoReturn_keeps s).preserves
  | passThroughConnectChange port connected speed => exact (execPassThroughConnectChange_keeps port connected speed s).preserves
  | standardDeviceRequest target setup => exact (execStandardDeviceRequest_keeps target setup s).preserves
  | flashOperationComplete group ok => exact (execFlashOperationComplete_keeps group ok s).preserves
  | badCmdPacket => exact (execBadCmdPacket_keeps s).preserves

/-- A step takes the command off the queue, or idles. -/
theorem step_preserves {s t : State} (h : step s = .next t) : (MemoryCanonical s → MemoryCanonical t) ∧ (Shape s → Shape t) := by
  unfold step at h
  split at h
  · cases h
    exact ⟨id, id⟩
  · obtain ⟨-, hmem, hshape⟩ := (exec_preserves ..).next t h
    exact ⟨hmem, hshape⟩

/-- Settles O2, from what every command leaves. -/
theorem execKeepsQueue : Obligations.ExecKeepsQueue := by
  unfold Obligations.ExecKeepsQueue
  exact fun c s t h => ((exec_preserves c s).next t h).pending

/-- Settles O3: each operation writes Stash and flash by the writes that keep the canonical form, or clears them. -/
theorem stepKeepsMemoryCanonical : Obligations.StepKeepsMemoryCanonical := by
  unfold Obligations.StepKeepsMemoryCanonical
  exact fun s t hs h => (step_preserves h).1 hs

/-- Settles O4: each operation keeps the numbers of `Shape` and its depths, or builds the state with them anew. -/
theorem stepKeepsShape : Obligations.StepKeepsShape := by
  unfold Obligations.StepKeepsShape
  exact fun s t hs h => (step_preserves h).2 hs

end Sys2Proof.Proofs
end
